-- ==== Sys2Proof/Word.lean ====
section
/-! DEFINITION. The word type, the register-field description, the pages of BAR0, the bus masters, and the
sparse tables that hold registers and memories. -/

namespace Sys2Proof

/-- A 32-bit register, table word or payload word (R359). -/
abbrev Word := BitVec 32

/-- A byte. -/
abbrev Byte := BitVec 8

/-- The register types of Table 0.3 (R8). `live src` is an RO mirror whose reads return the live word whose offset is
`src` (R9); type RWL of Table 0.3 is used by no register of the spec. -/
inductive Ty where
  | ro
  | rw
  | rws
  | w1c
  | wo
  | live (src : Nat)
  deriving DecidableEq, Repr

/-- One field of a register, as a register table gives it: offset in its page (or absolute BAR0 address for a table
window), lowest bit, width, type, reset value, and up to two array dimensions (stride and count of each). -/
structure Fld where
  off : Nat
  lo : Nat
  w : Nat
  ty : Ty
  rst : Nat
  s1 : Nat
  n1 : Nat
  s2 : Nat
  n2 : Nat
  deriving DecidableEq, Repr

/-- A field of a single register. -/
abbrev fld (off lo w : Nat) (ty : Ty) (rst : Nat) : Fld := ⟨off, lo, w, ty, rst, 0, 1, 0, 1⟩

/-- A field of an array of registers. -/
abbrev arr (off lo w : Nat) (ty : Ty) (rst s1 n1 : Nat) : Fld := ⟨off, lo, w, ty, rst, s1, n1, 0, 1⟩

/-- A field of an array of arrays of registers; the outer dimension comes first. -/
abbrev arr2 (off lo w : Nat) (ty : Ty) (rst s1 n1 s2 n2 : Nat) : Fld := ⟨off, lo, w, ty, rst, s1, n1, s2, n2⟩

/-- Element `i` of an arrayed field. -/
def Fld.at (f : Fld) (i : Nat) : Fld := { f with off := f.off + f.s1 * i }

/-- Element `i`, `j` of a doubly arrayed field. -/
def Fld.at2 (f : Fld) (i j : Nat) : Fld := { f with off := f.off + f.s1 * i + f.s2 * j }

/-- The field with bit `k` of it alone: a one-bit field. -/
def Fld.bit (f : Fld) (k : Nat) : Fld := { f with lo := f.lo + k, w := 1 }

/-- The masters of the bus matrix, Table 14.5 (R372). -/
inductive Master where
  | pcie
  | spi
  | core (k : Fin 4)
  | efner
  | dma
  | debug
  deriving DecidableEq, Repr

/-- The number of a master in Table 14.5. -/
def Master.num : Master → Nat
  | .pcie => 0
  | .spi => 1
  | .core k => 2 + k.val
  | .efner => 6
  | .dma => 7
  | .debug => 8

/-- The pages of Table 14.1 (R361). Lanes 1,024 to 1,031 are the brace lanes 0 to 7. -/
inductive Page where
  | glb | tick | hif | busm | time | ref
  | vtg (v : Fin 32)
  | aud | asrc | xwpRoute | xwpMap | xbp | brc
  | lane (n : Fin 1032)
  | gmc | key | upd | evr | bbx
  | eth (p : Fin 48)
  | msec (p : Fin 48)
  | eng (e : Fin 64)
  | engComp (e : Fin 64)
  | engColour (e : Fin 64)
  | flowv (b : Fin 16)
  | cls (b : Fin 16)
  | flowaRx (b : Fin 16)
  | flowaTx (b : Fin 16)
  | tdm (b : Fin 16)
  | rxSlot (n : Fin 1024)
  | txSlot (n : Fin 1024)
  deriving DecidableEq, Repr

/-- A destination entry of a route page that waits for its tick (R39, R42). -/
inductive Entry where
  | xbp (n : Fin 1024)
  | xwp (d : Fin 2048)
  | flowv (n : Fin 1024)
  | aud
  deriving DecidableEq, Repr

/-! ### Sparse tables -/

/-- A sparse table: the entries that differ from the table's default, keys strictly rising. -/
abbrev Tab (α : Type) := List (Nat × α)

/-- The value at key `k`; `d` is what an unlisted key holds. -/
def Tab.get {α : Type} (t : Tab α) (k : Nat) (d : α) : α :=
  match t with
  | [] => d
  | e :: r => if e.1 = k then e.2 else Tab.get r k d

/-- The table without any entry of key `k`. -/
def Tab.del {α : Type} (t : Tab α) (k : Nat) : Tab α :=
  t.filter (fun e => e.1 != k)

/-- `k` inserted before the first larger key. -/
def Tab.ins {α : Type} (t : Tab α) (k : Nat) (v : α) : Tab α :=
  match t with
  | [] => [(k, v)]
  | e :: r => if k < e.1 then (k, v) :: e :: r else e :: Tab.ins r k v

/-- The table with key `k` holding `v`, where `d` is what an unlisted key `k` holds: writing `d` removes the entry. -/
def Tab.set {α : Type} [DecidableEq α] (t : Tab α) (k : Nat) (v d : α) : Tab α :=
  if v = d then Tab.del t k else Tab.ins (Tab.del t k) k v

/-- The canonical form: keys strictly rising, and no entry equal to what its key holds when unlisted. -/
abbrev Tab.wf {α : Type} (t : Tab α) (d : Nat → α) : Prop :=
  t.Pairwise (fun a b => a.1 < b.1) ∧ ∀ e ∈ t, e.2 ≠ d e.1

/-- Bits `lo + w - 1 : lo` of `x`. -/
def bits (x lo w : Nat) : Nat := x / 2 ^ lo % 2 ^ w

/-- `x` with bits `lo + w - 1 : lo` replaced by the low bits of `v`. -/
def setBits (x lo w v : Nat) : Nat :=
  x % 2 ^ lo + v % 2 ^ w * 2 ^ lo + x / 2 ^ (lo + w) * 2 ^ (lo + w)

/-- The signed value of the `w`-bit two's complement number `x`. -/
def sgn (w x : Nat) : Int := if x % 2 ^ w < 2 ^ (w - 1) then (x % 2 ^ w : Nat) else (x % 2 ^ w : Nat) - (2 ^ w : Nat)

/-- The `w`-bit two's complement number of `x`, wrapping. -/
def wrap (w : Nat) (x : Int) : Nat := (x % (2 ^ w : Nat)).toNat

/-- A count of `w` bits that saturates. -/
def sat (w x : Nat) : Nat := min x (2 ^ w - 1)

/-- `x` limited to `lo..hi`. -/
def clamp (lo hi x : Int) : Int := max lo (min hi x)

/-- A Bool as a bit. -/
def b2n (b : Bool) : Nat := if b then 1 else 0

end Sys2Proof
end

