-- ==== Sys2Proof/Machine/RegMapA.lean ====
section
/-! DEFINITION. The register fields of the common header and of the pages of chapters 0 to 5, as the register tables of spec/ give them: offset, lowest bit, width, type, reset value, and the two array dimensions (stride, count). -/

namespace Sys2Proof.Machine

/-! ### Fields of the common page header (Tables 2.3, 2.4 and 14.2; R30, R362) -/

def HDR.COMMIT_ARM : Fld := fld 0x020 31 1 .wo 0
def HDR.COMMIT_DISARM : Fld := fld 0x020 30 1 .wo 0
def HDR.COMMIT_GRP_JOIN : Fld := fld 0x020 29 1 .rw 0
def HDR.COMMIT_GROUP : Fld := fld 0x020 23 6 .rw 0
def HDR.COMMIT_TICK_SEL : Fld := fld 0x020 16 6 .rw 0x20
def HDR.COMMIT_TICK_DELAY : Fld := fld 0x020 12 4 .rw 0
def HDR.COMMIT_SEQ : Fld := fld 0x020 0 12 .rw 0
def HDR.COMMIT_STAT_PENDING : Fld := fld 0x024 31 1 .ro 0
def HDR.COMMIT_STAT_GRP_PENDING : Fld := fld 0x024 30 1 .ro 0
def HDR.COMMIT_STAT_LATE : Fld := fld 0x024 29 1 .w1c 0
def HDR.COMMIT_STAT_FIRED : Fld := fld 0x024 28 1 .w1c 0
def HDR.COMMIT_STAT_BAD_SEL : Fld := fld 0x024 27 1 .w1c 0
def HDR.COMMIT_STAT_LOCKED_WRITES : Fld := fld 0x024 16 8 .ro 0
def HDR.COMMIT_STAT_SEQ_LIVE : Fld := fld 0x024 0 12 .ro 0
def HDR.FAULT_INJ_FIRE : Fld := fld 0x028 31 1 .wo 0
def HDR.FAULT_INJ_SITE : Fld := fld 0x028 8 8 .rw 0
def HDR.FAULT_INJ_CLASS : Fld := fld 0x028 0 2 .rw 0
def HDR.PAGE_ID : Fld := fld 0x000 0 32 .ro 0
def HDR.PAGE_CTRL_FUNC_INIT : Fld := fld 0x004 1 1 .rw 0
def HDR.PAGE_CTRL_ENABLE : Fld := fld 0x004 0 1 .rws 1
def HDR.PAGE_STATUS_FAULT_ANY : Fld := fld 0x008 3 1 .ro 0
def HDR.PAGE_STATUS_REQ : Fld := fld 0x008 2 1 .ro 0
def HDR.PAGE_STATUS_INIT_BUSY : Fld := fld 0x008 1 1 .ro 0
def HDR.PAGE_STATUS_ENABLE_LIVE : Fld := fld 0x008 0 1 .ro 1
def HDR.INT_STAT : Fld := fld 0x00C 0 32 .w1c 0
def HDR.INT_EN : Fld := fld 0x010 0 32 .rw 0
def HDR.INT_TEST : Fld := fld 0x014 0 32 .wo 0
def HDR.FAULT_STAT_FATAL_INJ : Fld := fld 0x018 6 1 .w1c 0
def HDR.FAULT_STAT_CONT_INJ : Fld := fld 0x018 5 1 .w1c 0
def HDR.FAULT_STAT_CORR_INJ : Fld := fld 0x018 4 1 .w1c 0
def HDR.FAULT_STAT_CONT_REAL : Fld := fld 0x018 1 1 .w1c 0
def HDR.FAULT_STAT_CORR_REAL : Fld := fld 0x018 0 1 .w1c 0
def HDR.FAULT_STAT_FATAL_REAL : Fld := fld 0x018 2 1 .ro 0
def HDR.FAULT_CNT_CONTAINED : Fld := fld 0x01C 16 16 .rw 0
def HDR.FAULT_CNT_CORRECTED : Fld := fld 0x01C 0 16 .rw 0

/-- Every field of the common page header (Tables 2.3, 2.4 and 14.2; R30, R362). -/
def HDR.map : List Fld :=
  [HDR.COMMIT_ARM, HDR.COMMIT_DISARM, HDR.COMMIT_GRP_JOIN, HDR.COMMIT_GROUP, HDR.COMMIT_TICK_SEL, HDR.COMMIT_TICK_DELAY, HDR.COMMIT_SEQ, HDR.COMMIT_STAT_PENDING, HDR.COMMIT_STAT_GRP_PENDING, HDR.COMMIT_STAT_LATE, HDR.COMMIT_STAT_FIRED, HDR.COMMIT_STAT_BAD_SEL, HDR.COMMIT_STAT_LOCKED_WRITES, HDR.COMMIT_STAT_SEQ_LIVE, HDR.FAULT_INJ_FIRE, HDR.FAULT_INJ_SITE, HDR.FAULT_INJ_CLASS, HDR.PAGE_ID, HDR.PAGE_CTRL_FUNC_INIT, HDR.PAGE_CTRL_ENABLE, HDR.PAGE_STATUS_FAULT_ANY, HDR.PAGE_STATUS_REQ, HDR.PAGE_STATUS_INIT_BUSY, HDR.PAGE_STATUS_ENABLE_LIVE] ++
  [HDR.INT_STAT, HDR.INT_EN, HDR.INT_TEST, HDR.FAULT_STAT_FATAL_INJ, HDR.FAULT_STAT_CONT_INJ, HDR.FAULT_STAT_CORR_INJ, HDR.FAULT_STAT_CONT_REAL, HDR.FAULT_STAT_CORR_REAL, HDR.FAULT_STAT_FATAL_REAL, HDR.FAULT_CNT_CONTAINED, HDR.FAULT_CNT_CORRECTED]

/-! ### Fields of the GLB page (Tables 0.1, 1.5 to 1.8, 2.5, 2.6, 2.8, 2.9, 17.7; R3, R22, R46, R53, R57, R445) -/

def GLB.CHIP_ID_PART : Fld := fld 0x040 16 16 .ro 0x400
def GLB.CHIP_ID_STEPPING : Fld := fld 0x040 8 8 .ro 0xA0
def GLB.CHIP_ID_GRADE : Fld := fld 0x040 4 4 .ro 0
def GLB.POOL_TEN_DST_HELD : Fld := arr 0x200 24 8 .ro 0 4 16
def GLB.POOL_TEN_DST_LIVE : Fld := arr 0x200 16 8 .ro 0 4 16
def GLB.POOL_TEN_SRC_HELD : Fld := arr 0x200 8 8 .ro 0 4 16
def GLB.POOL_TEN_SRC_LIVE : Fld := arr 0x200 0 8 .ro 0 4 16
def GLB.POOL_VFLOW_TX_HELD : Fld := arr 0x240 24 8 .ro 0 4 16
def GLB.POOL_VFLOW_TX_LIVE : Fld := arr 0x240 16 8 .ro 0 4 16
def GLB.POOL_VFLOW_RX_HELD : Fld := arr 0x240 8 8 .ro 0 4 16
def GLB.POOL_VFLOW_RX_LIVE : Fld := arr 0x240 0 8 .ro 0 4 16
def GLB.POOL_AFLOW_TX_HELD : Fld := arr 0x280 16 9 .ro 0 4 16
def GLB.POOL_AFLOW_RX_HELD : Fld := arr 0x280 0 9 .ro 0 4 16
def GLB.POOL_REFUSE_VALID : Fld := fld 0x2C0 31 1 .w1c 0
def GLB.POOL_REFUSE_GRP : Fld := fld 0x2C0 30 1 .ro 0
def GLB.POOL_REFUSE_BAY : Fld := fld 0x2C0 24 4 .ro 0
def GLB.POOL_REFUSE_POOL : Fld := fld 0x2C0 20 4 .ro 0
def GLB.POOL_REFUSE_GROUP : Fld := fld 0x2C0 14 6 .ro 0
def GLB.POOL_REFUSE_PAGE_NUM : Fld := fld 0x2C0 0 14 .ro 0
def GLB.CGRP_CTRL_ARM : Fld := arr 0x400 31 1 .wo 0 4 64
def GLB.CGRP_CTRL_DISARM : Fld := arr 0x400 30 1 .wo 0 4 64
def GLB.CGRP_CTRL_TICK_SEL : Fld := arr 0x400 16 6 .rw 0x20 4 64
def GLB.CGRP_CTRL_TICK_DELAY : Fld := arr 0x400 12 4 .rw 0 4 64
def GLB.CGRP_CTRL_SEQ : Fld := arr 0x400 0 12 .rw 0 4 64
def GLB.CGRP_STAT_PENDING : Fld := arr 0x500 31 1 .ro 0 4 64
def GLB.CGRP_STAT_DRAINING : Fld := arr 0x500 30 1 .ro 0 4 64
def GLB.CGRP_STAT_LATE : Fld := arr 0x500 29 1 .w1c 0 4 64
def GLB.CGRP_STAT_DONE : Fld := arr 0x500 28 1 .w1c 0 4 64
def GLB.CGRP_STAT_MEMBERS : Fld := arr 0x500 16 12 .ro 0 4 64
def GLB.CGRP_STAT_BAD_SEL : Fld := arr 0x500 15 1 .w1c 0 4 64
def GLB.CGRP_STAT_SEQ_LIVE : Fld := arr 0x500 0 12 .ro 0 4 64
def GLB.AUDIT_SEL_SNAP : Fld := fld 0x640 31 1 .wo 0
def GLB.AUDIT_SEL_CLASS : Fld := fld 0x640 8 4 .rw 0
def GLB.AUDIT_SEL_INST : Fld := fld 0x640 0 8 .rw 0
def GLB.AUDIT_ISSUED_ISSUED : Fld := fld 0x644 0 32 .ro 0
def GLB.AUDIT_RETURNED_RETURNED : Fld := fld 0x648 0 32 .ro 0
def GLB.AUDIT_OUTSTANDING_OUTSTANDING : Fld := fld 0x64C 0 32 .ro 0
def GLB.AUDIT_FAIL_CLASS_FAIL : Fld := fld 0x650 0 16 .w1c 0
def GLB.INT_STAT_AUDIT_FAIL : Fld := fld 0x00C 10 1 .w1c 0
def GLB.INT_STAT_COMMIT_LATE : Fld := fld 0x00C 9 1 .w1c 0
def GLB.INT_STAT_POOL_REFUSED : Fld := fld 0x00C 8 1 .w1c 0
def GLB.INT_STAT_CGRP_BAD_SEL : Fld := fld 0x00C 1 1 .w1c 0
def GLB.INT_STAT_CGRP_DONE : Fld := fld 0x00C 0 1 .w1c 0
def GLB.SOFT_RESET_KEY : Fld := fld 0x0F0 0 32 .wo 0
def GLB.FAULT_CTRL_INJ_FATAL_PIN_EN : Fld := fld 0x0F4 0 1 .rw 0
def GLB.FATAL_SRC_VALID : Fld := fld 0x0F8 31 1 .ro 0
def GLB.FATAL_SRC_PAGE_NUM : Fld := fld 0x0F8 0 14 .ro 0
def GLB.INJ_CNT_COUNT : Fld := fld 0x0FC 0 32 .ro 0
def GLB.CMT_COUNT_COUNT : Fld := fld 0x600 0 32 .ro 0

/-- Every field of the GLB page (Tables 0.1, 1.5 to 1.8, 2.5, 2.6, 2.8, 2.9, 17.7; R3, R22, R46, R53, R57, R445). -/
def GLB.map : List Fld :=
  [GLB.CHIP_ID_PART, GLB.CHIP_ID_STEPPING, GLB.CHIP_ID_GRADE, GLB.POOL_TEN_DST_HELD, GLB.POOL_TEN_DST_LIVE, GLB.POOL_TEN_SRC_HELD, GLB.POOL_TEN_SRC_LIVE, GLB.POOL_VFLOW_TX_HELD, GLB.POOL_VFLOW_TX_LIVE, GLB.POOL_VFLOW_RX_HELD, GLB.POOL_VFLOW_RX_LIVE, GLB.POOL_AFLOW_TX_HELD, GLB.POOL_AFLOW_RX_HELD, GLB.POOL_REFUSE_VALID, GLB.POOL_REFUSE_GRP, GLB.POOL_REFUSE_BAY, GLB.POOL_REFUSE_POOL, GLB.POOL_REFUSE_GROUP, GLB.POOL_REFUSE_PAGE_NUM, GLB.CGRP_CTRL_ARM, GLB.CGRP_CTRL_DISARM, GLB.CGRP_CTRL_TICK_SEL, GLB.CGRP_CTRL_TICK_DELAY, GLB.CGRP_CTRL_SEQ] ++
  [GLB.CGRP_STAT_PENDING, GLB.CGRP_STAT_DRAINING, GLB.CGRP_STAT_LATE, GLB.CGRP_STAT_DONE, GLB.CGRP_STAT_MEMBERS, GLB.CGRP_STAT_BAD_SEL, GLB.CGRP_STAT_SEQ_LIVE, GLB.AUDIT_SEL_SNAP, GLB.AUDIT_SEL_CLASS, GLB.AUDIT_SEL_INST, GLB.AUDIT_ISSUED_ISSUED, GLB.AUDIT_RETURNED_RETURNED, GLB.AUDIT_OUTSTANDING_OUTSTANDING, GLB.AUDIT_FAIL_CLASS_FAIL, GLB.INT_STAT_AUDIT_FAIL, GLB.INT_STAT_COMMIT_LATE, GLB.INT_STAT_POOL_REFUSED, GLB.INT_STAT_CGRP_BAD_SEL, GLB.INT_STAT_CGRP_DONE, GLB.SOFT_RESET_KEY, GLB.FAULT_CTRL_INJ_FATAL_PIN_EN, GLB.FATAL_SRC_VALID, GLB.FATAL_SRC_PAGE_NUM, GLB.INJ_CNT_COUNT] ++
  [GLB.CMT_COUNT_COUNT]

/-! ### Fields of the TICK page (Table 2.2; R29) -/

def TICK.SMP_COUNT_COUNT : Fld := fld 0x040 0 32 .ro 0
def TICK.STC_EN_EN : Fld := fld 0x044 0 8 .rws 0
def TICK.STC_FIRED_FIRED : Fld := fld 0x048 0 8 .w1c 0
def TICK.STC_AT_LO_AT : Fld := arr 0x080 0 32 .rws 0 8 8
def TICK.STC_AT_HI_AT : Fld := arr 0x084 0 32 .rws 0 8 8

/-- Every field of the TICK page (Table 2.2; R29). -/
def TICK.map : List Fld :=
  [TICK.SMP_COUNT_COUNT, TICK.STC_EN_EN, TICK.STC_FIRED_FIRED, TICK.STC_AT_LO_AT, TICK.STC_AT_HI_AT]

/-! ### Fields of a LANE page (Tables 3.10 to 3.19; R96, R97) -/

def LANE.LANE_MODE_TX_INV : Fld := fld 0x040 25 1 .rws 0
def LANE.LANE_MODE_RX_INV : Fld := fld 0x040 24 1 .rws 0
def LANE.LANE_MODE_TX_IGN_TEN : Fld := fld 0x040 20 4 .rws 0
def LANE.LANE_MODE_RX_IGN_TEN : Fld := fld 0x040 16 4 .rws 0
def LANE.LANE_MODE_TX_SDI : Fld := fld 0x040 12 4 .rws 4
def LANE.LANE_MODE_RX_SDI : Fld := fld 0x040 8 4 .rws 0
def LANE.LANE_MODE_TRAIN_EN : Fld := fld 0x040 7 1 .rws 1
def LANE.LANE_MODE_IGN_HALF_TX : Fld := fld 0x040 6 1 .rws 0
def LANE.LANE_MODE_IGN_HALF_RX : Fld := fld 0x040 5 1 .rws 0
def LANE.LANE_MODE_WORD_EN : Fld := fld 0x040 4 1 .rws 0
def LANE.LANE_MODE_TX_MODE : Fld := fld 0x040 2 2 .rws 0
def LANE.LANE_MODE_RX_MODE : Fld := fld 0x040 0 2 .rws 0
def LANE.LANE_STAT_LEVEL_B : Fld := fld 0x050 20 1 .ro 0
def LANE.LANE_STAT_DET_SDI : Fld := fld 0x050 16 4 .ro 0
def LANE.LANE_STAT_ATTEMPT : Fld := fld 0x050 11 4 .ro 0
def LANE.LANE_STAT_IGN_STATE : Fld := fld 0x050 8 3 .ro 0
def LANE.LANE_STAT_FIR_CLAMP : Fld := fld 0x050 5 1 .ro 0
def LANE.LANE_STAT_NO_PARTNER : Fld := fld 0x050 4 1 .ro 0
def LANE.LANE_STAT_ADAPT_FROZEN : Fld := fld 0x050 3 1 .ro 0
def LANE.LANE_STAT_WORD_LOCK : Fld := fld 0x050 2 1 .ro 0
def LANE.LANE_STAT_CDR_LOCK : Fld := fld 0x050 1 1 .ro 0
def LANE.LANE_STAT_SIG_DET : Fld := fld 0x050 0 1 .ro 0
def LANE.INT_STAT_TEN_EXCESS : Fld := fld 0x00C 14 1 .w1c 0
def LANE.INT_STAT_EYE_DONE : Fld := fld 0x00C 13 1 .w1c 0
def LANE.INT_STAT_PRBS_LOCK_LOST : Fld := fld 0x00C 12 1 .w1c 0
def LANE.INT_STAT_BAD_CFG : Fld := fld 0x00C 11 1 .w1c 0
def LANE.INT_STAT_FIR_CLAMP : Fld := fld 0x00C 10 1 .w1c 0
def LANE.INT_STAT_TRAIN_FAIL : Fld := fld 0x00C 9 1 .w1c 0
def LANE.INT_STAT_NO_PARTNER : Fld := fld 0x00C 8 1 .w1c 0
def LANE.INT_STAT_IGN_DOWN : Fld := fld 0x00C 7 1 .w1c 0
def LANE.INT_STAT_IGN_UP : Fld := fld 0x00C 6 1 .w1c 0
def LANE.INT_STAT_ADAPT_FRZ : Fld := fld 0x00C 5 1 .w1c 0
def LANE.INT_STAT_RATE_CHANGED : Fld := fld 0x00C 4 1 .w1c 0
def LANE.INT_STAT_LOCK_GAINED : Fld := fld 0x00C 3 1 .w1c 0
def LANE.INT_STAT_LOCK_LOST : Fld := fld 0x00C 2 1 .w1c 0
def LANE.INT_STAT_SIG_FOUND : Fld := fld 0x00C 1 1 .w1c 0
def LANE.INT_STAT_SIG_LOST : Fld := fld 0x00C 0 1 .w1c 0
def LANE.LANE_TXFIR_POST : Fld := fld 0x0C0 16 6 .rws 7
def LANE.LANE_TXFIR_MAIN : Fld := fld 0x0C0 8 6 .rws 0x34
def LANE.LANE_TXFIR_PRE : Fld := fld 0x0C0 0 6 .rws 4
def LANE.LANE_TXDRV_SWING : Fld := fld 0x0C8 0 5 .rws 8
def LANE.LANE_RXEQ_DFE_HOLD : Fld := fld 0x0D0 7 1 .rw 0
def LANE.LANE_RXEQ_CTLE_HOLD : Fld := fld 0x0D0 6 1 .rw 0
def LANE.LANE_RXEQ_CTLE_SET : Fld := fld 0x0D0 0 6 .rw 0
def LANE.LANE_PRBS_GEN_INV : Fld := fld 0x100 4 1 .rw 0
def LANE.LANE_PRBS_GEN_PAT : Fld := fld 0x100 1 3 .rw 4
def LANE.LANE_PRBS_GEN_EN : Fld := fld 0x100 0 1 .rw 0
def LANE.LANE_PRBS_CHK_LOCKED : Fld := fld 0x104 8 1 .ro 0
def LANE.LANE_PRBS_CHK_CLR : Fld := fld 0x104 5 1 .wo 0
def LANE.LANE_PRBS_CHK_INV : Fld := fld 0x104 4 1 .rw 0
def LANE.LANE_PRBS_CHK_PAT : Fld := fld 0x104 1 3 .rw 4
def LANE.LANE_PRBS_CHK_EN : Fld := fld 0x104 0 1 .rw 0
def LANE.LANE_USER_LO_PAT : Fld := fld 0x108 0 32 .rw 0
def LANE.LANE_USER_HI_PAT : Fld := fld 0x10C 0 32 .rw 0
def LANE.LANE_ERR_CNT_ERR : Fld := fld 0x110 0 32 .ro 0
def LANE.LANE_BIT_CNT_LO_BITS : Fld := fld 0x114 0 32 .ro 0
def LANE.LANE_BIT_CNT_HI_BITS : Fld := fld 0x118 0 16 .ro 0
def LANE.LANE_ERR_INJ_SHOT : Fld := fld 0x11C 31 1 .wo 0
def LANE.LANE_ERR_INJ_K : Fld := fld 0x11C 0 5 .rw 0
def LANE.LANE_EYE_CTRL_START : Fld := fld 0x140 31 1 .wo 0
def LANE.LANE_EYE_CTRL_DWELL : Fld := fld 0x140 16 6 .rw 0x10
def LANE.LANE_EYE_CTRL_VOFF : Fld := fld 0x140 8 7 .rw 0
def LANE.LANE_EYE_CTRL_PHASE : Fld := fld 0x140 0 6 .rw 0
def LANE.LANE_EYE_ERR_ERR : Fld := fld 0x144 0 32 .ro 0
def LANE.LANE_EYE_STAT_NO_LOCK : Fld := fld 0x148 2 1 .ro 0
def LANE.LANE_EYE_STAT_DONE : Fld := fld 0x148 1 1 .ro 0
def LANE.LANE_EYE_STAT_BUSY : Fld := fld 0x148 0 1 .ro 0
def LANE.LANE_IGN_CTRL_RESTART : Fld := fld 0x180 31 1 .wo 0
def LANE.LANE_IGN_CTRL_TXTAG : Fld := fld 0x180 0 16 .rws 0
def LANE.LANE_IGN_TALLY_TX_LO_TALLY : Fld := fld 0x184 0 32 .rws 0
def LANE.LANE_IGN_TALLY_TX_HI_TALLY : Fld := fld 0x188 0 32 .rws 0
def LANE.LANE_IGN_TALLY_RX_LO_TALLY : Fld := fld 0x18C 0 32 .ro 0
def LANE.LANE_IGN_TALLY_RX_HI_TALLY : Fld := fld 0x190 0 32 .ro 0
def LANE.LANE_IGN_RXINFO_TEN_1001 : Fld := fld 0x194 24 8 .ro 0
def LANE.LANE_IGN_RXINFO_TEN_PRESENT : Fld := fld 0x194 16 8 .ro 0
def LANE.LANE_IGN_RXINFO_RXTAG : Fld := fld 0x194 0 16 .ro 0
def LANE.LANE_IGN_FAR_FAR : Fld := fld 0x198 8 8 .ro 0
def LANE.SDI_TRS_ERR : Fld := fld 0x060 0 32 .ro 0
def LANE.SDI_CRC_ERR : Fld := fld 0x064 0 32 .ro 0
def LANE.RXEQ_STAT : Fld := fld 0x0D4 0 32 .ro 0
def LANE.RX_DENSITY : Fld := fld 0x0D8 0 32 .ro 0
def LANE.IGN_HDR_ERR : Fld := fld 0x1A0 0 32 .ro 0
def LANE.IGN_SF_ERR : Fld := fld 0x1A4 0 32 .ro 0
def LANE.IGN_SB_ERR : Fld := fld 0x1A8 0 32 .ro 0
def LANE.IGN_KERF_VIOL : Fld := fld 0x1AC 0 32 .ro 0
def LANE.IGN_TEN_SLIP : Fld := fld 0x1B0 0 32 .ro 0
def LANE.IGN_FILL_RX : Fld := fld 0x1B4 0 32 .ro 0
def LANE.IGN_TRAIN_LOG : Fld := fld 0x1B8 0 32 .ro 0
def LANE.DIAG_CLR : Fld := fld 0x1FC 0 32 .wo 0
def LANE.LANE_MODE_LIVE : Fld := fld 0x044 0 32 (.live 0x40) 0
def LANE.LANE_TXFIR_LIVE : Fld := fld 0x0C4 0 32 (.live 0xC0) 0

/-- Every field of a LANE page (Tables 3.10 to 3.19; R96, R97). -/
def LANE.map : List Fld :=
  [LANE.LANE_MODE_TX_INV, LANE.LANE_MODE_RX_INV, LANE.LANE_MODE_TX_IGN_TEN, LANE.LANE_MODE_RX_IGN_TEN, LANE.LANE_MODE_TX_SDI, LANE.LANE_MODE_RX_SDI, LANE.LANE_MODE_TRAIN_EN, LANE.LANE_MODE_IGN_HALF_TX, LANE.LANE_MODE_IGN_HALF_RX, LANE.LANE_MODE_WORD_EN, LANE.LANE_MODE_TX_MODE, LANE.LANE_MODE_RX_MODE, LANE.LANE_STAT_LEVEL_B, LANE.LANE_STAT_DET_SDI, LANE.LANE_STAT_ATTEMPT, LANE.LANE_STAT_IGN_STATE, LANE.LANE_STAT_FIR_CLAMP, LANE.LANE_STAT_NO_PARTNER, LANE.LANE_STAT_ADAPT_FROZEN, LANE.LANE_STAT_WORD_LOCK, LANE.LANE_STAT_CDR_LOCK, LANE.LANE_STAT_SIG_DET, LANE.INT_STAT_TEN_EXCESS, LANE.INT_STAT_EYE_DONE] ++
  [LANE.INT_STAT_PRBS_LOCK_LOST, LANE.INT_STAT_BAD_CFG, LANE.INT_STAT_FIR_CLAMP, LANE.INT_STAT_TRAIN_FAIL, LANE.INT_STAT_NO_PARTNER, LANE.INT_STAT_IGN_DOWN, LANE.INT_STAT_IGN_UP, LANE.INT_STAT_ADAPT_FRZ, LANE.INT_STAT_RATE_CHANGED, LANE.INT_STAT_LOCK_GAINED, LANE.INT_STAT_LOCK_LOST, LANE.INT_STAT_SIG_FOUND, LANE.INT_STAT_SIG_LOST, LANE.LANE_TXFIR_POST, LANE.LANE_TXFIR_MAIN, LANE.LANE_TXFIR_PRE, LANE.LANE_TXDRV_SWING, LANE.LANE_RXEQ_DFE_HOLD, LANE.LANE_RXEQ_CTLE_HOLD, LANE.LANE_RXEQ_CTLE_SET, LANE.LANE_PRBS_GEN_INV, LANE.LANE_PRBS_GEN_PAT, LANE.LANE_PRBS_GEN_EN, LANE.LANE_PRBS_CHK_LOCKED] ++
  [LANE.LANE_PRBS_CHK_CLR, LANE.LANE_PRBS_CHK_INV, LANE.LANE_PRBS_CHK_PAT, LANE.LANE_PRBS_CHK_EN, LANE.LANE_USER_LO_PAT, LANE.LANE_USER_HI_PAT, LANE.LANE_ERR_CNT_ERR, LANE.LANE_BIT_CNT_LO_BITS, LANE.LANE_BIT_CNT_HI_BITS, LANE.LANE_ERR_INJ_SHOT, LANE.LANE_ERR_INJ_K, LANE.LANE_EYE_CTRL_START, LANE.LANE_EYE_CTRL_DWELL, LANE.LANE_EYE_CTRL_VOFF, LANE.LANE_EYE_CTRL_PHASE, LANE.LANE_EYE_ERR_ERR, LANE.LANE_EYE_STAT_NO_LOCK, LANE.LANE_EYE_STAT_DONE, LANE.LANE_EYE_STAT_BUSY, LANE.LANE_IGN_CTRL_RESTART, LANE.LANE_IGN_CTRL_TXTAG, LANE.LANE_IGN_TALLY_TX_LO_TALLY, LANE.LANE_IGN_TALLY_TX_HI_TALLY, LANE.LANE_IGN_TALLY_RX_LO_TALLY] ++
  [LANE.LANE_IGN_TALLY_RX_HI_TALLY, LANE.LANE_IGN_RXINFO_TEN_1001, LANE.LANE_IGN_RXINFO_TEN_PRESENT, LANE.LANE_IGN_RXINFO_RXTAG, LANE.LANE_IGN_FAR_FAR, LANE.SDI_TRS_ERR, LANE.SDI_CRC_ERR, LANE.RXEQ_STAT, LANE.RX_DENSITY, LANE.IGN_HDR_ERR, LANE.IGN_SF_ERR, LANE.IGN_SB_ERR, LANE.IGN_KERF_VIOL, LANE.IGN_TEN_SLIP, LANE.IGN_FILL_RX, LANE.IGN_TRAIN_LOG, LANE.DIAG_CLR, LANE.LANE_MODE_LIVE, LANE.LANE_TXFIR_LIVE]

/-! ### Fields of the XBP page (Tables 4.4 to 4.7; R112, R113) -/

def XBP.XBP_CTRL_ASYNC_WIN : Fld := fld 0x040 0 8 .rw 0xA
def XBP.INT_STAT_SER_IDLE : Fld := fld 0x00C 3 1 .w1c 0
def XBP.INT_STAT_BAD_CFG : Fld := fld 0x00C 2 1 .w1c 0
def XBP.INT_STAT_ASYNC_CLR : Fld := fld 0x00C 1 1 .w1c 0
def XBP.INT_STAT_ASYNC_SET : Fld := fld 0x00C 0 1 .w1c 0
def XBP.ASYNC_ASYNC : Fld := arr 0x100 0 32 .ro 0 4 32
def XBP.TIMING_UNK_UNK : Fld := arr 0x180 0 32 .ro 0xFFFFFFFF 4 32
def XBP.SER_IDLE_IDLE : Fld := arr 0x200 0 32 .ro 0 4 32
def XBP.XBP_PGEN_INV : Fld := arr 0x280 8 1 .rw 0 12 8
def XBP.XBP_PGEN_RATE : Fld := arr 0x280 4 4 .rw 0 12 8
def XBP.XBP_PGEN_PAT : Fld := arr 0x280 0 3 .rw 4 12 8
def XBP.XBP_PGEN_USER_LO_PAT : Fld := arr 0x284 0 32 .rw 0 12 8
def XBP.XBP_PGEN_USER_HI_PAT : Fld := arr 0x288 0 32 .rw 0 12 8
def XBP.SWITCH_CNT : Fld := fld 0x300 0 32 .ro 0
def XBP.IGN_ABANDON : Fld := fld 0x304 0 32 .ro 0
def XBP.IGN_WAIT_MAX : Fld := fld 0x308 0 32 .ro 0
def XBP.PROBE_SEL : Fld := fld 0x30C 0 10 .rw 0
def XBP.PROBE_TIMING : Fld := fld 0x310 0 32 .ro 0
def XBP.DIAG_CLR : Fld := fld 0x3FC 0 32 .wo 0

/-- Every field of the XBP page (Tables 4.4 to 4.7; R112, R113). -/
def XBP.map : List Fld :=
  [XBP.XBP_CTRL_ASYNC_WIN, XBP.INT_STAT_SER_IDLE, XBP.INT_STAT_BAD_CFG, XBP.INT_STAT_ASYNC_CLR, XBP.INT_STAT_ASYNC_SET, XBP.ASYNC_ASYNC, XBP.TIMING_UNK_UNK, XBP.SER_IDLE_IDLE, XBP.XBP_PGEN_INV, XBP.XBP_PGEN_RATE, XBP.XBP_PGEN_PAT, XBP.XBP_PGEN_USER_LO_PAT, XBP.XBP_PGEN_USER_HI_PAT, XBP.SWITCH_CNT, XBP.IGN_ABANDON, XBP.IGN_WAIT_MAX, XBP.PROBE_SEL, XBP.PROBE_TIMING, XBP.DIAG_CLR]

/-! ### Fields of the BRC page (Tables 4.10 to 4.13; R124) -/

def BRC.BRC_CTRL_REALIGN : Fld := fld 0x040 31 1 .wo 0
def BRC.BRC_CTRL_TOL : Fld := fld 0x040 16 8 .rw 0x10
def BRC.BRC_CTRL_MIN_LANES : Fld := fld 0x040 4 4 .rw 8
def BRC.BRC_CTRL_ROLE : Fld := fld 0x040 1 1 .rw 0
def BRC.BRC_CTRL_EN : Fld := fld 0x040 0 1 .rw 0
def BRC.BRC_STAT_PARTNER_ROLE : Fld := fld 0x044 18 1 .ro 0
def BRC.BRC_STAT_ROLE_CONFLICT : Fld := fld 0x044 17 1 .ro 0
def BRC.BRC_STAT_DIVERGED : Fld := fld 0x044 16 1 .ro 0
def BRC.BRC_STAT_LANES_UP : Fld := fld 0x044 8 8 .ro 0
def BRC.BRC_STAT_LINK_STATE : Fld := fld 0x044 0 3 .ro 0
def BRC.INT_STAT_AGREE : Fld := fld 0x00C 8 1 .w1c 0
def BRC.INT_STAT_ALIGN_FAIL : Fld := fld 0x00C 7 1 .w1c 0
def BRC.INT_STAT_MISWIRE : Fld := fld 0x00C 6 1 .w1c 0
def BRC.INT_STAT_ROLE_CONFLICT : Fld := fld 0x00C 5 1 .w1c 0
def BRC.INT_STAT_TICK_SKEW : Fld := fld 0x00C 4 1 .w1c 0
def BRC.INT_STAT_TWIN_DIVERGE : Fld := fld 0x00C 3 1 .w1c 0
def BRC.INT_STAT_DEGRADED : Fld := fld 0x00C 2 1 .w1c 0
def BRC.INT_STAT_BRACE_DOWN : Fld := fld 0x00C 1 1 .w1c 0
def BRC.INT_STAT_BRACE_UP : Fld := fld 0x00C 0 1 .w1c 0
def BRC.BRC_DELAY_D : Fld := fld 0x048 0 16 .ro 0
def BRC.SKEW_SMP_SKEW : Fld := fld 0x04C 0 32 .ro 0
def BRC.TNUM_SMP_TNUM : Fld := fld 0x050 0 32 .ro 0
def BRC.SKEW_FRM_SKEW : Fld := arr 0x080 0 32 .ro 0 4 32
def BRC.TNUM_FRM_TNUM : Fld := arr 0x100 0 32 .ro 0 4 32
def BRC.BRC_DIV_INFO_VALID : Fld := fld 0x180 31 1 .w1c 0
def BRC.BRC_DIV_INFO_KIND : Fld := fld 0x180 24 2 .ro 0
def BRC.BRC_DIV_INFO_VTG : Fld := fld 0x180 16 5 .ro 0
def BRC.BRC_DIV_INFO_WHAT : Fld := fld 0x180 0 4 .ro 0
def BRC.DIV_TNUM_TNUM : Fld := fld 0x184 0 32 .ro 0
def BRC.DIV_OWN_CMT_CMT : Fld := fld 0x188 0 32 .ro 0
def BRC.DIV_TWIN_CMT_CMT : Fld := fld 0x18C 0 32 .ro 0
def BRC.DIV_OWN_CRC_CRC : Fld := fld 0x190 0 32 .ro 0
def BRC.DIV_TWIN_CRC_CRC : Fld := fld 0x194 0 32 .ro 0
def BRC.MSG_ERR : Fld := fld 0x1C0 0 32 .ro 0
def BRC.REC_TX : Fld := fld 0x1C4 0 32 .ro 0
def BRC.REC_RX : Fld := fld 0x1C8 0 32 .ro 0
def BRC.DIV_CNT : Fld := fld 0x1CC 0 32 .ro 0
def BRC.MISWIRE_LOG : Fld := fld 0x1D0 0 32 .ro 0
def BRC.DELAY_RANGE : Fld := fld 0x1D4 0 32 .ro 0
def BRC.DIAG_CLR : Fld := fld 0x1FC 0 32 .wo 0

/-- Every field of the BRC page (Tables 4.10 to 4.13; R124). -/
def BRC.map : List Fld :=
  [BRC.BRC_CTRL_REALIGN, BRC.BRC_CTRL_TOL, BRC.BRC_CTRL_MIN_LANES, BRC.BRC_CTRL_ROLE, BRC.BRC_CTRL_EN, BRC.BRC_STAT_PARTNER_ROLE, BRC.BRC_STAT_ROLE_CONFLICT, BRC.BRC_STAT_DIVERGED, BRC.BRC_STAT_LANES_UP, BRC.BRC_STAT_LINK_STATE, BRC.INT_STAT_AGREE, BRC.INT_STAT_ALIGN_FAIL, BRC.INT_STAT_MISWIRE, BRC.INT_STAT_ROLE_CONFLICT, BRC.INT_STAT_TICK_SKEW, BRC.INT_STAT_TWIN_DIVERGE, BRC.INT_STAT_DEGRADED, BRC.INT_STAT_BRACE_DOWN, BRC.INT_STAT_BRACE_UP, BRC.BRC_DELAY_D, BRC.SKEW_SMP_SKEW, BRC.TNUM_SMP_TNUM, BRC.SKEW_FRM_SKEW, BRC.TNUM_FRM_TNUM] ++
  [BRC.BRC_DIV_INFO_VALID, BRC.BRC_DIV_INFO_KIND, BRC.BRC_DIV_INFO_VTG, BRC.BRC_DIV_INFO_WHAT, BRC.DIV_TNUM_TNUM, BRC.DIV_OWN_CMT_CMT, BRC.DIV_TWIN_CMT_CMT, BRC.DIV_OWN_CRC_CRC, BRC.DIV_TWIN_CRC_CRC, BRC.MSG_ERR, BRC.REC_TX, BRC.REC_RX, BRC.DIV_CNT, BRC.MISWIRE_LOG, BRC.DELAY_RANGE, BRC.DIAG_CLR]

/-! ### Fields of the XWP route page (Tables 5.2 to 5.4, 5.9; R148) -/

def XWPR.INT_STAT_REGEN_FAULT : Fld := fld 0x00C 3 1 .w1c 0
def XWPR.INT_STAT_PATH_FAIL : Fld := fld 0x00C 2 1 .w1c 0
def XWPR.INT_STAT_BLOCKED : Fld := fld 0x00C 1 1 .w1c 0
def XWPR.INT_STAT_BAD_CFG : Fld := fld 0x00C 0 1 .w1c 0
def XWPR.XWP_BLOCK_INFO_VALID : Fld := fld 0x040 31 1 .w1c 0
def XWPR.XWP_BLOCK_INFO_STATE : Fld := fld 0x040 16 6 .ro 0
def XWPR.XWP_BLOCK_INFO_INGRESS : Fld := fld 0x040 8 6 .ro 0
def XWPR.XWP_BLOCK_INFO_PATHS : Fld := fld 0x040 0 7 .ro 0
def XWPR.ING_PATHS_LIVE : Fld := arr 0x080 0 7 .ro 0 4 64
def XWPR.UNPLACED_UNP : Fld := arr 0x180 0 32 .ro 0 4 64
def XWPR.REGEN_FAULT_RF : Fld := arr 0x280 0 32 .ro 0 4 32
def XWPR.PLACE_CNT : Fld := fld 0x300 0 32 .ro 0
def XWPR.RELEASE_CNT : Fld := fld 0x304 0 32 .ro 0
def XWPR.MID_USE : Fld := fld 0x308 0 32 .ro 0
def XWPR.ING_PEAK : Fld := fld 0x30C 0 32 .ro 0
def XWPR.EMB_LINES : Fld := fld 0x310 0 32 .ro 0
def XWPR.DIAG_CLR : Fld := fld 0x3FC 0 32 .wo 0

/-- Every field of the XWP route page (Tables 5.2 to 5.4, 5.9; R148). -/
def XWPR.map : List Fld :=
  [XWPR.INT_STAT_REGEN_FAULT, XWPR.INT_STAT_PATH_FAIL, XWPR.INT_STAT_BLOCKED, XWPR.INT_STAT_BAD_CFG, XWPR.XWP_BLOCK_INFO_VALID, XWPR.XWP_BLOCK_INFO_STATE, XWPR.XWP_BLOCK_INFO_INGRESS, XWPR.XWP_BLOCK_INFO_PATHS, XWPR.ING_PATHS_LIVE, XWPR.UNPLACED_UNP, XWPR.REGEN_FAULT_RF, XWPR.PLACE_CNT, XWPR.RELEASE_CNT, XWPR.MID_USE, XWPR.ING_PEAK, XWPR.EMB_LINES, XWPR.DIAG_CLR]

/-! ### Fields of the XWP map page (Tables 5.6, 5.7, 5.9; R148) -/

def XWPM.INT_STAT_DEEMB_SLIP : Fld := fld 0x00C 2 1 .w1c 0
def XWPM.INT_STAT_TMAP_CONFLICT : Fld := fld 0x00C 1 1 .w1c 0
def XWPM.INT_STAT_BAD_CFG : Fld := fld 0x00C 0 1 .w1c 0
def XWPM.XWP_TMAP_ERR_VALID : Fld := fld 0x040 31 1 .w1c 0
def XWPM.XWP_TMAP_ERR_POOL : Fld := fld 0x040 30 1 .ro 0
def XWPM.XWP_TMAP_ERR_BAY : Fld := fld 0x040 24 4 .ro 0
def XWPM.XWP_TMAP_ERR_FUNC_A : Fld := fld 0x040 16 8 .ro 0
def XWPM.XWP_TMAP_ERR_FUNC_B : Fld := fld 0x040 8 8 .ro 0
def XWPM.DEEMB_UNDER : Fld := fld 0x300 0 32 .ro 0
def XWPM.DEEMB_OVER : Fld := fld 0x304 0 32 .ro 0
def XWPM.DEEMB_PKT_ERR : Fld := fld 0x308 0 32 .ro 0
def XWPM.DIAG_CLR : Fld := fld 0x3FC 0 32 .wo 0

/-- Every field of the XWP map page (Tables 5.6, 5.7, 5.9; R148). -/
def XWPM.map : List Fld :=
  [XWPM.INT_STAT_DEEMB_SLIP, XWPM.INT_STAT_TMAP_CONFLICT, XWPM.INT_STAT_BAD_CFG, XWPM.XWP_TMAP_ERR_VALID, XWPM.XWP_TMAP_ERR_POOL, XWPM.XWP_TMAP_ERR_BAY, XWPM.XWP_TMAP_ERR_FUNC_A, XWPM.XWP_TMAP_ERR_FUNC_B, XWPM.DEEMB_UNDER, XWPM.DEEMB_OVER, XWPM.DEEMB_PKT_ERR, XWPM.DIAG_CLR]

end Sys2Proof.Machine
end

