-- ==== Sys2Proof/Machine/RegMapB.lean ====
section
/-! DEFINITION. The register fields of the pages of chapters 6 to 11. -/

namespace Sys2Proof.Machine

/-! ### Fields of an ETH page (Tables 6.7 to 6.12; R176) -/

def ETH.ETH_MODE_TRAIN_EN : Fld := fld 0x040 9 1 .rws 1
def ETH.ETH_MODE_AN_EN : Fld := fld 0x040 8 1 .rws 1
def ETH.ETH_MODE_FEC25 : Fld := fld 0x040 4 2 .rws 2
def ETH.ETH_MODE_MODE : Fld := fld 0x040 0 3 .rws 0
def ETH.ETH_CTRL_MAX_LEN : Fld := fld 0x048 16 14 .rws 0x5F2
def ETH.ETH_CTRL_NOMATCH_HOST : Fld := fld 0x048 2 1 .rws 0
def ETH.ETH_CTRL_TX_EN : Fld := fld 0x048 1 1 .rws 0
def ETH.ETH_CTRL_RX_EN : Fld := fld 0x048 0 1 .rws 0
def ETH.ETH_CMD_RESTART : Fld := fld 0x04C 31 1 .wo 0
def ETH.ETH_CMD_CNT_SNAP : Fld := fld 0x04C 30 1 .wo 0
def ETH.ETH_STAT_SIG_DET : Fld := fld 0x050 16 4 .ro 0
def ETH.ETH_STAT_ALIGN_LOCK : Fld := fld 0x050 15 1 .ro 0
def ETH.ETH_STAT_FEC_LOCK : Fld := fld 0x050 14 1 .ro 0
def ETH.ETH_STAT_LF : Fld := fld 0x050 13 1 .ro 0
def ETH.ETH_STAT_RF_RX : Fld := fld 0x050 12 1 .ro 0
def ETH.ETH_STAT_FAIL_CNT : Fld := fld 0x050 4 4 .ro 0
def ETH.ETH_STAT_LINK_STATE : Fld := fld 0x050 0 3 .ro 0
def ETH.INT_STAT_BAD_CFG : Fld := fld 0x00C 11 1 .w1c 0
def ETH.INT_STAT_HQ_RX_EMPTY : Fld := fld 0x00C 10 1 .w1c 0
def ETH.INT_STAT_HQ_TX : Fld := fld 0x00C 9 1 .w1c 0
def ETH.INT_STAT_HQ_RX : Fld := fld 0x00C 8 1 .w1c 0
def ETH.INT_STAT_CNT_HALF : Fld := fld 0x00C 7 1 .w1c 0
def ETH.INT_STAT_UNDERRUN : Fld := fld 0x00C 6 1 .w1c 0
def ETH.INT_STAT_RF_RX : Fld := fld 0x00C 5 1 .w1c 0
def ETH.INT_STAT_ALIGN_FAIL : Fld := fld 0x00C 4 1 .w1c 0
def ETH.INT_STAT_TRAIN_FAIL : Fld := fld 0x00C 3 1 .w1c 0
def ETH.INT_STAT_AN_FAIL : Fld := fld 0x00C 2 1 .w1c 0
def ETH.INT_STAT_LINK_DOWN : Fld := fld 0x00C 1 1 .w1c 0
def ETH.INT_STAT_LINK_UP : Fld := fld 0x00C 0 1 .w1c 0
def ETH.ETH_MAC_LO_MAC : Fld := fld 0x054 0 32 .rws 0
def ETH.ETH_MAC_HI_MAC : Fld := fld 0x058 0 16 .rws 0
def ETH.ETH_FC_PAUSE_IGNORE : Fld := fld 0x060 8 8 .rws 0xF0
def ETH.ETH_FC_RX_FC_MODE : Fld := fld 0x060 0 2 .rws 0
def ETH.HQ_RX_CTRL_EN : Fld := fld 0x200 0 1 .rw 0
def ETH.HQ_RX_BASE_LO_BASE : Fld := fld 0x204 6 26 .rw 0
def ETH.HQ_RX_BASE_HI_BASE : Fld := fld 0x208 0 32 .rw 0
def ETH.HQ_RX_SIZE_N : Fld := fld 0x20C 0 4 .rw 4
def ETH.HQ_RX_TAIL_TAIL : Fld := fld 0x210 0 12 .rw 0
def ETH.HQ_RX_HEAD_HEAD : Fld := fld 0x214 0 12 .ro 0
def ETH.CNT_COUNT : Fld := arr 0x400 0 32 .ro 0 4 64
def ETH.CNT_SNAPV_COUNT : Fld := arr 0x500 0 32 .ro 0 4 64
def ETH.AN_LP : Fld := fld 0x700 0 32 .ro 0
def ETH.TRAIN_LOG : Fld := fld 0x704 0 32 .ro 0
def ETH.FEC_SYM : Fld := arr 0x710 0 32 .ro 0 4 4
def ETH.PAUSE_LEFT : Fld := arr 0x720 0 32 .ro 0 4 8
def ETH.PRE_BER : Fld := fld 0x740 0 32 .ro 0
def ETH.DIAG_CLR : Fld := fld 0x7FC 0 32 .wo 0
def ETH.ETH_MODE_LIVE : Fld := fld 0x044 0 32 (.live 0x40) 0
def ETH.ETH_TCMAP_RX_CLS0 : Fld := fld 0x064 0 3 .rws 0
def ETH.ETH_TCMAP_RX_CLS1 : Fld := fld 0x064 4 3 .rws 1
def ETH.ETH_TCMAP_RX_CLS2 : Fld := fld 0x064 8 3 .rws 2
def ETH.ETH_TCMAP_RX_CLS3 : Fld := fld 0x064 12 3 .rws 3
def ETH.ETH_TCMAP_RX_CLS4 : Fld := fld 0x064 16 3 .rws 4
def ETH.ETH_TCMAP_RX_CLS5 : Fld := fld 0x064 20 3 .rws 5
def ETH.ETH_TCMAP_RX_CLS6 : Fld := fld 0x064 24 3 .rws 6
def ETH.ETH_TCMAP_RX_CLS7 : Fld := fld 0x064 28 3 .rws 7
def ETH.TXQ_THR_LO_THR0 : Fld := fld 0x068 0 6 .rws 4
def ETH.TXQ_THR_LO_THR1 : Fld := fld 0x068 8 6 .rws 4
def ETH.TXQ_THR_LO_THR2 : Fld := fld 0x068 16 6 .rws 4
def ETH.TXQ_THR_LO_THR3 : Fld := fld 0x068 24 6 .rws 4
def ETH.TXQ_THR_HI_THR0 : Fld := fld 0x06C 0 6 .rws 4
def ETH.TXQ_THR_HI_THR1 : Fld := fld 0x06C 8 6 .rws 4
def ETH.TXQ_THR_HI_THR2 : Fld := fld 0x06C 16 6 .rws 4
def ETH.TXQ_THR_HI_THR3 : Fld := fld 0x06C 24 6 .rws 4
def ETH.TXQ_THR_LIVE_LO : Fld := fld 0x070 0 32 (.live 0x68) 0
def ETH.TXQ_THR_LIVE_HI : Fld := fld 0x074 0 32 (.live 0x6C) 0
def ETH.ETX_FIR_POST : Fld := arr 0x080 16 6 .rws 7 4 4
def ETH.ETX_FIR_MAIN : Fld := arr 0x080 8 6 .rws 0x34 4 4
def ETH.ETX_FIR_PRE : Fld := arr 0x080 0 6 .rws 4 4 4
def ETH.ETX_FIR_LIVE : Fld := arr 0x090 0 32 (.live 0x80) 0 4 4
def ETH.HQ_TX_CTRL_EN : Fld := fld 0x220 0 1 .rw 0
def ETH.HQ_TX_BASE_LO_BASE : Fld := fld 0x224 6 26 .rw 0
def ETH.HQ_TX_BASE_HI_BASE : Fld := fld 0x228 0 32 .rw 0
def ETH.HQ_TX_SIZE_N : Fld := fld 0x22C 0 4 .rw 4
def ETH.HQ_TX_TAIL_TAIL : Fld := fld 0x230 0 12 .rw 0
def ETH.HQ_TX_HEAD_HEAD : Fld := fld 0x234 0 12 .ro 0
def ETH.CNT_HALF_MAP_HALF : Fld := arr 0x600 0 32 .ro 0 4 2
def ETH.CNT_HALF_SNAP_HALF : Fld := arr 0x608 0 32 .ro 0 4 2

/-- Every field of an ETH page (Tables 6.7 to 6.12; R176). -/
def ETH.map : List Fld :=
  [ETH.ETH_MODE_TRAIN_EN, ETH.ETH_MODE_AN_EN, ETH.ETH_MODE_FEC25, ETH.ETH_MODE_MODE, ETH.ETH_CTRL_MAX_LEN, ETH.ETH_CTRL_NOMATCH_HOST, ETH.ETH_CTRL_TX_EN, ETH.ETH_CTRL_RX_EN, ETH.ETH_CMD_RESTART, ETH.ETH_CMD_CNT_SNAP, ETH.ETH_STAT_SIG_DET, ETH.ETH_STAT_ALIGN_LOCK, ETH.ETH_STAT_FEC_LOCK, ETH.ETH_STAT_LF, ETH.ETH_STAT_RF_RX, ETH.ETH_STAT_FAIL_CNT, ETH.ETH_STAT_LINK_STATE, ETH.INT_STAT_BAD_CFG, ETH.INT_STAT_HQ_RX_EMPTY, ETH.INT_STAT_HQ_TX, ETH.INT_STAT_HQ_RX, ETH.INT_STAT_CNT_HALF, ETH.INT_STAT_UNDERRUN, ETH.INT_STAT_RF_RX] ++
  [ETH.INT_STAT_ALIGN_FAIL, ETH.INT_STAT_TRAIN_FAIL, ETH.INT_STAT_AN_FAIL, ETH.INT_STAT_LINK_DOWN, ETH.INT_STAT_LINK_UP, ETH.ETH_MAC_LO_MAC, ETH.ETH_MAC_HI_MAC, ETH.ETH_FC_PAUSE_IGNORE, ETH.ETH_FC_RX_FC_MODE, ETH.HQ_RX_CTRL_EN, ETH.HQ_RX_BASE_LO_BASE, ETH.HQ_RX_BASE_HI_BASE, ETH.HQ_RX_SIZE_N, ETH.HQ_RX_TAIL_TAIL, ETH.HQ_RX_HEAD_HEAD, ETH.CNT_COUNT, ETH.CNT_SNAPV_COUNT, ETH.AN_LP, ETH.TRAIN_LOG, ETH.FEC_SYM, ETH.PAUSE_LEFT, ETH.PRE_BER, ETH.DIAG_CLR, ETH.ETH_MODE_LIVE] ++
  [ETH.ETH_TCMAP_RX_CLS0, ETH.ETH_TCMAP_RX_CLS1, ETH.ETH_TCMAP_RX_CLS2, ETH.ETH_TCMAP_RX_CLS3, ETH.ETH_TCMAP_RX_CLS4, ETH.ETH_TCMAP_RX_CLS5, ETH.ETH_TCMAP_RX_CLS6, ETH.ETH_TCMAP_RX_CLS7, ETH.TXQ_THR_LO_THR0, ETH.TXQ_THR_LO_THR1, ETH.TXQ_THR_LO_THR2, ETH.TXQ_THR_LO_THR3, ETH.TXQ_THR_HI_THR0, ETH.TXQ_THR_HI_THR1, ETH.TXQ_THR_HI_THR2, ETH.TXQ_THR_HI_THR3, ETH.TXQ_THR_LIVE_LO, ETH.TXQ_THR_LIVE_HI, ETH.ETX_FIR_POST, ETH.ETX_FIR_MAIN, ETH.ETX_FIR_PRE, ETH.ETX_FIR_LIVE, ETH.HQ_TX_CTRL_EN, ETH.HQ_TX_BASE_LO_BASE, ETH.HQ_TX_BASE_HI_BASE, ETH.HQ_TX_SIZE_N, ETH.HQ_TX_TAIL_TAIL, ETH.HQ_TX_HEAD_HEAD, ETH.CNT_HALF_MAP_HALF, ETH.CNT_HALF_SNAP_HALF]

/-! ### Fields of an MSEC page (Tables 6.13, 6.14; R177) -/

def MSEC.INT_STAT_BAD_CFG : Fld := fld 0x00C 5 1 .w1c 0
def MSEC.INT_STAT_REPLAY : Fld := fld 0x00C 4 1 .w1c 0
def MSEC.INT_STAT_PN_EXH : Fld := fld 0x00C 3 1 .w1c 0
def MSEC.INT_STAT_PN_NEAR : Fld := fld 0x00C 2 1 .w1c 0
def MSEC.INT_STAT_KEY_LOST : Fld := fld 0x00C 1 1 .w1c 0
def MSEC.INT_STAT_BAD_KEY : Fld := fld 0x00C 0 1 .w1c 0
def MSEC.MSEC_CTRL_TXSC1_CLS : Fld := fld 0x040 16 8 .rws 0
def MSEC.MSEC_CTRL_CONF_OFFSET : Fld := fld 0x040 8 2 .rws 0
def MSEC.MSEC_CTRL_REPLAY_EN : Fld := fld 0x040 6 1 .rws 1
def MSEC.MSEC_CTRL_VALIDATE : Fld := fld 0x040 4 2 .rws 2
def MSEC.MSEC_CTRL_CIPHER : Fld := fld 0x040 1 2 .rws 1
def MSEC.MSEC_CTRL_EN : Fld := fld 0x040 0 1 .rws 0
def MSEC.REPLAY_WIN_WIN : Fld := fld 0x044 0 32 .rws 0
def MSEC.TXSC_SCI_LO_SCI : Fld := arr 0x080 0 32 .rws 0 16 2
def MSEC.TXSC_SCI_HI_SCI : Fld := arr 0x084 0 32 .rws 0 16 2
def MSEC.TXSC_CTRL_CONF : Fld := arr 0x088 3 1 .rws 1 16 2
def MSEC.TXSC_CTRL_ENC_AN : Fld := arr 0x088 1 2 .rws 0 16 2
def MSEC.TXSC_CTRL_EN : Fld := arr 0x088 0 1 .rws 0 16 2
def MSEC.RXSC_SCI_LO_SCI : Fld := arr 0x0C0 0 32 .rws 0 16 16
def MSEC.RXSC_CTRL_EN : Fld := arr 0x0C8 0 1 .rws 0 16 16
def MSEC.RX_OK : Fld := fld 0xC00 0 32 .ro 0
def MSEC.RX_BAD_ICV : Fld := fld 0xC04 0 32 .ro 0
def MSEC.RX_NO_SA : Fld := fld 0xC08 0 32 .ro 0
def MSEC.RX_LATE : Fld := fld 0xC0C 0 32 .ro 0
def MSEC.RX_UNTAGGED : Fld := fld 0xC10 0 32 .ro 0
def MSEC.TX_DROP : Fld := fld 0xC14 0 32 .ro 0
def MSEC.DIAG_CLR : Fld := fld 0xCFC 0 32 .wo 0
def MSEC.PN_THR_LO_THR : Fld := fld 0x048 0 32 .rws 0xC0000000
def MSEC.PN_THR_HI_THR : Fld := fld 0x04C 0 32 .rws 0
def MSEC.RXSC_SCI_HI_SCI : Fld := arr 0x0C4 0 32 .rws 0 16 16
def MSEC.TXSA_CTRL_EN : Fld := arr 0x200 31 1 .rws 0 32 8
def MSEC.TXSA_CTRL_KEY : Fld := arr 0x200 0 9 .rws 0 32 8
def MSEC.TXSA_PN_LO_PN : Fld := arr 0x204 0 32 .rws 1 32 8
def MSEC.TXSA_PN_HI_PN : Fld := arr 0x208 0 32 .rws 0 32 8
def MSEC.TXSA_SSCI_SSCI : Fld := arr 0x20C 0 32 .rws 0 32 8
def MSEC.TXSA_SALT_SALT : Fld := arr2 0x210 0 32 .rws 0 32 8 4 3
def MSEC.TXSA_STAT_KEY_LOST : Fld := arr 0x21C 31 1 .ro 0 32 8
def MSEC.TXSA_STAT_PN_EXH : Fld := arr 0x21C 30 1 .ro 0 32 8
def MSEC.RXSA_CTRL_EN : Fld := arr 0x400 31 1 .rws 0 32 64
def MSEC.RXSA_CTRL_KEY : Fld := arr 0x400 0 9 .rws 0 32 64
def MSEC.RXSA_PN_LO_PN : Fld := arr 0x404 0 32 .rws 1 32 64
def MSEC.RXSA_PN_HI_PN : Fld := arr 0x408 0 32 .rws 0 32 64
def MSEC.RXSA_SSCI_SSCI : Fld := arr 0x40C 0 32 .rws 0 32 64
def MSEC.RXSA_SALT_SALT : Fld := arr2 0x410 0 32 .rws 0 32 64 4 3
def MSEC.RXSA_STAT_KEY_LOST : Fld := arr 0x41C 31 1 .ro 0 32 64
def MSEC.RXSA_STAT_PN_EXH : Fld := arr 0x41C 30 1 .ro 0 32 64
def MSEC.TXSA_PN_LIVE_LO_PN : Fld := arr 0x300 0 32 .ro 1 8 8
def MSEC.TXSA_PN_LIVE_HI_PN : Fld := arr 0x304 0 32 .ro 0 8 8

/-- Every field of an MSEC page (Tables 6.13, 6.14; R177). -/
def MSEC.map : List Fld :=
  [MSEC.INT_STAT_BAD_CFG, MSEC.INT_STAT_REPLAY, MSEC.INT_STAT_PN_EXH, MSEC.INT_STAT_PN_NEAR, MSEC.INT_STAT_KEY_LOST, MSEC.INT_STAT_BAD_KEY, MSEC.MSEC_CTRL_TXSC1_CLS, MSEC.MSEC_CTRL_CONF_OFFSET, MSEC.MSEC_CTRL_REPLAY_EN, MSEC.MSEC_CTRL_VALIDATE, MSEC.MSEC_CTRL_CIPHER, MSEC.MSEC_CTRL_EN, MSEC.REPLAY_WIN_WIN, MSEC.TXSC_SCI_LO_SCI, MSEC.TXSC_SCI_HI_SCI, MSEC.TXSC_CTRL_CONF, MSEC.TXSC_CTRL_ENC_AN, MSEC.TXSC_CTRL_EN, MSEC.RXSC_SCI_LO_SCI, MSEC.RXSC_CTRL_EN, MSEC.RX_OK, MSEC.RX_BAD_ICV, MSEC.RX_NO_SA, MSEC.RX_LATE] ++
  [MSEC.RX_UNTAGGED, MSEC.TX_DROP, MSEC.DIAG_CLR, MSEC.PN_THR_LO_THR, MSEC.PN_THR_HI_THR, MSEC.RXSC_SCI_HI_SCI, MSEC.TXSA_CTRL_EN, MSEC.TXSA_CTRL_KEY, MSEC.TXSA_PN_LO_PN, MSEC.TXSA_PN_HI_PN, MSEC.TXSA_SSCI_SSCI, MSEC.TXSA_SALT_SALT, MSEC.TXSA_STAT_KEY_LOST, MSEC.TXSA_STAT_PN_EXH, MSEC.RXSA_CTRL_EN, MSEC.RXSA_CTRL_KEY, MSEC.RXSA_PN_LO_PN, MSEC.RXSA_PN_HI_PN, MSEC.RXSA_SSCI_SSCI, MSEC.RXSA_SALT_SALT, MSEC.RXSA_STAT_KEY_LOST, MSEC.RXSA_STAT_PN_EXH, MSEC.TXSA_PN_LIVE_LO_PN, MSEC.TXSA_PN_LIVE_HI_PN]

/-! ### Fields of a FLOWV receive slot page (Tables 7.5, 7.10; R207) -/

def RXS.INT_STAT_FMT_MISMATCH : Fld := fld 0x00C 10 1 .w1c 0
def RXS.INT_STAT_BUF_OVF : Fld := fld 0x00C 9 1 .w1c 0
def RXS.INT_STAT_SKEW_OVER : Fld := fld 0x00C 8 1 .w1c 0
def RXS.INT_STAT_PATH_BACK : Fld := fld 0x00C 7 1 .w1c 0
def RXS.INT_STAT_PATH_LOST : Fld := fld 0x00C 6 1 .w1c 0
def RXS.INT_STAT_READY : Fld := fld 0x00C 5 1 .w1c 0
def RXS.INT_STAT_FLOW_BACK : Fld := fld 0x00C 4 1 .w1c 0
def RXS.INT_STAT_FLOW_LOST : Fld := fld 0x00C 3 1 .w1c 0
def RXS.INT_STAT_BUF_REFUSED : Fld := fld 0x00C 1 1 .w1c 0
def RXS.INT_STAT_BAD_CFG : Fld := fld 0x00C 0 1 .w1c 0
def RXS.RX_CTRL_LOSS_FR : Fld := fld 0x040 16 8 .rws 5
def RXS.RX_CTRL_VTG : Fld := fld 0x040 8 5 .rws 0
def RXS.RX_CTRL_PID_EN : Fld := fld 0x040 7 1 .rws 0
def RXS.RX_CTRL_ANC_EN : Fld := fld 0x040 6 1 .rws 0
def RXS.RX_CTRL_PAIR : Fld := fld 0x040 5 1 .rws 0
def RXS.RX_CTRL_TEN : Fld := fld 0x040 1 2 .rws 0
def RXS.RX_CTRL_EN : Fld := fld 0x040 0 1 .rws 0
def RXS.RX_DMIN_DMIN : Fld := fld 0x048 0 16 .rws 0x3E8
def RXS.RX_BUF_BUF : Fld := fld 0x04C 0 13 .rws 0x80
def RXS.RX_SKEW_MAX : Fld := fld 0x050 0 12 .rws 0x7D0
def RXS.RX_PID_PID : Fld := fld 0x054 0 32 .rws 0
def RXS.RX_PT_PT_ANC : Fld := fld 0x058 8 7 .rws 0x64
def RXS.RX_PT_PT_VID : Fld := fld 0x058 0 7 .rws 0x60
def RXS.RX_STAT_PATH_B_DOWN : Fld := fld 0x060 7 1 .ro 0
def RXS.RX_STAT_PATH_A_DOWN : Fld := fld 0x060 6 1 .ro 0
def RXS.RX_STAT_SKEW_OVER : Fld := fld 0x060 5 1 .ro 0
def RXS.RX_STAT_READY : Fld := fld 0x060 4 1 .ro 0
def RXS.RX_STAT_STATE : Fld := fld 0x060 0 3 .ro 0
def RXS.RX_D_LIVE_D : Fld := fld 0x064 0 20 .ro 0
def RXS.RX_SKEW_LIVE_SKEW : Fld := fld 0x068 0 32 .ro 0
def RXS.RX_BUF_USE_PEAK : Fld := fld 0x06C 16 13 .ro 0
def RXS.RX_BUF_USE_USE : Fld := fld 0x06C 0 13 .ro 0
def RXS.PKT_OK : Fld := fld 0x300 0 32 .ro 0
def RXS.FRM_ABSENT : Fld := fld 0x31C 0 32 .ro 0
def RXS.PKT_PATHB_OFF : Fld := fld 0x328 0 32 .ro 0
def RXS.DIAG_CLR : Fld := fld 0x3FC 0 32 .wo 0
def RXS.PKT_DUP : Fld := fld 0x304 0 32 .ro 0
def RXS.PKT_LATE : Fld := fld 0x308 0 32 .ro 0
def RXS.PKT_OVF : Fld := fld 0x30C 0 32 .ro 0
def RXS.PKT_MISS : Fld := fld 0x310 0 32 .ro 0
def RXS.FMT_ERR : Fld := fld 0x314 0 32 .ro 0
def RXS.SKEW_DROP : Fld := fld 0x318 0 32 .ro 0
def RXS.SEQ_GAP_A : Fld := fld 0x320 0 32 .ro 0
def RXS.SEQ_GAP_B : Fld := fld 0x324 0 32 .ro 0
def RXS.ANC_PKT : Fld := fld 0x32C 0 32 .ro 0
def RXS.ANC_LATE : Fld := fld 0x330 0 32 .ro 0

/-- Every field of a FLOWV receive slot page (Tables 7.5, 7.10; R207). -/
def RXS.map : List Fld :=
  [RXS.INT_STAT_FMT_MISMATCH, RXS.INT_STAT_BUF_OVF, RXS.INT_STAT_SKEW_OVER, RXS.INT_STAT_PATH_BACK, RXS.INT_STAT_PATH_LOST, RXS.INT_STAT_READY, RXS.INT_STAT_FLOW_BACK, RXS.INT_STAT_FLOW_LOST, RXS.INT_STAT_BUF_REFUSED, RXS.INT_STAT_BAD_CFG, RXS.RX_CTRL_LOSS_FR, RXS.RX_CTRL_VTG, RXS.RX_CTRL_PID_EN, RXS.RX_CTRL_ANC_EN, RXS.RX_CTRL_PAIR, RXS.RX_CTRL_TEN, RXS.RX_CTRL_EN, RXS.RX_DMIN_DMIN, RXS.RX_BUF_BUF, RXS.RX_SKEW_MAX, RXS.RX_PID_PID, RXS.RX_PT_PT_ANC, RXS.RX_PT_PT_VID, RXS.RX_STAT_PATH_B_DOWN] ++
  [RXS.RX_STAT_PATH_A_DOWN, RXS.RX_STAT_SKEW_OVER, RXS.RX_STAT_READY, RXS.RX_STAT_STATE, RXS.RX_D_LIVE_D, RXS.RX_SKEW_LIVE_SKEW, RXS.RX_BUF_USE_PEAK, RXS.RX_BUF_USE_USE, RXS.PKT_OK, RXS.FRM_ABSENT, RXS.PKT_PATHB_OFF, RXS.DIAG_CLR, RXS.PKT_DUP, RXS.PKT_LATE, RXS.PKT_OVF, RXS.PKT_MISS, RXS.FMT_ERR, RXS.SKEW_DROP, RXS.SEQ_GAP_A, RXS.SEQ_GAP_B, RXS.ANC_PKT, RXS.ANC_LATE]

/-! ### Fields of a FLOWV send slot page (Tables 7.6, 7.10; R207) -/

def TXS.INT_STAT_TX_NOSIG : Fld := fld 0x00C 3 1 .w1c 0
def TXS.INT_STAT_FMT_MISMATCH : Fld := fld 0x00C 2 1 .w1c 0
def TXS.INT_STAT_BAD_CFG : Fld := fld 0x00C 0 1 .w1c 0
def TXS.TX_CTRL_ANC_PKTS : Fld := fld 0x040 16 4 .rws 2
def TXS.TX_CTRL_CLS : Fld := fld 0x040 8 3 .rws 4
def TXS.TX_CTRL_IPV6 : Fld := fld 0x040 7 1 .rws 0
def TXS.TX_CTRL_VLAN_EN : Fld := fld 0x040 6 1 .rws 1
def TXS.TX_CTRL_ANC_EN : Fld := fld 0x040 5 1 .rws 0
def TXS.TX_CTRL_DUAL : Fld := fld 0x040 4 1 .rws 0
def TXS.TX_CTRL_PM : Fld := fld 0x040 3 1 .rws 0
def TXS.TX_CTRL_TEN : Fld := fld 0x040 1 2 .rws 0
def TXS.TX_CTRL_EN : Fld := fld 0x040 0 1 .rws 0
def TXS.TX_PORT_PORT_B : Fld := fld 0x048 8 6 .rws 0
def TXS.TX_PORT_PORT_A : Fld := fld 0x048 0 6 .rws 0
def TXS.TX_PLEN_PLEN : Fld := fld 0x04C 0 11 .rws 0x4B0
def TXS.TX_TRO_TRO : Fld := fld 0x050 0 20 .rws 0x2000
def TXS.TX_STAT_NOSIG : Fld := fld 0x060 1 1 .ro 0
def TXS.TX_STAT_SENDING : Fld := fld 0x060 0 1 .ro 0
def TXS.TX_BW_KBPS : Fld := fld 0x064 0 32 .ro 0
def TXS.DST_MAC_LO_MAC : Fld := arr 0x120 0 32 .rws 0 128 2
def TXS.DST_MAC_HI_AUTO : Fld := arr 0x124 31 1 .rws 1 128 2
def TXS.DST_MAC_HI_MAC : Fld := arr 0x124 0 16 .rws 0 128 2
def TXS.UDP_ANC_DPORT_ANC : Fld := arr 0x12C 0 16 .rws 0x1389 128 2
def TXS.TAG_TTL : Fld := arr 0x130 24 8 .rws 0x40 128 2
def TXS.TAG_DSCP : Fld := arr 0x130 16 6 .rws 0x22 128 2
def TXS.TAG_PCP : Fld := arr 0x130 12 3 .rws 5 128 2
def TXS.TAG_VID : Fld := arr 0x130 0 12 .rws 1 128 2
def TXS.DIAG_CLR : Fld := fld 0x3FC 0 32 .wo 0
def TXS.TX_PT_PT_ANC : Fld := fld 0x054 8 7 .rws 0x64
def TXS.TX_PT_PT_VID : Fld := fld 0x054 0 7 .rws 0x60
def TXS.TX_SSRC_VID_SSRC : Fld := fld 0x058 0 32 .rws 0
def TXS.TX_SSRC_ANC_SSRC : Fld := fld 0x05C 0 32 .rws 0
def TXS.UDP_SPORT : Fld := arr 0x128 16 16 .rws 0x1388 128 2
def TXS.UDP_DPORT_VID : Fld := arr 0x128 0 16 .rws 0x1388 128 2
def TXS.DST_IP_IP : Fld := arr2 0x100 0 32 .rws 0 128 2 4 4
def TXS.SRC_IP_IP : Fld := arr2 0x110 0 32 .rws 0 128 2 4 4
def TXS.ANC_IP_IP : Fld := arr2 0x134 0 32 .rws 0 128 2 4 4
def TXS.TX_PKT : Fld := fld 0x300 0 32 .ro 0
def TXS.TX_FRM : Fld := fld 0x304 0 32 .ro 0
def TXS.TX_LATE : Fld := fld 0x308 0 32 .ro 0
def TXS.TX_NOSIG_FRM : Fld := fld 0x30C 0 32 .ro 0
def TXS.ANC_DROP : Fld := fld 0x310 0 32 .ro 0

/-- Every field of a FLOWV send slot page (Tables 7.6, 7.10; R207). -/
def TXS.map : List Fld :=
  [TXS.INT_STAT_TX_NOSIG, TXS.INT_STAT_FMT_MISMATCH, TXS.INT_STAT_BAD_CFG, TXS.TX_CTRL_ANC_PKTS, TXS.TX_CTRL_CLS, TXS.TX_CTRL_IPV6, TXS.TX_CTRL_VLAN_EN, TXS.TX_CTRL_ANC_EN, TXS.TX_CTRL_DUAL, TXS.TX_CTRL_PM, TXS.TX_CTRL_TEN, TXS.TX_CTRL_EN, TXS.TX_PORT_PORT_B, TXS.TX_PORT_PORT_A, TXS.TX_PLEN_PLEN, TXS.TX_TRO_TRO, TXS.TX_STAT_NOSIG, TXS.TX_STAT_SENDING, TXS.TX_BW_KBPS, TXS.DST_MAC_LO_MAC, TXS.DST_MAC_HI_AUTO, TXS.DST_MAC_HI_MAC, TXS.UDP_ANC_DPORT_ANC, TXS.TAG_TTL] ++
  [TXS.TAG_DSCP, TXS.TAG_PCP, TXS.TAG_VID, TXS.DIAG_CLR, TXS.TX_PT_PT_ANC, TXS.TX_PT_PT_VID, TXS.TX_SSRC_VID_SSRC, TXS.TX_SSRC_ANC_SSRC, TXS.UDP_SPORT, TXS.UDP_DPORT_VID, TXS.DST_IP_IP, TXS.SRC_IP_IP, TXS.ANC_IP_IP, TXS.TX_PKT, TXS.TX_FRM, TXS.TX_LATE, TXS.TX_NOSIG_FRM, TXS.ANC_DROP]

/-! ### Fields of a FLOWV bay page (Table 7.7; R207) -/

def FVB.INT_STAT_BW_REFUSED : Fld := fld 0x00C 1 1 .w1c 0
def FVB.INT_STAT_BAD_CFG : Fld := fld 0x00C 0 1 .w1c 0
def FVB.PORT_BW_HELD_KBPS : Fld := arr 0x040 0 32 .ro 0 8 3
def FVB.PORT_BW_LIVE_KBPS : Fld := arr 0x044 0 32 .ro 0 8 3
def FVB.BW_REFUSE_VALID : Fld := fld 0x060 31 1 .w1c 0
def FVB.BW_REFUSE_PORT : Fld := fld 0x060 24 2 .ro 0
def FVB.BW_REFUSE_PAGE_NUM : Fld := fld 0x060 0 14 .ro 0
def FVB.BW_REQ_KBPS : Fld := fld 0x064 0 32 .ro 0

/-- Every field of a FLOWV bay page (Table 7.7; R207). -/
def FVB.map : List Fld :=
  [FVB.INT_STAT_BW_REFUSED, FVB.INT_STAT_BAD_CFG, FVB.PORT_BW_HELD_KBPS, FVB.PORT_BW_LIVE_KBPS, FVB.BW_REFUSE_VALID, FVB.BW_REFUSE_PORT, FVB.BW_REFUSE_PAGE_NUM, FVB.BW_REQ_KBPS]

/-! ### Fields of a FLOWV classification page (Table 7.10; R207) -/

def CLS.HIT : Fld := arr 0x310 0 32 .ro 0 4 256
def CLS.DIAG_CLR : Fld := fld 0x3FC 0 32 .wo 0
/-- Bit 0, as in the other FLOWV pages: R184 names the cause and no table places it. -/
def CLS.INT_STAT_BAD_CFG : Fld := fld 0x00C 0 1 .w1c 0
def CLS.CLS_IPCSUM : Fld := fld 0x300 0 32 .ro 0
def CLS.CLS_NOTARGET : Fld := fld 0x304 0 32 .ro 0
def CLS.CLS_DROP : Fld := fld 0x308 0 32 .ro 0

/-- Every field of a FLOWV classification page (Table 7.10; R207). -/
def CLS.map : List Fld :=
  [CLS.INT_STAT_BAD_CFG, CLS.HIT, CLS.DIAG_CLR, CLS.CLS_IPCSUM, CLS.CLS_NOTARGET, CLS.CLS_DROP]

/-! ### Fields of the TIME page (Tables 8.2 to 8.7; R228, R229) -/

def TIME.INT_STAT_BAD_CFG : Fld := fld 0x00C 9 1 .w1c 0
def TIME.INT_STAT_ADJ_IGNORED : Fld := fld 0x00C 8 1 .w1c 0
def TIME.INT_STAT_SNAP_MISS : Fld := fld 0x00C 7 1 .w1c 0
def TIME.INT_STAT_PPS_IN : Fld := fld 0x00C 6 1 .w1c 0
def TIME.INT_STAT_STEP_DONE_B : Fld := fld 0x00C 5 1 .w1c 0
def TIME.INT_STAT_STEP_DONE_A : Fld := fld 0x00C 4 1 .w1c 0
def TIME.INT_STAT_DOM_STATE_B : Fld := fld 0x00C 3 1 .w1c 0
def TIME.INT_STAT_DOM_STATE_A : Fld := fld 0x00C 2 1 .w1c 0
def TIME.INT_STAT_SLEW_DONE : Fld := fld 0x00C 1 1 .w1c 0
def TIME.INT_STAT_MT_SWITCH : Fld := fld 0x00C 0 1 .w1c 0
def TIME.TIME_CAP_CAP : Fld := fld 0x040 31 1 .wo 0
def TIME.CAP_SEC_LO_SEC : Fld := arr 0x050 0 32 .ro 0 16 3
def TIME.CAP_SEC_HI_FRAC : Fld := arr 0x054 16 16 .ro 0 16 3
def TIME.CAP_SEC_HI_SEC : Fld := arr 0x054 0 16 .ro 0 16 3
def TIME.CAP_NS_NS : Fld := arr 0x058 0 32 .ro 0 16 3
def TIME.STC_LIVE_LO_STC : Fld := fld 0x080 0 32 .ro 0
def TIME.STC_LIVE_HI_STC : Fld := fld 0x084 0 32 .ro 0
def TIME.MT_CTRL_SNAP : Fld := fld 0x200 20 12 .rws 0x3E8
def TIME.MT_CTRL_SLEW_RATE : Fld := fld 0x200 6 14 .rws 0x64
def TIME.MT_CTRL_SET : Fld := fld 0x200 2 1 .rws 0
def TIME.MT_CTRL_AUTO : Fld := fld 0x200 1 1 .rws 0
def TIME.MT_CTRL_SRC : Fld := fld 0x200 0 1 .rws 0
def TIME.MT_TARGET_TARGET : Fld := fld 0x204 0 32 .rws 0
def TIME.MT_STAT_AUTO_SW : Fld := fld 0x208 2 1 .ro 0
def TIME.MT_STAT_SLEWING : Fld := fld 0x208 1 1 .ro 0
def TIME.MT_STAT_SRC_LIVE : Fld := fld 0x208 0 1 .ro 0
def TIME.MT_OFF_LO_OFF : Fld := fld 0x20C 0 32 .ro 0
def TIME.MT_OFF_HI_OFF : Fld := fld 0x210 0 32 .ro 0
def TIME.PPS_OUT_CTRL_WIDTH : Fld := fld 0x300 8 8 .rws 0x64
def TIME.PPS_OUT_CTRL_SRC : Fld := fld 0x300 1 2 .rws 2
def TIME.PPS_OUT_CTRL_EN : Fld := fld 0x300 0 1 .rws 0
def TIME.PPS_OUT_OFS_OFS : Fld := fld 0x304 0 32 .rws 0
def TIME.PPS_IN_CTRL_FALL : Fld := fld 0x308 1 1 .rw 0
def TIME.PPS_IN_CTRL_EN : Fld := fld 0x308 0 1 .rw 0
def TIME.PPSI_VALID_VALID : Fld := fld 0x310 31 1 .w1c 0
def TIME.TS_LAT_RX_LAT : Fld := arr 0x400 0 16 .rw 0 8 48
def TIME.TS_LAT_TX_LAT : Fld := arr 0x404 0 16 .rw 0 8 48
def TIME.SNAP_MISS : Fld := fld 0x600 0 32 .ro 0
def TIME.MT_SW_CNT : Fld := fld 0x604 0 32 .ro 0
def TIME.PPSI_MISS : Fld := fld 0x608 0 32 .ro 0
def TIME.ADJ_IGN : Fld := fld 0x60C 0 32 .ro 0
def TIME.SYNC_RX : Fld := arr 0x610 0 32 .ro 0 4 2
def TIME.ANN_TIMEOUT : Fld := arr 0x618 0 32 .ro 0 4 2
def TIME.TS_DROP : Fld := fld 0x620 0 32 .ro 0
def TIME.DIAG_CLR : Fld := fld 0x6FC 0 32 .wo 0
def TIME.CAP_STC_LO_STC : Fld := fld 0x044 0 32 .ro 0
def TIME.CAP_STC_HI_STC : Fld := fld 0x048 0 32 .ro 0
def TIME.PPSI_STC_LO_STC : Fld := fld 0x314 0 32 .ro 0
def TIME.PPSI_STC_HI_STC : Fld := fld 0x318 0 32 .ro 0
def TIME.PPSI_NS_NS : Fld := arr 0x31C 0 32 .ro 0 4 3
def TIME.DOM_CFG_DOM_NUM : Fld := arr 0x100 8 8 .rws 0x7F 64 2
def TIME.DOM_CFG_OWNER : Fld := arr 0x100 7 1 .rws 0 64 2
def TIME.DOM_CFG_ONESTEP : Fld := arr 0x100 6 1 .rws 0 64 2
def TIME.DOM_CFG_TRANSPORT : Fld := arr 0x100 4 2 .rws 1 64 2
def TIME.DOM_CFG_DELAY : Fld := arr 0x100 3 1 .rws 0 64 2
def TIME.DOM_CFG_PROFILE : Fld := arr 0x100 1 2 .rws 0 64 2
def TIME.DOM_CFG_EN : Fld := arr 0x100 0 1 .rws 0 64 2
def TIME.DOM_PORTS_LO_PORTS : Fld := arr 0x104 0 32 .rws 0 64 2
def TIME.DOM_PORTS_HI_PORTS : Fld := arr 0x108 0 16 .rws 0 64 2
def TIME.DOM_ADJ_ADJ : Fld := arr 0x10C 0 32 .rw 0 64 2
def TIME.DOM_STEP_WHEN : Fld := arr 0x110 30 2 .rw 0 64 2
def TIME.DOM_STEP_UNIT : Fld := arr 0x110 29 1 .rw 0 64 2
def TIME.DOM_STEP_AMOUNT : Fld := arr 0x110 0 29 .rw 0 64 2
def TIME.DOM_STAT_PORT : Fld := arr 0x114 8 6 .ro 0 64 2
def TIME.DOM_STAT_ONESTEP_OFF : Fld := arr 0x114 5 1 .ro 0 64 2
def TIME.DOM_STAT_STEP_PEND : Fld := arr 0x114 4 1 .ro 0 64 2
def TIME.DOM_STAT_SERVO : Fld := arr 0x114 0 3 .ro 0 64 2
def TIME.DOM_UTC_UTC_OFF : Fld := arr 0x118 0 16 .ro 0x25 64 2
def TIME.DOM_OFFSET_OFS : Fld := arr 0x11C 0 32 .ro 0 64 2
def TIME.DOM_DELAY_DLY : Fld := arr 0x120 0 32 .ro 0 64 2

/-- Every field of the TIME page (Tables 8.2 to 8.7; R228, R229). -/
def TIME.map : List Fld :=
  [TIME.INT_STAT_BAD_CFG, TIME.INT_STAT_ADJ_IGNORED, TIME.INT_STAT_SNAP_MISS, TIME.INT_STAT_PPS_IN, TIME.INT_STAT_STEP_DONE_B, TIME.INT_STAT_STEP_DONE_A, TIME.INT_STAT_DOM_STATE_B, TIME.INT_STAT_DOM_STATE_A, TIME.INT_STAT_SLEW_DONE, TIME.INT_STAT_MT_SWITCH, TIME.TIME_CAP_CAP, TIME.CAP_SEC_LO_SEC, TIME.CAP_SEC_HI_FRAC, TIME.CAP_SEC_HI_SEC, TIME.CAP_NS_NS, TIME.STC_LIVE_LO_STC, TIME.STC_LIVE_HI_STC, TIME.MT_CTRL_SNAP, TIME.MT_CTRL_SLEW_RATE, TIME.MT_CTRL_SET, TIME.MT_CTRL_AUTO, TIME.MT_CTRL_SRC, TIME.MT_TARGET_TARGET, TIME.MT_STAT_AUTO_SW] ++
  [TIME.MT_STAT_SLEWING, TIME.MT_STAT_SRC_LIVE, TIME.MT_OFF_LO_OFF, TIME.MT_OFF_HI_OFF, TIME.PPS_OUT_CTRL_WIDTH, TIME.PPS_OUT_CTRL_SRC, TIME.PPS_OUT_CTRL_EN, TIME.PPS_OUT_OFS_OFS, TIME.PPS_IN_CTRL_FALL, TIME.PPS_IN_CTRL_EN, TIME.PPSI_VALID_VALID, TIME.TS_LAT_RX_LAT, TIME.TS_LAT_TX_LAT, TIME.SNAP_MISS, TIME.MT_SW_CNT, TIME.PPSI_MISS, TIME.ADJ_IGN, TIME.SYNC_RX, TIME.ANN_TIMEOUT, TIME.TS_DROP, TIME.DIAG_CLR, TIME.CAP_STC_LO_STC, TIME.CAP_STC_HI_STC, TIME.PPSI_STC_LO_STC] ++
  [TIME.PPSI_STC_HI_STC, TIME.PPSI_NS_NS, TIME.DOM_CFG_DOM_NUM, TIME.DOM_CFG_OWNER, TIME.DOM_CFG_ONESTEP, TIME.DOM_CFG_TRANSPORT, TIME.DOM_CFG_DELAY, TIME.DOM_CFG_PROFILE, TIME.DOM_CFG_EN, TIME.DOM_PORTS_LO_PORTS, TIME.DOM_PORTS_HI_PORTS, TIME.DOM_ADJ_ADJ, TIME.DOM_STEP_WHEN, TIME.DOM_STEP_UNIT, TIME.DOM_STEP_AMOUNT, TIME.DOM_STAT_PORT, TIME.DOM_STAT_ONESTEP_OFF, TIME.DOM_STAT_STEP_PEND, TIME.DOM_STAT_SERVO, TIME.DOM_UTC_UTC_OFF, TIME.DOM_OFFSET_OFS, TIME.DOM_DELAY_DLY]

/-! ### Fields of the REF page (Tables 9.8 to 9.12; R250) -/

def REF.INT_STAT_BAD_CFG : Fld := fld 0x00C 20 1 .w1c 0
def REF.INT_STAT_REFO_STEP : Fld := fld 0x00C 19 1 .w1c 0
def REF.INT_STAT_REFO_FLY : Fld := fld 0x00C 18 1 .w1c 0
def REF.INT_STAT_QUAL_GAINED : Fld := fld 0x00C 17 1 .w1c 0
def REF.INT_STAT_QUAL_LOST : Fld := fld 0x00C 16 1 .w1c 0
def REF.CAND_CFG_WTR : Fld := arr 0x040 20 12 .rws 0xC 4 27
def REF.CAND_CFG_AVG : Fld := arr 0x040 14 6 .rws 8 4 27
def REF.CAND_CFG_WIN : Fld := arr 0x040 6 8 .rws 0x3C 4 27
def REF.CAND_CFG_POL : Fld := arr 0x040 5 1 .rws 0 4 27
def REF.CAND_CFG_EN : Fld := arr 0x040 4 1 .rws 0 4 27
def REF.CAND_CFG_RATE : Fld := arr 0x040 0 4 .rws 3 4 27
def REF.CAND_OFS_OFS : Fld := arr 0x0B0 0 32 .rws 0 4 26
def REF.LMON_LANE : Fld := arr 0x120 0 10 .rws 0 4 16
def REF.CAND_STAT_LOST : Fld := arr 0x200 31 1 .w1c 0 8 27
def REF.CAND_STAT_WTR_LEFT : Fld := arr 0x200 16 12 .ro 0 8 27
def REF.CAND_STAT_WAITING : Fld := arr 0x200 5 1 .ro 0 8 27
def REF.CAND_STAT_QUAL : Fld := arr 0x200 4 1 .ro 0 8 27
def REF.CAND_STAT_FREQ_OK : Fld := arr 0x200 2 1 .ro 0 8 27
def REF.CAND_STAT_PER_OK : Fld := arr 0x200 1 1 .ro 0 8 27
def REF.CAND_STAT_ACT_OK : Fld := arr 0x200 0 1 .ro 0 8 27
def REF.CAND_FREQ_FREQ : Fld := arr 0x204 0 32 .ro 0 8 27
def REF.HOLD_FREQ_FREQ : Fld := arr 0x380 0 32 .ro 0 4 4
def REF.DPLL_FREQ_FREQ : Fld := arr 0x390 0 32 .ro 0 4 4
def REF.DPLL_PHERR_E : Fld := arr 0x3A0 0 32 .ro 0 4 4
def REF.REFO_CTRL_WIDTH : Fld := arr 0x400 16 16 .rws 0xA 8 8
def REF.REFO_CTRL_SRC : Fld := arr 0x400 8 6 .rws 0 8 8
def REF.REFO_CTRL_POL : Fld := arr 0x400 1 1 .rws 0 8 8
def REF.REFO_CTRL_EN : Fld := arr 0x400 0 1 .rws 0 8 8
def REF.REFO_OFS_OFS : Fld := arr 0x404 0 28 .rws 0 8 8
def REF.REFO_STAT_FLY : Fld := fld 0x440 0 8 .ro 0
def REF.QUAL_LOSS_CNT : Fld := arr 0x500 0 32 .ro 0 4 27
def REF.SEL_CNT : Fld := arr 0x580 0 32 .ro 0 4 4
def REF.REFI_PERIOD : Fld := arr 0x590 0 32 .ro 0 4 8
def REF.REFI_EDGE_ERR : Fld := arr 0x5B0 0 32 .ro 0 4 8
def REF.DIAG_CLR : Fld := fld 0x5FC 0 32 .wo 0
def REF.INT_STAT_HOLDOVER0 : Fld := fld 0x00C 3 1 .w1c 0
def REF.INT_STAT_DISAGREE0 : Fld := fld 0x00C 2 1 .w1c 0
def REF.INT_STAT_SEL_CHG0 : Fld := fld 0x00C 1 1 .w1c 0
def REF.INT_STAT_STATE_CHG0 : Fld := fld 0x00C 0 1 .w1c 0
def REF.INT_STAT_HOLDOVER1 : Fld := fld 0x00C 7 1 .w1c 0
def REF.INT_STAT_DISAGREE1 : Fld := fld 0x00C 6 1 .w1c 0
def REF.INT_STAT_SEL_CHG1 : Fld := fld 0x00C 5 1 .w1c 0
def REF.INT_STAT_STATE_CHG1 : Fld := fld 0x00C 4 1 .w1c 0
def REF.INT_STAT_HOLDOVER2 : Fld := fld 0x00C 11 1 .w1c 0
def REF.INT_STAT_DISAGREE2 : Fld := fld 0x00C 10 1 .w1c 0
def REF.INT_STAT_SEL_CHG2 : Fld := fld 0x00C 9 1 .w1c 0
def REF.INT_STAT_STATE_CHG2 : Fld := fld 0x00C 8 1 .w1c 0
def REF.INT_STAT_HOLDOVER3 : Fld := fld 0x00C 15 1 .w1c 0
def REF.INT_STAT_DISAGREE3 : Fld := fld 0x00C 14 1 .w1c 0
def REF.INT_STAT_SEL_CHG3 : Fld := fld 0x00C 13 1 .w1c 0
def REF.INT_STAT_STATE_CHG3 : Fld := fld 0x00C 12 1 .w1c 0
def REF.DPLL_CTRL_PULL_LIM : Fld := arr 0x300 16 16 .rws 0x64 32 4
def REF.DPLL_CTRL_LOCK_TOL : Fld := arr 0x300 8 8 .rws 0xA 32 4
def REF.DPLL_CTRL_ACQ_STEP : Fld := arr 0x300 1 1 .rws 0 32 4
def REF.DPLL_CTRL_REVERT : Fld := arr 0x300 0 1 .rws 1 32 4
def REF.DPLL_CTRL2_DIS_PH : Fld := arr 0x304 24 8 .rws 1 32 4
def REF.DPLL_CTRL2_DIS_THR : Fld := arr 0x304 8 16 .rws 0x64 32 4
def REF.DPLL_CTRL2_HO_AVG : Fld := arr 0x304 0 8 .rws 0x3C 32 4
def REF.PRIO : Fld := arr2 0x308 0 32 .rws 0 32 4 4 4
def REF.DPLL_STAT_DIS_LIVE : Fld := arr 0x318 16 1 .ro 0 32 4
def REF.DPLL_STAT_SEL : Fld := arr 0x318 8 5 .ro 0x1F 32 4
def REF.DPLL_STAT_STATE : Fld := arr 0x318 0 3 .ro 0 32 4
def REF.DPLL_HIST_HIST : Fld := arr 0x31C 0 6 .w1c 0 32 4

/-- Every field of the REF page (Tables 9.8 to 9.12; R250). -/
def REF.map : List Fld :=
  [REF.INT_STAT_BAD_CFG, REF.INT_STAT_REFO_STEP, REF.INT_STAT_REFO_FLY, REF.INT_STAT_QUAL_GAINED, REF.INT_STAT_QUAL_LOST, REF.CAND_CFG_WTR, REF.CAND_CFG_AVG, REF.CAND_CFG_WIN, REF.CAND_CFG_POL, REF.CAND_CFG_EN, REF.CAND_CFG_RATE, REF.CAND_OFS_OFS, REF.LMON_LANE, REF.CAND_STAT_LOST, REF.CAND_STAT_WTR_LEFT, REF.CAND_STAT_WAITING, REF.CAND_STAT_QUAL, REF.CAND_STAT_FREQ_OK, REF.CAND_STAT_PER_OK, REF.CAND_STAT_ACT_OK, REF.CAND_FREQ_FREQ, REF.HOLD_FREQ_FREQ, REF.DPLL_FREQ_FREQ, REF.DPLL_PHERR_E] ++
  [REF.REFO_CTRL_WIDTH, REF.REFO_CTRL_SRC, REF.REFO_CTRL_POL, REF.REFO_CTRL_EN, REF.REFO_OFS_OFS, REF.REFO_STAT_FLY, REF.QUAL_LOSS_CNT, REF.SEL_CNT, REF.REFI_PERIOD, REF.REFI_EDGE_ERR, REF.DIAG_CLR, REF.INT_STAT_HOLDOVER0, REF.INT_STAT_DISAGREE0, REF.INT_STAT_SEL_CHG0, REF.INT_STAT_STATE_CHG0, REF.INT_STAT_HOLDOVER1, REF.INT_STAT_DISAGREE1, REF.INT_STAT_SEL_CHG1, REF.INT_STAT_STATE_CHG1, REF.INT_STAT_HOLDOVER2, REF.INT_STAT_DISAGREE2, REF.INT_STAT_SEL_CHG2, REF.INT_STAT_STATE_CHG2, REF.INT_STAT_HOLDOVER3] ++
  [REF.INT_STAT_DISAGREE3, REF.INT_STAT_SEL_CHG3, REF.INT_STAT_STATE_CHG3, REF.DPLL_CTRL_PULL_LIM, REF.DPLL_CTRL_LOCK_TOL, REF.DPLL_CTRL_ACQ_STEP, REF.DPLL_CTRL_REVERT, REF.DPLL_CTRL2_DIS_PH, REF.DPLL_CTRL2_DIS_THR, REF.DPLL_CTRL2_HO_AVG, REF.PRIO, REF.DPLL_STAT_DIS_LIVE, REF.DPLL_STAT_SEL, REF.DPLL_STAT_STATE, REF.DPLL_HIST_HIST]

/-! ### Fields of a VTG page (Tables 9.13, 9.14; R251) -/

def VTG.INT_STAT_DPLL_UNLOCK : Fld := fld 0x00C 2 1 .w1c 0
def VTG.INT_STAT_REALIGN : Fld := fld 0x00C 1 1 .w1c 0
def VTG.INT_STAT_BAD_CFG : Fld := fld 0x00C 0 1 .w1c 0
def VTG.VTG_CTRL_FORMAT : Fld := fld 0x040 8 8 .rws 0x38
def VTG.VTG_CTRL_EN : Fld := fld 0x040 0 1 .rws 0
def VTG.VTG_OFS_OFS : Fld := fld 0x044 0 28 .rws 0
def VTG.VTG_STAT_LINE : Fld := fld 0x050 16 11 .ro 0
def VTG.VTG_STAT_GAP : Fld := fld 0x050 2 1 .ro 0
def VTG.VTG_STAT_DPLL : Fld := fld 0x050 1 1 .ro 0
def VTG.VTG_STAT_RUN : Fld := fld 0x050 0 1 .ro 0
def VTG.FRAME_CYC : Fld := fld 0x108 0 32 .ro 0
def VTG.REALIGN_CNT : Fld := fld 0x10C 0 32 .ro 0
def VTG.DIAG_CLR : Fld := fld 0x1FC 0 32 .wo 0
def VTG.TFRM_STC_LO : Fld := fld 0x100 0 32 .ro 0
def VTG.TFRM_STC_HI : Fld := fld 0x104 0 32 .ro 0

/-- Every field of a VTG page (Tables 9.13, 9.14; R251). -/
def VTG.map : List Fld :=
  [VTG.INT_STAT_DPLL_UNLOCK, VTG.INT_STAT_REALIGN, VTG.INT_STAT_BAD_CFG, VTG.VTG_CTRL_FORMAT, VTG.VTG_CTRL_EN, VTG.VTG_OFS_OFS, VTG.VTG_STAT_LINE, VTG.VTG_STAT_GAP, VTG.VTG_STAT_DPLL, VTG.VTG_STAT_RUN, VTG.FRAME_CYC, VTG.REALIGN_CNT, VTG.DIAG_CLR, VTG.TFRM_STC_LO, VTG.TFRM_STC_HI]

/-! ### Fields of the AUD page (Tables 10.6, 10.7, 10.9; R281) -/

def AUD.INT_STAT_METER_DONE : Fld := fld 0x00C 4 1 .w1c 0
def AUD.INT_STAT_SWAPPED : Fld := fld 0x00C 3 1 .w1c 0
def AUD.INT_STAT_CLIP : Fld := fld 0x00C 2 1 .w1c 0
def AUD.INT_STAT_SCARF_CUT : Fld := fld 0x00C 1 1 .w1c 0
def AUD.INT_STAT_BAD_CFG : Fld := fld 0x00C 0 1 .w1c 0
def AUD.AUD_CTRL_ALIGN_EN : Fld := fld 0x040 8 1 .rws 0
def AUD.AUD_CTRL_ALIGN_VTG : Fld := fld 0x040 0 5 .rws 0
def AUD.AUD_STAT_SCARFING : Fld := fld 0x048 0 17 .ro 0
def AUD.AUD_ENTRIES_E : Fld := fld 0x04C 0 16 .ro 0
def AUD.AUD_SWAP_SMP_SMP : Fld := fld 0x050 0 32 .ro 0
def AUD.METER_CMD_SNAP : Fld := fld 0x054 31 1 .wo 0
def AUD.AUD_GEN_EN : Fld := arr 0x080 31 1 .rws 0 8 64
def AUD.AUD_GEN_WAVE : Fld := arr 0x080 28 2 .rws 1 8 64
def AUD.AUD_GEN_FREQ : Fld := arr 0x080 0 16 .rws 0x3E8 8 64
def AUD.AUD_GEN_LVL_LEVEL : Fld := arr 0x084 0 16 .rws 0xF830 8 64
def AUD.CLIP_CNT : Fld := fld 0x300 0 32 .ro 0
def AUD.SCARF_CNT : Fld := fld 0x304 0 32 .ro 0
def AUD.SCARF_CUT_CNT : Fld := fld 0x308 0 32 .ro 0
def AUD.READ_PEAK : Fld := fld 0x30C 0 32 .ro 0
def AUD.DIAG_CLR : Fld := fld 0x3FC 0 32 .wo 0

/-- Every field of the AUD page (Tables 10.6, 10.7, 10.9; R281). -/
def AUD.map : List Fld :=
  [AUD.INT_STAT_METER_DONE, AUD.INT_STAT_SWAPPED, AUD.INT_STAT_CLIP, AUD.INT_STAT_SCARF_CUT, AUD.INT_STAT_BAD_CFG, AUD.AUD_CTRL_ALIGN_EN, AUD.AUD_CTRL_ALIGN_VTG, AUD.AUD_STAT_SCARFING, AUD.AUD_ENTRIES_E, AUD.AUD_SWAP_SMP_SMP, AUD.METER_CMD_SNAP, AUD.AUD_GEN_EN, AUD.AUD_GEN_WAVE, AUD.AUD_GEN_FREQ, AUD.AUD_GEN_LVL_LEVEL, AUD.CLIP_CNT, AUD.SCARF_CNT, AUD.SCARF_CUT_CNT, AUD.READ_PEAK, AUD.DIAG_CLR]

/-! ### Fields of a FLOWA receive page (Table 10.10; R282) -/

def FARX.INT_STAT_TX_LATE : Fld := fld 0x00C 9 1 .w1c 0
def FARX.INT_STAT_LATE : Fld := fld 0x00C 8 1 .w1c 0
def FARX.INT_STAT_FOREIGN : Fld := fld 0x00C 7 1 .w1c 0
def FARX.INT_STAT_PATH_BACK : Fld := fld 0x00C 6 1 .w1c 0
def FARX.INT_STAT_PATH_LOST : Fld := fld 0x00C 5 1 .w1c 0
def FARX.INT_STAT_FLOW_BACK : Fld := fld 0x00C 4 1 .w1c 0
def FARX.INT_STAT_FLOW_LOST : Fld := fld 0x00C 3 1 .w1c 0
def FARX.INT_STAT_TOK_REFUSED : Fld := fld 0x00C 1 1 .w1c 0
def FARX.INT_STAT_BAD_CFG : Fld := fld 0x00C 0 1 .w1c 0
def FARX.TOK_USE_HELD : Fld := fld 0x040 16 14 .ro 0
def FARX.TOK_USE_LIVE : Fld := fld 0x040 0 14 .ro 0
def FARX.LOST_MAP_LOST : Fld := arr 0x100 0 32 .ro 0 4 8
def FARX.FOREIGN_MAP_FOREIGN : Fld := arr 0x120 0 32 .ro 0 4 8
def FARX.FMT_ERR_COUNT : Fld := fld 0x300 0 32 .ro 0
def FARX.DIAG_CLR_CLR : Fld := fld 0x3FC 0 1 .wo 0
def FARX.INT_STAT_SLOT_CONFLICT : Fld := fld 0x00C 2 1 .w1c 0

/-- Every field of a FLOWA receive page (Table 10.10; R282). -/
def FARX.map : List Fld :=
  [FARX.INT_STAT_TX_LATE, FARX.INT_STAT_LATE, FARX.INT_STAT_FOREIGN, FARX.INT_STAT_PATH_BACK, FARX.INT_STAT_PATH_LOST, FARX.INT_STAT_FLOW_BACK, FARX.INT_STAT_FLOW_LOST, FARX.INT_STAT_TOK_REFUSED, FARX.INT_STAT_BAD_CFG, FARX.TOK_USE_HELD, FARX.TOK_USE_LIVE, FARX.LOST_MAP_LOST, FARX.FOREIGN_MAP_FOREIGN, FARX.FMT_ERR_COUNT, FARX.DIAG_CLR_CLR, FARX.INT_STAT_SLOT_CONFLICT]

/-! ### Fields of a FLOWA send page (Table 10.10; R282) -/

def FATX.INT_STAT_TX_LATE : Fld := fld 0x00C 9 1 .w1c 0
def FATX.INT_STAT_LATE : Fld := fld 0x00C 8 1 .w1c 0
def FATX.INT_STAT_FOREIGN : Fld := fld 0x00C 7 1 .w1c 0
def FATX.INT_STAT_PATH_BACK : Fld := fld 0x00C 6 1 .w1c 0
def FATX.INT_STAT_PATH_LOST : Fld := fld 0x00C 5 1 .w1c 0
def FATX.INT_STAT_FLOW_BACK : Fld := fld 0x00C 4 1 .w1c 0
def FATX.INT_STAT_FLOW_LOST : Fld := fld 0x00C 3 1 .w1c 0
def FATX.INT_STAT_TOK_REFUSED : Fld := fld 0x00C 1 1 .w1c 0
def FATX.INT_STAT_BAD_CFG : Fld := fld 0x00C 0 1 .w1c 0
def FATX.BURST_INFO_VALID : Fld := fld 0x040 31 1 .w1c 0
def FATX.BURST_INFO_PORT : Fld := fld 0x040 16 6 .ro 0
def FATX.BURST_INFO_NS : Fld := fld 0x040 0 16 .ro 0
def FATX.FMT_ERR_COUNT : Fld := fld 0x300 0 32 .ro 0
def FATX.DIAG_CLR_CLR : Fld := fld 0x3FC 0 1 .wo 0
def FATX.INT_STAT_BURST_REFUSED : Fld := fld 0x00C 2 1 .w1c 0

/-- Every field of a FLOWA send page (Table 10.10; R282). -/
def FATX.map : List Fld :=
  [FATX.INT_STAT_TX_LATE, FATX.INT_STAT_LATE, FATX.INT_STAT_FOREIGN, FATX.INT_STAT_PATH_BACK, FATX.INT_STAT_PATH_LOST, FATX.INT_STAT_FLOW_BACK, FATX.INT_STAT_FLOW_LOST, FATX.INT_STAT_TOK_REFUSED, FATX.INT_STAT_BAD_CFG, FATX.BURST_INFO_VALID, FATX.BURST_INFO_PORT, FATX.BURST_INFO_NS, FATX.FMT_ERR_COUNT, FATX.DIAG_CLR_CLR, FATX.INT_STAT_BURST_REFUSED]

/-! ### Fields of a TDM page (Tables 11.5 to 11.7; R303) -/

def TDM.INT_STAT_RATE_RANGE : Fld := fld 0x00C 10 1 .w1c 0
def TDM.INT_STAT_RATE_DRIFT : Fld := fld 0x00C 9 1 .w1c 0
def TDM.INT_STAT_RATE_CHANGED : Fld := fld 0x00C 8 1 .w1c 0
def TDM.INT_STAT_GLITCH : Fld := fld 0x00C 7 1 .w1c 0
def TDM.INT_STAT_CLK_BACK : Fld := fld 0x00C 6 1 .w1c 0
def TDM.INT_STAT_CLK_LOST : Fld := fld 0x00C 5 1 .w1c 0
def TDM.INT_STAT_SWAP_RISK : Fld := fld 0x00C 4 1 .w1c 0
def TDM.INT_STAT_STOPPED : Fld := fld 0x00C 3 1 .w1c 0
def TDM.INT_STAT_DATA_ON : Fld := fld 0x00C 2 1 .w1c 0
def TDM.INT_STAT_ASRC_CONFLICT : Fld := fld 0x00C 1 1 .w1c 0
def TDM.INT_STAT_BAD_CFG : Fld := fld 0x00C 0 1 .w1c 0
def TDM.TDM_CTRL_SLOTS : Fld := fld 0x040 8 3 .rws 5
def TDM.TDM_CTRL_PACK3 : Fld := fld 0x040 7 1 .rws 0
def TDM.TDM_CTRL_CAP_EN : Fld := fld 0x040 6 1 .rws 0
def TDM.TDM_CTRL_ASRC_EN : Fld := fld 0x040 5 1 .rws 0
def TDM.TDM_CTRL_R97 : Fld := fld 0x040 4 1 .rws 0
def TDM.TDM_CTRL_FMT : Fld := fld 0x040 2 2 .rws 0
def TDM.TDM_CTRL_MASTER : Fld := fld 0x040 1 1 .rws 0
def TDM.TDM_CTRL_EN : Fld := fld 0x040 0 1 .rws 0
def TDM.RX_MASK_MASK : Fld := fld 0x048 0 32 .rws 0
def TDM.TX_MASK_MASK : Fld := fld 0x04C 0 32 .rws 0
def TDM.TDM_PHASE_FS_PHASE : Fld := fld 0x050 0 15 .rws 0x948
def TDM.TDM_SEQ_POST : Fld := fld 0x054 16 13 .rws 0x1E0
def TDM.TDM_SEQ_PRE : Fld := fld 0x054 0 13 .rws 0x1E0
def TDM.TDM_ASRC_DLY : Fld := fld 0x058 16 7 .rws 0x20
def TDM.TDM_ASRC_TX_CH : Fld := fld 0x058 8 8 .rws 0
def TDM.TDM_ASRC_RX_CH : Fld := fld 0x058 0 8 .rws 0
def TDM.RATE_THR_THR : Fld := fld 0x05C 0 24 .rw 0x64
def TDM.TDM_CMD_RESTART : Fld := fld 0x060 31 1 .wo 0
def TDM.TDM_STAT_RATE_RANGE : Fld := fld 0x064 7 1 .ro 0
def TDM.TDM_STAT_SWAP_RISK : Fld := fld 0x064 6 1 .ro 0
def TDM.TDM_STAT_CLK_LOST : Fld := fld 0x064 5 1 .ro 0
def TDM.TDM_STAT_STATE : Fld := fld 0x064 0 3 .ro 0
def TDM.FRAME_RATE_RATE : Fld := fld 0x068 0 29 .ro 0
def TDM.BLK_CNT_BLK : Fld := fld 0x06C 0 32 .ro 0
def TDM.CAP_BASE_LO_BASE : Fld := fld 0x080 6 26 .rws 0
def TDM.CAP_BASE_HI_BASE : Fld := fld 0x084 0 3 .rws 0
def TDM.CAP_SIZE_SIZE : Fld := fld 0x088 0 28 .rws 0
def TDM.CAP_WPTR_WPTR : Fld := fld 0x08C 0 28 .ro 0
def TDM.STAMP_BASE_LO_BASE : Fld := fld 0x090 6 26 .rws 0
def TDM.STAMP_BASE_HI_BASE : Fld := fld 0x094 0 3 .rws 0
def TDM.STAMP_N_N : Fld := fld 0x098 0 5 .rws 4
def TDM.GLITCH_CNT : Fld := fld 0x300 0 32 .ro 0
def TDM.FIFO_UNDER : Fld := fld 0x304 0 32 .ro 0
def TDM.FIFO_OVER : Fld := fld 0x308 0 32 .ro 0
def TDM.CLK_LOST_CNT : Fld := fld 0x30C 0 32 .ro 0
def TDM.RATE_CHG_CNT : Fld := fld 0x310 0 32 .ro 0
def TDM.FIFO_LVL : Fld := fld 0x314 0 32 .ro 0
def TDM.DIAG_CLR : Fld := fld 0x3FC 0 32 .wo 0
def TDM.BLK_STC_LO_STC : Fld := fld 0x070 0 32 .ro 0
def TDM.BLK_STC_HI_STC : Fld := fld 0x074 0 32 .ro 0

/-- Every field of a TDM page (Tables 11.5 to 11.7; R303). -/
def TDM.map : List Fld :=
  [TDM.INT_STAT_RATE_RANGE, TDM.INT_STAT_RATE_DRIFT, TDM.INT_STAT_RATE_CHANGED, TDM.INT_STAT_GLITCH, TDM.INT_STAT_CLK_BACK, TDM.INT_STAT_CLK_LOST, TDM.INT_STAT_SWAP_RISK, TDM.INT_STAT_STOPPED, TDM.INT_STAT_DATA_ON, TDM.INT_STAT_ASRC_CONFLICT, TDM.INT_STAT_BAD_CFG, TDM.TDM_CTRL_SLOTS, TDM.TDM_CTRL_PACK3, TDM.TDM_CTRL_CAP_EN, TDM.TDM_CTRL_ASRC_EN, TDM.TDM_CTRL_R97, TDM.TDM_CTRL_FMT, TDM.TDM_CTRL_MASTER, TDM.TDM_CTRL_EN, TDM.RX_MASK_MASK, TDM.TX_MASK_MASK, TDM.TDM_PHASE_FS_PHASE, TDM.TDM_SEQ_POST, TDM.TDM_SEQ_PRE] ++
  [TDM.TDM_ASRC_DLY, TDM.TDM_ASRC_TX_CH, TDM.TDM_ASRC_RX_CH, TDM.RATE_THR_THR, TDM.TDM_CMD_RESTART, TDM.TDM_STAT_RATE_RANGE, TDM.TDM_STAT_SWAP_RISK, TDM.TDM_STAT_CLK_LOST, TDM.TDM_STAT_STATE, TDM.FRAME_RATE_RATE, TDM.BLK_CNT_BLK, TDM.CAP_BASE_LO_BASE, TDM.CAP_BASE_HI_BASE, TDM.CAP_SIZE_SIZE, TDM.CAP_WPTR_WPTR, TDM.STAMP_BASE_LO_BASE, TDM.STAMP_BASE_HI_BASE, TDM.STAMP_N_N, TDM.GLITCH_CNT, TDM.FIFO_UNDER, TDM.FIFO_OVER, TDM.CLK_LOST_CNT, TDM.RATE_CHG_CNT, TDM.FIFO_LVL] ++
  [TDM.DIAG_CLR, TDM.BLK_STC_LO_STC, TDM.BLK_STC_HI_STC]

/-! ### Fields of the ASRC page (Tables 11.8, 11.9; R304) -/

def ASRC.INT_STAT_ACQUIRED : Fld := fld 0x00C 1 1 .w1c 0
def ASRC.INT_STAT_TRACK_LOST : Fld := fld 0x00C 0 1 .w1c 0
def ASRC.ASRC_CTRL_TRACK_BW : Fld := fld 0x040 0 7 .rws 0x14
def ASRC.ASRC_USE_LIVE : Fld := fld 0x044 16 9 .ro 0
def ASRC.ASRC_USE_HELD : Fld := fld 0x044 0 9 .ro 0
def ASRC.ASRC_CH_STAT_KIND : Fld := arr 0x400 30 2 .ro 0 8 256
def ASRC.ASRC_CH_STAT_OWNER : Fld := arr 0x400 16 12 .ro 0 8 256
def ASRC.ASRC_CH_STAT_STATE : Fld := arr 0x400 0 3 .ro 0 8 256
def ASRC.ASRC_RATIO_RATIO : Fld := arr 0x404 0 32 .ro 0x1000000 8 256
def ASRC.ACQ_CNT : Fld := fld 0x300 0 32 .ro 0
def ASRC.TRACK_LOST_CNT : Fld := fld 0x304 0 32 .ro 0
def ASRC.DIAG_CLR : Fld := fld 0x3FC 0 32 .wo 0

/-- Every field of the ASRC page (Tables 11.8, 11.9; R304). -/
def ASRC.map : List Fld :=
  [ASRC.INT_STAT_ACQUIRED, ASRC.INT_STAT_TRACK_LOST, ASRC.ASRC_CTRL_TRACK_BW, ASRC.ASRC_USE_LIVE, ASRC.ASRC_USE_HELD, ASRC.ASRC_CH_STAT_KIND, ASRC.ASRC_CH_STAT_OWNER, ASRC.ASRC_CH_STAT_STATE, ASRC.ASRC_RATIO_RATIO, ASRC.ACQ_CNT, ASRC.TRACK_LOST_CNT, ASRC.DIAG_CLR]

end Sys2Proof.Machine
end

