-- ==== Sys2Proof/Machine/RegMapC.lean ====
section
/-! DEFINITION. The register fields of the pages of chapters 12 to 17, and of every table window. -/

namespace Sys2Proof.Machine

/-! ### Fields of an engine input page (Tables 12.2 to 12.4; R328) -/

def ENGI.INT_STAT_EDC_LOSS : Fld := fld 0x00C 5 1 .w1c 0
def ENGI.INT_STAT_FMT_CHG : Fld := fld 0x00C 4 1 .w1c 0
def ENGI.INT_STAT_PATH_CHG : Fld := fld 0x00C 3 1 .w1c 0
def ENGI.INT_STAT_FB_SHORT : Fld := fld 0x00C 2 1 .w1c 0
def ENGI.INT_STAT_LB_SHORT : Fld := fld 0x00C 1 1 .w1c 0
def ENGI.INT_STAT_REFUSED : Fld := fld 0x00C 0 1 .w1c 0
def ENGI.ENG_CTRL_OUT_VTG : Fld := fld 0x040 8 5 .rws 0
def ENGI.ENG_CTRL_OUT_MODE : Fld := fld 0x040 1 2 .rws 0
def ENGI.ENG_CTRL_EN : Fld := fld 0x040 0 1 .rws 0
def ENGI.ENG_MEM_SIZE : Fld := fld 0x048 16 15 .rws 0
def ENGI.ENG_MEM_BASE : Fld := fld 0x048 0 15 .rws 0
def ENGI.ENG_ERR_VALID : Fld := fld 0x04C 31 1 .w1c 0
def ENGI.ENG_ERR_CODE : Fld := fld 0x04C 24 4 .ro 0
def ENGI.ENG_ERR_LAYER : Fld := fld 0x04C 16 5 .ro 0
def ENGI.ENG_ERR_VAL_VAL : Fld := fld 0x050 0 32 .ro 0
def ENGI.ENG_STAT_IN_TEN : Fld := fld 0x054 20 5 .ro 0
def ENGI.ENG_STAT_OUT_TEN : Fld := fld 0x054 16 3 .ro 0
def ENGI.ENG_STAT_LB_HELD : Fld := fld 0x054 0 9 .ro 0
def ENGI.ENG_BW_MBPS : Fld := fld 0x058 0 32 .ro 0
def ENGI.ENG_MEM_USE_MIB : Fld := fld 0x05C 0 15 .ro 0
def ENGI.REPEAT_CNT : Fld := arr 0x400 0 32 .ro 0 4 16
def ENGI.DROP_CNT : Fld := arr 0x440 0 32 .ro 0 4 16
def ENGI.LAG_MIN : Fld := arr 0x480 0 32 .ro 0 4 16
def ENGI.EDC_LOSS_CNT : Fld := fld 0x4C0 0 32 .ro 0
def ENGI.DIAG_CLR : Fld := fld 0x4FC 0 32 .wo 0
def ENGI.LAYER_SRC_EN : Fld := arr 0x100 31 1 .rws 0 32 16
def ENGI.LAYER_SRC_KIND : Fld := arr 0x100 28 2 .rws 0 32 16
def ENGI.LAYER_SRC_FS_ONLY : Fld := arr 0x100 27 1 .rws 0 32 16
def ENGI.LAYER_SRC_SRC_FMT : Fld := arr 0x100 8 8 .rws 0x38 32 16
def ENGI.LAYER_SRC_GEN : Fld := arr 0x100 0 3 .rws 0 32 16
def ENGI.LAYER_CROP_CROP_H : Fld := arr 0x104 16 12 .rws 0 32 16
def ENGI.LAYER_CROP_CROP_W : Fld := arr 0x104 0 13 .rws 0 32 16
def ENGI.LAYER_OUT_OUT_H : Fld := arr 0x108 16 12 .rws 0 32 16
def ENGI.LAYER_OUT_OUT_W : Fld := arr 0x108 0 13 .rws 0 32 16
def ENGI.LAYER_SCL_COEF : Fld := arr 0x10C 4 2 .rws 0 32 16
def ENGI.LAYER_SCL_VTAPS8 : Fld := arr 0x10C 0 1 .rws 0 32 16
def ENGI.SURF_ADDR_ADDR : Fld := arr 0x110 0 29 .rws 0 32 16
def ENGI.SURF_FMT_FMT64 : Fld := arr 0x114 31 1 .rws 0 32 16
def ENGI.SURF_FMT_PITCH : Fld := arr 0x114 0 12 .rws 0 32 16
def ENGI.LAYER_STAT_DIRECT : Fld := arr 0x118 31 1 .ro 0 32 16
def ENGI.LAYER_STAT_FB_SHORT : Fld := arr 0x118 30 1 .ro 0 32 16
def ENGI.LAYER_STAT_LB_SHORT : Fld := arr 0x118 29 1 .ro 0 32 16
def ENGI.LAYER_STAT_DET_FMT : Fld := arr 0x118 16 8 .ro 0 32 16
def ENGI.LAYER_STAT_LB_ALLOC : Fld := arr 0x118 0 9 .ro 0 32 16
def ENGI.LAYER_FB_FB_BASE : Fld := arr 0x11C 0 15 .ro 0 32 16
def ENGI.H_COEF_C0 : Fld := arr2 0x800 0 10 .rws 0 16 64 4 4
def ENGI.H_COEF_C1 : Fld := arr2 0x800 16 10 .rws 0 16 64 4 4
def ENGI.V_COEF_C0 : Fld := arr2 0xC00 0 10 .rws 0 16 64 4 4
def ENGI.V_COEF_C1 : Fld := arr2 0xC00 16 10 .rws 0 16 64 4 4

/-- Every field of an engine input page (Tables 12.2 to 12.4; R328). -/
def ENGI.map : List Fld :=
  [ENGI.INT_STAT_EDC_LOSS, ENGI.INT_STAT_FMT_CHG, ENGI.INT_STAT_PATH_CHG, ENGI.INT_STAT_FB_SHORT, ENGI.INT_STAT_LB_SHORT, ENGI.INT_STAT_REFUSED, ENGI.ENG_CTRL_OUT_VTG, ENGI.ENG_CTRL_OUT_MODE, ENGI.ENG_CTRL_EN, ENGI.ENG_MEM_SIZE, ENGI.ENG_MEM_BASE, ENGI.ENG_ERR_VALID, ENGI.ENG_ERR_CODE, ENGI.ENG_ERR_LAYER, ENGI.ENG_ERR_VAL_VAL, ENGI.ENG_STAT_IN_TEN, ENGI.ENG_STAT_OUT_TEN, ENGI.ENG_STAT_LB_HELD, ENGI.ENG_BW_MBPS, ENGI.ENG_MEM_USE_MIB, ENGI.REPEAT_CNT, ENGI.DROP_CNT, ENGI.LAG_MIN, ENGI.EDC_LOSS_CNT] ++
  [ENGI.DIAG_CLR, ENGI.LAYER_SRC_EN, ENGI.LAYER_SRC_KIND, ENGI.LAYER_SRC_FS_ONLY, ENGI.LAYER_SRC_SRC_FMT, ENGI.LAYER_SRC_GEN, ENGI.LAYER_CROP_CROP_H, ENGI.LAYER_CROP_CROP_W, ENGI.LAYER_OUT_OUT_H, ENGI.LAYER_OUT_OUT_W, ENGI.LAYER_SCL_COEF, ENGI.LAYER_SCL_VTAPS8, ENGI.SURF_ADDR_ADDR, ENGI.SURF_FMT_FMT64, ENGI.SURF_FMT_PITCH, ENGI.LAYER_STAT_DIRECT, ENGI.LAYER_STAT_FB_SHORT, ENGI.LAYER_STAT_LB_SHORT, ENGI.LAYER_STAT_DET_FMT, ENGI.LAYER_STAT_LB_ALLOC, ENGI.LAYER_FB_FB_BASE, ENGI.H_COEF_C0, ENGI.H_COEF_C1, ENGI.V_COEF_C0] ++
  [ENGI.V_COEF_C1]

/-! ### Fields of an engine composition page (Tables 13.3, 13.4; R352) -/

def ENGC.INT_STAT_MISS_FILL : Fld := fld 0x00C 1 1 .w1c 0
def ENGC.INT_STAT_CACHE_DRAWN : Fld := fld 0x00C 0 1 .w1c 0
def ENGC.CACHE_STAT_VALID : Fld := arr 0x050 31 1 .ro 0 4 4
def ENGC.CACHE_STAT_BASE : Fld := arr 0x050 16 15 .ro 0 4 4
def ENGC.MISS_FILL_CNT : Fld := arr 0x400 0 32 .ro 0 4 16
def ENGC.CACHE_DRAW_CNT : Fld := arr 0x440 0 32 .ro 0 4 4
def ENGC.DIAG_CLR : Fld := fld 0x4FC 0 32 .wo 0
def ENGC.COMP_BG_CR : Fld := fld 0x040 20 10 .rws 0x200
def ENGC.COMP_BG_CB : Fld := fld 0x040 10 10 .rws 0x200
def ENGC.COMP_BG_Y : Fld := fld 0x040 0 10 .rws 0x40
def ENGC.COMP_ORDER_LO : Fld := fld 0x044 0 32 .rws 0x76543210
def ENGC.COMP_ORDER_HI : Fld := fld 0x048 0 32 .rws 0xFEDCBA98
def ENGC.CACHE_STAT_LAST : Fld := arr 0x050 8 4 .ro 0 4 4
def ENGC.CACHE_STAT_FIRST : Fld := arr 0x050 0 4 .ro 0 4 4
def ENGC.COMP_WIN_WIN_Y : Fld := arr 0x100 16 13 .rws 0 32 16
def ENGC.COMP_WIN_WIN_X : Fld := arr 0x100 0 13 .rws 0 32 16
def ENGC.COMP_CORG_CROP_Y : Fld := arr 0x104 16 12 .rws 0 32 16
def ENGC.COMP_CORG_CROP_X : Fld := arr 0x104 0 13 .rws 0 32 16
def ENGC.COMP_ALPHA_STATIC : Fld := arr 0x108 31 1 .rws 0 32 16
def ENGC.COMP_ALPHA_ROLE : Fld := arr 0x108 30 1 .rws 0 32 16
def ENGC.COMP_ALPHA_PREMUL : Fld := arr 0x108 29 1 .rws 0 32 16
def ENGC.COMP_ALPHA_ASRC : Fld := arr 0x108 24 2 .rws 0 32 16
def ENGC.COMP_ALPHA_KEY_LAYER : Fld := arr 0x108 16 4 .rws 0 32 16
def ENGC.COMP_ALPHA_GALPHA : Fld := arr 0x108 0 11 .rws 0x400 32 16
def ENGC.COMP_KEY_KEY_INV : Fld := arr 0x10C 31 1 .rws 0 32 16
def ENGC.COMP_KEY_KEY_HI : Fld := arr 0x10C 16 12 .rws 0xEB0 32 16
def ENGC.COMP_KEY_KEY_LO : Fld := arr 0x10C 0 12 .rws 0x100 32 16
def ENGC.COMP_FILL_CR : Fld := arr 0x110 20 10 .rws 0x200 32 16
def ENGC.COMP_FILL_CB : Fld := arr 0x110 10 10 .rws 0x200 32 16
def ENGC.COMP_FILL_Y : Fld := arr 0x110 0 10 .rws 0x40 32 16
def ENGC.COMP_MISS_MISS_LIM : Fld := arr 0x114 0 8 .rws 2 32 16
def ENGC.COMP_LSTAT_FILLED : Fld := arr 0x118 31 1 .ro 0 32 16
def ENGC.COMP_LSTAT_CACHE : Fld := arr 0x118 24 3 .ro 0 32 16
def ENGC.COMP_LSTAT_MISS : Fld := arr 0x118 0 8 .ro 0 32 16

/-- Every field of an engine composition page (Tables 13.3, 13.4; R352). -/
def ENGC.map : List Fld :=
  [ENGC.INT_STAT_MISS_FILL, ENGC.INT_STAT_CACHE_DRAWN, ENGC.CACHE_STAT_VALID, ENGC.CACHE_STAT_BASE, ENGC.MISS_FILL_CNT, ENGC.CACHE_DRAW_CNT, ENGC.DIAG_CLR, ENGC.COMP_BG_CR, ENGC.COMP_BG_CB, ENGC.COMP_BG_Y, ENGC.COMP_ORDER_LO, ENGC.COMP_ORDER_HI, ENGC.CACHE_STAT_LAST, ENGC.CACHE_STAT_FIRST, ENGC.COMP_WIN_WIN_Y, ENGC.COMP_WIN_WIN_X, ENGC.COMP_CORG_CROP_Y, ENGC.COMP_CORG_CROP_X, ENGC.COMP_ALPHA_STATIC, ENGC.COMP_ALPHA_ROLE, ENGC.COMP_ALPHA_PREMUL, ENGC.COMP_ALPHA_ASRC, ENGC.COMP_ALPHA_KEY_LAYER, ENGC.COMP_ALPHA_GALPHA] ++
  [ENGC.COMP_KEY_KEY_INV, ENGC.COMP_KEY_KEY_HI, ENGC.COMP_KEY_KEY_LO, ENGC.COMP_FILL_CR, ENGC.COMP_FILL_CB, ENGC.COMP_FILL_Y, ENGC.COMP_MISS_MISS_LIM, ENGC.COMP_LSTAT_FILLED, ENGC.COMP_LSTAT_CACHE, ENGC.COMP_LSTAT_MISS]

/-! ### Fields of an engine colour page (Table 13.5; R353) -/

def ENGL.CLR_CTRL_DEPTH : Fld := fld 0x040 16 2 .rws 1
def ENGL.CLR_CTRL_DITH_EN : Fld := fld 0x040 8 1 .rws 1
def ENGL.CLR_TF_L2_MODE : Fld := fld 0x044 4 2 .rws 0
def ENGL.CLR_TF_L1_MODE : Fld := fld 0x044 0 2 .rws 0
def ENGL.MAT_M_M : Fld := arr2 0x100 0 24 .rws 0 64 3 4 9
def ENGL.MAT_IOFF_IOFF : Fld := arr2 0x124 0 17 .rws 0 64 3 4 3
def ENGL.MAT_OOFF_OOFF : Fld := arr2 0x130 0 17 .rws 0 64 3 4 3
def ENGL.MAT_SH_SH : Fld := arr 0x13C 0 5 .rws 0x10 64 3
def ENGL.CLR_CTRL_BYP_A : Fld := fld 0x040 0 1 .rws 1
def ENGL.CLR_CTRL_BYP_L1 : Fld := fld 0x040 1 1 .rws 1
def ENGL.CLR_CTRL_BYP_B : Fld := fld 0x040 2 1 .rws 1
def ENGL.CLR_CTRL_BYP_L2 : Fld := fld 0x040 3 1 .rws 1
def ENGL.CLR_CTRL_BYP_3D : Fld := fld 0x040 4 1 .rws 1
def ENGL.CLR_CTRL_BYP_C : Fld := fld 0x040 5 1 .rws 1

/-- Every field of an engine colour page (Table 13.5; R353). -/
def ENGL.map : List Fld :=
  [ENGL.CLR_CTRL_DEPTH, ENGL.CLR_CTRL_DITH_EN, ENGL.CLR_TF_L2_MODE, ENGL.CLR_TF_L1_MODE, ENGL.MAT_M_M, ENGL.MAT_IOFF_IOFF, ENGL.MAT_OOFF_OOFF, ENGL.MAT_SH_SH, ENGL.CLR_CTRL_BYP_A, ENGL.CLR_CTRL_BYP_L1, ENGL.CLR_CTRL_BYP_B, ENGL.CLR_CTRL_BYP_L2, ENGL.CLR_CTRL_BYP_3D, ENGL.CLR_CTRL_BYP_C]

/-! ### Fields of the GMC page (Tables 12.5, 12.6; R329) -/

def GMC.INT_STAT_TRAIN_FAIL : Fld := fld 0x00C 4 1 .w1c 0
def GMC.INT_STAT_RETRAIN_DONE : Fld := fld 0x00C 3 1 .w1c 0
def GMC.INT_STAT_EDC_LOSS : Fld := fld 0x00C 2 1 .w1c 0
def GMC.INT_STAT_EDC_RETRY : Fld := fld 0x00C 1 1 .w1c 0
def GMC.INT_STAT_BW_REFUSED : Fld := fld 0x00C 0 1 .w1c 0
def GMC.GMC_STAT_READY : Fld := fld 0x040 31 1 .ro 0
def GMC.GMC_STAT_RATE : Fld := fld 0x040 24 2 .ro 0
def GMC.GMC_STAT_CH_OK : Fld := fld 0x040 0 24 .ro 0
def GMC.BW_BUDGET_MBPS : Fld := fld 0x044 0 32 .ro 0xAFC80
def GMC.BW_HELD_MBPS : Fld := fld 0x048 0 32 .ro 0
def GMC.BW_LIVE_MBPS : Fld := fld 0x04C 0 32 .ro 0
def GMC.BW_REFUSE_VALID : Fld := fld 0x050 31 1 .w1c 0
def GMC.BW_REFUSE_ENGINE : Fld := fld 0x050 16 6 .ro 0
def GMC.BW_REQ_MBPS : Fld := fld 0x054 0 32 .ro 0
def GMC.RETRAIN_CTRL_EN : Fld := fld 0x060 31 1 .rws 0
def GMC.RETRAIN_CTRL_VTG : Fld := fld 0x060 24 5 .rws 0
def GMC.RETRAIN_CTRL_LINE : Fld := fld 0x060 12 11 .rws 2
def GMC.RETRAIN_CTRL_INTERVAL : Fld := fld 0x060 0 12 .rws 0x3C
def GMC.RETRAIN_STAT_LAST_CH : Fld := fld 0x064 16 5 .ro 0
def GMC.RETRAIN_STAT_COUNT : Fld := fld 0x064 0 16 .ro 0
def GMC.EDC_RETRY : Fld := arr 0x100 0 32 .ro 0 4 24
def GMC.EDC_FAIL : Fld := arr 0x160 0 32 .ro 0 4 24
def GMC.TRAIN_RESULT : Fld := arr 0x1C0 0 32 .ro 0 4 24
def GMC.RD_BYTES : Fld := fld 0x220 0 32 .ro 0
def GMC.WR_BYTES : Fld := fld 0x224 0 32 .ro 0
def GMC.DIAG_CLR : Fld := fld 0x2FC 0 32 .wo 0

/-- Every field of the GMC page (Tables 12.5, 12.6; R329). -/
def GMC.map : List Fld :=
  [GMC.INT_STAT_TRAIN_FAIL, GMC.INT_STAT_RETRAIN_DONE, GMC.INT_STAT_EDC_LOSS, GMC.INT_STAT_EDC_RETRY, GMC.INT_STAT_BW_REFUSED, GMC.GMC_STAT_READY, GMC.GMC_STAT_RATE, GMC.GMC_STAT_CH_OK, GMC.BW_BUDGET_MBPS, GMC.BW_HELD_MBPS, GMC.BW_LIVE_MBPS, GMC.BW_REFUSE_VALID, GMC.BW_REFUSE_ENGINE, GMC.BW_REQ_MBPS, GMC.RETRAIN_CTRL_EN, GMC.RETRAIN_CTRL_VTG, GMC.RETRAIN_CTRL_LINE, GMC.RETRAIN_CTRL_INTERVAL, GMC.RETRAIN_STAT_LAST_CH, GMC.RETRAIN_STAT_COUNT, GMC.EDC_RETRY, GMC.EDC_FAIL, GMC.TRAIN_RESULT, GMC.RD_BYTES] ++
  [GMC.WR_BYTES, GMC.DIAG_CLR]

/-! ### Fields of the HIF page (Tables 14.6, 14.7; R381) -/

def HIF.INT_STAT_PCIE_DEGRADED : Fld := fld 0x00C 6 1 .w1c 0
def HIF.INT_STAT_PCIE_RESET : Fld := fld 0x00C 5 1 .w1c 0
def HIF.INT_STAT_PCIE_DOWN : Fld := fld 0x00C 4 1 .w1c 0
def HIF.INT_STAT_PCIE_UP : Fld := fld 0x00C 3 1 .w1c 0
def HIF.INT_STAT_MBX_REJECT : Fld := fld 0x00C 2 1 .w1c 0
def HIF.HIF_CTRL_PIN_EN : Fld := fld 0x040 0 1 .rw 0
def HIF.HIF_STAT_DEGRADED : Fld := fld 0x044 10 1 .ro 0
def HIF.HIF_STAT_MSIX_EN : Fld := fld 0x044 9 1 .ro 0
def HIF.HIF_STAT_LINK_UP : Fld := fld 0x044 8 1 .ro 0
def HIF.HIF_STAT_WIDTH : Fld := fld 0x044 4 3 .ro 0
def HIF.HIF_STAT_SPEED : Fld := fld 0x044 0 3 .ro 0
def HIF.HIF_EOI_VEC : Fld := fld 0x048 0 8 .wo 0
def HIF.HIF_REQ_ANY_ANY : Fld := fld 0x04C 0 1 .ro 0
def HIF.FW_HEARTBEAT_COUNT : Fld := fld 0x050 0 32 .ro 0
def HIF.BAR2_WIN_TGT : Fld := arr 0x060 31 1 .rw 0 4 4
def HIF.BAR2_WIN_BASE : Fld := arr 0x060 0 15 .rw 0 4 4
def HIF.VEC_REQ_REQ : Fld := arr 0x080 0 32 .ro 0 4 8
def HIF.VEC_INSVC_INSVC : Fld := arr 0x0A0 0 32 .ro 0 4 8
def HIF.MBX_CTRL_GO : Fld := arr 0x100 31 1 .wo 0 16 2
def HIF.MBX_CTRL_ABORT : Fld := arr 0x100 30 1 .wo 0 16 2
def HIF.MBX_STAT_DONE : Fld := arr 0x104 31 1 .w1c 0 16 2
def HIF.MBX_STAT_BUSY : Fld := arr 0x104 30 1 .ro 0 16 2
def HIF.MBX_STAT_FW_READY : Fld := arr 0x104 29 1 .ro 0 16 2
def HIF.MBX_STAT_TAG : Fld := arr 0x104 8 8 .ro 0 16 2
def HIF.MBX_STAT_REJECTS : Fld := arr 0x104 0 8 .ro 0 16 2
def HIF.MBX_REQ_WORD : Fld := arr2 0x200 0 32 .rw 0 512 2 4 64
def HIF.MBX_RSP_WORD : Fld := arr2 0x300 0 32 .ro 0 512 2 4 64
def HIF.PEND_PEND : Fld := arr 0x800 0 32 .ro 0 4 512
def HIF.TLP_RX : Fld := fld 0x600 0 32 .ro 0
def HIF.CA_CNT : Fld := fld 0x604 0 32 .ro 0
def HIF.UR_CNT : Fld := fld 0x608 0 32 .ro 0
def HIF.RETRAIN_CNT : Fld := fld 0x60C 0 32 .ro 0
def HIF.MSIX_SENT : Fld := fld 0x610 0 32 .ro 0
def HIF.DIAG_CLR : Fld := fld 0x6FC 0 32 .wo 0
def HIF.INT_STAT_MBX1_DONE : Fld := fld 0x00C 1 1 .w1c 0
def HIF.INT_STAT_MBX0_DONE : Fld := fld 0x00C 0 1 .w1c 0

/-- Every field of the HIF page (Tables 14.6, 14.7; R381). -/
def HIF.map : List Fld :=
  [HIF.INT_STAT_PCIE_DEGRADED, HIF.INT_STAT_PCIE_RESET, HIF.INT_STAT_PCIE_DOWN, HIF.INT_STAT_PCIE_UP, HIF.INT_STAT_MBX_REJECT, HIF.HIF_CTRL_PIN_EN, HIF.HIF_STAT_DEGRADED, HIF.HIF_STAT_MSIX_EN, HIF.HIF_STAT_LINK_UP, HIF.HIF_STAT_WIDTH, HIF.HIF_STAT_SPEED, HIF.HIF_EOI_VEC, HIF.HIF_REQ_ANY_ANY, HIF.FW_HEARTBEAT_COUNT, HIF.BAR2_WIN_TGT, HIF.BAR2_WIN_BASE, HIF.VEC_REQ_REQ, HIF.VEC_INSVC_INSVC, HIF.MBX_CTRL_GO, HIF.MBX_CTRL_ABORT, HIF.MBX_STAT_DONE, HIF.MBX_STAT_BUSY, HIF.MBX_STAT_FW_READY, HIF.MBX_STAT_TAG] ++
  [HIF.MBX_STAT_REJECTS, HIF.MBX_REQ_WORD, HIF.MBX_RSP_WORD, HIF.PEND_PEND, HIF.TLP_RX, HIF.CA_CNT, HIF.UR_CNT, HIF.RETRAIN_CNT, HIF.MSIX_SENT, HIF.DIAG_CLR, HIF.INT_STAT_MBX1_DONE, HIF.INT_STAT_MBX0_DONE]

/-! ### Fields of the BUSM page (Tables 14.8, 14.9; R382) -/

def BUSM.INT_STAT_AGED : Fld := fld 0x00C 3 1 .w1c 0
def BUSM.INT_STAT_MRESET : Fld := fld 0x00C 2 1 .w1c 0
def BUSM.INT_STAT_LOCK_BREAK : Fld := fld 0x00C 1 1 .w1c 0
def BUSM.INT_STAT_ACCESS_ERR : Fld := fld 0x00C 0 1 .w1c 0
def BUSM.AGE_LIM_CYC : Fld := fld 0x060 0 16 .rw 0x800
def BUSM.ERR_LOG_VALID : Fld := fld 0x080 31 1 .w1c 0
def BUSM.ERR_LOG_MASTER : Fld := fld 0x080 24 4 .ro 0
def BUSM.ERR_LOG_WRITE : Fld := fld 0x080 23 1 .ro 0
def BUSM.ERR_LOG_REASON : Fld := fld 0x080 20 3 .ro 0
def BUSM.ERR_LOG_SPACE : Fld := fld 0x080 18 2 .ro 0
def BUSM.ERR_LOG_TARGET : Fld := fld 0x080 0 3 .ro 0
def BUSM.LOCK_LOG_VALID : Fld := fld 0x090 31 1 .w1c 0
def BUSM.LOCK_LOG_MASTER : Fld := fld 0x090 24 4 .ro 0
def BUSM.LOCK_LOG_TARGET : Fld := fld 0x090 0 3 .ro 0
def BUSM.MRESET_LOG_VALID : Fld := fld 0x094 31 1 .w1c 0
def BUSM.MRESET_LOG_MASTER : Fld := fld 0x094 24 4 .ro 0
def BUSM.MRESET_LOG_NULLED : Fld := fld 0x094 12 8 .ro 0
def BUSM.MRESET_LOG_TARGET : Fld := fld 0x094 0 3 .ro 0
def BUSM.GRANT_CNT : Fld := arr 0x100 0 32 .ro 0 4 6
def BUSM.ERR_CNT : Fld := arr 0x120 0 32 .ro 0 4 9
def BUSM.AGED_CNT : Fld := fld 0x150 0 32 .ro 0
def BUSM.LOCK_BREAK_CNT : Fld := fld 0x154 0 32 .ro 0
def BUSM.MRESET_CNT : Fld := fld 0x158 0 32 .ro 0
def BUSM.WAIT_MAX : Fld := fld 0x15C 0 32 .ro 0
def BUSM.DIAG_CLR : Fld := fld 0x1FC 0 32 .wo 0
def BUSM.PRIO : Fld := arr 0x040 0 27 .rw 0x1DEDB54 4 6
def BUSM.ERR_ADDR_LO_ADDR : Fld := fld 0x084 0 32 .ro 0
def BUSM.ERR_ADDR_HI_ADDR : Fld := fld 0x088 0 32 .ro 0

/-- Every field of the BUSM page (Tables 14.8, 14.9; R382). -/
def BUSM.map : List Fld :=
  [BUSM.INT_STAT_AGED, BUSM.INT_STAT_MRESET, BUSM.INT_STAT_LOCK_BREAK, BUSM.INT_STAT_ACCESS_ERR, BUSM.AGE_LIM_CYC, BUSM.ERR_LOG_VALID, BUSM.ERR_LOG_MASTER, BUSM.ERR_LOG_WRITE, BUSM.ERR_LOG_REASON, BUSM.ERR_LOG_SPACE, BUSM.ERR_LOG_TARGET, BUSM.LOCK_LOG_VALID, BUSM.LOCK_LOG_MASTER, BUSM.LOCK_LOG_TARGET, BUSM.MRESET_LOG_VALID, BUSM.MRESET_LOG_MASTER, BUSM.MRESET_LOG_NULLED, BUSM.MRESET_LOG_TARGET, BUSM.GRANT_CNT, BUSM.ERR_CNT, BUSM.AGED_CNT, BUSM.LOCK_BREAK_CNT, BUSM.MRESET_CNT, BUSM.WAIT_MAX] ++
  [BUSM.DIAG_CLR, BUSM.PRIO, BUSM.ERR_ADDR_LO_ADDR, BUSM.ERR_ADDR_HI_ADDR]

/-! ### Fields of the KEY window (Tables 15.9, 15.10; R404) -/

def KEY.INT_STAT_ENTROPY_FAIL : Fld := fld 0x00C 5 1 .w1c 0
def KEY.INT_STAT_DEBUG_OPEN : Fld := fld 0x00C 4 1 .w1c 0
def KEY.INT_STAT_ORPHAN : Fld := fld 0x00C 3 1 .w1c 0
def KEY.INT_STAT_TAMPER : Fld := fld 0x00C 2 1 .w1c 0
def KEY.INT_STAT_REJECT : Fld := fld 0x00C 1 1 .w1c 0
def KEY.INT_STAT_CMD_DONE : Fld := fld 0x00C 0 1 .w1c 0
def KEY.KEY_CMD_GO : Fld := fld 0x040 31 1 .wo 0
def KEY.KEY_CMD_OP : Fld := fld 0x040 0 8 .rw 0
def KEY.KEY_STAT_DONE : Fld := fld 0x050 31 1 .w1c 0
def KEY.KEY_STAT_BUSY : Fld := fld 0x050 30 1 .ro 0
def KEY.KEY_STAT_REJECTS : Fld := fld 0x050 16 8 .ro 0
def KEY.KEY_STAT_STATUS : Fld := fld 0x050 0 16 .ro 0
def KEY.ROOT_STAT_TAMP_ACTIVE : Fld := fld 0x060 2 1 .ro 0
def KEY.ROOT_STAT_TEST : Fld := fld 0x060 1 1 .ro 0
def KEY.ROOT_STAT_VALID : Fld := fld 0x060 0 1 .ro 0
def KEY.ROOT_ID_ID : Fld := fld 0x064 0 32 .ro 0
def KEY.TAMP_STAT_COUNT : Fld := fld 0x068 16 16 .ro 0
def KEY.TAMP_STAT_CAUSE : Fld := fld 0x068 0 7 .w1c 0
def KEY.LC_STAT_ID_EPOCH : Fld := fld 0x070 16 4 .ro 0
def KEY.LC_STAT_ID_PRESENT : Fld := fld 0x070 4 1 .ro 0
def KEY.LC_STAT_DBG_OPEN : Fld := fld 0x070 3 1 .ro 0
def KEY.LC_STAT_LC : Fld := fld 0x070 0 3 .ro 0
def KEY.RB_CNT_CNT : Fld := arr 0x090 0 7 .ro 0 4 4
def KEY.NODE_STAT_DEFINED : Fld := arr 0x100 31 1 .ro 0 4 64
def KEY.NODE_STAT_ATTR : Fld := arr 0x100 28 2 .ro 0 4 64
def KEY.NODE_STAT_PARENT : Fld := arr 0x100 16 7 .ro 0 4 64
def KEY.NODE_STAT_GEN : Fld := arr 0x100 0 16 .ro 0 4 64
def KEY.SLOT_STAT_FULL : Fld := arr 0x400 31 1 .ro 0 4 512
def KEY.SLOT_STAT_ORIGIN : Fld := arr 0x400 28 2 .ro 0 4 512
def KEY.SLOT_STAT_ATTR : Fld := arr 0x400 26 2 .ro 0 4 512
def KEY.SLOT_STAT_LEN : Fld := arr 0x400 25 1 .ro 0 4 512
def KEY.SLOT_STAT_NODE : Fld := arr 0x400 16 6 .ro 0 4 512
def KEY.SLOT_STAT_LGEN : Fld := arr 0x400 0 16 .ro 0 4 512
def KEY.KEY_BUF_DATA : Fld := arr 0xC00 0 32 .rw 0 4 256
def KEY.CMD_CNT : Fld := fld 0x300 0 32 .ro 0
def KEY.CMD_FAIL : Fld := fld 0x304 0 32 .ro 0
def KEY.LOAD_ORPHAN : Fld := fld 0x308 0 32 .ro 0
def KEY.SIG_FAIL : Fld := fld 0x30C 0 32 .ro 0
def KEY.DRBG_RESEED : Fld := fld 0x310 0 32 .ro 0
def KEY.DIAG_CLR : Fld := fld 0x3FC 0 32 .wo 0
def KEY.KEY_ARG_ARG : Fld := arr 0x044 0 32 .rw 0 4 3
def KEY.KEY_RSP_RSP : Fld := arr 0x054 0 32 .ro 0 4 2
def KEY.TAMP_CFG : Fld := fld 0x06C 0 8 .ro 0
def KEY.UNIQUE_ID_LO_ID : Fld := fld 0x080 0 32 .ro 0
def KEY.UNIQUE_ID_HI_ID : Fld := fld 0x084 0 32 .ro 0
def KEY.KEYHASH_STAT_REVOKED : Fld := fld 0x088 4 4 .ro 0
def KEY.KEYHASH_STAT_WRITTEN : Fld := fld 0x088 0 4 .ro 0

/-- Every field of the KEY window (Tables 15.9, 15.10; R404). -/
def KEY.map : List Fld :=
  [KEY.INT_STAT_ENTROPY_FAIL, KEY.INT_STAT_DEBUG_OPEN, KEY.INT_STAT_ORPHAN, KEY.INT_STAT_TAMPER, KEY.INT_STAT_REJECT, KEY.INT_STAT_CMD_DONE, KEY.KEY_CMD_GO, KEY.KEY_CMD_OP, KEY.KEY_STAT_DONE, KEY.KEY_STAT_BUSY, KEY.KEY_STAT_REJECTS, KEY.KEY_STAT_STATUS, KEY.ROOT_STAT_TAMP_ACTIVE, KEY.ROOT_STAT_TEST, KEY.ROOT_STAT_VALID, KEY.ROOT_ID_ID, KEY.TAMP_STAT_COUNT, KEY.TAMP_STAT_CAUSE, KEY.LC_STAT_ID_EPOCH, KEY.LC_STAT_ID_PRESENT, KEY.LC_STAT_DBG_OPEN, KEY.LC_STAT_LC, KEY.RB_CNT_CNT, KEY.NODE_STAT_DEFINED] ++
  [KEY.NODE_STAT_ATTR, KEY.NODE_STAT_PARENT, KEY.NODE_STAT_GEN, KEY.SLOT_STAT_FULL, KEY.SLOT_STAT_ORIGIN, KEY.SLOT_STAT_ATTR, KEY.SLOT_STAT_LEN, KEY.SLOT_STAT_NODE, KEY.SLOT_STAT_LGEN, KEY.KEY_BUF_DATA, KEY.CMD_CNT, KEY.CMD_FAIL, KEY.LOAD_ORPHAN, KEY.SIG_FAIL, KEY.DRBG_RESEED, KEY.DIAG_CLR, KEY.KEY_ARG_ARG, KEY.KEY_RSP_RSP, KEY.TAMP_CFG, KEY.UNIQUE_ID_LO_ID, KEY.UNIQUE_ID_HI_ID, KEY.KEYHASH_STAT_REVOKED, KEY.KEYHASH_STAT_WRITTEN]

/-! ### Fields of the UPD page (Tables 16.9, 16.10; R426) -/

def UPD.INT_STAT_CAL_BAD : Fld := fld 0x00C 4 1 .w1c 0
def UPD.INT_STAT_REVERTED : Fld := fld 0x00C 3 1 .w1c 0
def UPD.INT_STAT_SESSION_BUSY : Fld := fld 0x00C 2 1 .w1c 0
def UPD.INT_STAT_REJECT : Fld := fld 0x00C 1 1 .w1c 0
def UPD.INT_STAT_CMD_DONE : Fld := fld 0x00C 0 1 .w1c 0
def UPD.UPD_CMD_GO : Fld := arr 0x040 31 1 .wo 0 32 2
def UPD.UPD_CMD_OP : Fld := arr 0x040 0 8 .rw 0 32 2
def UPD.UPD_STAT_DONE : Fld := arr 0x04C 31 1 .w1c 0 32 2
def UPD.UPD_STAT_BUSY : Fld := arr 0x04C 30 1 .ro 0 32 2
def UPD.UPD_STAT_REJECTS : Fld := arr 0x04C 16 8 .ro 0 32 2
def UPD.UPD_STAT_STATUS : Fld := arr 0x04C 0 16 .ro 0 32 2
def UPD.UPD_RSP0_RSP : Fld := arr 0x050 0 32 .ro 0 32 2
def UPD.UPD_SESS_OPEN : Fld := fld 0x080 31 1 .ro 0
def UPD.UPD_SESS_OWNER : Fld := fld 0x080 24 1 .ro 0
def UPD.UPD_SESS_MANIFEST : Fld := fld 0x080 16 1 .ro 0
def UPD.UPD_SESS_STAGED : Fld := fld 0x080 0 4 .ro 0
def UPD.BOOT_STAT_RESET_CAUSE : Fld := fld 0x084 12 4 .ro 0
def UPD.BOOT_STAT_RECOVERY : Fld := fld 0x084 10 1 .ro 0
def UPD.BOOT_STAT_REVERTED : Fld := fld 0x084 9 1 .ro 0
def UPD.BOOT_STAT_TRIAL : Fld := fld 0x084 8 1 .ro 0
def UPD.BOOT_STAT_PHASE : Fld := fld 0x084 0 4 .ro 1
def UPD.BOOT_TIME_MS : Fld := fld 0x08C 0 16 .ro 0
def UPD.BOOT_WD_LEFT_S : Fld := fld 0x090 0 12 .ro 0
def UPD.RUN_VER_VERSION : Fld := arr 0x0A0 0 32 .ro 0 4 4
def UPD.RUN_SVN_SVN : Fld := arr 0x0B0 0 7 .ro 0 4 4
def UPD.STAGED_VER_VERSION : Fld := arr 0x0C0 0 32 .ro 0 4 4
def UPD.UPD_BUF_DATA : Fld := arr 0x800 0 32 .rw 0 4 512
def UPD.BOOT_CNT : Fld := fld 0x300 0 32 .ro 0
def UPD.REVERT_CNT : Fld := fld 0x304 0 32 .ro 0
def UPD.STAGE_FAIL : Fld := fld 0x308 0 32 .ro 0
def UPD.FLASH_ERR : Fld := fld 0x30C 0 32 .ro 0
def UPD.MIG_CNT : Fld := fld 0x310 0 32 .ro 0
def UPD.DIAG_CLR : Fld := fld 0x3FC 0 32 .wo 0
def UPD.UPD_ARG0_ARG : Fld := arr 0x044 0 32 .rw 0 32 2
def UPD.UPD_ARG1_ARG : Fld := arr 0x048 0 32 .rw 0 32 2
def UPD.BOOT_SEL_PREV : Fld := fld 0x088 8 4 .ro 0
def UPD.BOOT_SEL_NEXT : Fld := fld 0x088 4 4 .ro 0
def UPD.BOOT_SEL_SEL : Fld := fld 0x088 0 4 .ro 0

/-- Every field of the UPD page (Tables 16.9, 16.10; R426). -/
def UPD.map : List Fld :=
  [UPD.INT_STAT_CAL_BAD, UPD.INT_STAT_REVERTED, UPD.INT_STAT_SESSION_BUSY, UPD.INT_STAT_REJECT, UPD.INT_STAT_CMD_DONE, UPD.UPD_CMD_GO, UPD.UPD_CMD_OP, UPD.UPD_STAT_DONE, UPD.UPD_STAT_BUSY, UPD.UPD_STAT_REJECTS, UPD.UPD_STAT_STATUS, UPD.UPD_RSP0_RSP, UPD.UPD_SESS_OPEN, UPD.UPD_SESS_OWNER, UPD.UPD_SESS_MANIFEST, UPD.UPD_SESS_STAGED, UPD.BOOT_STAT_RESET_CAUSE, UPD.BOOT_STAT_RECOVERY, UPD.BOOT_STAT_REVERTED, UPD.BOOT_STAT_TRIAL, UPD.BOOT_STAT_PHASE, UPD.BOOT_TIME_MS, UPD.BOOT_WD_LEFT_S, UPD.RUN_VER_VERSION] ++
  [UPD.RUN_SVN_SVN, UPD.STAGED_VER_VERSION, UPD.UPD_BUF_DATA, UPD.BOOT_CNT, UPD.REVERT_CNT, UPD.STAGE_FAIL, UPD.FLASH_ERR, UPD.MIG_CNT, UPD.DIAG_CLR, UPD.UPD_ARG0_ARG, UPD.UPD_ARG1_ARG, UPD.BOOT_SEL_PREV, UPD.BOOT_SEL_NEXT, UPD.BOOT_SEL_SEL]

/-! ### Fields of the EVR page (Tables 17.8, 17.9; R446) -/

def EVR.INT_STAT_CLR_REJECT : Fld := fld 0x00C 3 1 .w1c 0
def EVR.INT_STAT_CLEARED : Fld := fld 0x00C 2 1 .w1c 0
def EVR.INT_STAT_OVERWRITE : Fld := fld 0x00C 1 1 .w1c 0
def EVR.INT_STAT_RECORD : Fld := fld 0x00C 0 1 .w1c 0
def EVR.EVR_HEAD_SEQ : Fld := fld 0x040 0 32 .ro 0
def EVR.EVR_TAIL_SEQ : Fld := fld 0x044 0 32 .ro 0
def EVR.EVR_CLR_ARM : Fld := fld 0x048 31 1 .wo 0
def EVR.EVR_CLR_CLEAR : Fld := fld 0x048 30 1 .wo 0
def EVR.EVR_STAT_ARM_MASTER : Fld := fld 0x04C 8 1 .ro 0
def EVR.EVR_STAT_ARMED : Fld := fld 0x04C 0 1 .ro 0
def EVR.EVR_CURSOR_SEQ : Fld := arr 0x050 0 32 .rw 0 64 2
def EVR.EVR_CSTAT_SKIPPED : Fld := arr 0x054 1 1 .w1c 0 64 2
def EVR.EVR_CSTAT_VALID : Fld := arr 0x054 0 1 .ro 0 64 2
def EVR.EVR_WIN_WORD : Fld := arr2 0x060 0 32 .ro 0 64 2 4 8
def EVR.REC_CNT : Fld := fld 0x300 0 32 .ro 0
def EVR.REPEAT_CNT : Fld := fld 0x304 0 32 .ro 0
def EVR.OVERWRITE_CNT : Fld := fld 0x308 0 32 .ro 0
def EVR.CLR_REJ_CNT : Fld := fld 0x30C 0 32 .ro 0
def EVR.LOST_CNT : Fld := fld 0x310 0 32 .ro 0
def EVR.DIAG_CLR : Fld := fld 0x3FC 0 32 .wo 0

/-- Every field of the EVR page (Tables 17.8, 17.9; R446). -/
def EVR.map : List Fld :=
  [EVR.INT_STAT_CLR_REJECT, EVR.INT_STAT_CLEARED, EVR.INT_STAT_OVERWRITE, EVR.INT_STAT_RECORD, EVR.EVR_HEAD_SEQ, EVR.EVR_TAIL_SEQ, EVR.EVR_CLR_ARM, EVR.EVR_CLR_CLEAR, EVR.EVR_STAT_ARM_MASTER, EVR.EVR_STAT_ARMED, EVR.EVR_CURSOR_SEQ, EVR.EVR_CSTAT_SKIPPED, EVR.EVR_CSTAT_VALID, EVR.EVR_WIN_WORD, EVR.REC_CNT, EVR.REPEAT_CNT, EVR.OVERWRITE_CNT, EVR.CLR_REJ_CNT, EVR.LOST_CNT, EVR.DIAG_CLR]

/-! ### Fields of the BBX page (Tables 17.10, 17.11; R447) -/

def BBX.INT_STAT_ERASED : Fld := fld 0x00C 4 1 .w1c 0
def BBX.INT_STAT_WRITE_FAIL : Fld := fld 0x00C 3 1 .w1c 0
def BBX.INT_STAT_WRAP : Fld := fld 0x00C 2 1 .w1c 0
def BBX.INT_STAT_REJECT : Fld := fld 0x00C 1 1 .w1c 0
def BBX.INT_STAT_CMD_DONE : Fld := fld 0x00C 0 1 .w1c 0
def BBX.BBX_CMD_GO : Fld := arr 0x040 31 1 .wo 0 32 2
def BBX.BBX_CMD_OP : Fld := arr 0x040 0 8 .rw 0 32 2
def BBX.BBX_STAT_DONE : Fld := arr 0x04C 31 1 .w1c 0 32 2
def BBX.BBX_STAT_BUSY : Fld := arr 0x04C 30 1 .ro 0 32 2
def BBX.BBX_STAT_REJECTS : Fld := arr 0x04C 16 8 .ro 0 32 2
def BBX.BBX_STAT_STATUS : Fld := arr 0x04C 0 16 .ro 0 32 2
def BBX.BBX_RSP0_RSP : Fld := arr 0x050 0 32 .ro 0 32 2
def BBX.BBX_HEAD_SEQ : Fld := fld 0x0A0 0 32 .ro 0
def BBX.BBX_TAIL_SEQ : Fld := fld 0x0A4 0 32 .ro 0
def BBX.BBX_PEND_N : Fld := fld 0x0A8 0 9 .ro 0
def BBX.BBX_BUF_DATA : Fld := arr2 0x400 0 32 .rw 0 1024 2 4 256
def BBX.ENTRY_CNT : Fld := fld 0x300 0 32 .ro 0
def BBX.WRAP_CNT : Fld := fld 0x304 0 32 .ro 0
def BBX.LOST_ENT : Fld := fld 0x308 0 32 .ro 0
def BBX.SECT_FAIL : Fld := fld 0x30C 0 32 .ro 0
def BBX.ERASE_CNT : Fld := fld 0x310 0 32 .ro 0
def BBX.DIAG_CLR : Fld := fld 0x3FC 0 32 .wo 0
def BBX.BBX_ARG0_ARG : Fld := arr 0x044 0 32 .rw 0 32 2
def BBX.BBX_ARG1_ARG : Fld := arr 0x048 0 32 .rw 0 32 2

/-- Every field of the BBX page (Tables 17.10, 17.11; R447). -/
def BBX.map : List Fld :=
  [BBX.INT_STAT_ERASED, BBX.INT_STAT_WRITE_FAIL, BBX.INT_STAT_WRAP, BBX.INT_STAT_REJECT, BBX.INT_STAT_CMD_DONE, BBX.BBX_CMD_GO, BBX.BBX_CMD_OP, BBX.BBX_STAT_DONE, BBX.BBX_STAT_BUSY, BBX.BBX_STAT_REJECTS, BBX.BBX_STAT_STATUS, BBX.BBX_RSP0_RSP, BBX.BBX_HEAD_SEQ, BBX.BBX_TAIL_SEQ, BBX.BBX_PEND_N, BBX.BBX_BUF_DATA, BBX.ENTRY_CNT, BBX.WRAP_CNT, BBX.LOST_ENT, BBX.SECT_FAIL, BBX.ERASE_CNT, BBX.DIAG_CLR, BBX.BBX_ARG0_ARG, BBX.BBX_ARG1_ARG]

/-! ### Fields of the table windows and the MSI-X table, at absolute BAR0 addresses (Tables 4.3, 5.5, 5.8, 7.8, 7.9, 10.8, 10.11, 10.12, 13.6, 14.1; R355, R381) -/

def TBL.XBP_ROUTE_SER : Fld := arr 0x2000000 31 1 .rws 0 4 1024
def TBL.XBP_ROUTE_VTG : Fld := arr 0x2000000 24 5 .rws 0 4 1024
def TBL.XBP_ROUTE_SRC : Fld := arr 0x2000000 0 11 .rws 0x7FF 4 1024
def TBL.XWP_ROUTE_VTG : Fld := arr 0x2002000 16 5 .rws 0 4 2048
def TBL.XWP_ROUTE_SRC : Fld := arr 0x2002000 0 12 .rws 0x800 4 2048
def TBL.XWP_PATH_PLACED : Fld := arr 0x2006000 31 1 .ro 0 4 2048
def TBL.XWP_PATH_MID : Fld := arr 0x2006000 0 6 .ro 0 4 2048
def TBL.XWP_EMB_MODE : Fld := arr 0x2008000 8 2 .rws 0 4 2048
def TBL.XWP_EMB_GRP_EN : Fld := arr 0x2008000 4 4 .rws 0 4 2048
def TBL.XWP_EMB_GSET : Fld := arr 0x2008000 1 1 .rws 0 4 2048
def TBL.XWP_EMB_EN : Fld := arr 0x2008000 0 1 .rws 0 4 2048
def TBL.XWP_REGEN_PID_MODE : Fld := arr 0x200A000 1 2 .rws 0 8 1024
def TBL.XWP_REGEN_LN_RENUM : Fld := arr 0x200A000 0 1 .rws 0 8 1024
def TBL.XWP_PID_PID : Fld := arr 0x200A004 0 32 .rws 0 8 1024
def TBL.XWP_DEEMB_GRP_EN : Fld := arr 0x2014000 4 4 .rws 0 4 2048
def TBL.XWP_DEEMB_GSET : Fld := arr 0x2014000 1 1 .rws 0 4 2048
def TBL.XWP_DEEMB_EN : Fld := arr 0x2014000 0 1 .rws 0 4 2048
def TBL.XWP_GEN_VTG : Fld := arr 0x2016000 8 5 .rws 0 4 64
def TBL.XWP_GEN_PAT : Fld := arr 0x2016000 4 3 .rws 0 4 64
def TBL.XWP_GEN_TEN : Fld := arr 0x2016000 1 2 .rws 0 4 64
def TBL.XWP_GEN_EN : Fld := arr 0x2016000 0 1 .rws 0 4 64
def TBL.FLOWV_TXSEL_VTG : Fld := arr 0x2020000 16 5 .rws 0 4 1024
def TBL.FLOWV_TXSEL_SRC : Fld := arr 0x2020000 0 2 .rws 0 4 1024
def TBL.AUD_ROUTE_P96 : Fld := arr 0x2050000 27 1 .rws 0 8 53248
def TBL.AUD_ROUTE_DATA : Fld := arr 0x2050000 26 1 .rws 0 8 53248
def TBL.AUD_ROUTE_POL : Fld := arr 0x2050000 25 1 .rws 0 8 53248
def TBL.AUD_ROUTE_MUTE : Fld := arr 0x2050000 24 1 .rws 0 8 53248
def TBL.AUD_ROUTE_SCARF : Fld := arr 0x2050000 16 7 .rws 0x20 8 53248
def TBL.AUD_ROUTE_SRC : Fld := arr 0x2050000 0 16 .rws 0xFFFF 8 53248
def TBL.AUD_ROUTE_GAIN : Fld := arr 0x2050004 0 24 .rws 0x400000 8 53248
def TBL.METER_SNAPV_SPK : Fld := arr 0x2130000 0 24 .ro 0 8 2048
def TBL.METER_SNAPV_TPK : Fld := arr 0x2130004 0 16 .ro 0x8000 8 2048
def TBL.XWP_SRC_TMAP_V : Fld := arr2 0x200C000 31 1 .rws 0 1024 16 4 136
def TBL.XWP_SRC_TMAP_BASE : Fld := arr2 0x200C000 0 7 .rws 0 1024 16 4 136
def TBL.XWP_DST_TMAP_V : Fld := arr2 0x2010000 31 1 .rws 0 1024 16 4 132
def TBL.XWP_DST_TMAP_BASE : Fld := arr2 0x2010000 0 7 .rws 0 1024 16 4 132
def TBL.XBP_ROUTE_LIVE : Fld := arr 0x2001000 0 32 (.live 0x2000000) 0 4 1024
def TBL.AUD_ROUTE_LIVE_W0 : Fld := arr 0x20C0000 0 32 (.live 0x2050000) 0 8 53248
def TBL.AUD_ROUTE_LIVE_W1 : Fld := arr 0x20C0004 0 32 (.live 0x2050004) 0 8 53248
def TBL.LUT1D_HI : Fld := arr2 0x3A00000 16 16 .rws 0 8192 384 4 2048
def TBL.LUT1D_LO : Fld := arr2 0x3A00000 0 16 .rws 0 8192 384 4 2048
def TBL.LUT3D_G : Fld := arr2 0x2800000 16 16 .rws 0 294912 64 8 35937
def TBL.LUT3D_R : Fld := arr2 0x2800000 0 16 .rws 0 294912 64 8 35937
def TBL.LUT3D_B : Fld := arr2 0x2800004 0 16 .rws 0 294912 64 8 35937
def TBL.HIF_VEC : Fld := arr 0x2048000 0 32 .rw 0 4 4096
def TBL.CLS_V : Fld := arr 0x2024000 31 1 .rws 0 32 4096
def TBL.CLS_IPV6 : Fld := arr 0x2024000 30 1 .rws 0 32 4096
def TBL.CLS_VLAN_EN : Fld := arr 0x2024000 29 1 .rws 0 32 4096
def TBL.CLS_PORT_ANY : Fld := arr 0x2024000 28 1 .rws 0 32 4096
def TBL.CLS_PORT : Fld := arr 0x2024000 16 6 .rws 0 32 4096
def TBL.CLS_VLAN : Fld := arr 0x2024000 0 12 .rws 0 32 4096
def TBL.CLS_SPAN : Fld := arr 0x2024014 16 6 .rws 0 32 4096
def TBL.CLS_UDP_PORT : Fld := arr 0x2024014 0 16 .rws 0 32 4096
def TBL.CLS_KIND : Fld := arr 0x2024018 28 4 .rws 7 32 4096
def TBL.CLS_TARGET : Fld := arr 0x2024018 0 12 .rws 0 32 4096
def TBL.CLS_DST_IP : Fld := arr2 0x2024004 0 32 .rws 0 32 4096 4 4
def TBL.FLOWA_RX_EN : Fld := arr 0x2140000 31 1 .rws 0 64 4096
def TBL.FLOWA_RX_ASRC_EN : Fld := arr 0x2140000 30 1 .rws 0 64 4096
def TBL.FLOWA_RX_PAIR : Fld := arr 0x2140000 29 1 .rws 0 64 4096
def TBL.FLOWA_RX_FMT : Fld := arr 0x2140000 27 2 .rws 1 64 4096
def TBL.FLOWA_RX_RATE96 : Fld := arr 0x2140000 26 1 .rws 0 64 4096
def TBL.FLOWA_RX_PT125 : Fld := arr 0x2140000 25 1 .rws 0 64 4096
def TBL.FLOWA_RX_CH : Fld := arr 0x2140000 16 6 .rws 7 64 4096
def TBL.FLOWA_RX_SLOT : Fld := arr 0x2140000 0 14 .rws 0 64 4096
def TBL.FLOWA_RX_ASRC_CH : Fld := arr 0x2140004 16 8 .rws 0 64 4096
def TBL.FLOWA_RX_LINK_OFS : Fld := arr 0x2140004 0 10 .rws 0x30 64 4096
def TBL.FLOWA_RX_PT : Fld := arr 0x2140008 0 7 .rws 0x61 64 4096
def TBL.FLOWA_RX_TS_OFS : Fld := arr 0x214000C 0 32 .rws 0 64 4096
def TBL.FLOWA_RX_TOKENS : Fld := arr 0x2140020 16 8 .ro 0 64 4096
def TBL.FLOWA_RX_FOREIGN : Fld := arr 0x2140020 6 1 .ro 0 64 4096
def TBL.FLOWA_RX_PATH_B_DOWN : Fld := arr 0x2140020 5 1 .ro 0 64 4096
def TBL.FLOWA_RX_PATH_A_DOWN : Fld := arr 0x2140020 4 1 .ro 0 64 4096
def TBL.FLOWA_RX_STATE : Fld := arr 0x2140020 0 3 .ro 0 64 4096
def TBL.FLOWA_RX_SLACK_MIN : Fld := arr 0x2140024 0 32 .ro 0 64 4096
def TBL.FLOWA_RX_SKEW_LIVE : Fld := arr 0x2140028 0 32 .ro 0 64 4096
def TBL.FLOWA_RX_PKT_OK : Fld := arr 0x214002C 0 32 .ro 0 64 4096
def TBL.FLOWA_RX_PKT_LOSS : Fld := arr 0x2140030 0 32 .ro 0 64 4096
def TBL.FLOWA_RX_PKT_LATE : Fld := arr 0x2140034 0 32 .ro 0 64 4096
def TBL.FLOWA_RX_PKT_DUP : Fld := arr 0x2140038 0 32 .ro 0 64 4096
def TBL.FLOWA_RX_PKT_EARLY : Fld := arr 0x214003C 0 32 .ro 0 64 4096
def TBL.FLOWA_TX_EN : Fld := arr 0x2180000 31 1 .rws 0 64 4096
def TBL.FLOWA_TX_DUAL : Fld := arr 0x2180000 30 1 .rws 0 64 4096
def TBL.FLOWA_TX_VLAN_EN : Fld := arr 0x2180000 29 1 .rws 1 64 4096
def TBL.FLOWA_TX_FMT : Fld := arr 0x2180000 27 2 .rws 1 64 4096
def TBL.FLOWA_TX_RATE96 : Fld := arr 0x2180000 26 1 .rws 0 64 4096
def TBL.FLOWA_TX_PT125 : Fld := arr 0x2180000 25 1 .rws 0 64 4096
def TBL.FLOWA_TX_CH : Fld := arr 0x2180000 16 6 .rws 7 64 4096
def TBL.FLOWA_TX_BASE : Fld := arr 0x2180000 0 14 .rws 0 64 4096
def TBL.FLOWA_TX_TX_PHASE : Fld := arr 0x2180004 16 15 .rws 0 64 4096
def TBL.FLOWA_TX_PORT_B : Fld := arr 0x2180004 8 6 .rws 0 64 4096
def TBL.FLOWA_TX_PORT_A : Fld := arr 0x2180004 0 6 .rws 0 64 4096
def TBL.FLOWA_TX_PT : Fld := arr 0x2180008 24 7 .rws 0x61 64 4096
def TBL.FLOWA_TX_DSCP : Fld := arr 0x2180008 16 6 .rws 0x2E 64 4096
def TBL.FLOWA_TX_PCP : Fld := arr 0x2180008 12 3 .rws 6 64 4096
def TBL.FLOWA_TX_VID : Fld := arr 0x2180008 0 12 .rws 1 64 4096
def TBL.FLOWA_TX_SSRC : Fld := arr 0x218000C 0 32 .rws 0 64 4096
def TBL.FLOWA_TX_TS_OFS : Fld := arr 0x2180010 0 32 .rws 0 64 4096
def TBL.FLOWA_TX_TTL : Fld := arr 0x218002C 0 8 .rws 0x40 64 4096
def TBL.FLOWA_TX_SENDING : Fld := arr 0x2180030 0 1 .ro 0 64 4096
def TBL.FLOWA_TX_TX_BW : Fld := arr 0x2180034 0 32 .ro 0 64 4096
def TBL.FLOWA_TX_TX_PKT : Fld := arr 0x2180038 0 32 .ro 0 64 4096
def TBL.FLOWA_TX_TX_LATE_CNT : Fld := arr 0x218003C 0 32 .ro 0 64 4096
def TBL.FLOWA_TX_DST_IP : Fld := arr2 0x2180014 0 32 .rws 0 64 4096 4 2
def TBL.FLOWA_TX_SRC_IP : Fld := arr2 0x218001C 0 32 .rws 0 64 4096 4 2
def TBL.FLOWA_TX_SPORT : Fld := arr2 0x2180024 16 16 .rws 0x1388 64 4096 4 2
def TBL.FLOWA_TX_DPORT : Fld := arr2 0x2180024 0 16 .rws 0x1388 64 4096 4 2
def TBL.MSIX_ADDR_LO_ADDR : Fld := arr 0x4000 2 30 .rw 0 16 256
def TBL.MSIX_ADDR_HI_ADDR : Fld := arr 0x4004 0 32 .rw 0 16 256
def TBL.MSIX_DATA_DATA : Fld := arr 0x4008 0 32 .rw 0 16 256
def TBL.MSIX_CTRL_MASK : Fld := arr 0x400C 0 1 .rw 1 16 256
def TBL.MSIX_PBA_PEND : Fld := arr 0x5000 0 32 .ro 0 4 8

/-- Every field of the table windows and the MSI-X table, at absolute BAR0 addresses (Tables 4.3, 5.5, 5.8, 7.8, 7.9, 10.8, 10.11, 10.12, 13.6, 14.1; R355, R381). -/
def TBL.map : List Fld :=
  [TBL.XBP_ROUTE_SER, TBL.XBP_ROUTE_VTG, TBL.XBP_ROUTE_SRC, TBL.XWP_ROUTE_VTG, TBL.XWP_ROUTE_SRC, TBL.XWP_PATH_PLACED, TBL.XWP_PATH_MID, TBL.XWP_EMB_MODE, TBL.XWP_EMB_GRP_EN, TBL.XWP_EMB_GSET, TBL.XWP_EMB_EN, TBL.XWP_REGEN_PID_MODE, TBL.XWP_REGEN_LN_RENUM, TBL.XWP_PID_PID, TBL.XWP_DEEMB_GRP_EN, TBL.XWP_DEEMB_GSET, TBL.XWP_DEEMB_EN, TBL.XWP_GEN_VTG, TBL.XWP_GEN_PAT, TBL.XWP_GEN_TEN, TBL.XWP_GEN_EN, TBL.FLOWV_TXSEL_VTG, TBL.FLOWV_TXSEL_SRC, TBL.AUD_ROUTE_P96] ++
  [TBL.AUD_ROUTE_DATA, TBL.AUD_ROUTE_POL, TBL.AUD_ROUTE_MUTE, TBL.AUD_ROUTE_SCARF, TBL.AUD_ROUTE_SRC, TBL.AUD_ROUTE_GAIN, TBL.METER_SNAPV_SPK, TBL.METER_SNAPV_TPK, TBL.XWP_SRC_TMAP_V, TBL.XWP_SRC_TMAP_BASE, TBL.XWP_DST_TMAP_V, TBL.XWP_DST_TMAP_BASE, TBL.XBP_ROUTE_LIVE, TBL.AUD_ROUTE_LIVE_W0, TBL.AUD_ROUTE_LIVE_W1, TBL.LUT1D_HI, TBL.LUT1D_LO, TBL.LUT3D_G, TBL.LUT3D_R, TBL.LUT3D_B, TBL.HIF_VEC, TBL.CLS_V, TBL.CLS_IPV6, TBL.CLS_VLAN_EN] ++
  [TBL.CLS_PORT_ANY, TBL.CLS_PORT, TBL.CLS_VLAN, TBL.CLS_SPAN, TBL.CLS_UDP_PORT, TBL.CLS_KIND, TBL.CLS_TARGET, TBL.CLS_DST_IP, TBL.FLOWA_RX_EN, TBL.FLOWA_RX_ASRC_EN, TBL.FLOWA_RX_PAIR, TBL.FLOWA_RX_FMT, TBL.FLOWA_RX_RATE96, TBL.FLOWA_RX_PT125, TBL.FLOWA_RX_CH, TBL.FLOWA_RX_SLOT, TBL.FLOWA_RX_ASRC_CH, TBL.FLOWA_RX_LINK_OFS, TBL.FLOWA_RX_PT, TBL.FLOWA_RX_TS_OFS, TBL.FLOWA_RX_TOKENS, TBL.FLOWA_RX_FOREIGN, TBL.FLOWA_RX_PATH_B_DOWN, TBL.FLOWA_RX_PATH_A_DOWN] ++
  [TBL.FLOWA_RX_STATE, TBL.FLOWA_RX_SLACK_MIN, TBL.FLOWA_RX_SKEW_LIVE, TBL.FLOWA_RX_PKT_OK, TBL.FLOWA_RX_PKT_LOSS, TBL.FLOWA_RX_PKT_LATE, TBL.FLOWA_RX_PKT_DUP, TBL.FLOWA_RX_PKT_EARLY, TBL.FLOWA_TX_EN, TBL.FLOWA_TX_DUAL, TBL.FLOWA_TX_VLAN_EN, TBL.FLOWA_TX_FMT, TBL.FLOWA_TX_RATE96, TBL.FLOWA_TX_PT125, TBL.FLOWA_TX_CH, TBL.FLOWA_TX_BASE, TBL.FLOWA_TX_TX_PHASE, TBL.FLOWA_TX_PORT_B, TBL.FLOWA_TX_PORT_A, TBL.FLOWA_TX_PT, TBL.FLOWA_TX_DSCP, TBL.FLOWA_TX_PCP, TBL.FLOWA_TX_VID, TBL.FLOWA_TX_SSRC] ++
  [TBL.FLOWA_TX_TS_OFS, TBL.FLOWA_TX_TTL, TBL.FLOWA_TX_SENDING, TBL.FLOWA_TX_TX_BW, TBL.FLOWA_TX_TX_PKT, TBL.FLOWA_TX_TX_LATE_CNT, TBL.FLOWA_TX_DST_IP, TBL.FLOWA_TX_SRC_IP, TBL.FLOWA_TX_SPORT, TBL.FLOWA_TX_DPORT, TBL.MSIX_ADDR_LO_ADDR, TBL.MSIX_ADDR_HI_ADDR, TBL.MSIX_DATA_DATA, TBL.MSIX_CTRL_MASK, TBL.MSIX_PBA_PEND]

end Sys2Proof.Machine
end

