-- ==== Sys2Proof/Syntax.lean ====
section
/-! DEFINITION. The commands of the block: one constructor per row of spec/opcode_table.json. -/

namespace Sys2Proof

/-- A PTP message (R216, R217, R219): messageType (0 Sync, 1 Delay_Req, 2 Pdelay_Req, 3 Pdelay_Resp, which are the event
messages; 8 Follow_Up, 11 Announce), domainNumber, transport (0 Layer 2, 1 UDP over IPv4, 2 UDP over IPv6), sequenceId and
sourcePortIdentity; of an Announce, what the best master clock algorithm compares, in its order, and currentUtcOffset; the
time it carries, in 2^-40 ns. -/
structure PtpMsg where
  kind : Nat
  dom : Nat
  transport : Nat
  seq : Nat
  source : Nat
  rank : List Nat
  utc : Nat
  time : Option Nat
  deriving DecidableEq, Repr

/-- An event message. -/
def PtpMsg.event (m : PtpMsg) : Bool := m.kind < 4

/-- What the tracking loop of an ASRC channel has reached (R300, R301): the ratio and its largest departure from steady over the
last 10 ms, both unsigned Q8.24, and the channel's delay in 1/256 of a sample at 48 kHz. -/
structure AsrcLock where
  ratio : Nat
  spread : Nat
  delay : Nat
  deriving DecidableEq, Repr

/-- The video send slot or the audio send flow that a media frame comes from, and the last core cycle at which it does not leave
late (R200, R276). -/
structure MediaDue where
  audio : Bool
  flow : Nat
  until_ : Nat
  deriving DecidableEq, Repr

/-- A frame to be sent, as far as the spec's rules look at it. -/
structure TxFrame where
  /-- Bytes from the destination address through the FCS, before MACsec. -/
  len : Nat
  /-- Traffic class. -/
  cls : Nat
  /-- Destination: 0 unicast, 1 multicast, 2 broadcast. -/
  dest : Nat
  vlan : Bool
  /-- 0 neither, 1 PAUSE, 2 PFC. -/
  flow : Nat
  /-- EtherType 0x888E. -/
  eapol : Bool
  /-- The PTP message it carries. -/
  ptp : Option PtpMsg
  /-- Sent without MACsec protection under R167. -/
  bypass : Bool
  /-- From the host transmit queue. -/
  host : Bool
  /-- A scheduled media frame. -/
  media : Option MediaDue
  deriving DecidableEq, Repr

/-- The RTP packet of a video flow: payload type, extended sequence number, timestamp, payload bytes with the payload
header, and whether its SRD headers name lines and offsets of the format (R187). -/
structure RtpVideo where
  pt : Nat
  seq : Nat
  ts : Nat
  bytes : Nat
  srdOk : Bool
  deriving DecidableEq, Repr

/-- An ancillary packet: its C bit, Line_Number and Horiz_Offset, its DID and SDID, and its user bytes (R192, R201). -/
structure AncPkt where
  c : Bool
  line : Nat
  offset : Nat
  did : Nat
  sdid : Nat
  bytes : List Nat
  deriving DecidableEq, Repr

/-- The RTP packet of an ancillary flow: payload type, sequence number, timestamp, and the ANC packets in it (R192). -/
structure RtpAnc where
  pt : Nat
  seq : Nat
  ts : Nat
  pkts : List AncPkt
  deriving DecidableEq, Repr

/-- The RTP packet of an audio flow: payload type, sequence number, timestamp, payload bytes, and its samples as the
encoding holds them, channel by channel within each sample instant (R264, R269). -/
structure RtpAudio where
  pt : Nat
  seq : Nat
  ts : Nat
  bytes : Nat
  words : List Nat
  deriving DecidableEq, Repr

/-- What the PCS and the FEC of a port have counted: symbols in error, corrected and uncorrectable codewords, symbol errors
lane by lane, and corrected bits per 2^30 bits of the last interval (Tables 6.6 and 6.12). -/
structure LineCount where
  sym : Nat
  corr : Nat
  uncorr : Nat
  lanes : List Nat
  ber : Nat
  deriving DecidableEq, Repr

/-- A port and the energy on its four lanes (R153). -/
structure PortEnergy where
  port : Fin 48
  lanes : BitVec 4
  deriving DecidableEq, Repr

/-- A received Ethernet frame, as far as the spec's rules look at it (R156, R157, R164, R173, R183, R217). The fields from
`etherType` on read the frame without its SecTAG. -/
structure RxFrame where
  /-- Bytes from the destination address through the FCS. -/
  len : Nat
  fcsOk : Bool
  /-- Destination address, its first byte in bits 47:40. -/
  dst : Nat
  /-- SecTAG: SCI, AN, PN and whether the ICV holds. -/
  sec : Option (Nat × Nat × Nat × Bool)
  etherType : Nat
  /-- One VLAN tag: PCP and VLAN ID. -/
  vlan : Option (Nat × Nat)
  /-- Of a MAC control frame: 0 neither, 1 PAUSE, 2 PFC; and the classes and quanta it names, class 0 for PAUSE. -/
  flow : Nat
  quanta : List (Nat × Nat)
  /-- IP version, 4 or 6, or 0; IPv4 protocol or first IPv6 next header; the protocol after every extension header; ICMPv6
  type; header checksum good; a fragment. -/
  ip : Nat
  proto : Nat
  upper : Nat
  icmp : Nat
  csumOk : Bool
  fragment : Bool
  /-- Destination IP address as a number, and UDP destination port. -/
  ipDst : Nat
  udpDst : Nat
  /-- The PTP message it carries. -/
  ptp : Option PtpMsg
  /-- The UDP payload read as an RTP packet of a video, an ancillary and an audio flow. -/
  video : RtpVideo
  anc : RtpAnc
  audio : RtpAudio
  /-- What the PCS and the FEC have counted since the last frame. -/
  line : LineCount
  deriving DecidableEq, Repr

/-- A master waiting at a bus-matrix target (R373). -/
structure Waiter where
  /-- Its number in Table 14.5. -/
  m : Nat
  /-- How long it has waited, in 594 MHz cycles. -/
  waited : Nat
  /-- 0 a transaction, 1 a locked read, 2 an unlocking write. -/
  kind : Nat
  deriving DecidableEq, Repr

/-- Who asked for a GDDR6 burst (R324): a frame-buffer write of a layer; a frame-buffer or surface read for canvas lines
of a layer; a read or a write of a static cache; an audio token of a receive flow's packet; a capture or stamp ring of a
TDM port. -/
inductive Requester where
  | frameWrite (e l : Nat)
  | layerRead (e l : Nat) (lines : List Nat)
  | cacheRead (e c : Nat) (lines : List Nat)
  | cacheWrite (e c : Nat)
  | token (flow seq : Nat)
  | ring (port : Nat)
  deriving DecidableEq, Repr

/-- Whether the stores that a command may need serve it: the entropy source passes its health tests (R395), and OTP or
flash takes what is written (R401, R405, R442). -/
structure Served where
  entropy : Bool
  store : Bool
  deriving DecidableEq, Repr

/-- The payload of a received block, and the kerf bits that the receiver discards in the block, in line order (R75). -/
structure LineBlock where
  bits : BitVec 256
  kerfs : List Bool
  deriving DecidableEq, Repr

/-- A received sideband block, with what its TMARK places: the format that the tenon contents show, and the core cycle of the
start of one of its switch lines (R74, R109). -/
structure SideBlock where
  bits : BitVec 256
  kerfs : List Bool
  video : Option (Nat × Nat)
  deriving DecidableEq, Repr

/-- A lane, and the line bits that it has just received, in line order (R92). -/
structure LaneLine where
  lane : Fin 1032
  line : List Bool
  deriving DecidableEq, Repr

/-- The commands: the rows of spec/opcode_table.json in its order. Every constructor carries the core cycle `t` at which it
lands; an operand says what the outside world decides (which lane, which value, what a received block holds). -/
inductive Instr where
  /-- REGISTER_WRITE (R8). -/
  | registerWrite (t : Nat) (m : Master) (addr : Nat) (strobes : Nat) (value : Word) (w : Served)
  /-- DIAG_CLR (R96). -/
  | diagClr (t : Nat) (m : Master) (page : Page)
  /-- TICK_SMP (R253). -/
  | tickSmp (t : Nat)
  /-- TICK_FRM (R245). -/
  | tickFrm (t : Nat) (v : Fin 32)
  /-- STC_TICK (R27). -/
  | stcTick (t : Nat) (k : Fin 8)
  /-- COMMIT_ARM (R32). -/
  | commitArm (t : Nat) (m : Master) (page : Page) (value : Word)
  /-- COMMIT_DISARM (R38). -/
  | commitDisarm (t : Nat) (m : Master) (page : Page) (value : Word)
  /-- COMMIT_FIRE (R37). -/
  | commitFire (t : Nat) (page : Page)
  /-- GROUP_MEMBERSHIP_WRITE (R40). -/
  | groupMembershipWrite (t : Nat) (m : Master) (page : Page) (value : Word)
  /-- CGRP_ARM (R41). -/
  | cgrpArm (t : Nat) (m : Master) (g : Fin 64) (value : Word)
  /-- CGRP_DISARM (R44). -/
  | cgrpDisarm (t : Nat) (m : Master) (g : Fin 64) (value : Word)
  /-- CGRP_FIRE (R42). -/
  | cgrpFire (t : Nat) (g : Fin 64)
  /-- ROUTE_ENTRY_APPLY (R42). -/
  | routeEntryApply (t : Nat) (entry : Entry)
  /-- FUNC_INIT (R54). -/
  | funcInit (t : Nat) (m : Master) (page : Page)
  /-- FUNC_INIT_COMPLETE (R54). -/
  | funcInitComplete (t : Nat) (page : Page)
  /-- AUDIT_SNAP (R53). -/
  | auditSnap (t : Nat) (m : Master) (cls : Fin 16) (inst : Fin 256)
  /-- SIG_FOUND (R89). -/
  | sigFound (t : Nat) (n : Fin 1032)
  /-- SIG_LOST (R89). -/
  | sigLost (t : Nat) (n : Fin 1032)
  /-- CDR_LOCK_GAINED (R101). -/
  | cdrLockGained (t : Nat) (n : Fin 1032)
  /-- CDR_LOCK_LOST (R101). -/
  | cdrLockLost (t : Nat) (n : Fin 1032)
  /-- SDI_HUNT_DWELL_EXPIRY (R66). -/
  | sdiHuntDwellExpiry (t : Nat) (n : Fin 1032)
  /-- LOCK_GAINED (R66). -/
  | lockGained (t : Nat) (n : Fin 1032) (rate : Fin 16) (levelB : Bool) (video : Option (Nat × Nat))
  /-- LOCK_LOST (R67). -/
  | lockLost (t : Nat) (n : Fin 1032)
  /-- ELASTIC_BUFFER_FAULT (R63). -/
  | elasticBufferFault (t : Nat) (n : Fin 1032)
  /-- IGNADA_TENON_BLOCK (R71). -/
  | ignadaTenonBlock (t : Nat) (n : Fin 1032) (ten : Fin 8) (hdr : Byte) (payload : LineBlock)
  /-- SUPERFRAME_HEADER (R72). -/
  | superframeHeader (t : Nat) (n : Fin 1032) (hdr : Byte) (payload : LineBlock)
  /-- SUPERFRAME_LOCK_LOST (R88). -/
  | superframeLockLost (t : Nat) (n : Fin 1032)
  /-- SIDEBAND_BLOCK (R74). -/
  | sidebandBlock (t : Nat) (n : Fin 1032) (hdr : Byte) (payload : SideBlock)
  /-- TRAINING_BLOCK (R85). -/
  | trainingBlock (t : Nat) (n : Fin 1032) (hdr : Byte) (payload : LineBlock)
  /-- IGN_TRAIN_COMPLETE (R87). -/
  | ignTrainComplete (t : Nat) (n : Fin 1032)
  /-- IGN_ENERGY_PRESENT (R89). -/
  | ignEnergyPresent (t : Nat) (n : Fin 1032)
  /-- IGN_ENERGY_LOST (R89). -/
  | ignEnergyLost (t : Nat) (n : Fin 1032)
  /-- IGN_ATTEMPT_TIMEOUT (R89). -/
  | ignAttemptTimeout (t : Nat) (n : Fin 1032)
  /-- IGN_TRAINING_TIMEOUT (R89). -/
  | ignTrainingTimeout (t : Nat) (n : Fin 1032)
  /-- IGN_BACKOFF_EXPIRY (R89). -/
  | ignBackoffExpiry (t : Nat) (n : Fin 1032)
  /-- IGN_LISTEN_EXIT (R89). -/
  | ignListenExit (t : Nat) (n : Fin 1032)
  /-- IGN_RESYNC_TIMEOUT (R89). -/
  | ignResyncTimeout (t : Nat) (n : Fin 1032)
  /-- LANE_IGN_RESTART (R89). -/
  | laneIgnRestart (t : Nat) (m : Master) (n : Fin 1032) (value : Word)
  /-- ADAPT_WINDOW (R82). -/
  | adaptWindow (t : Nat) (n : Fin 1032) (density : Nat)
  /-- LANE_PRBS_GEN_WRITE (R91). -/
  | lanePrbsGenWrite (t : Nat) (m : Master) (n : Fin 1032) (value : Word)
  /-- LANE_PRBS_CHK_WRITE (R92). -/
  | lanePrbsChkWrite (t : Nat) (m : Master) (n : Fin 1032) (value : Word)
  /-- PRBS_LOCKED (R92). -/
  | prbsLocked (t : Nat) (n : LaneLine)
  /-- PRBS_LOCK_LOST (R92). -/
  | prbsLockLost (t : Nat) (n : Fin 1032) (nbits : Nat) (errs : Nat)
  /-- LANE_BIT_CNT_LO_READ (R93). -/
  | laneBitCntLoRead (t : Nat) (m : Master) (n : Fin 1032) (nbits : Nat) (errs : Nat)
  /-- TALLY_RX_LO_READ (R97). -/
  | tallyRxLoRead (t : Nat) (m : Master) (n : Fin 1032)
  /-- ERR_INJ_SHOT (R94). -/
  | errInjShot (t : Nat) (m : Master) (n : Fin 1032) (value : Word)
  /-- ERR_INJ_PERIODIC (R94). -/
  | errInjPeriodic (t : Nat) (n : Fin 1032)
  /-- EYE_SCAN_START (R95). -/
  | eyeScanStart (t : Nat) (m : Master) (n : Fin 1032) (value : Word)
  /-- EYE_SCAN_DONE (R95). -/
  | eyeScanDone (t : Nat) (n : Fin 1032) (errs : Nat)
  /-- XBP_SUPERFRAME_SWITCH (R107). -/
  | xbpSuperframeSwitch (t : Nat) (out : Fin 1024)
  /-- XBP_PGEN_WRITE (R111). -/
  | xbpPgenWrite (t : Nat) (m : Master) (k : Fin 8) (value : Word)
  /-- BRACE_TICK_SEND (R116). -/
  | braceTickSend (t : Nat)
  /-- BRACE_TICK_MESSAGE (R117). -/
  | braceTickMessage (t : Nat) (k : Fin 8) (payload : LineBlock)
  /-- BRACE_RECORD_SEND (R121). -/
  | braceRecordSend (t : Nat) (full : Bool) (v : Fin 32)
  /-- BRACE_FRAME_RECORD (R122). -/
  | braceFrameRecord (t : Nat) (k : Fin 8) (payload : LineBlock)
  /-- BRACE_FULL_RECORD (R122). -/
  | braceFullRecord (t : Nat) (k : Fin 8) (payload : LineBlock)
  /-- BRACE_RECORD_TIMEOUT (R122). -/
  | braceRecordTimeout (t : Nat) (full : Bool) (v : Fin 32) (tnum : Word)
  /-- BRC_REALIGN (R120). -/
  | brcRealign (t : Nat) (m : Master) (value : Word)
  /-- DEEMB_AUDIO_PACKET (R142). -/
  | deembAudioPacket (t : Nat) (tenon : Fin 2048) (grp : Fin 8) (samples : List (Nat × Nat)) (ok : Bool)
  /-- EMBED_SAMPLE (R145). -/
  | embedSample (t : Nat) (dest : Fin 2048) (carried : Byte)
  /-- ETH_RESTART (R153). -/
  | ethRestart (t : Nat) (m : Master) (p : Fin 48) (value : Word)
  /-- AN_COMPLETE (R153). -/
  | anComplete (t : Nat) (p : Fin 48) (high : BitVec 16) (low : Word)
  /-- ETH_TRAIN_COMPLETE (R153). -/
  | ethTrainComplete (t : Nat) (p : Fin 48) (taps : List (Nat × Nat × Nat))
  /-- ETH_TRAIN_TIMEOUT (R153). -/
  | ethTrainTimeout (t : Nat) (p : Fin 48)
  /-- ETH_ENERGY_LOST (R153). -/
  | ethEnergyLost (t : Nat) (p : PortEnergy)
  /-- ETH_ALIGN_LOCK (R153). -/
  | ethAlignLock (t : Nat) (p : Fin 48)
  /-- ETH_ALIGN_TIMEOUT (R153). -/
  | ethAlignTimeout (t : Nat) (p : Fin 48)
  /-- ETH_LINK_LOSS (R153). -/
  | ethLinkLoss (t : Nat) (p : Fin 48)
  /-- ETH_BACKOFF_EXPIRY (R153). -/
  | ethBackoffExpiry (t : Nat) (p : Fin 48)
  /-- REMOTE_FAULT (R153). -/
  | remoteFault (t : Nat) (p : Fin 48)
  /-- ETH_FRAME_RX (R156). -/
  | ethFrameRx (t : Nat) (p : Fin 48) (frame : RxFrame) (desc : Nat × Nat)
  /-- PAUSE_EXPIRY (R164). -/
  | pauseExpiry (t : Nat) (p : Fin 48) (cls : Fin 8)
  /-- ETH_FRAME_TX (R159). -/
  | ethFrameTx (t : Nat) (p : Fin 48) (slack : Nat) (held : List Nat) (own : Option TxFrame) (whole : Bool)
  /-- TX_UNDERRUN (R161). -/
  | txUnderrun (t : Nat) (p : Fin 48) (cls : Fin 8)
  /-- HQ_ENABLE (R165). -/
  | hqEnable (t : Nat) (m : Master) (p : Fin 48) (tx : Bool)
  /-- HQ_DISABLE (R165). -/
  | hqDisable (t : Nat) (m : Master) (p : Fin 48) (tx : Bool)
  /-- HQ_TX_DESCRIPTOR (R167). -/
  | hqTxDescriptor (t : Nat) (p : Fin 48) (frame : TxFrame)
  /-- CNT_SNAP (R169). -/
  | cntSnap (t : Nat) (m : Master) (p : Fin 48)
  /-- VTG_FRAME_START (R245). -/
  | vtgFrameStart (t : Nat) (v : Fin 32) (second : Bool)
  /-- RX_LINE_PLAY (R187). -/
  | rxLinePlay (t : Nat) (n : Fin 1024) (line : Nat) (need : List Nat) (last : List Nat)
  /-- VIDEO_PATH_TIMEOUT (R195). -/
  | videoPathTimeout (t : Nat) (n : Fin 1024) (pathB : Bool)
  /-- SKEW_OVER_CLEAR (R194). -/
  | skewOverClear (t : Nat) (n : Fin 1024)
  /-- VIDEO_PACKET_TX (R200). -/
  | videoPacketTx (t : Nat) (n : Fin 1024) (payload : List Nat)
  /-- ANC_PACKET_TX (R201). -/
  | ancPacketTx (t : Nat) (n : Fin 1024) (rtp : List (List AncPkt))
  /-- DOM_ADJ_WRITE (R213). -/
  | domAdjWrite (t : Nat) (m : Master) (d : Fin 2) (value : Word)
  /-- DOM_STEP_WRITE (R214). -/
  | domStepWrite (t : Nat) (m : Master) (d : Fin 2) (value : Word)
  /-- DOM_STEP_APPLY (R214). -/
  | domStepApply (t : Nat) (d : Fin 2)
  /-- SERVO_MEASUREMENT (R215). -/
  | servoMeasurement (t : Nat) (d : Fin 2) (port : Fin 64) (offset : Word) (delay : Word) (seq : BitVec 16)
  /-- SERVO_SYNC_TIMEOUT (R215). -/
  | servoSyncTimeout (t : Nat) (d : Fin 2)
  /-- MT_SLEW_DONE (R223). -/
  | mtSlewDone (t : Nat)
  /-- PPS_OUT_EDGE (R226). -/
  | ppsOutEdge (t : Nat)
  /-- PPS_IN_EDGE (R227). -/
  | ppsInEdge (t : Nat) (falling : Bool)
  /-- TIME_CAP (R228). -/
  | timeCap (t : Nat) (m : Master)
  /-- STC_LIVE_LO_READ (R210). -/
  | stcLiveLoRead (t : Nat) (m : Master)
  /-- MT_OFF_LO_READ (R228). -/
  | mtOffLoRead (t : Nat) (m : Master)
  /-- REFP_IN_EDGE (R232). -/
  | refpInEdge (t : Nat) (r : Fin 8) (falling : Bool)
  /-- REF_ACTIVITY_TIMEOUT (R233). -/
  | refActivityTimeout (t : Nat) (r : Fin 8)
  /-- CAND_FREQ_UPDATE (R234). -/
  | candFreqUpdate (t : Nat) (c : Fin 27) (freq : Int)
  /-- WTR_EXPIRY (R235). -/
  | wtrExpiry (t : Nat) (c : Fin 27)
  /-- HOLD_MIN_EXPIRY (R238). -/
  | holdMinExpiry (t : Nat) (k : Fin 4)
  /-- DPLL_LOCK_TIMER (R239). -/
  | dpllLockTimer (t : Nat) (k : Fin 4)
  /-- DPLL_UNLOCK_TIMER (R239). -/
  | dpllUnlockTimer (t : Nat) (k : Fin 4)
  /-- DISAGREE_CLEAR (R237). -/
  | disagreeClear (t : Nat) (k : Fin 4)
  /-- REFP_OUT_PULSE (R248). -/
  | refpOutPulse (t : Nat) (j : Fin 8)
  /-- REFO_FLY (R249). -/
  | refoFly (t : Nat) (r : Fin 8)
  /-- AUD_TABLE_SWAP (R259). -/
  | audTableSwap (t : Nat)
  /-- METER_SNAP_WRITE (R263). -/
  | meterSnapWrite (t : Nat) (m : Master)
  /-- METER_SNAP (R263). -/
  | meterSnap (t : Nat)
  /-- AUDIO_FLOW_TIMEOUT (R271). -/
  | audioFlowTimeout (t : Nat) (n : Fin 4096)
  /-- AUDIO_PATH_TIMEOUT (R272). -/
  | audioPathTimeout (t : Nat) (n : Fin 4096) (pathB : Bool)
  /-- FOREIGN_DETECT (R274). -/
  | foreignDetect (t : Nat) (n : Fin 4096) (foreign : Bool)
  /-- AUDIO_PACKET_TX (R276). -/
  | audioPacketTx (t : Nat) (n : Fin 4096) (marker : Bool)
  /-- TDM_FRAME_START (R286). -/
  | tdmFrameStart (t : Nat) (b : Fin 16) (din : List Nat)
  /-- TDM_FRAME_RX (R289). -/
  | tdmFrameRx (t : Nat) (b : Fin 16) (began : Nat) (nbits : Nat) (din : List Nat)
  /-- TDM_PRE_DONE (R291). -/
  | tdmPreDone (t : Nat) (b : Fin 16)
  /-- TDM_POST_DONE (R291). -/
  | tdmPostDone (t : Nat) (b : Fin 16)
  /-- TDM_RESTART (R291). -/
  | tdmRestart (t : Nat) (m : Master) (b : Fin 16)
  /-- TDM_FIFO_FAULT (R294). -/
  | tdmFifoFault (t : Nat) (b : Fin 16) (full : Bool)
  /-- TDM_CLOCK_STOP (R298). -/
  | tdmClockStop (t : Nat) (b : Fin 16) (cut : Bool)
  /-- TDM_CLOCK_BACK (R291). -/
  | tdmClockBack (t : Nat) (b : Fin 16)
  /-- TDM_RATE_MEASURE (R297). -/
  | tdmRateMeasure (t : Nat) (b : Fin 16) (interval : Nat)
  /-- ASRC_TRACK (R300). -/
  | asrcTrack (t : Nat) (a : Nat) (lock : AsrcLock)
  /-- FRAME_BUFFER_COMPLETE (R312). -/
  | frameBufferComplete (t : Nat) (e : Fin 64) (l : Fin 16) (det : Nat) (arrived : Nat) (broke : Option Nat) (data : List Nat)
  /-- GDDR6_TRAINING_DONE (R322). -/
  | gddr6TrainingDone (t : Nat) (channels : BitVec 24)
  /-- GDDR6_RETRAIN (R323). -/
  | gddr6Retrain (t : Nat)
  /-- EDC_ERROR (R324). -/
  | edcError (t : Nat) (ch : Fin 24) (lost : Option Requester)
  /-- PCIE_RESET (R357). -/
  | pcieReset (t : Nat) (flight : Option (Nat × Nat))
  /-- PCIE_READY (R357). -/
  | pcieReady (t : Nat)
  /-- PCIE_UP (R354). -/
  | pcieUp (t : Nat) (width : Nat) (speed : Nat)
  /-- PCIE_DOWN (R354). -/
  | pcieDown (t : Nat)
  /-- BAR2_ACCESS (R356). -/
  | bar2Access (t : Nat) (off : BitVec 30) (write : Bool) (dwords : List (Nat × Word))
  /-- HIF_EOI (R364). -/
  | hifEoi (t : Nat) (m : Master) (value : Word)
  /-- MSIX_UNMASK (R364). -/
  | msixUnmask (t : Nat) (enable : Bool) (fmask : Bool) (vec : Option (Fin 256))
  /-- SPI_READ (R367). -/
  | spiRead (t : Nat) (addr : Nat) (count : Nat)
  /-- SPI_WRITE (R367). -/
  | spiWrite (t : Nat) (addr : Nat) (dwords : List (Word × Nat)) (w : Served)
  /-- SPI_STATUS (R367). -/
  | spiStatus (t : Nat)
  /-- SPI_CS_RISE (R368). -/
  | spiCsRise (t : Nat) (flight : Option Nat) (w : Served)
  /-- ECHO (R371). -/
  | echo (t : Nat) (k : Fin 2) (tag : Byte) (words : List Word) (w : Served)
  /-- GET_VERSIONS (R371). -/
  | getVersions (t : Nat) (k : Fin 2) (tag : Byte) (words : List Word) (w : Served)
  /-- GET_HEALTH (R371). -/
  | getHealth (t : Nat) (k : Fin 2) (tag : Byte) (words : List Word) (w : Served)
  /-- CFG_READ (R423). -/
  | cfgRead (t : Nat) (k : Fin 2) (tag : Byte) (words : List Word) (w : Served)
  /-- CFG_WRITE (R423). -/
  | cfgWrite (t : Nat) (k : Fin 2) (tag : Byte) (words : List Word) (w : Served)
  /-- CAL_READ (R425). -/
  | calRead (t : Nat) (k : Fin 2) (tag : Byte) (words : List Word) (w : Served)
  /-- CAL_WRITE (R425). -/
  | calWrite (t : Nat) (k : Fin 2) (tag : Byte) (words : List Word) (w : Served)
  /-- MBX_ABORT (R371). -/
  | mbxAbort (t : Nat) (k : Fin 2)
  /-- MBX_RESPONSE (R370). -/
  | mbxResponse (t : Nat) (k : Fin 2)
  /-- FW_HEARTBEAT (R371). -/
  | fwHeartbeat (t : Nat)
  /-- BUS_GRANT (R373). -/
  | busGrant (t : Nat) (target : Fin 6) (waiting : List Waiter)
  /-- LOCK_BREAK (R375). -/
  | lockBreak (t : Nat) (target : Fin 6)
  /-- MRESET (R380). -/
  | mreset (t : Nat) (master : Fin 9) (target : Fin 6) (nulled : Nat)
  /-- CORE_WATCHDOG (R379). -/
  | coreWatchdog (t : Nat) (core : Fin 4) (flight : Option (Nat × Nat))
  /-- TAMPER_TRIP (R384). -/
  | tamperTrip (t : Nat) (bit : Fin 8)
  /-- NODE_DEFINE (R388). -/
  | nodeDefine (t : Nat) (m : Master) (a0 : Word) (a1 : Word) (a2 : Word) (w : Served)
  /-- NODE_INVALIDATE (R391). -/
  | nodeInvalidate (t : Nat) (m : Master) (a0 : Word) (a1 : Word) (a2 : Word) (w : Served)
  /-- NODE_DELETE (R391). -/
  | nodeDelete (t : Nat) (m : Master) (a0 : Word) (a1 : Word) (a2 : Word) (w : Served)
  /-- GENERATE (R395). -/
  | generate (t : Nat) (m : Master) (a0 : Word) (a1 : Word) (a2 : Word) (w : Served)
  /-- EXPORT (R393). -/
  | exportKey (t : Nat) (m : Master) (a0 : Word) (a1 : Word) (a2 : Word) (w : Served)
  /-- LOAD (R394). -/
  | load (t : Nat) (m : Master) (a0 : Word) (a1 : Word) (a2 : Word) (w : Served)
  /-- DERIVE (R389). -/
  | derive (t : Nat) (m : Master) (a0 : Word) (a1 : Word) (a2 : Word) (w : Served)
  /-- IMPORT (R395). -/
  | importKey (t : Nat) (m : Master) (a0 : Word) (a1 : Word) (a2 : Word) (w : Served)
  /-- UNWRAP_KW (R395). -/
  | unwrapKw (t : Nat) (m : Master) (a0 : Word) (a1 : Word) (a2 : Word) (w : Served)
  /-- UNLOAD (R392). -/
  | unload (t : Nat) (m : Master) (a0 : Word) (a1 : Word) (a2 : Word) (w : Served)
  /-- GET_IDENTITY (R398). -/
  | getIdentity (t : Nat) (m : Master) (a0 : Word) (a1 : Word) (a2 : Word) (w : Served)
  /-- ATTEST (R399). -/
  | attest (t : Nat) (m : Master) (a0 : Word) (a1 : Word) (a2 : Word) (w : Served)
  /-- GEN_IDENTITY (R398). -/
  | genIdentity (t : Nat) (m : Master) (a0 : Word) (a1 : Word) (a2 : Word) (w : Served)
  /-- LC_ADVANCE (R402). -/
  | lcAdvance (t : Nat) (m : Master) (a0 : Word) (a1 : Word) (a2 : Word) (w : Served)
  /-- CUSTKEY_SET (R401). -/
  | custkeySet (t : Nat) (m : Master) (a0 : Word) (a1 : Word) (a2 : Word) (w : Served)
  /-- REVOKE (R401). -/
  | revoke (t : Nat) (m : Master) (a0 : Word) (a1 : Word) (a2 : Word) (w : Served)
  /-- TAMPER_CONFIG (R384). -/
  | tamperConfig (t : Nat) (m : Master) (a0 : Word) (a1 : Word) (a2 : Word) (w : Served)
  /-- DBG_CHALLENGE (R403). -/
  | dbgChallenge (t : Nat) (m : Master) (a0 : Word) (a1 : Word) (a2 : Word) (w : Served)
  /-- DBG_UNLOCK (R403). -/
  | dbgUnlock (t : Nat) (m : Master) (a0 : Word) (a1 : Word) (a2 : Word) (w : Served)
  /-- KEY_COMMAND_COMPLETE (R397). -/
  | keyCommandComplete (t : Nat)
  /-- POWER_GOOD (R458). -/
  | powerGood (t : Nat) (tamp : Bool)
  /-- RESET_N_ASSERT (R461). -/
  | resetNAssert (t : Nat)
  /-- RESET_N_RELEASE (R461). -/
  | resetNRelease (t : Nat) (tamp : Bool)
  /-- BOOT_PHASE_END (R407). -/
  | bootPhaseEnd (t : Nat) (ok : Bool) (calOk : Bool)
  /-- READY_RISE (R407). -/
  | readyRise (t : Nat)
  /-- BOOT_WD_EXPIRY (R420). -/
  | bootWdExpiry (t : Nat)
  /-- OPEN (R413). -/
  | openSession (t : Nat) (k : Fin 2) (a0 : Word) (a1 : Word) (w : Served)
  /-- CLOSE (R413). -/
  | close (t : Nat) (k : Fin 2) (a0 : Word) (a1 : Word) (w : Served)
  /-- STAGE_BEGIN (R415). -/
  | stageBegin (t : Nat) (k : Fin 2) (a0 : Word) (a1 : Word) (w : Served)
  /-- STAGE_DATA (R415). -/
  | stageData (t : Nat) (k : Fin 2) (a0 : Word) (a1 : Word) (w : Served)
  /-- STAGE_END (R415). -/
  | stageEnd (t : Nat) (k : Fin 2) (a0 : Word) (a1 : Word) (w : Served)
  /-- ACTIVATE (R416). -/
  | activate (t : Nat) (k : Fin 2) (a0 : Word) (a1 : Word) (w : Served)
  /-- REVERT_NEXT (R417). -/
  | revertNext (t : Nat) (k : Fin 2) (a0 : Word) (a1 : Word) (w : Served)
  /-- MANIFEST_BEGIN (R419). -/
  | manifestBegin (t : Nat) (k : Fin 2) (a0 : Word) (a1 : Word) (w : Served)
  /-- MANIFEST_ACTIVATE (R419). -/
  | manifestActivate (t : Nat) (k : Fin 2) (a0 : Word) (a1 : Word) (w : Served)
  /-- CONFIRM (R422). -/
  | confirm (t : Nat) (k : Fin 2) (a0 : Word) (a1 : Word) (w : Served)
  /-- UPD_COMMAND_COMPLETE (R414). -/
  | updCommandComplete (t : Nat) (k : Fin 2)
  /-- UPD_SESSION_TIMEOUT (R413). -/
  | updSessionTimeout (t : Nat)
  /-- FAULT_INJ_FIRE (R431). -/
  | faultInjFire (t : Nat) (m : Master) (page : Page) (value : Word)
  /-- SOFT_RESET (R433). -/
  | softReset (t : Nat) (m : Master) (value : Word)
  /-- SOFT_RESET_EXECUTE (R433). -/
  | softResetExecute (t : Nat)
  /-- EVENT_RECORD_WRITE (R436). -/
  | eventRecordWrite (t : Nat)
  /-- EVR_WIN_READ (R438). -/
  | evrWinRead (t : Nat) (k : Fin 2)
  /-- EVR_WIN_LAST_READ (R438). -/
  | evrWinLastRead (t : Nat) (k : Fin 2)
  /-- EVR_CLR_ARM (R440). -/
  | evrClrArm (t : Nat) (m : Master)
  /-- EVR_CLR_CLEAR (R440). -/
  | evrClrClear (t : Nat) (m : Master)
  /-- EVR_ARM_LAPSE (R440). -/
  | evrArmLapse (t : Nat)
  /-- BBX_ENTRY_WRITE (R442). -/
  | bbxEntryWrite (t : Nat) (ok : Bool)
  /-- BBX_HEALTH (R441). -/
  | bbxHealth (t : Nat)
  /-- BBX_READ (R443). -/
  | bbxRead (t : Nat) (k : Fin 2) (a0 : Word) (a1 : Word) (w : Served)
  /-- ERASE_CHALLENGE (R444). -/
  | eraseChallenge (t : Nat) (k : Fin 2) (a0 : Word) (a1 : Word) (w : Served)
  /-- ERASE (R444). -/
  | erase (t : Nat) (k : Fin 2) (a0 : Word) (a1 : Word) (w : Served)
  /-- SNAPSHOT (R443). -/
  | snapshot (t : Nat) (k : Fin 2) (a0 : Word) (a1 : Word) (w : Served)
  /-- BBX_COMMAND_COMPLETE (R443). -/
  | bbxCommandComplete (t : Nat) (k : Fin 2)
  /-- POWER_CYCLE (R459). -/
  | powerCycle (t : Nat) (vbatLost : Bool)
  /-- RAIL_FAULT (R460). -/
  | railFault (t : Nat)
  /-- VDDIO_LOW (R460). -/
  | vddioLow (t : Nat)
  /-- SYSCLK_STOP (R461). -/
  | sysclkStop (t : Nat)
  /-- OVER_TEMPERATURE (R466). -/
  | overTemperature (t : Nat) (temp : Nat)
  /-- FILL_BLOCK (R70). -/
  | fillBlock (t : Nat) (n : Fin 1032) (hdr : Byte) (payload : LineBlock)
  /-- RX_READY (R87). -/
  | rxReady (t : Nat) (n : Fin 1032)
  /-- REMOTE_FAULT_CLEARED (R153). -/
  | remoteFaultCleared (t : Nat) (p : Fin 48)
  /-- ANNOUNCE_RECEIPT_TIMEOUT (R215). -/
  | announceReceiptTimeout (t : Nat) (d : Fin 2)
  /-- PPS_OUT_PULSE_END (R226). -/
  | ppsOutPulseEnd (t : Nat)
  /-- REFP_OUT_PULSE_END (R248). -/
  | refpOutPulseEnd (t : Nat) (j : Fin 8)
  /-- OVER_TEMPERATURE_CLEAR (R466). -/
  | overTemperatureClear (t : Nat) (tamp : Bool)
  /-- TAP_INSTRUCTION_LOAD (R454). -/
  | tapInstructionLoad (t : Nat) (instr : Nat)
  deriving DecidableEq, Repr

/-- The core cycle at which a command lands. -/
def Instr.cycle (i : Instr) : Nat :=
  match i with
  | .registerWrite t _ _ _ _ _ => t
  | .diagClr t _ _ => t
  | .tickSmp t => t
  | .tickFrm t _ => t
  | .stcTick t _ => t
  | .commitArm t _ _ _ => t
  | .commitDisarm t _ _ _ => t
  | .commitFire t _ => t
  | .groupMembershipWrite t _ _ _ => t
  | .cgrpArm t _ _ _ => t
  | .cgrpDisarm t _ _ _ => t
  | .cgrpFire t _ => t
  | .routeEntryApply t _ => t
  | .funcInit t _ _ => t
  | .funcInitComplete t _ => t
  | .auditSnap t _ _ _ => t
  | .sigFound t _ => t
  | .sigLost t _ => t
  | .cdrLockGained t _ => t
  | .cdrLockLost t _ => t
  | .sdiHuntDwellExpiry t _ => t
  | .lockGained t _ _ _ _ => t
  | .lockLost t _ => t
  | .elasticBufferFault t _ => t
  | .ignadaTenonBlock t _ _ _ _ => t
  | .superframeHeader t _ _ _ => t
  | .superframeLockLost t _ => t
  | .sidebandBlock t _ _ _ => t
  | .trainingBlock t _ _ _ => t
  | .ignTrainComplete t _ => t
  | .ignEnergyPresent t _ => t
  | .ignEnergyLost t _ => t
  | .ignAttemptTimeout t _ => t
  | .ignTrainingTimeout t _ => t
  | .ignBackoffExpiry t _ => t
  | .ignListenExit t _ => t
  | .ignResyncTimeout t _ => t
  | .laneIgnRestart t _ _ _ => t
  | .adaptWindow t _ _ => t
  | .lanePrbsGenWrite t _ _ _ => t
  | .lanePrbsChkWrite t _ _ _ => t
  | .prbsLocked t _ => t
  | .prbsLockLost t _ _ _ => t
  | .laneBitCntLoRead t _ _ _ _ => t
  | .tallyRxLoRead t _ _ => t
  | .errInjShot t _ _ _ => t
  | .errInjPeriodic t _ => t
  | .eyeScanStart t _ _ _ => t
  | .eyeScanDone t _ _ => t
  | .xbpSuperframeSwitch t _ => t
  | .xbpPgenWrite t _ _ _ => t
  | .braceTickSend t => t
  | .braceTickMessage t _ _ => t
  | .braceRecordSend t _ _ => t
  | .braceFrameRecord t _ _ => t
  | .braceFullRecord t _ _ => t
  | .braceRecordTimeout t _ _ _ => t
  | .brcRealign t _ _ => t
  | .deembAudioPacket t _ _ _ _ => t
  | .embedSample t _ _ => t
  | .ethRestart t _ _ _ => t
  | .anComplete t _ _ _ => t
  | .ethTrainComplete t _ _ => t
  | .ethTrainTimeout t _ => t
  | .ethEnergyLost t _ => t
  | .ethAlignLock t _ => t
  | .ethAlignTimeout t _ => t
  | .ethLinkLoss t _ => t
  | .ethBackoffExpiry t _ => t
  | .remoteFault t _ => t
  | .ethFrameRx t _ _ _ => t
  | .pauseExpiry t _ _ => t
  | .ethFrameTx t _ _ _ _ _ => t
  | .txUnderrun t _ _ => t
  | .hqEnable t _ _ _ => t
  | .hqDisable t _ _ _ => t
  | .hqTxDescriptor t _ _ => t
  | .cntSnap t _ _ => t
  | .vtgFrameStart t _ _ => t
  | .rxLinePlay t _ _ _ _ => t
  | .videoPathTimeout t _ _ => t
  | .skewOverClear t _ => t
  | .videoPacketTx t _ _ => t
  | .ancPacketTx t _ _ => t
  | .domAdjWrite t _ _ _ => t
  | .domStepWrite t _ _ _ => t
  | .domStepApply t _ => t
  | .servoMeasurement t _ _ _ _ _ => t
  | .servoSyncTimeout t _ => t
  | .mtSlewDone t => t
  | .ppsOutEdge t => t
  | .ppsInEdge t _ => t
  | .timeCap t _ => t
  | .stcLiveLoRead t _ => t
  | .mtOffLoRead t _ => t
  | .refpInEdge t _ _ => t
  | .refActivityTimeout t _ => t
  | .candFreqUpdate t _ _ => t
  | .wtrExpiry t _ => t
  | .holdMinExpiry t _ => t
  | .dpllLockTimer t _ => t
  | .dpllUnlockTimer t _ => t
  | .disagreeClear t _ => t
  | .refpOutPulse t _ => t
  | .refoFly t _ => t
  | .audTableSwap t => t
  | .meterSnapWrite t _ => t
  | .meterSnap t => t
  | .audioFlowTimeout t _ => t
  | .audioPathTimeout t _ _ => t
  | .foreignDetect t _ _ => t
  | .audioPacketTx t _ _ => t
  | .tdmFrameStart t _ _ => t
  | .tdmFrameRx t _ _ _ _ => t
  | .tdmPreDone t _ => t
  | .tdmPostDone t _ => t
  | .tdmRestart t _ _ => t
  | .tdmFifoFault t _ _ => t
  | .tdmClockStop t _ _ => t
  | .tdmClockBack t _ => t
  | .tdmRateMeasure t _ _ => t
  | .asrcTrack t _ _ => t
  | .frameBufferComplete t _ _ _ _ _ _ => t
  | .gddr6TrainingDone t _ => t
  | .gddr6Retrain t => t
  | .edcError t _ _ => t
  | .pcieReset t _ => t
  | .pcieReady t => t
  | .pcieUp t _ _ => t
  | .pcieDown t => t
  | .bar2Access t _ _ _ => t
  | .hifEoi t _ _ => t
  | .msixUnmask t _ _ _ => t
  | .spiRead t _ _ => t
  | .spiWrite t _ _ _ => t
  | .spiStatus t => t
  | .spiCsRise t _ _ => t
  | .echo t _ _ _ _ => t
  | .getVersions t _ _ _ _ => t
  | .getHealth t _ _ _ _ => t
  | .cfgRead t _ _ _ _ => t
  | .cfgWrite t _ _ _ _ => t
  | .calRead t _ _ _ _ => t
  | .calWrite t _ _ _ _ => t
  | .mbxAbort t _ => t
  | .mbxResponse t _ => t
  | .fwHeartbeat t => t
  | .busGrant t _ _ => t
  | .lockBreak t _ => t
  | .mreset t _ _ _ => t
  | .coreWatchdog t _ _ => t
  | .tamperTrip t _ => t
  | .nodeDefine t _ _ _ _ _ => t
  | .nodeInvalidate t _ _ _ _ _ => t
  | .nodeDelete t _ _ _ _ _ => t
  | .generate t _ _ _ _ _ => t
  | .exportKey t _ _ _ _ _ => t
  | .load t _ _ _ _ _ => t
  | .derive t _ _ _ _ _ => t
  | .importKey t _ _ _ _ _ => t
  | .unwrapKw t _ _ _ _ _ => t
  | .unload t _ _ _ _ _ => t
  | .getIdentity t _ _ _ _ _ => t
  | .attest t _ _ _ _ _ => t
  | .genIdentity t _ _ _ _ _ => t
  | .lcAdvance t _ _ _ _ _ => t
  | .custkeySet t _ _ _ _ _ => t
  | .revoke t _ _ _ _ _ => t
  | .tamperConfig t _ _ _ _ _ => t
  | .dbgChallenge t _ _ _ _ _ => t
  | .dbgUnlock t _ _ _ _ _ => t
  | .keyCommandComplete t => t
  | .powerGood t _ => t
  | .resetNAssert t => t
  | .resetNRelease t _ => t
  | .bootPhaseEnd t _ _ => t
  | .readyRise t => t
  | .bootWdExpiry t => t
  | .openSession t _ _ _ _ => t
  | .close t _ _ _ _ => t
  | .stageBegin t _ _ _ _ => t
  | .stageData t _ _ _ _ => t
  | .stageEnd t _ _ _ _ => t
  | .activate t _ _ _ _ => t
  | .revertNext t _ _ _ _ => t
  | .manifestBegin t _ _ _ _ => t
  | .manifestActivate t _ _ _ _ => t
  | .confirm t _ _ _ _ => t
  | .updCommandComplete t _ => t
  | .updSessionTimeout t => t
  | .faultInjFire t _ _ _ => t
  | .softReset t _ _ => t
  | .softResetExecute t => t
  | .eventRecordWrite t => t
  | .evrWinRead t _ => t
  | .evrWinLastRead t _ => t
  | .evrClrArm t _ => t
  | .evrClrClear t _ => t
  | .evrArmLapse t => t
  | .bbxEntryWrite t _ => t
  | .bbxHealth t => t
  | .bbxRead t _ _ _ _ => t
  | .eraseChallenge t _ _ _ _ => t
  | .erase t _ _ _ _ => t
  | .snapshot t _ _ _ _ => t
  | .bbxCommandComplete t _ => t
  | .powerCycle t _ => t
  | .railFault t => t
  | .vddioLow t => t
  | .sysclkStop t => t
  | .overTemperature t _ => t
  | .fillBlock t _ _ _ => t
  | .rxReady t _ => t
  | .remoteFaultCleared t _ => t
  | .announceReceiptTimeout t _ => t
  | .ppsOutPulseEnd t => t
  | .refpOutPulseEnd t _ => t
  | .overTemperatureClear t _ => t
  | .tapInstructionLoad t _ => t

end Sys2Proof
end

