-- ==== Sys2Proof/Machine/State.lean ====
section
/-! DEFINITION. The state of the TZ1024, what one command emits, and the reasons a step can stop. -/

namespace Sys2Proof.Machine

/-- Why a step stops with a fault. No command of the table is without an effect in the spec, so no meaning raises it;
it is kept for a step that a later repair might have to stop. Safe. (DESIGN CHOICE, notes/assumptions/112.md) -/
inductive Fault where
  /-- Raised by no meaning. Safe: the machine would stop where the hardware goes on. -/
  | unspecified (rule : String)
  deriving DecidableEq, Repr

/-- Why a command is refused. (DESIGN CHOICE, notes/assumptions/112.md) -/
inductive Refusal where
  /-- The command has no meaning in the model yet: raised only by its arm of `exec`. Safe. -/
  | notModelled (mnemonic : String)
  deriving DecidableEq, Repr

/-- An arm of a page that has latched and not yet been applied in full (R34, R42). -/
structure Arm where
  page : Page
  /-- The core cycle in which the arm latched, t_a. -/
  at_ : Nat
  /-- TICK_SEL as it counts for this arm. -/
  sel : Nat
  /-- Eligible ticks still to come; the commit fires at the one that makes this 0. -/
  left : Nat
  /-- When set: the commit fires at the first T_SMP at or after this cycle (R36). -/
  smp : Option Nat
  /-- SEQ as latched. -/
  seq : Nat
  /-- The group it was armed through. -/
  grp : Option Nat
  /-- F has been reached, and the entries of `waits` have still to apply (R42). -/
  draining : Bool
  /-- Waiting entries; with a cycle when the entry applies at the first T_SMP at or after it. -/
  waits : List (Entry × Option Nat)
  deriving DecidableEq, Repr

/-- A commit group that is PENDING or DRAINING (R41 to R44). -/
structure Grp where
  at_ : Nat
  sel : Nat
  left : Nat
  smp : Option Nat
  seq : Nat
  draining : Bool
  /-- Members that latched with it and have not left. -/
  members : List Page
  deriving DecidableEq, Repr

/-- An event offered to the recorder (R428, R436). -/
structure Ev where
  cycle : Nat
  stc : Nat
  page : Nat
  code : Nat
  cls : Nat
  inj : Bool
  bbx : Bool
  p0 : Nat
  p1 : Nat
  deriving DecidableEq, Repr

/-- An event record, Table 17.2; its CRC is a function of the other fields. -/
structure Rec where
  stc : Nat
  delta : Nat
  page : Nat
  code : Nat
  rep : Nat
  cls : Nat
  flags : Nat
  p0 : Nat
  p1 : Nat
  deriving DecidableEq, Repr

/-- The event recorder (R435 to R440, R468). -/
structure Recorder where
  /-- EVR_TAIL: the number of the oldest record held. EVR_HEAD is it plus the length of `ring`, modulo 2^32. -/
  tail : Nat
  ring : List Rec
  /-- Events offered and not yet taken, at most 64 (R437). -/
  queue : List Ev
  /-- Events lost since the last event 0x0006. -/
  lost : Nat
  /-- The newest record was written since the last device reset or power-good. -/
  fresh : Bool
  /-- The core cycle of the write that set ARMED. -/
  armedAt : Nat
  /-- The core cycle from which the recorder accepts its next event (R437). -/
  nextAt : Nat
  deriving DecidableEq, Repr

/-- A black-box entry, Table 17.4, without its SEQ, which is its place in the log. -/
structure BbxEntry where
  type : Nat
  cls : Nat
  flags : Nat
  boot : Nat
  stc : Nat
  payload : List Nat
  deriving DecidableEq, Repr

/-- The black box (R441 to R444, R468). -/
structure BlackBox where
  /-- BBX_TAIL; BBX_HEAD is it plus the length of `log`. -/
  tail : Nat
  log : List BbxEntry
  /-- Entries queued in retained SRAM, at most 256. -/
  queue : List BbxEntry
  /-- Entries lost from the queue and not yet reported by a LOST entry. -/
  lost : Nat
  /-- The newest record of the recorder went to the black box. -/
  newestSent : Bool
  /-- Challenge standing for each of the two masters, as a number of 256 bits. -/
  challenge : List (Option Nat)
  /-- Real contained and corrected faults since the last HEALTH entry. -/
  contained : Nat
  corrected : Nat
  deriving DecidableEq, Repr

/-- What protects a transmitted frame under MACsec: SC, AN, PN, SCI, confidentiality and its offset, the initial vector, and
the slot of the key (R171, R172, R175). -/
structure SecTx where
  sc : Nat
  an : Nat
  pn : Nat
  sci : Nat
  conf : Bool
  offset : Nat
  iv : List Nat
  slot : Nat
  deriving DecidableEq, Repr

/-- A line of a tenon, without the parts that its words derive from these. -/
structure SdiLine where
  /-- It begins a field or a frame. -/
  first : Bool
  f : Nat
  v : Nat
  num : Nat
  /-- The payload identifier the line carries. -/
  pid : Option Nat
  /-- Other words of the horizontal ancillary space, and those of the active line: luma in bits 19:10, chroma below. -/
  hanc : List Nat
  active : List Nat
  deriving DecidableEq, Repr

/-- The headers of a media packet on a path: the MAC port, the destination MAC address, PCP and VID of its VLAN tag, IP version 6,
the IP addresses (128 bits, or 32 for IPv4), TTL, DSCP and UDP ports; then those of RTP (R198, R202, R275). -/
structure MediaHead where
  port : Nat
  mac : Nat
  vlan : Option (Nat × Nat)
  ipv6 : Bool
  src : Nat
  dst : Nat
  ttl : Nat
  dscp : Nat
  sport : Nat
  dport : Nat
  pt : Nat
  ssrc : Nat
  seq : Nat
  ts : Nat
  marker : Bool
  deriving DecidableEq, Repr

/-- What a command makes the block emit at its pins, buses and links, beyond its state.
(DEDUCED, notes/assumptions/29.md; DESIGN CHOICE, notes/assumptions/115.md) -/
inductive Emit where
  /-- Data a read returns to a master. -/
  | readData (m : Master) (v : Word)
  /-- An access answered with an error (R376). -/
  | accessErr (m : Master) (write : Bool)
  /-- An MSI-X message: vector, address, data (R364). -/
  | msix (vec : Nat) (addr : Nat) (data : Nat)
  /-- Words handed to the source tenon `t` of lane `n` (R71). -/
  | laneWords (n t : Nat) (words : List Nat)
  /-- The next transmitted line bit of a lane is inverted (R94). -/
  | invertBit (n : Nat)
  /-- A brace message sent on a brace lane: the payload of Table 4.8 before scrambling. -/
  | braceMsg (lane : Nat) (payload : Nat)
  /-- A frame starts on MAC port `p`, with what protects it (R159, R172). -/
  | ethFrame (p : Nat) (frame : TxFrame) (sa : Option SecTx)
  /-- MAC port `p` sends this Clause 73 base page (R154). -/
  | anPage (p page : Nat)
  /-- A received frame takes a buffer from the share of its traffic class (R158). -/
  | rxBuffer (p cls : Nat)
  /-- The Sync of sequence number `seq` leaves MAC port `p` with this originTimestamp, and with a UDP checksum of 0 (R219). -/
  | oneStep (p seq : Nat) (time : Option Nat) (noChecksum : Bool)
  /-- The frame being sent ends with zeros and the inverse of its FCS (R161). -/
  | ethCut (p : Nat)
  /-- A line a video receive slot starts to play, with the packets for whose pixels it plays black (R187, R192). -/
  | rxLine (slot : Nat) (black : List Nat) (line : SdiLine)
  /-- A frame a video receive slot starts to play: its timestamp, none for black, and its payload identifier. -/
  | rxFrame (slot : Nat) (ts : Option Nat) (pid : Option Nat)
  /-- An RTP packet of a video send slot on path 0 or 1, with its SRDs (row, offset in bytes, length) and its pixel bytes
  (R198 to R202). -/
  | videoPacket (slot path : Nat) (head : MediaHead) (srds : List (Nat × Nat × Nat)) (payload : List Nat)
  /-- An ST 2110-40 packet of a video send slot on path 0 or 1 (R201). -/
  | ancPacket (slot path : Nat) (head : MediaHead) (pkts : List AncPkt)
  /-- An RTP packet of audio send flow `f` on path 0 or 1, with its encoded samples (R275). -/
  | audioPacket (f path : Nat) (head : MediaHead) (words : List Nat)
  /-- Words of the stream that leave destination tenon `d` from core cycle `at_` (R126). -/
  | tenonWords (d at_ : Nat) (words : List Nat)
  /-- A sample written by the embedder of destination `d` (R144): the sets of groups written, each with its audio control
  packet that shows 48 kHz synchronous audio, and kept; whether in ST 272 packets; and the sixteen entries' words. -/
  | embed (d written kept : Nat) (sd : Bool) (words : List Nat)
  /-- A frame of tenon generator `g` begins: format code, PAT (R141). -/
  | genFrame (g fmt pat : Nat)
  /-- A frame of media engine `e` begins on its output tenons: format code (R306, R307). -/
  | engFrame (e fmt : Nat)
  /-- A frame of black of the regenerator of XTX lane `n` begins: format code, payload identifier (R147). -/
  | blackFrame (n fmt pid : Nat)
  /-- A DOUT frame of a TDM port in format FMT: the 32 bits of each slot, its first bit highest (R284). -/
  | tdmFrame (port fmt : Nat) (slots : List Nat)
  /-- A write to host memory over PCIe: address, bytes and their value. -/
  | hostWrite (addr len value : Nat)
  deriving DecidableEq, Repr

/-- The words of one received tenon of an Ignada lane: bits still to skip to the first word boundary, then the bits of
a word begun (R71, R72, R76). -/
structure TenonRx where
  aligned : Bool
  skip : Nat
  n : Nat
  v : Nat
  deriving DecidableEq, Repr

/-- What a lane holds beyond its registers (chapter 3). -/
structure Lane where
  /-- Core cycle at which the attempt, and its training, began (R89). -/
  attemptAt : Nat
  trainAt : Nat
  /-- The core cycle at which its state of Table 3.8 was entered. -/
  ignAt : Nat
  /-- Consecutive valid headers, and header errors among the last 256 blocks, newest first (R88). -/
  hdrRun : Nat
  hdrWin : List Bool
  /-- Superframe headers found 1,024 blocks apart, blocks since the last, and consecutive missing ones (R88). -/
  sfSeen : Nat
  pos : Nat
  sfMiss : Nat
  /-- Header errors of this and of the last superframe (FAR_HDR_ERR, R74). -/
  sfErr : Nat
  sfErrLast : Nat
  /-- Consecutive training blocks with RX_READY, and consecutive training blocks in UP or RESYNC (R87, Table 3.8). -/
  readyRun : Nat
  trainRun : Nat
  /-- This side's receiver is ready (R87). -/
  rxReady : Bool
  /-- Status reported for the lane's own taps: 0 not updated, 1 updated, 2 at minimum, 3 at a maximum (R86). -/
  stPre : Nat
  stMain : Nat
  stPost : Nat
  /-- Committed taps: PRE, MAIN, POST, from which each attempt starts (R80). -/
  base : Nat × Nat × Nat
  /-- The scrambler (R73). -/
  scr : Nat
  /-- The received tenons. -/
  tens : List TenonRx
  /-- TMARK of the last sideband block, for tenons 0 to 7 (Table 3.6). -/
  tmark : List Nat
  /-- The partner's tally of the last valid sideband block. -/
  tally : Nat
  /-- Run of identical received line bits: its length and value (R75). -/
  kerfLen : Nat
  kerfVal : Bool
  /-- After an elastic-buffer fault the tenons carry fill until word lock is next regained (R63). -/
  starved : Bool
  /-- The CTLE setting in 0.5 dB steps and the DFE taps, as one number, while their adaptation stands (R81 to R83). -/
  ctle : Nat
  dfe : Nat
  /-- Requests sent to the partner for PRE, MAIN and POST, and PRESET (R85, R86). -/
  reqs : List Nat
  preset : Bool
  /-- Source tenons that carry fill, a bit each (R63, R76). -/
  fill : Nat
  /-- The rate code the receiver hunts at, and the last it locked to (R66, R67). -/
  hunt : Nat
  lastRate : Nat
  /-- Windows at or above 1/32 since the freeze (R82). -/
  adaptRun : Nat
  /-- User patterns the generator and the checker have taken (R91, R92). -/
  userGen : Nat
  userChk : Nat
  /-- Bits the checker compared. -/
  bitCnt : Nat
  /-- Timing of the received video: format code and the core cycle of the start of one of its switch lines (R109, R245), when
  the row that brought the lock gave them. -/
  video : Option (Nat × Nat)
  deriving DecidableEq, Repr

/-- A lane after a device reset or a FUNC_INIT. (DEDUCED, notes/assumptions/14.md) -/
def Lane.init : Lane :=
  { attemptAt := 0, trainAt := 0, ignAt := 0, hdrRun := 0, hdrWin := [], sfSeen := 0, pos := 0, sfMiss := 0, sfErr := 0,
    sfErrLast := 0, readyRun := 0, trainRun := 0, rxReady := false, stPre := 0, stMain := 0, stPost := 0,
    base := (4, 0x34, 7), scr := 0, tens := List.replicate 8 ⟨false, 0, 0, 0⟩, tmark := List.replicate 8 0, tally := 0,
    kerfLen := 0, kerfVal := false, starved := false, ctle := 0, dfe := 0, reqs := [0, 0, 0], preset := false,
    fill := 0xFF, hunt := 0xA, lastRate := 0, adaptRun := 0, userGen := 0, userChk := 0, bitCnt := 0, video := none }

/-- A record of the brace link: own or the partner's (R121). -/
structure BraceRec where
  full : Bool
  vtg : Nat
  tnum : Nat
  cmt : Nat
  /-- ROUTE_CRC of a frame record, or XBP_CRC, XWP_CRC, FLOWV_CRC of a full record. -/
  crcs : List Nat
  audValid : Bool
  audCrc : Nat
  deriving DecidableEq, Repr

/-- What the bit plane and the brace link hold beyond their registers (chapter 4). -/
structure Xbp where
  /-- Source at the crosspoint per output: the SRC code, or 0x800 for the serialiser; 0x7FF where unlisted. -/
  src : Tab Nat
  /-- Outputs that wait for a superframe boundary, with the cycle of the entry's application (R107). -/
  waits : Tab Nat
  /-- User patterns the eight pattern sources have taken (R111). -/
  user : List Nat
  deriving DecidableEq, Repr

structure Brace where
  /-- Instants of the last T_SMPs and of the last T_FRM per VTG: tick number and core cycle, newest first. -/
  smpAt : List (Nat × Nat)
  frmAt : Tab (List (Nat × Nat))
  /-- The last round trips, newest first, and how many since ALIGN was entered (R117, Table 4.9). -/
  trips : List Nat
  tripCnt : Nat
  /-- TX_TIME and arrival of the last valid tick message. -/
  echo : Option (Nat × Nat)
  /-- T_SMP is numbered under R119, on the leader aligned; the VTGs numbered. -/
  smpNumbered : Bool
  frmNumbered : List Nat
  /-- VTGs whose frame records are compared, with the first tick number that counts (R122). -/
  started : Tab Nat
  /-- Own records computed and not yet sent, with whether AUD_CRC still waits for its T_SMP (R121). -/
  made : List (Bool × BraceRec)
  /-- Records waiting for their counterpart. -/
  own : List BraceRec
  twin : List BraceRec
  /-- Partner records already taken in: kind, VTG, tick number; newest first. -/
  seen : List (Bool × Nat × Nat)
  /-- A mismatch has occurred since the last full record pair (R123). -/
  mismatch : Bool
  /-- Lanes excluded for their RXTAG, each with 1 more than the RXTAG last seen (R115). -/
  miswired : Tab Nat
  deriving DecidableEq, Repr

/-- The brace link with no history. -/
def Brace.init : Brace :=
  { smpAt := [], frmAt := [], trips := [], tripCnt := 0, echo := none, smpNumbered := false, frmNumbered := [],
    started := [], made := [], own := [], twin := [], seen := [], mismatch := false, miswired := [] }

/-- The placement pass of a core cycle: the paths and the words of the page before it, and what it has tried again (R132,
R135). -/
structure PlacePass where
  at_ : Nat
  paths : List (Nat × Nat × Nat)
  words : List (Nat × Word)
  retry : List Nat
  deriving DecidableEq, Repr

/-- What the word plane holds beyond its registers (chapter 5). -/
structure Xwp where
  /-- Placed paths: source tenon, egress switch, middle switch (R131, R132). -/
  paths : List (Nat × Nat × Nat)
  /-- De-embed FIFOs, by 16 s + channel: samples and the cycle in which their packet ended, oldest first (R143). -/
  fifo : Tab (List (Nat × Nat))
  /-- The last sample each de-embedded channel wrote, by 16 s + channel. -/
  last : Tab Nat
  /-- De-embedded channels that the packets of their group do not carry, ascending (R142). -/
  silent : List Nat
  /-- The last placement pass. -/
  pass : Option PlacePass
  /-- By destination, 1 more than the T_SMP instant of the sample embedded last, and than the cycle at which the line that
  carries it began (R145). -/
  embAt : Tab Nat
  lineAt : Tab Nat
  deriving DecidableEq, Repr

/-- What a MAC port holds beyond its ETH page (chapter 6). -/
structure EthPort where
  /-- The core cycle at which its state of Table 6.2 was entered. -/
  linkAt : Nat
  /-- Pause of each class: the requested quanta and the core cycle at which its frame ended (R164). -/
  pause : List (Option (Nat × Nat))
  /-- Committed taps of the four lanes: PRE, MAIN, POST (R152). -/
  base : List (Nat × Nat × Nat)
  /-- Frames that wait in the transmit buffer, oldest first; each holds a transmit credit (R159). -/
  queue : List TxFrame
  deriving DecidableEq, Repr

/-- A MAC port after a device reset. -/
def EthPort.init : EthPort :=
  { linkAt := 0, pause := List.replicate 8 none, base := List.replicate 4 (4, 0x34, 7), queue := [] }

/-- A video receive flow slot (R186 to R195). -/
structure RxSlot where
  /-- Stored packets: extended sequence number and RTP timestamp, oldest first. -/
  pkts : List (Nat × Nat)
  /-- RTP timestamp of the frame being played; none while black or no frame is played. -/
  ts : Option Nat
  /-- RTP timestamp of the last selected frame. -/
  lastTs : Option Nat
  /-- Packets of the frame being played whose last pixel has been played, and those counted in PKT_MISS. -/
  gone : List Nat
  missed : List Nat
  /-- Consecutive frame starts with no frame selected; consecutive frames with PKT_MISS unchanged; PKT_MISS at the last
  frame start. -/
  absent : Nat
  good : Nat
  missAt : Nat
  /-- Last sequence number of path A and of path B. -/
  lastA : Option Nat
  lastB : Option Nat
  /-- The core cycle of the last packet of path A and of path B, or of the start (R195). -/
  heardA : Nat
  heardB : Nat
  /-- The core cycle since which the skew has stayed within its limit less 100 µs (R194). -/
  skewOk : Option Nat
  /-- Arrivals that wait for their pair: sequence number, path B, core cycle, newest first. -/
  arrivals : List (Nat × Bool × Nat)
  /-- The last 256 skews in core cycles, newest first. -/
  skews : List Int
  /-- Ancillary packets waiting: RTP sequence number, RTP timestamp, and the packet. -/
  anc : List (Nat × Nat × AncPkt)
  /-- Lines of the frame being played that have started. -/
  lines : List Nat
  deriving DecidableEq, Repr

/-- A receive slot that is OFF. -/
def RxSlot.init : RxSlot :=
  { pkts := [], ts := none, lastTs := none, gone := [], missed := [], absent := 0, good := 0, missAt := 0, lastA := none,
    lastB := none, heardA := 0, heardB := 0, skewOk := none, arrivals := [], skews := [], anc := [], lines := [] }

/-- A frame or field being sent (R198, R199). -/
structure TxRun where
  ts : Nat
  /-- Packets sent, of how many; format code, packing mode and PLEN. -/
  sent : Nat
  total : Nat
  fmt : Nat
  pm : Nat
  plen : Nat
  black : Bool
  /-- It is the first after SRC has left 0b00. -/
  first : Bool
  /-- The core cycle of its start t_f, and TX_TRO. -/
  tf : Nat
  tro : Nat
  deriving DecidableEq, Repr

/-- The ancillary stream of a frame or field: its timestamp, the packets sent, the core cycle of its start, its format code, and
whether it is a second field (R201). -/
structure AncRun where
  ts : Nat
  sent : Nat
  tf : Nat
  fmt : Nat
  second : Bool
  deriving DecidableEq, Repr

/-- A video send flow slot (R196 to R201). -/
structure TxSlot where
  /-- The packetiser sends: SRC was not 0b00 at the last frame start. -/
  run : Bool
  /-- The next extended sequence number, and the next RTP sequence number of its ancillary stream. -/
  seq : Nat
  ancSeq : Nat
  frames : List TxRun
  /-- The frame on tenon 0 and the one before it, newest first, as far as their ancillary packets are sent. -/
  ancRuns : List AncRun
  deriving DecidableEq, Repr

/-- A send slot that sends nothing. -/
def TxSlot.init : TxSlot := { run := false, seq := 0, ancSeq := 0, frames := [], ancRuns := [] }

/-- A stamp of a PTP event message (R217): received or sent, its messageType, domainNumber and sequenceId, the STC, and the time
of each domain that was enabled. -/
structure Stamp where
  rx : Bool
  kind : Nat
  dom : Nat
  seq : Nat
  stc : Nat
  timeA : Option Nat
  timeB : Option Nat
  deriving DecidableEq, Repr

/-- A master heard in Announce messages (R216): its port, its sourcePortIdentity, what the best master clock algorithm
compares, and currentUtcOffset. -/
structure Heard where
  port : Nat
  source : Nat
  rank : List Nat
  utc : Nat
  deriving DecidableEq, Repr

/-- The clocks that the spec keeps beyond the registers of the TIME page (R211, R214, R220, R226). -/
structure Clocks where
  /-- Time of domain A and of domain B, in 2^-40 ns, modulo 2^48 s. -/
  domA : Nat
  domB : Nat
  /-- The increment each domain counts with beyond the nominal one, 2^-40 ns per core cycle. -/
  adjA : Int
  adjB : Int
  /-- MT_OFF, in 2^-40 ns. -/
  mtOff : Int
  /-- Consecutive measurements within 1 µs, per domain (R215). -/
  runA : Nat
  runB : Nat
  /-- DOM_ADJ while LOCKED: the cycles at which it took a value, newest first, per domain (R215). -/
  histA : List (Nat × Int)
  histB : List (Nat × Int)
  /-- The PPS_OUT pin, and the core cycle in which it last rose. -/
  ppsOut : Bool
  ppsAt : Nat
  /-- Stamps waiting for the firmware, per MAC port, oldest first (R217). -/
  stamps : Tab (List Stamp)
  /-- Masters heard on the ports of each domain, and the sourcePortIdentity of the selected one (R216). -/
  heardA : List Heard
  heardB : List Heard
  masterA : Option Nat
  masterB : Option Nat
  deriving DecidableEq, Repr

/-- The last event that a candidate offered a DPLL (Table 9.3): its core cycle, the DPLL's own τ there in 2^-40 ns, and the τ
offered, `num / den` ns. -/
structure Offer where
  at_ : Nat
  tau : Int
  num : Int
  den : Nat
  deriving DecidableEq, Repr

/-- What the qualification of a candidate holds beyond CAND_STAT, and the flywheel of a REFP_IN (R233 to R235, R249). -/
structure RefCand where
  /-- Core cycle since which the activity check has held, and the period check. -/
  actSince : Option Nat
  perSince : Option Nat
  /-- Last edge, and the last 16 periods in core cycles, newest first. -/
  edge : Option Nat
  periods : List Nat
  /-- Qualified since the last commit of its CAND_CFG or the last device reset. -/
  had : Bool
  /-- Core cycle at which its wait began. -/
  waitAt : Nat
  /-- The flywheel's phase: an edge it stands on. -/
  fly : Nat
  /-- Edges seen, and at each of the last whole STC seconds its number, a core cycle and the count or phase there (R234). -/
  count : Nat
  marks : List (Nat × Nat × Int)
  /-- The last event offered to each DPLL (R240). -/
  offers : Tab (Option Offer)
  deriving DecidableEq, Repr

/-- A candidate with no history. -/
def RefCand.init : RefCand :=
  { actSince := none, perSince := none, edge := none, periods := [], had := false, waitAt := 0, fly := 0,
    count := 0, marks := [], offers := [] }

/-- A DPLL (R236 to R242). -/
structure Dpll where
  /-- The core cycle of the last loss of its selection, until HOLD_MIN has passed. -/
  held : Option Nat
  /-- DPLL time at core cycle `at_`, in 2^-40 ns. -/
  tau : Int
  at_ : Nat
  /-- Output frequency in 0.001 ppm and whether LOCKED, each from the core cycle named, newest first. -/
  hist : List (Nat × Int × Bool)
  /-- Its τ has come from the loop's output, which the spec leaves open inside bounds. -/
  loose : Bool
  /-- The core cycle since which the phase error has stayed within LOCK_TOL, and beyond 4 LOCK_TOL (Table 9.5). -/
  within : Option Nat
  beyond : Option Nat
  /-- The core cycle at which a pair was last seen to disagree (R237). -/
  disAt : Nat
  /-- Of the audio DPLL: the last T_SMP, and τ has stepped since (R242, R243). -/
  last : Option Nat
  stepped : Bool
  deriving DecidableEq, Repr

/-- A DPLL after a device reset. (DESIGN CHOICE, notes/assumptions/68.md) -/
def Dpll.init : Dpll :=
  { held := none, tau := 0, at_ := 0, hist := [], loose := false, within := none, beyond := none, disAt := 0, last := none,
    stepped := false }

/-- A video timing generator (R245 to R247). -/
structure Vtg where
  /-- Start, length in core cycles, lines and switch line of the frame in progress or last completed. -/
  start : Option Nat
  period : Nat
  lines : Nat
  sw : Nat
  /-- Its T_FRM has fallen, and its second field has begun. -/
  ticked : Bool
  second : Bool
  /-- A realignment waits for the first frame start of the new grid. -/
  realign : Bool
  /-- STC of the last T_FRM. -/
  tfrm : Nat
  deriving DecidableEq, Repr

/-- A VTG that has not started. -/
def Vtg.init : Vtg :=
  { start := none, period := 0, lines := 0, sw := 0, ticked := false, second := false, realign := false, tfrm := 0 }

/-- A running scarf: the two words of the old entry, the generations done, and the length (R260). -/
structure Scarf where
  w0 : Nat
  w1 : Nat
  k : Nat
  len : Nat
  deriving DecidableEq, Repr

/-- The sample plane (R252 to R263). -/
structure Aud where
  /-- Slot words of the newest generation; unlisted slots hold the zero word. -/
  slots : Tab Nat
  /-- Output words computed from it, and the consumer's samples of the last T_SMP, by destination index. -/
  outs : Tab Nat
  cons : Tab Nat
  /-- The consumer's samples of the last T_SMPs, each with its instant, newest first (R145). -/
  past : List (Nat × Tab Nat)
  scarf : Tab Scarf
  /-- Sample peak of each meter since the last snapshot. -/
  meters : Tab Nat
  /-- A snapshot is requested. -/
  snap : Bool
  /-- Grid media time of the last T_SMP in ns, numerator and denominator. -/
  gNum : Int
  gDen : Nat
  deriving DecidableEq, Repr

/-- A stored audio packet: RTP sequence number, count of its first sample on the media time scale (for an ASRC flow,
its arrival), and its samples, channel by channel within each sample instant. -/
structure AudPkt where
  seq : Nat
  first : Int
  words : List Nat
  deriving DecidableEq, Repr

/-- An audio receive flow (R268 to R274). -/
structure AudRx where
  pkts : List AudPkt
  /-- Sequence numbers played, newest first. -/
  done : List Nat
  /-- First sample of the last packet stored, and the packet last counted in PKT_LOSS. -/
  lastFirst : Option Int
  lossAt : Option Int
  /-- Slack of the packets stored in the last second: core cycle and 0.1 µs, newest first. -/
  slacks : List (Nat × Int)
  /-- The 1 s mean of slack, second by second, newest first (R274). -/
  means : List (Nat × Int)
  /-- The core cycle of the last packet of path A and of path B, or of the start (R271, R272). -/
  heardA : Nat
  heardB : Nat
  arrivals : List (Nat × Bool × Nat)
  skews : List Int
  deriving DecidableEq, Repr

/-- A receive flow that is OFF. -/
def AudRx.init : AudRx :=
  { pkts := [], done := [], lastFirst := none, lossAt := none, slacks := [], means := [], heardA := 0,
    heardB := 0, arrivals := [], skews := [] }

/-- An audio send flow (R275, R276). -/
structure AudTx where
  seq : Nat
  /-- The packet being built: its RTP timestamp and its samples so far. -/
  run : Option (Nat × List Nat)
  /-- Packets built and not yet sent: timestamp, samples, and the core cycle of the scheduled instant, which is known from the next
  T_SMP on. -/
  ready : List (Nat × List Nat × Option Nat)
  deriving DecidableEq, Repr

/-- A send flow that is off. -/
def AudTx.init : AudTx := { seq := 0, run := none, ready := [] }

/-- A TDM port (R283 to R298). -/
structure TdmPort where
  /-- TDM_CTRL and TDM_ASRC under which the port runs, and its masks. -/
  ctl : Nat
  chs : Nat
  rxMask : Nat
  txMask : Nat
  /-- The port passes from POST to PRE (Table 11.3). -/
  again : Bool
  /-- DIN frames: the T_SMP number that preceded the start (master) or the core cycle of completion (slave), and the
  24-bit samples in rank order. -/
  din : List (Nat × List Nat)
  /-- DOUT frames: the 32 consumer words. -/
  dout : List (List Nat)
  /-- A synchronous slave has reached 4 DIN frames. -/
  primed : Bool
  /-- The later frame of a T_SMP period comes next (R97 = 1). -/
  later : Bool
  /-- Words the port's slots carried last, and generations of a ramp done. -/
  last : List Nat
  ramp : Option Nat
  /-- The ASRC channels re-acquire after a rate change. -/
  reacq : Bool
  /-- Frames since RUN was entered, and the last stamp. -/
  frames : Nat
  blkStc : Nat
  blkAt : Nat
  /-- A rate has been measured since PRE was entered. -/
  measured : Bool
  /-- The core cycle at which RUN was entered. -/
  runAt : Nat
  /-- TDM_SEQ under which the port runs, and PACK3 of the frames it captures. -/
  seq : Nat
  pack3 : Nat
  /-- Frames counted in PRE, POST or CLK_LOST: those that started at `since` or later (Table 11.3). -/
  seen : Nat
  since : Nat
  /-- In POST, no frame has started yet: the port still carries its samples (Table 11.3). -/
  winding : Bool
  /-- The core cycle at which the frame in progress started; the earlier one of a T_SMP period at R97 = 1. -/
  start : Option Nat
  /-- SMP_COUNT at the start of the earlier frame of a master port (R286). -/
  smp : Nat
  /-- Frame starts of the last 100 ms intervals of the STC, by interval, and the next interval that is measured (R297). -/
  starts : List (Nat × Nat)
  nextIv : Nat
  deriving DecidableEq, Repr

/-- A port that is OFF. -/
def TdmPort.init : TdmPort :=
  { ctl := 0x500, chs := 0x200000, rxMask := 0, txMask := 0, again := false, din := [], dout := [], primed := false,
    later := false, last := List.replicate 32 0, ramp := none, reacq := false, frames := 0, blkStc := 0, blkAt := 0,
    measured := false, runAt := 0, seq := 0x01E001E0, pack3 := 0, seen := 0, since := 0, winding := false, start := none,
    smp := 0, starts := [], nextIv := 0 }

/-- A stream layer's frame buffer (R312, R313). -/
structure EngLayer where
  /-- Number of the complete frame in each of the four slots; 0 for none or an incomplete one. -/
  seqs : List Nat
  /-- When each slot was written last: a count of writings. -/
  ages : List Nat
  /-- Complete frames since the layer was enabled, and writings. -/
  count : Nat
  writes : Nat
  /-- The slot and frame number selected at the last frame tick. -/
  sel : Option (Nat × Nat)
  /-- End of the arrival of the first active line of the last frame, in core cycles. -/
  arrived : Option Nat
  /-- The input broke in the current frame (R337). -/
  broke : Bool
  /-- The slot of the frame written last, and the rows of it that came in order (R312, R337). -/
  cur : Option (Nat × Nat)
  /-- A burst of the frame being written was lost (R324). -/
  lost : Bool
  deriving DecidableEq, Repr

/-- A layer with no frame. -/
def EngLayer.init : EngLayer :=
  { seqs := List.replicate 4 0, ages := List.replicate 4 0, count := 0, writes := 0, sel := none, arrived := none,
    broke := false, cur := none, lost := false }

/-- A media engine (chapters 12 and 13). -/
structure Eng where
  /-- It draws: it ran at its last frame tick. -/
  on : Bool
  /-- The live words of its pages as sampled at its last frame tick (R306). -/
  conf : Tab Word
  layers : Tab EngLayer
  /-- Lines drawn in fill in the frame in progress: layer and canvas line (R324). -/
  lost : List (Nat × Nat)
  /-- Runs whose cache is redrawn at the next frame tick after a lost burst (R341). -/
  redraw : List Nat
  deriving DecidableEq, Repr

/-- An engine that has not run. -/
def Eng.init : Eng := { on := false, conf := [], layers := [], lost := [], redraw := [] }

/-- The bus matrix beyond its registers (R373, R375). -/
structure Bus where
  /-- Master last granted at each target. -/
  last : List Nat
  /-- Lock of each target: its master, and the core cycle of the locked read's grant. -/
  locks : List (Option (Nat × Nat))
  /-- Masters whose next access is answered with an error after a broken lock (R375). -/
  errNext : List Nat
  deriving DecidableEq, Repr

/-- The service SPI port (R367, R368). -/
structure SpiPort where
  /-- Dwords of the WRITE queue: address and value. -/
  queue : List (Nat × Nat)
  err : Bool
  ovf : Bool
  /-- A READ runs. -/
  reading : Bool
  deriving DecidableEq, Repr

/-- OTP, Table 15.7 (R401): fuses that change only from 0 to 1. -/
structure Otp where
  uniqueId : Nat
  grade : Nat
  pcieSub : Nat
  macBase : Nat
  /-- Key hash slots 0 to 3; none where unwritten. -/
  keyHash : List (Option (List Nat))
  revoked : Nat
  /-- Anti-rollback counters of EFN, CTL, LNM, ENGM. -/
  rb : List Nat
  lc : Nat
  debugLock : Bool
  idEpoch : Nat
  tampLock : Bool
  deriving DecidableEq, Repr

/-- A coppice node (R388). -/
structure Node where
  defined : Bool
  attr : Nat
  parent : Nat
  gen : Nat
  deriving DecidableEq, Repr

/-- The VBAT domain (R383, R384, R386, R388, R468). -/
structure Vbat where
  /-- The root secret, 32 bytes as one number; none while it is not valid. -/
  root : Option Nat
  nodes : Tab Node
  tampCount : Nat
  latch : Nat
  /-- Latch bits whose detector tripped while the device was not powered. -/
  latchDark : Nat
  tampCfg : Nat
  bootCnt : Nat
  deriving DecidableEq, Repr

/-- The Efner's volatile state (R387, R392, R397, R403). -/
structure KeyStore where
  /-- Key material by slot, as bytes. -/
  slots : Tab (List Nat)
  /-- The running command's outcome: STATUS, KEY_RSP0, and whether KEY_BUF keeps its contents. -/
  run : Option (Nat × Nat × Bool)
  /-- Its OP, and the core cycle in which it was accepted. -/
  runOp : Nat
  runAt : Nat
  /-- The last DBG_CHALLENGE output. -/
  challenge : Option (List Nat)
  /-- Debug opened by DBG_UNLOCK. -/
  unlocked : Bool
  /-- A TAMP input is active (R387). -/
  tampActive : Bool
  deriving DecidableEq, Repr

/-- An image slot of the flash whose content is known: header and body (R405, R415). -/
structure ImgSlot where
  hdr : List Nat
  body : List Nat
  deriving DecidableEq, Repr

/-- A record of the configuration store (R423, R424). -/
structure CfgRec where
  key : Nat
  fmt : Nat
  seq : Nat
  retired : Bool
  /-- The sequence number of the selection whose migration wrote it (R424). -/
  tag : Option Nat
  body : List Nat
  deriving DecidableEq, Repr

/-- The flash (R405, R406, R423, R425). -/
structure Flash where
  /-- Image slots by 4 × bank + type; a slot not listed holds what it held at manufacture. -/
  slots : Tab ImgSlot
  /-- Boot record: SEL, NEXT and PREV with a bit per type, TRIAL, and the sequence number. -/
  sel : Nat
  next : Nat
  prev : Nat
  trial : Bool
  seq : Nat
  /-- The manifest of the last manifest activation. -/
  manifest : List Nat
  cfg : List CfgRec
  cfgSeq : Nat
  /-- Calibration items by 65,536 × kind + index, as their words; none where neither copy is valid. -/
  cal : Option (Tab (List Nat))
  deriving DecidableEq, Repr

/-- Start-up beyond the UPD page (R407 to R422, R433, R454, R458 to R466). -/
structure Boot where
  /-- What holds the device in reset: 0 nothing, 1 RESET_N, 2 a rail, 3 no power, 4 VDDIO low, 5 temperature. -/
  hold : Nat
  /-- Core cycle of the power-good or of the reset's release, and of the start of the control cores. -/
  startAt : Nat
  coreAt : Nat
  /-- An accepted soft reset waits for the black-box queue: the core cycle of its acceptance (R433). -/
  soft : Option Nat
  /-- The STC at which the next HEALTH entry falls due, from READY (Table 17.5). -/
  healthAt : Option Nat
  /-- The instruction of the test access port: 0 BYPASS, 1 SAMPLE/PRELOAD, 2 EXTEST, 3 HIGHZ, 4 CLAMP, others private. -/
  tap : Nat
  /-- The lane swing trims in use, by calibration item (Table 16.8). -/
  trims : Tab (List Nat)
  deriving DecidableEq, Repr

/-- The update session (R413 to R419). -/
structure Upd where
  /-- The image being staged: type, header, body so far. -/
  stage : Option (Nat × List Nat × List Nat)
  /-- The open manifest. -/
  manifest : List Nat
  /-- Command running for each master: STATUS and UPD_RSP0. -/
  run : List (Option (Nat × Nat))
  /-- Masters whose OPEN waits for the Efner to take it (R413). -/
  opens : List Nat
  /-- The core cycle of the owner's last command (R413). -/
  cmdAt : Nat
  deriving DecidableEq, Repr

/-- Counters of an audited pool (R51). -/
structure PoolCnt where
  issued : Nat
  returned : Nat
  outstanding : Nat
  deriving DecidableEq, Repr

/-- What a page held before the application of this core cycle, for a FUNC_INIT that lands in the same cycle (R54). -/
structure Undo where
  page : Page
  /-- Live words that the application changed, with what they held. -/
  live : List (Nat × Word)
  /-- FIRED and SEQ_LIVE of COMMIT_STAT. -/
  fired : Nat
  seq : Nat
  /-- MT_OFF. -/
  mtOff : Int
  /-- The page was armed by itself, so that the commit event was its own; and it was the first since READY. -/
  lone : Bool
  first : Bool
  deriving DecidableEq, Repr

/-- The machine. -/
structure State where
  /-- The core cycle. The model's own clock: every command carries the cycle at which it lands. -/
  now : Nat
  /-- The core cycle of the last device reset, at which the STC was 0. -/
  resetCycle : Nat
  /-- Registers and table words as a read returns them: RW, RO, W1C and the shadows of RWS fields; by BAR0 address. -/
  sh : Tab Word
  /-- The live copies of words with RWS fields, by BAR0 address. -/
  lv : Tab Word
  arms : Tab Arm
  groups : Tab Grp
  /-- Pages whose lock an application ended in the core cycle `freedAt`, each with whether it was armed by its group (R33, R38). -/
  freed : List (Page × Bool)
  freedAt : Nat
  /-- What pages held before the applications of the core cycle `undoAt` (R54). -/
  undo : List Undo
  undoAt : Nat
  /-- Pages whose FUNC_INIT runs, by page number. -/
  busy : List Page
  /-- Counters of the audited pools, by 256 × class + instance. -/
  pools : Tab PoolCnt
  /-- Pages whose FATAL_REAL latch is set, ascending (R429). -/
  fatal : List Nat
  /-- GLB.FATAL_SRC's page, in the always-on logic. -/
  fatalSrc : Option Nat
  /-- In normal service (R49). -/
  normal : Bool
  /-- A commit has fired since READY rose (R49). -/
  committed : Bool
  evr : Recorder
  bbx : BlackBox
  /-- MSI-X vectors in service, ascending (R364). -/
  insvc : List Nat
  lanes : Tab Lane
  xbp : Xbp
  brace : Brace
  xwp : Xwp
  eth : Tab EthPort
  /-- Load generation that each enabled SA recorded at the last fire, by 128 p + SA; SAs 0 to 7 transmit, 16 to 79
  receive (R174). -/
  saGen : Tab Nat
  /-- Lowest acceptable PN of each receive SA, by 128 p + SA (R175); 1 where unlisted. -/
  rxPn : Tab Nat
  /-- SAs whose record has been written since the last fire of their page (Table 6.13). -/
  saWritten : List Nat
  rxs : Tab RxSlot
  txs : Tab TxSlot
  clk : Clocks
  cands : Tab RefCand
  dplls : Tab Dpll
  vtgs : Tab Vtg
  /-- REFP_OUT pins inside a pulse, ascending (R248). -/
  refo : List Nat
  /-- The core cycle at which the pulse of each began. -/
  refoAt : Tab Nat
  aud : Aud
  audRx : Tab AudRx
  audTx : Tab AudTx
  tdm : Tab TdmPort
  /-- GDDR6: the bytes that differ from 0, by address. -/
  gddr : List Host.Cell
  engs : Tab Eng
  /-- TDM ports, with the GDDR6 channel, whose next write of a capture or stamp ring to it is lost (R324). -/
  ringLost : List (Nat × Nat)
  /-- The core cycle of the last retraining of a GDDR6 channel (R323). -/
  retrainAt : Option Nat
  bus : Bus
  spi : SpiPort
  /-- Request running in each mailbox: its STATUS and response payload (R370). -/
  mbx : List (Option (Nat × List Nat))
  /-- Core cycle in which each mailbox accepted its last GO. -/
  mbxAt : List Nat
  /-- The PCIe endpoint answers configuration requests (R357). -/
  pcieReady : Bool
  /-- The function mask of the MSI-X capability (R364). -/
  msixMask : Bool
  otp : Otp
  vbat : Vbat
  keys : KeyStore
  /-- The identity key of R398 is present in the blob store: its modulus. -/
  identity : Option (List Nat)
  /-- The device is powered (R458, R459). -/
  powered : Bool
  flash : Flash
  boot : Boot
  upd : Upd
  /-- Black-box command running for each master: STATUS and BBX_RSP0. -/
  bbxRun : List (Option (Nat × Nat))
  /-- The next index of the model's free values. -/
  free : Nat
  /-- What the last command made the block emit, in order. The model's own field. -/
  out : List Emit
  /-- The commands that wait, first in, first out. -/
  pending : List Instr
  deriving DecidableEq, Repr

/-- The machine right after the first power-good (R407): the STC is 0, the Efner ROM runs, every register holds its reset
value, and the retained and non-volatile stores are as notes/assumptions say.
(DEDUCED, notes/assumptions/14.md; DESIGN CHOICE, notes/assumptions/16.md; DESIGN CHOICE, notes/assumptions/17.md; DESIGN CHOICE, notes/assumptions/19.md) -/
def State.reset : State where
  now := 0
  resetCycle := 0
  sh := []
  lv := []
  arms := []
  groups := []
  freed := []
  freedAt := 0
  undo := []
  undoAt := 0
  busy := []
  pools := []
  fatal := []
  fatalSrc := none
  normal := false
  committed := false
  evr := { tail := 0, ring := [], queue := [], lost := 0, fresh := false, armedAt := 0, nextAt := 0 }
  bbx := { tail := 0, log := [], queue := [], lost := 0, newestSent := false, challenge := [none, none], contained := 0,
           corrected := 0 }
  insvc := []
  lanes := []
  xbp := { src := [], waits := [], user := List.replicate 8 0 }
  brace := Brace.init
  xwp := { paths := [], fifo := [], last := [], silent := [], pass := none, embAt := [], lineAt := [] }
  eth := []
  saGen := []
  rxPn := []
  saWritten := []
  rxs := []
  txs := []
  clk := { domA := 0, domB := 0, adjA := 0, adjB := 0, mtOff := 0, runA := 0, runB := 0, histA := [], histB := [],
           ppsOut := false, ppsAt := 0, stamps := [], heardA := [], heardB := [], masterA := none, masterB := none }
  cands := []
  dplls := []
  vtgs := []
  refo := []
  refoAt := []
  aud := { slots := [], outs := [], cons := [], past := [], scarf := [], meters := [], snap := false, gNum := 0, gDen := 1 }
  audRx := []
  audTx := []
  tdm := []
  gddr := []
  engs := []
  ringLost := []
  retrainAt := none
  bus := { last := List.replicate 6 0, locks := List.replicate 6 none, errNext := [] }
  spi := { queue := [], err := false, ovf := false, reading := false }
  mbx := [none, none]
  mbxAt := [0, 0]
  pcieReady := false
  msixMask := false
  otp := { uniqueId := 0, grade := 0, pcieSub := 0, macBase := 0, keyHash := [none, none, none, none], revoked := 0,
           rb := [0, 0, 0, 0], lc := 0, debugLock := false, idEpoch := 0, tampLock := false }
  vbat := { root := none, nodes := [], tampCount := 0, latch := 0, latchDark := 0, tampCfg := 0, bootCnt := 1 }
  keys := { slots := [], run := none, runOp := 0, runAt := 0, challenge := none, unlocked := false, tampActive := false }
  identity := none
  powered := true
  flash := { slots := [], sel := 0, next := 0, prev := 0, trial := false, seq := 0, manifest := [], cfg := [], cfgSeq := 0,
             cal := some [] }
  boot := { hold := 0, startAt := 0, coreAt := 0, soft := none, healthAt := none, tap := 0, trims := [] }
  upd := { stage := none, manifest := [], run := [none, none], opens := [], cmdAt := 0 }
  bbxRun := [none, none]
  free := 0
  out := []
  pending := []

abbrev Res := Host.Outcome State Fault Refusal

end Sys2Proof.Machine
end

