-- ==== Sys2Proof/Machine/Operands.lean ====
section
/-! DEFINITION. From an address to the page, table and fields it names, and the reads and writes of fields. -/

namespace Sys2Proof

open Machine

/-! ### The BAR0 map, Table 14.1 -/

/-- The address of bay `b`'s first page (Table 14.1). -/
def bayBase (b : Nat) : Nat := 0x01000000 + b * 0x100000

/-- The BAR0 address of a page (R361, Table 14.1). -/
def Page.base : Page → Nat
  | .glb => 0x00000000
  | .tick => 0x00001000
  | .hif => 0x00002000
  | .busm => 0x00003000
  | .time => 0x00100000
  | .ref => 0x00101000
  | .vtg v => 0x00102000 + v.val * 0x1000
  | .aud => 0x00200000
  | .asrc => 0x00201000
  | .xwpRoute => 0x00300000
  | .xwpMap => 0x00301000
  | .xbp => 0x00400000
  | .brc => 0x00401000
  | .lane n => if n.val < 1024 then bayBase (n.val / 64) + n.val % 64 * 0x1000 else 0x00480000 + (n.val - 1024) * 0x1000
  | .gmc => 0x00500000
  | .key => 0x00600000
  | .upd => 0x00700000
  | .evr => 0x00701000
  | .bbx => 0x00702000
  | .eth p => bayBase (p.val / 3) + 0x40000 + p.val % 3 * 0x2000
  | .msec p => bayBase (p.val / 3) + 0x41000 + p.val % 3 * 0x2000
  | .eng e => bayBase (e.val / 4) + 0x50000 + e.val % 4 * 0x4000
  | .engComp e => bayBase (e.val / 4) + 0x51000 + e.val % 4 * 0x4000
  | .engColour e => bayBase (e.val / 4) + 0x52000 + e.val % 4 * 0x4000
  | .flowv b => bayBase b.val + 0x80000
  | .cls b => bayBase b.val + 0x81000
  | .flowaRx b => bayBase b.val + 0x82000
  | .flowaTx b => bayBase b.val + 0x83000
  | .tdm b => bayBase b.val + 0x90000
  | .rxSlot n => 0x00800000 + n.val * 0x1000
  | .txSlot n => 0x00C00000 + n.val * 0x1000

/-- The page number of R361. -/
def Page.num (p : Page) : Nat := p.base / 4096

/-- TYPE and INSTANCE of a page (Table 14.1). -/
def Page.typeInst : Page → Nat × Nat
  | .glb => (0x0100, 0)
  | .tick => (0x0200, 0)
  | .hif => (0x1300, 0)
  | .busm => (0x1400, 0)
  | .time => (0x0300, 0)
  | .ref => (0x0400, 0)
  | .vtg v => (0x0500, v.val)
  | .aud => (0x0E00, 0)
  | .asrc => (0x1000, 0)
  | .xwpRoute => (0x0700, 0)
  | .xwpMap => (0x0701, 1)
  | .xbp => (0x0600, 0)
  | .brc => (0x0800, 0)
  | .lane n => if n.val < 1024 then (0x0900, n.val % 64) else (0x0901, 0x80 + (n.val - 1024))
  | .gmc => (0x1200, 0)
  | .key => (0x1500, 0)
  | .upd => (0x1600, 0)
  | .evr => (0x1700, 0)
  | .bbx => (0x1800, 0)
  | .eth p => (0x0A00, p.val)
  | .msec p => (0x0B00, p.val)
  | .eng e => (0x1100, e.val % 4)
  | .engComp e => (0x1101, 0x10 + e.val % 4)
  | .engColour e => (0x1102, 0x20 + e.val % 4)
  | .flowv _ => (0x0C02, 0x80)
  | .cls _ => (0x0C03, 0x81)
  | .flowaRx _ => (0x0D00, 0x82)
  | .flowaTx _ => (0x0D01, 0x83)
  | .tdm b => (0x0F00, b.val)
  | .rxSlot n => (0x0C00, n.val % 64)
  | .txSlot n => (0x0C01, 0x40 + n.val % 64)

/-- The fields a page has beyond the common header. -/
def Page.fields : Page → List Fld
  | .glb => GLB.map
  | .tick => TICK.map
  | .hif => HIF.map
  | .busm => BUSM.map
  | .time => TIME.map
  | .ref => REF.map
  | .vtg _ => VTG.map
  | .aud => AUD.map
  | .asrc => ASRC.map
  | .xwpRoute => XWPR.map
  | .xwpMap => XWPM.map
  | .xbp => XBP.map
  | .brc => BRC.map
  | .lane _ => LANE.map
  | .gmc => GMC.map
  | .key => KEY.map
  | .upd => UPD.map
  | .evr => EVR.map
  | .bbx => BBX.map
  | .eth _ => ETH.map
  | .msec _ => MSEC.map
  | .eng _ => ENGI.map
  | .engComp _ => ENGC.map
  | .engColour _ => ENGL.map
  | .flowv _ => FVB.map
  | .cls _ => CLS.map
  | .flowaRx _ => FARX.map
  | .flowaTx _ => FATX.map
  | .tdm _ => TDM.map
  | .rxSlot _ => RXS.map
  | .txSlot _ => TXS.map

/-- An index of a bounded range, when it lies in it. -/
def idx? (n i : Nat) : Option (Fin n) := if h : i < n then some ⟨i, h⟩ else none

/-- The page of bay `b` whose page number within the bay is `q` (Table 14.1). -/
def bayPage (b q : Nat) : Option Page :=
  if q < 0x40 then (idx? 1032 (64 * b + q)).map .lane
  else if q < 0x46 then
    (idx? 48 (3 * b + (q - 0x40) / 2)).map (fun p => if q % 2 = 0 then .eth p else .msec p)
  else if 0x50 ≤ q ∧ q < 0x60 then
    (idx? 64 (4 * b + (q - 0x50) / 4)).bind (fun e =>
      match q % 4 with
      | 0 => some (.eng e)
      | 1 => some (.engComp e)
      | 2 => some (.engColour e)
      | _ => none)
  else (idx? 16 b).bind (fun b =>
    if q = 0x80 then some (.flowv b)
    else if q = 0x81 then some (.cls b)
    else if q = 0x82 then some (.flowaRx b)
    else if q = 0x83 then some (.flowaTx b)
    else if q = 0x90 then some (.tdm b)
    else none)

/-- The page whose number is `n` (R361, Table 14.1). -/
def pageOf (n : Nat) : Option Page :=
  if n = 0 then some .glb
  else if n = 1 then some .tick
  else if n = 2 then some .hif
  else if n = 3 then some .busm
  else if n = 0x100 then some .time
  else if n = 0x101 then some .ref
  else if 0x102 ≤ n ∧ n < 0x122 then (idx? 32 (n - 0x102)).map .vtg
  else if n = 0x200 then some .aud
  else if n = 0x201 then some .asrc
  else if n = 0x300 then some .xwpRoute
  else if n = 0x301 then some .xwpMap
  else if n = 0x400 then some .xbp
  else if n = 0x401 then some .brc
  else if 0x480 ≤ n ∧ n < 0x488 then (idx? 1032 (n - 0x480 + 1024)).map .lane
  else if n = 0x500 then some .gmc
  else if n = 0x600 then some .key
  else if n = 0x700 then some .upd
  else if n = 0x701 then some .evr
  else if n = 0x702 then some .bbx
  else if 0x800 ≤ n ∧ n < 0xC00 then (idx? 1024 (n - 0x800)).map .rxSlot
  else if 0xC00 ≤ n ∧ n < 0x1000 then (idx? 1024 (n - 0xC00)).map .txSlot
  else if 0x1000 ≤ n ∧ n < 0x2000 then bayPage ((n - 0x1000) / 256) (n % 256)
  else none

/-- A table of Table 14.1: first address, size in bytes, and the page that owns each of its words for commit, arming
and FUNC_INIT (R112, R148, R182, R207, R281, R282, R353, R381). -/
structure Table where
  base : Nat
  size : Nat
  owner : Nat → Option Page

/-- The table windows (Table 14.1 and the register tables of each page). -/
def tables : List Table :=
  [⟨0x02000000, 0x2000, fun _ => some .xbp⟩,
   ⟨0x02002000, 0xA000, fun _ => some .xwpRoute⟩,
   ⟨0x0200C000, 0xA100, fun _ => some .xwpMap⟩,
   ⟨0x02020000, 0x2000, fun o => (idx? 16 (o % 0x1000 / 256)).map .flowv⟩,
   ⟨0x02024000, 0x20000, fun o => (idx? 16 (o / 32 / 256)).map .cls⟩,
   ⟨0x02048000, 0x4000, fun _ => some .hif⟩,
   ⟨0x02050000, 0x70000, fun _ => some .aud⟩,
   ⟨0x020C0000, 0x70000, fun _ => some .aud⟩,
   ⟨0x02130000, 0x4000, fun _ => some .aud⟩,
   ⟨0x02140000, 0x40000, fun o => (idx? 16 (o / 64 / 256)).map .flowaRx⟩,
   ⟨0x02180000, 0x40000, fun o => (idx? 16 (o / 64 / 256)).map .flowaTx⟩,
   ⟨0x02800000, 0x1200000, fun o => (idx? 64 (o / 0x48000)).map .engColour⟩,
   ⟨0x03A00000, 0x300000, fun o => (idx? 64 (o / 0xC000)).map .engColour⟩]

/-- The table that holds address `a`. -/
def tableOf (a : Nat) : Option Table :=
  tables.find? (fun t => t.base ≤ a && a < t.base + t.size)

/-- The MSI-X table and pending-bit array (R355). -/
def inMsix (a : Nat) : Bool := 0x4000 ≤ a && a < 0x6000

/-- The page that owns address `a`: the page it lies in, or the page its table belongs to. -/
def ownerOf (a : Nat) : Option Page :=
  if a < 0x02000000 then pageOf (a / 4096)
  else (tableOf a).bind (fun t => t.owner (a - t.base))

/-- Address `a` lies in page 3 of an engine, whose PAGE_ID reads 0 and which holds nothing (R305, R360).
(DEDUCED, notes/assumptions/21.md) -/
def enginePage3 (a : Nat) : Bool :=
  let n := a / 4096
  0x1000 ≤ n && n < 0x2000 && 0x50 ≤ n % 256 && n % 256 < 0x60 && n % 4 = 3

/-- Address `a` lies in a page or a table of Table 14.1 (R360).
(DEDUCED, notes/assumptions/21.md; DEDUCED, notes/assumptions/22.md) -/
def mapped (a : Nat) : Bool := inMsix a || enginePage3 a || (ownerOf a).isSome

/-- Address `a` lies in the range of the AUD route or of its live view at a destination index that holds no entry
(R255). (DEDUCED, notes/assumptions/22.md) -/
def noEntry (a : Nat) : Bool :=
  let i := (if a < 0x020C0000 then a - 0x02050000 else a - 0x020C0000) / 8
  0x02050000 ≤ a && a < 0x02130000 && ((0xC300 ≤ i && i < 0xC800) || 0xD000 ≤ i)

/-- Does `f` describe a field of the word at offset `o`? -/
def Fld.hits (f : Fld) (o : Nat) : Bool :=
  if o < f.off then false
  else
    let d := o - f.off
    let i := if f.s1 = 0 then 0 else min (d / f.s1) (f.n1 - 1)
    let r := d - i * f.s1
    let j := if f.s2 = 0 then 0 else r / f.s2
    j < f.n2 && r = j * f.s2

/-- The bits of a word that field `f` occupies. -/
def Fld.mask (f : Fld) : Nat := (2 ^ f.w - 1) * 2 ^ f.lo

/-- The causes of a page: the defined bits of its INT_STAT (R362 with each page's INT_STAT table). -/
def Page.causes (p : Page) : Nat :=
  (p.fields.filter (fun f => f.off = 0x00C)).foldl (fun m f => m ||| f.mask) 0

/-- The fields of the common header at offset `o`, with INT_STAT, INT_EN and INT_TEST reduced to the page's causes
(Table 14.2). -/
def hdrFields (p : Page) (o : Nat) : List Fld :=
  if o = 0x00C then p.fields.filter (fun f => f.off = 0x00C)
  else if o = 0x010 then (p.fields.filter (fun f => f.off = 0x00C)).map (fun f => { f with off := 0x010, ty := .rw })
  else if o = 0x014 then (p.fields.filter (fun f => f.off = 0x00C)).map (fun f => { f with off := 0x014, ty := .wo })
  else HDR.map.filter (fun f => f.off = o)

/-- The fields of the word at address `a`. -/
def fieldsAt (a : Nat) : List Fld :=
  if noEntry a then []
  else if inMsix a || 0x02000000 ≤ a then TBL.map.filter (fun f => f.hits a)
  else
    match pageOf (a / 4096) with
    | none => []
    | some p => if a % 4096 < 0x040 then hdrFields p (a % 4096) else p.fields.filter (fun f => f.hits (a % 4096))

/-- The bits of the word at `a` whose fields have a type in `q`. -/
def maskOf (q : Ty → Bool) (a : Nat) : Nat :=
  (fieldsAt a).foldl (fun m f => if q f.ty then m ||| f.mask else m) 0

/-- The RWS bits of a word. -/
def rwsMask (a : Nat) : Nat := maskOf (· == .rws) a

/-- A LUT node of axis index `i` at reset: min(2,048 × node, 65,535) (Table 13.6). -/
def lut3Reset (i : Nat) : Nat := min (2048 * i) 65535

/-- What address `a` holds after a device reset. The lookup tables, the matrices and PAGE_ID have values that follow
their index (Tables 13.5, 13.6, 14.1); every other word is made of its fields' reset values.
(PRESUMED, notes/assumptions/93.md) -/
def resetOf (a : Nat) : Word :=
  let plain : Nat := (fieldsAt a).foldl (fun m f => m + f.rst * 2 ^ f.lo) 0
  if 0x03A00000 ≤ a ∧ a < 0x03D00000 then
    let j := a % 0x2000 / 4
    BitVec.ofNat 32 (16 * (2 * j) + 16 * (2 * j + 1) * 65536)
  else if 0x02800000 ≤ a ∧ a < 0x03A00000 then
    let n := (a - 0x02800000) % 0x48000 / 8
    if 35937 ≤ n then 0
    else if a % 8 = 0 then BitVec.ofNat 32 (lut3Reset (n % 33) + lut3Reset (n / 33 % 33) * 65536)
    else BitVec.ofNat 32 (lut3Reset (n / 1089))
  else if a < 0x02000000 ∧ a % 4096 = 0 ∧ inMsix a = false then
    match pageOf (a / 4096) with
    | none => 0
    | some p => BitVec.ofNat 32 (p.typeInst.1 * 65536 + p.typeInst.2 * 256 + 1)
  else
    match ownerOf a with
    | some (.lane n) =>
      -- a brace lane's fixed modes, and its bring-up held in DETECT (R59, R90)
      if 1024 ≤ n.val ∧ a % 4096 = 0x040 then BitVec.ofNat 32 (plain + 0xF)
      else if 1024 ≤ n.val ∧ a % 4096 = 0x050 then 0x100
      else BitVec.ofNat 32 plain
    | some (.engColour _) =>
      let o := a % 4096
      if 0x100 ≤ o ∧ o < 0x1C0 ∧ o % 0x40 < 36 ∧ o % 0x40 % 16 = 0 then 0x10000 else BitVec.ofNat 32 plain
    | _ => BitVec.ofNat 32 plain

/-- The word `w` with field `f` set to `v`. -/
def Fld.into (f : Fld) (w : Word) (v : Nat) : Word := BitVec.ofNat 32 (setBits w.toNat f.lo f.w v)

end Sys2Proof

namespace Sys2Proof.Machine

/-! ### Words and fields of the state -/

/-- The word stored for reads at `a`: the shadow where the field is RWS (R9). -/
def State.word (s : State) (a : Nat) : Word := s.sh.get a (resetOf a)

/-- The live word at `a`. -/
def State.lword (s : State) (a : Nat) : Word := s.lv.get a (resetOf a)

/-- Store a word for reads. -/
def State.setWord (s : State) (a : Nat) (v : Word) : State := { s with sh := s.sh.set a v (resetOf a) }

/-- Store a live word. -/
def State.setLword (s : State) (a : Nat) (v : Word) : State := { s with lv := s.lv.set a v (resetOf a) }

/-- A field of page `p` as a read returns it. -/
def State.get (s : State) (p : Page) (f : Fld) : Nat := bits (s.word (p.base + f.off)).toNat f.lo f.w

/-- A live field of page `p`. -/
def State.live (s : State) (p : Page) (f : Fld) : Nat := bits (s.lword (p.base + f.off)).toNat f.lo f.w

/-- A field of a table window. -/
def State.tget (s : State) (f : Fld) : Nat := bits (s.word f.off).toNat f.lo f.w

/-- A live field of a table window. -/
def State.tlive (s : State) (f : Fld) : Nat := bits (s.lword f.off).toNat f.lo f.w

/-- A field from the live copy or from the shadow. -/
def State.cfg (s : State) (lv : Bool) (p : Page) (f : Fld) : Nat := if lv then s.live p f else s.get p f

/-- A table field from the live copy or from the shadow. -/
def State.tcfg (s : State) (lv : Bool) (f : Fld) : Nat := if lv then s.tlive f else s.tget f

/-- Set a stored field of page `p`. -/
def State.put (s : State) (p : Page) (f : Fld) (v : Nat) : State :=
  s.setWord (p.base + f.off) (f.into (s.word (p.base + f.off)) v)

/-- Set a live field of page `p`. -/
def State.putLive (s : State) (p : Page) (f : Fld) (v : Nat) : State :=
  s.setLword (p.base + f.off) (f.into (s.lword (p.base + f.off)) v)

/-- Set a stored field of a table window. -/
def State.tput (s : State) (f : Fld) (v : Nat) : State := s.setWord f.off (f.into (s.word f.off) v)

/-- Set a live field of a table window. -/
def State.tputLive (s : State) (f : Fld) (v : Nat) : State := s.setLword f.off (f.into (s.lword f.off) v)

/-- Add `n` to a counter field that wraps. -/
def State.add (s : State) (p : Page) (f : Fld) (n : Nat) : State := s.put p f (s.get p f + n)

/-- Add `n` to a counter field that saturates. -/
def State.addSat (s : State) (p : Page) (f : Fld) (n : Nat) : State := s.put p f (sat f.w (s.get p f + n))

/-- Raise a field to `v` when it is below it: a peak or maximum. -/
def State.peak (s : State) (p : Page) (f : Fld) (v : Nat) : State :=
  if s.get p f < v then s.put p f (sat f.w v) else s

/-- Set several stored fields of one page. -/
def State.puts (s : State) (p : Page) (l : List (Fld × Nat)) : State := l.foldl (fun s e => s.put p e.1 e.2) s

end Sys2Proof.Machine
end

