-- ==== Sys2Proof/Machine/Flags.lean ====
section
/-! DEFINITION. The STC, interrupt causes, faults, events, the black-box queue, and MSI-X messages. -/

namespace Sys2Proof.Machine

/-- Core cycles in one second: the core clock is 1.188 GHz (R7). -/
def cyclesPerSec : Nat := 1188000000

/-- Core cycles in one microsecond. -/
def cyclesPerUs : Nat := 1188

/-- Core cycles in a millisecond. -/
def cyclesPerMs : Nat := 1188000

/-- The nominal advance of a clock in one core cycle, in units of 2^-40 ns (R210, R211). -/
def nomStep : Nat := 925514838195

/-- The STC at core cycle `c`: a 64-bit count of 2^-16 ns since the device reset (R210). -/
def State.stcAt (s : State) (c : Nat) : Nat := (c - s.resetCycle) * nomStep / 2 ^ 24 % 2 ^ 64

/-- The STC now. -/
def State.stc (s : State) : Nat := s.stcAt s.now

/-- 100 ms of the STC. -/
def stcTenth : Nat := 100000000 * 65536

/-- The guard time G of Table 2.1. -/
def guard (sel : Nat) : Nat := if sel = 0x20 then 1188 else 2376

/-- The STC less STC_AT[k], signed: zero or positive once the tick is due (R27). -/
def State.stcPast (s : State) (k : Nat) : Int :=
  sgn 64 (wrap 64 ((s.stc : Int) -
    (s.live .tick (TICK.STC_AT_LO_AT.at k) + s.live .tick (TICK.STC_AT_HI_AT.at k) * 2 ^ 32 : Nat)))

/-- STC_AT[k] less the STC, signed (R36). -/
def State.stcAhead (s : State) (k : Nat) : Int :=
  sgn 64 (wrap 64 ((s.live .tick (TICK.STC_AT_LO_AT.at k) + s.live .tick (TICK.STC_AT_HI_AT.at k) * 2 ^ 32 : Nat) -
    (s.stc : Int)))

/-- STC tick k is armed to fire. -/
def State.stcLive (s : State) (k : Nat) : Bool := s.live .tick (TICK.STC_EN_EN.bit k) = 1

/-- An arm against `sel` is late at its latch: an STC tick that is not live or lies less than 2 µs ahead (R36). -/
def State.stcLate (s : State) (sel : Nat) : Bool :=
  0x28 ≤ sel && sel < 0x30 && (!s.stcLive (sel - 0x28) || s.stcAhead (sel - 0x28) < 131072000)

/-- The first core cycle from now in which the STC has reached STC_AT[k]. -/
def State.stcCycle (s : State) (k : Nat) : Nat :=
  let have_ := (s.now - s.resetCycle) * nomStep / 2 ^ 24
  let want := have_ + (s.stcAhead k).toNat
  s.resetCycle + (want * 2 ^ 24 + nomStep - 1) / nomStep

/-- Something was emitted. (DEDUCED, notes/assumptions/29.md) -/
def State.emit (s : State) (e : Emit) : State := { s with out := s.out ++ [e] }

/-- Set a cause: a bit of a page's INT_STAT. -/
def State.raise (s : State) (p : Page) (f : Fld) : State := s.put p f 1

/-- The READY output: start-up has reached RUN (R407). -/
def State.ready (s : State) : Bool := s.get .upd UPD.BOOT_STAT_PHASE = 7

/-- The function of page `p` runs: its live ENABLE is 1 and no FUNC_INIT of it runs (R54, R363).
(DEDUCED, notes/assumptions/13.md) -/
def State.running (s : State) (p : Page) : Bool := s.live p HDR.PAGE_CTRL_ENABLE = 1 && !s.busy.contains p

/-- The device leaves normal service (R49). -/
def State.unusual (s : State) : State := { s with normal := false }

/-! ### Events (R435 to R437, Table 17.3) -/

/-- CLASS of an event code, Table 17.3. -/
def evClass (code : Nat) : Nat :=
  if code = 0x0006 ∨ code = 0x0011 ∨ code = 0x0019 then 1
  else if code = 0x0012 ∨ code = 0x001A ∨ code = 0x0020 ∨ code = 0x0030 ∨ code = 0x0031 ∨ code = 0x0050 then 2
  else if code = 0x0013 ∨ code = 0x001B then 3
  else 0

/-- FLAGS.INJ of an event code. -/
def evInj (code : Nat) : Bool := code = 0x0019 ∨ code = 0x001A ∨ code = 0x001B

/-- The Black box column of Table 17.3. -/
def evBbx (code : Nat) : Bool :=
  [0x0001, 0x0002, 0x0004, 0x0012, 0x0013, 0x001A, 0x001B, 0x0020, 0x0030, 0x0031, 0x0040, 0x0041].contains code

/-- Order of writing: by core cycle, then PAGE, then CODE (R436). -/
def Ev.before (a b : Ev) : Bool :=
  a.cycle < b.cycle || (a.cycle = b.cycle && (a.page < b.page || (a.page = b.page && a.code ≤ b.code)))

/-- The queue with an event put in its place. -/
def insertEv (q : List Ev) (e : Ev) : List Ev :=
  match q with
  | [] => [e]
  | x :: r => if x.before e then x :: insertEv r e else e :: x :: r

/-- An event offered to the recorder; with 64 queued it is lost and counted (R437). -/
def State.offer (s : State) (p : Page) (code p0 p1 : Nat) : State :=
  if s.evr.queue.length < 64 then
    let e : Ev := { cycle := s.now, stc := s.stc, page := p.num, code, cls := evClass code, inj := evInj code,
                    bbx := evBbx code, p0, p1 }
    { s with evr := { s.evr with queue := insertEv s.evr.queue e } }
  else
    ({ s with evr := { s.evr with lost := s.evr.lost + 1 } }).addSat .evr EVR.LOST_CNT 1

/-! ### Faults (R427 to R432) -/

/-- The fault classes of Table 17.1. -/
inductive FaultClass where
  | corrected
  | contained
  | fatal
  deriving DecidableEq, Repr

/-- A number in a strictly rising list. -/
def insertNat (l : List Nat) (n : Nat) : List Nat :=
  match l with
  | [] => [n]
  | x :: r => if n < x then n :: x :: r else if n = x then x :: r else x :: insertNat r n

/-- A page detects a real fault (R428, R429): its FAULT_STAT bit, its count, the event; a fatal fault sets the latch,
and the first since power-good is named in FATAL_SRC. A contained or fatal fault ends normal service (R49). -/
def State.fault (s : State) (p : Page) (c : FaultClass) (site elem : Nat) : State :=
  match c with
  | .corrected =>
    let s : State := { s with bbx := { s.bbx with corrected := (s.bbx.corrected + 1) % 2 ^ 32 } }
    (((s.put p HDR.FAULT_STAT_CORR_REAL 1).addSat p HDR.FAULT_CNT_CORRECTED 1).offer p 0x0011 site elem)
  | .contained =>
    let s : State := { s with bbx := { s.bbx with contained := (s.bbx.contained + 1) % 2 ^ 32 } }
    (((s.put p HDR.FAULT_STAT_CONT_REAL 1).addSat p HDR.FAULT_CNT_CONTAINED 1).offer p 0x0012 site elem).unusual
  | .fatal =>
    (({ s with fatal := insertNat s.fatal p.num, fatalSrc := s.fatalSrc.or (some p.num) } : State).offer p 0x0013 site
      elem).unusual

/-- The numbers of the pages whose FATAL_INJ is set. -/
def State.fatalInj (s : State) : Bool :=
  s.sh.any (fun e => e.1 < 0x02000000 && e.1 % 4096 = 0x018 && e.2.getLsbD 6 && !inMsix e.1)

/-- FATAL_N is driven low (R430). -/
def State.fatalN (s : State) : Bool :=
  !s.fatal.isEmpty || (s.get .glb GLB.FAULT_CTRL_INJ_FATAL_PIN_EN = 1 && s.fatalInj)

/-! ### Page requests and MSI-X (R362 to R366) -/

/-- Does the word at address `a`, holding `v`, assert its page's request (R362)? -/
def State.asks (s : State) (a : Nat) (v : Word) : Bool :=
  if 0x02000000 ≤ a || inMsix a then false
  else if a % 4096 = 0x00C then v &&& s.word (a + 4) != 0
  else if a % 4096 = 0x018 then v != 0
  else false

/-- The numbers of the pages that assert their request (R362), ascending. -/
def State.requests (s : State) : List Nat :=
  (s.sh.filterMap (fun e => if s.asks e.1 e.2 then some (e.1 / 4096) else none)).foldl insertNat s.fatal

/-- The MSI-X vector of page number `n`: byte n mod 4 of HIF_VEC[n div 4] (R364). -/
def State.vecOf (s : State) (n : Nat) : Nat := bits (s.word (0x02048000 + 4 * (n / 4))).toNat (8 * (n % 4)) 8

/-- The requested vectors, ascending (R364). -/
def State.vecReq (s : State) : List Nat := (s.requests.map s.vecOf).foldl insertNat []

/-- Vector `v` may send: MSI-X enabled, the function and the vector not masked (R364; layout of the MSI-X table, R355).
(DESIGN CHOICE, notes/assumptions/92.md) -/
def State.vecOpen (s : State) (v : Nat) : Bool :=
  !s.msixMask && s.get .hif HIF.HIF_STAT_MSIX_EN = 1 && s.tget (TBL.MSIX_CTRL_MASK.at v) = 0

/-- Vector `v` has its pending bit set: requested, not in service, and held back (R364). -/
def State.vecPend (s : State) (v : Nat) : Bool :=
  s.vecReq.contains v && !s.insvc.contains v && !s.vecOpen v

/-- Send the message of each vector that is requested, not in service and open, and put it in service (R364). -/
def State.sendVec (s : State) (v : Nat) : State :=
  if !s.insvc.contains v && s.vecOpen v then
    (({ s with insvc := insertNat s.insvc v } : State).add .hif HIF.MSIX_SENT 1).emit
      (.msix v (s.tget (TBL.MSIX_ADDR_LO_ADDR.at v) * 4 + s.tget (TBL.MSIX_ADDR_HI_ADDR.at v) * 2 ^ 32)
        (s.tget (TBL.MSIX_DATA_DATA.at v)))
  else s

/-- The end of every command: interrupt messages that have become due are sent (R364). -/
def State.settle (s : State) : State := s.vecReq.foldl State.sendVec s

/-- IRQ_N is driven low (R365). -/
def State.irqN (s : State) : Bool := s.get .hif HIF.HIF_CTRL_PIN_EN = 1 && !s.requests.isEmpty

/-! ### Refused accesses (R376 to R378) -/

/-- An access answered with an error: counted, logged and reported. A PCIe write has no completion, so CA_CNT counts
reads alone. -/
def State.refuse (s : State) (m : Master) (write : Bool) (addr reason space target : Nat) : State :=
  let s := (s.addSat .busm (BUSM.ERR_CNT.at m.num) 1).raise .busm BUSM.INT_STAT_ACCESS_ERR
  let s := if s.get .busm BUSM.ERR_LOG_VALID = 1 then s
    else s.puts .busm [(BUSM.ERR_LOG_VALID, 1), (BUSM.ERR_LOG_MASTER, m.num), (BUSM.ERR_LOG_WRITE, b2n write),
      (BUSM.ERR_LOG_REASON, reason), (BUSM.ERR_LOG_SPACE, space), (BUSM.ERR_LOG_TARGET, target),
      (BUSM.ERR_ADDR_LO_ADDR, addr % 2 ^ 32), (BUSM.ERR_ADDR_HI_ADDR, addr / 2 ^ 32)]
  let s := if m = .pcie && !write then s.addSat .hif HIF.CA_CNT 1 else s
  s.emit (.accessErr m write)

/-- The next free value's index, and the state with the counter advanced. (DESIGN CHOICE, notes/assumptions/8.md) -/
def State.fresh (s : State) : Nat × State := (s.free, { s with free := s.free + 1 })

end Sys2Proof.Machine
end

