-- ==== Sys2Proof/Machine/Audit.lean ====
section
/-! DEFINITION. The conservation audit (R51 to R53): the counters of the audited pools. -/

namespace Sys2Proof.Machine

/-- The counters of the pool of class `c` and instance `i`. -/
def State.pool (s : State) (c i : Nat) : PoolCnt := s.pools.get (256 * c + i) ⟨0, 0, 0⟩

/-- Set the counters of a pool. -/
def State.setPool (s : State) (c i : Nat) (x : PoolCnt) : State :=
  { s with pools := s.pools.set (256 * c + i) x ⟨0, 0, 0⟩ }

/-- The pools have been initialised: SETTINGS has begun, which initialises them (R410, Table 16.2). -/
def State.poolsOn (s : State) : Bool := s.get .upd UPD.BOOT_STAT_PHASE = 6 || s.get .upd UPD.BOOT_STAT_PHASE = 7

/-- `n` items are issued, once the pools are initialised (R410). -/
def State.poolIssue (s : State) (c i n : Nat) : State :=
  let x := s.pool c i
  if !s.poolsOn then s else s.setPool c i ⟨(x.issued + n) % 2 ^ 32, x.returned, (x.outstanding + n) % 2 ^ 32⟩

/-- `n` items are returned. -/
def State.poolReturn (s : State) (c i n : Nat) : State :=
  let x := s.pool c i
  if !s.poolsOn then s else s.setPool c i ⟨x.issued, (x.returned + n) % 2 ^ 32, (x.outstanding + 2 ^ 32 - n % 2 ^ 32) % 2 ^ 32⟩

/-- `n` items are taken and given back within one command. -/
def State.poolUse (s : State) (c i n : Nat) : State := (s.poolIssue c i n).poolReturn c i n

/-- Issued less returned equals outstanding, modulo 2^32 (R51). -/
def PoolCnt.balanced (x : PoolCnt) : Bool := (x.returned + x.outstanding) % 2 ^ 32 = x.issued % 2 ^ 32

/-- The check of every pool at a T_SMP (R51). A pool with no entry holds three zeros and balances. -/
def State.auditCheck (s : State) : State :=
  (s.pools.filter (fun e => !e.2.balanced)).foldl (fun s e =>
    ((s.put .glb (GLB.AUDIT_FAIL_CLASS_FAIL.bit (e.1 / 256)) 1).raise .glb GLB.INT_STAT_AUDIT_FAIL).fault .glb .contained
      (e.1 / 256) (e.1 % 256)) s

/-- A write of AUDIT_SEL with SNAP = 1 captures the counters of the selected pool (R53). -/
def State.auditSnap (s : State) : State :=
  let x := s.pool (s.get .glb GLB.AUDIT_SEL_CLASS) (s.get .glb GLB.AUDIT_SEL_INST)
  s.puts .glb [(GLB.AUDIT_ISSUED_ISSUED, x.issued), (GLB.AUDIT_RETURNED_RETURNED, x.returned),
    (GLB.AUDIT_OUTSTANDING_OUTSTANDING, x.outstanding)]

end Sys2Proof.Machine
end

