-- ==== Sys2Proof/Config.lean ====
section
/-! DEFINITION. What an implementation fixes and the spec leaves open: constants without a body, so that no proof can
see what they are (notes/assumptions say which rule each one stands for). -/

namespace Sys2Proof.Config

/-- Whether the rounding at site `k` of a quotient the spec states without a rounding goes up.
(DESIGN CHOICE, notes/assumptions/10.md) -/
opaque roundUp : Nat → Bool

/-- Free value `n` of `w` bits; the step counts `n` in `State.free`. (DESIGN CHOICE, notes/assumptions/8.md) -/
opaque freeValue : Nat → (w : Nat) → BitVec w

/-- Which of `n` things that the spec does not order comes first, at site `k`; taken modulo `n`.
(DESIGN CHOICE, notes/assumptions/11.md) -/
opaque pick : (k : Nat) → (n : Nat) → Nat

/-- The test root of R400, published by Lamzitex and not given in the spec.
(DESIGN CHOICE, notes/assumptions/99.md) -/
opaque testRoot : BitVec 256

/-- The modulus of the test identity key of R400, not given in the spec. (DESIGN CHOICE, notes/assumptions/99.md) -/
opaque testIdentity : BitVec 3072

/-- Coefficient `i` of phase `phase` of a built-in scaler set, by set, axis, taps and the sizes `num` to `den` whose
ratio selects its band (R317); the spec does not give the sets. (DESIGN CHOICE, notes/assumptions/88.md) -/
opaque scalerCoef : (set : Nat) → (vert : Bool) → (taps num den phase i : Nat) → Int

/-- Coefficient `i` of phase `phase` of a vertical kernel stretched to `num / den` (R316): how the phase table, here its
user coefficients or none for a built-in set, is sampled between its taps is not given.
(DESIGN CHOICE, notes/assumptions/88.md) -/
opaque stretchedCoef : (set : Nat) → (table : List Int) → (taps num den phase i : Nat) → Int

/-- Y, Cb, Cr in 12 bits of column `k` of eight of the 75 % bars of RP 219-1 (R331), which the spec does not give.
(DESIGN CHOICE, notes/assumptions/88.md) -/
opaque barColour : (k : Nat) → (component : Nat) → BitVec 12

/-- Header of image slot 4 × bank + type as manufactured (R405, R411). (DESIGN CHOICE, notes/assumptions/18.md) -/
opaque factoryHeader : (slot : Nat) → List Nat

/-- The CTL of version `ctl` reads records of `key` in format version `fmt` (R423).
(DESIGN CHOICE, notes/assumptions/105.md) -/
opaque reads : (ctl key fmt : Nat) → Bool

/-- The highest FMT_VER of `key` that the CTL of version `ctl` reads (R424).
(DESIGN CHOICE, notes/assumptions/105.md) -/
opaque fmtTop : (ctl key : Nat) → Nat

/-- The body of a record of `key` that the CTL of version `ctl` makes of an older one (R424).
(DESIGN CHOICE, notes/assumptions/105.md) -/
opaque migrate : (ctl key : Nat) → (body : List Nat) → List Nat

/-- A receiver in Ignada state `st` allows a block of TYPE `type`, where no rule settles it (R69).
(DESIGN CHOICE, notes/assumptions/129.md) -/
opaque headerAllowed : (st type : Nat) → Bool

/-- The layout of RXEQ_STAT: the CTLE setting in 0.5 dB steps, and the DFE taps as adaptation left them (Table 3.19).
(DESIGN CHOICE, notes/assumptions/130.md) -/
opaque rxeqWord : (ctle dfe : Nat) → BitVec 32

/-- Component of column `k` of eight of pattern 1 or 2 of a tenon generator, in 10 bits (R141): the spec names the bars alone.
(PRESUMED, notes/assumptions/133.md) -/
opaque genColour : (pat k component : Nat) → BitVec 10

/-- The ST 352 payload identifier of a format code, byte 1 in bits 7:0 (R141). (PRESUMED, notes/assumptions/133.md) -/
opaque formatPid : (code : Nat) → BitVec 32

/-- AN_LP after an exchange that brought this base page of 48 bits (Table 6.12). (DESIGN CHOICE, notes/assumptions/57.md) -/
opaque anWord : (page : Nat) → BitVec 32

/-- The MAC address for an IP address that is no multicast address, where it is to be derived (Table 7.6).
(DESIGN CHOICE, notes/assumptions/142.md) -/
opaque unicastMac : (ip : Nat) → BitVec 48

/-- The ratio that an ASRC loop of bandwidth `bw` (0.1 Hz) shows after it held `old` and measured `measured`, unsigned Q8.24: the
spec gives the loop by its bandwidth alone (R300). A free value (DESIGN CHOICE, notes/assumptions/146.md). -/
opaque asrcLoop : (bw measured old : Nat) → BitVec 32

end Sys2Proof.Config
end

