-- ==== Sys2Proof/Machine/Bits.lean ====
section
/-! DEFINITION. Bit-serial functions of the spec: the CRCs, the Ignada scrambler, and the cutting of words. -/

namespace Sys2Proof

/-- Bit `i` of `x`. -/
def bitAt (x i : Nat) : Nat := x / 2 ^ i % 2

/-- One step of a bit-reflected CRC of `w` bits with reflected polynomial `poly`. -/
def crcStep (poly c b : Nat) : Nat := if (c + b) % 2 = 1 then (c / 2) ^^^ poly else c / 2

/-- A bit-reflected CRC over the low `n` bits of `x`, bit 0 first. -/
def crcBits (poly : Nat) (c x : Nat) : Nat → Nat
  | 0 => c
  | n + 1 => crcBits poly (crcStep poly c (x % 2)) (x / 2) n

/-- CRC-32 with the IEEE 802.3 polynomial, initial value 0xFFFF_FFFF, bit-reflected, with final inversion, over the low
`n` bits of `x` (R72, R435, Table 4.8). (DEDUCED, notes/assumptions/45.md) -/
def crc32 (x n : Nat) : Nat := crcBits 0xEDB88320 0xFFFFFFFF x n ^^^ 0xFFFFFFFF

/-- CRC-16 with x^16 + x^12 + x^5 + 1, initial value 0xFFFF, bit 0 first (R74). (DEDUCED, notes/assumptions/45.md) -/
def crc16 (x n : Nat) : Nat := crcBits 0x8408 0xFFFF x n

/-- The CRC-32 of a list of bytes, little-endian. -/
def packBytes : List Nat → Nat
  | [] => 0
  | b :: r => b % 256 + 256 * packBytes r

/-- A list of 32-bit words as one number, first word lowest. -/
def packWords : List Nat → Nat
  | [] => 0
  | w :: r => w % 2 ^ 32 + 2 ^ 32 * packWords r

/-- The scrambler after one bit: s(n + 31) = s(n) XOR s(n + 3), the window holding s(n) in bit 0 (R73). -/
def scrStep (s : Nat) : Nat := s / 2 + (bitAt s 0 ^^^ bitAt s 3) * 2 ^ 30

/-- The next `n` scrambler bits, the first in bit 0, and the scrambler after them. -/
def scrBits (s : Nat) : Nat → Nat × Nat
  | 0 => (0, s)
  | n + 1 => let r := scrBits (scrStep s) n
             (s % 2 + 2 * r.1, r.2)

/-- `k` words of `w` bits cut from `x`, lowest first. -/
def cutWords (w x : Nat) : Nat → List Nat
  | 0 => []
  | k + 1 => x % 2 ^ w :: cutWords w (x / 2 ^ w) k

/-- Element `i` of a list, or `d` past its end. -/
def nth {α : Type} (l : List α) (i : Nat) (d : α) : α := (l[i]?).getD d

/-- The list with element `i` replaced. -/
def setNth {α : Type} (l : List α) (i : Nat) (v : α) : List α := l.set i v

/-- Set or clear bit `i` of `x`. -/
def putBit (x i : Nat) (b : Bool) : Nat := setBits x i 1 (b2n b)

/-- The number held in the low `n` bits counted from the end: bits reversed. -/
def reverseBits (x : Nat) : Nat → Nat
  | 0 => 0
  | n + 1 => x % 2 * 2 ^ n + reverseBits (x / 2) n

end Sys2Proof
end

