-- ==== Sys2Proof/Machine/Crypto.lean ====
section
/-! DEFINITION. The published functions the Efner uses (R383, R389, R393 to R395, R399, R401): SHA-256, HMAC-SHA-256, the
SP 800-108 key derivation, AES, the RFC 3394 and RFC 5649 key wraps, and RSASSA-PSS verification. Byte strings are lists of
numbers below 256, first byte first. -/

namespace Sys2Proof

/-! ### Byte strings -/

/-- A number as `n` bytes, most significant first. -/
def beBytes (x : Nat) : Nat → List Nat
  | 0 => []
  | n + 1 => x / 256 ^ n % 256 :: beBytes x n

/-- A number as `n` bytes, least significant first. -/
def leBytes (x : Nat) : Nat → List Nat
  | 0 => []
  | n + 1 => x % 256 :: leBytes (x / 256) n

/-- The number of a byte string, most significant first. -/
def beNat (l : List Nat) : Nat := l.foldl (fun a b => a * 256 + b % 256) 0

/-- Two byte strings XORed. -/
def xorBytes (a b : List Nat) : List Nat := List.zipWith (· ^^^ ·) a b

/-- A list cut into pieces of `n`, `fuel` of them at most. -/
def chunks {α : Type} (n : Nat) : Nat → List α → List (List α)
  | 0, _ => []
  | _, [] => []
  | fuel + 1, l => l.take n :: chunks n fuel (l.drop n)

/-! ### SHA-256 (FIPS 180-4) -/

/-- Word `i` of a table packed in one number, word 0 lowest. -/
def packed32 (table i : Nat) : Nat := table / 2 ^ (32 * i) % 2 ^ 32

/-- The 64 round constants of FIPS 180-4, constant `i` in bits 32i + 31 : 32i. -/
def hashRounds : Nat :=
  0xc67178f2bef9a3f7a4506ceb90befffa8cc7020884c8781478a5636f748f82ee682e6ff35b9cca4f4ed8aa4a391c0cb334b0bcb52748774c1e376c0819a4c116106aa070f40e3585d6990624d192e819c76c51a3c24b8b70a81a664ba2bfe8a192722c8581c2c92e766a0abb650a735453380d134d2c6dfc2e1b213827b70a851429296706ca6351d5a79147c6e00bf3bf597fc7b00327c8a831c66d983e515276f988da5cb0a9dc4a7484aa2de92c6f240ca1cc0fc19dc6efbe4786e49b69c1c19bf1749bdc06a780deb1fe72be5d74550c7dc3243185be12835b01d807aa98ab1c5ed5923f82a459f111f13956c25be9b5dba5b5c0fbcf71374491428a2f98

/-- The eight words of the initial hash value, in the same way. -/
def hashStart : Nat := 0x5be0cd191f83d9ab9b05688c510e527fa54ff53a3c6ef372bb67ae856a09e667

/-- The XOR of the rotations of a 32-bit word to the right by the amounts of a list. -/
def spin (x : Nat) (amounts : List Nat) : Nat :=
  amounts.foldl (fun acc r => acc ^^^ (x * (2 ^ 32 + 1) / 2 ^ r % 2 ^ 32)) 0

/-- The working variables before a round: the words a to d and e to h, each list newest first, where a round puts one new
word in front of each and drops the last. -/
structure HashRun where
  up : List Nat
  down : List Nat

/-- A round with the constant and the message word already added as `kw`. -/
def HashRun.round (v : HashRun) (kw : Nat) : HashRun :=
  let e := v.down.headD 0
  let a := v.up.headD 0
  let choose := nth v.down 2 0 ^^^ (e &&& (nth v.down 1 0 ^^^ nth v.down 2 0))
  let most := (nth v.up 1 0 &&& (a ||| nth v.up 2 0)) ||| (a &&& nth v.up 2 0)
  let grow := nth v.down 3 0 + spin e [6, 11, 25] + choose + kw
  ⟨(grow + spin a [2, 13, 22] + most) % 2 ^ 32 :: v.up.take 3, (grow + nth v.up 3 0) % 2 ^ 32 :: v.down.take 3⟩

/-- Rounds `i` and on over the window of the next 16 message words, oldest first: each round takes the oldest word and puts the
word sixteen places further on at the end. -/
def hashRun (v : HashRun) (window : List Nat) (i : Nat) : Nat → HashRun
  | 0 => v
  | n + 1 =>
    let x := nth window 1 0
    let y := nth window 14 0
    let far := window.headD 0 + (spin x [7, 18] ^^^ (x / 8)) + nth window 9 0 + (spin y [17, 19] ^^^ (y / 1024))
    hashRun (v.round (packed32 hashRounds i + window.headD 0)) (window.drop 1 ++ [far % 2 ^ 32]) (i + 1) n

/-- The hash after one block of 64 bytes. -/
def shaBlock (h : List Nat) (block : List Nat) : List Nat :=
  let v := hashRun ⟨h.take 4, h.drop 4⟩ ((chunks 4 16 block).map beNat) 0 64
  List.zipWith (fun x y => (x + y) % 2 ^ 32) h (v.up ++ v.down)

/-- SHA-256 of a byte string, as 32 bytes. -/
def sha256 (m : List Nat) : List Nat :=
  let n := m.length
  let padded := m ++ [0x80] ++ List.replicate ((119 - n % 64) % 64) 0 ++ beBytes (8 * n) 8
  ((chunks 64 (n / 64 + 2) padded).foldl shaBlock ((List.range 8).map (packed32 hashStart))).flatMap (fun w => beBytes w 4)

/-- HMAC-SHA-256 with a key of at most 64 bytes. -/
def hmac256 (key m : List Nat) : List Nat :=
  let k := key ++ List.replicate (64 - key.length) 0
  sha256 (k.map (· ^^^ 0x5C) ++ sha256 (k.map (· ^^^ 0x36) ++ m))

/-! ### AES (FIPS 197) -/

/-- The S-box of FIPS 197, entry `x` in bits 8x + 7 : 8x. -/
def sboxTable : Nat :=
  0x16bb54b00f2d99416842e6bf0d89a18cdf2855cee9871e9b948ed9691198f8e19e1dc186b95735610ef6034866b53e708a8bbd4b1f74dde8c6b4a61c2e2578ba08ae7a65eaf4566ca94ed58d6d37c8e779e4959162acd3c25c2406490a3a32e0db0b5ede14b8ee4688902a22dc4f816073195d643d7ea7c41744975fec130ccdd2f3ff1021dab6bcf5389d928f40a351a89f3c507f02f94585334d43fbaaefd0cf584c4a39becb6a5bb1fc20ed00d153842fe329b3d63b52a05a6e1b1a2c830975b227ebe28012079a059618c323c7041531d871f1e5a534ccf73f362693fdb7c072a49cafa2d4adf04759fa7dc982ca76abd7fe2b670130c56f6bf27b777c63

/-- The inverse S-box of FIPS 197, in the same way. -/
def invSboxTable : Nat :=
  0x7d0c2155631469e126d677ba7e042b17619953833cbbebc8b0f52aae4d3be0a0ef9cc9939f7ae52d0d4ab519a97f51605fec8027591012b131c7078833a8dd1ff45acd78fec0db9a2079d2c64b3e56fc1bbe18aa0e62b76f89c5291d711af1476edf751ce837f9e28535ade72274ac9673e6b4f0cecff297eadc674f4111913a6b8a130103bdafc1020f3fca8f1e2cd00645b3b80558e4f70ad3bc8c00abd890849d8da75746155edab9edfd5048706c92b6655dcc5ca4d41698688664f6f87225d18b6d49a25b76b224d92866a12e084ec3fa420b954cee3d23c2a632947b54cbe9dec444438e3487ff2f9b8239e37cfbd7f3819ea340bf38a53630d56a0952

def sbox (x : Nat) : Nat := sboxTable / 2 ^ (8 * (x % 256)) % 256

def invSbox (x : Nat) : Nat := invSboxTable / 2 ^ (8 * (x % 256)) % 256

/-- Each of the four bytes of a column doubled in GF(2^8). -/
def double4 (w : Nat) : Nat := ((w &&& 0x7F7F7F7F) * 2) ^^^ ((w &&& 0x80808080) / 128 * 0x1B)

/-- The key schedule: words of four bytes, newest first, `n` more words; `nk` is the key's words. -/
def aesExpand (nk : Nat) (w : List (List Nat)) (i rcon : Nat) : Nat → List (List Nat)
  | 0 => w.reverse
  | n + 1 =>
    let t := nth w 0 []
    let rot := t.drop 1 ++ t.take 1
    let r := i % nk = 0
    let t := if r then xorBytes (rot.map sbox) [rcon, 0, 0, 0] else if 6 < nk && i % nk = 4 then t.map sbox else t
    aesExpand nk (xorBytes (nth w (nk - 1) []) t :: w) (i + 1) (if r then double4 rcon else rcon) n

/-- The round keys of an AES key, 16 bytes each. -/
def aesKeys (key : List Nat) : List (List Nat) :=
  let nk := key.length / 4
  (chunks 4 16 (aesExpand nk (chunks 4 8 key).reverse nk 1 (4 * (nk + 7) - nk))).map (fun l => l.flatMap id)

def shiftRows (s : List Nat) : List Nat := (List.range 16).map (fun i => nth s ((i + 4 * (i % 4)) % 16) 0)

def invShiftRows (s : List Nat) : List Nat := (List.range 16).map (fun i => nth s ((i + 12 * (i % 4)) % 16) 0)

/-- A column whose byte `i` is byte `i + k` of `w`. -/
def rotCol (w k : Nat) : Nat := w / 2 ^ (8 * k) + w % 2 ^ (8 * k) * 2 ^ (32 - 8 * k)

/-- MixColumns of one column, its first byte lowest: the factors 2, 3, 1, 1. -/
def mixCol (w : Nat) : Nat :=
  let w2 := double4 w
  w2 ^^^ rotCol (w2 ^^^ w) 1 ^^^ rotCol w 2 ^^^ rotCol w 3

/-- Its inverse: the factors 14, 11, 13, 9. -/
def invMixCol (w : Nat) : Nat :=
  let w2 := double4 w
  let w4 := double4 w2
  let w8 := double4 w4
  (w8 ^^^ w4 ^^^ w2) ^^^ rotCol (w8 ^^^ w2 ^^^ w) 1 ^^^ rotCol (w8 ^^^ w4 ^^^ w) 2 ^^^ rotCol (w8 ^^^ w) 3

/-- A column operation on each of the four columns of a block. -/
def mixColumns (f : Nat → Nat) (s : List Nat) : List Nat := (chunks 4 4 s).flatMap (fun c => leBytes (f (packBytes c)) 4)

/-- One block of 16 bytes encrypted. (PRESUMED, notes/assumptions/98.md) -/
def aesEnc (key b : List Nat) : List Nat :=
  match aesKeys key with
  | [] => b
  | k0 :: ks =>
    let s := (ks.dropLast).foldl (fun s k => xorBytes (mixColumns mixCol (shiftRows (s.map sbox))) k) (xorBytes b k0)
    xorBytes (shiftRows (s.map sbox)) (ks.getLastD [])

/-- One block of 16 bytes decrypted. -/
def aesDec (key b : List Nat) : List Nat :=
  match (aesKeys key).reverse with
  | [] => b
  | k0 :: ks =>
    let s := (ks.dropLast).foldl
      (fun s k => mixColumns invMixCol (xorBytes ((invShiftRows s).map invSbox) k)) (xorBytes b k0)
    xorBytes ((invShiftRows s).map invSbox) (ks.getLastD [])

/-! ### GCM (IEEE 802.1AE-2018 through SP 800-38D) -/

/-- The product in GF(2^128) of GCM, where the first bit of a block is the coefficient of x^0: `z` gathers, `v` is the second
factor times the power of x reached, and `n` bits of `x` are left. -/
def gcmMul (x v z : Nat) : Nat → Nat
  | 0 => z
  | n + 1 =>
    let z := if x / 2 ^ n % 2 = 1 then z ^^^ v else z
    gcmMul x (if v % 2 = 1 then (v / 2) ^^^ (0xE1 * 2 ^ 120) else v / 2) z n

/-- GHASH with key `h` over byte strings that are each padded to whole blocks, and their lengths in bits. -/
def ghash (h : Nat) (aad c : List Nat) : Nat :=
  let blocks := fun (l : List Nat) => (chunks 16 (l.length / 16 + 1) l).map (fun b => beNat (b ++ List.replicate (16 - b.length) 0))
  (blocks aad ++ blocks c ++ [8 * aad.length * 2 ^ 64 + 8 * c.length]).foldl (fun y b => gcmMul (y ^^^ b) h 0 128) 0

/-- GCM-AES with a 96-bit IV: the enciphered bytes and the 16 bytes of the tag. (PRESUMED, notes/assumptions/139.md) -/
def gcmEncrypt (key iv aad plain : List Nat) : List Nat × List Nat :=
  let pad := fun (i : Nat) => aesEnc key (iv ++ beBytes i 4)
  let c := xorBytes plain ((List.range (plain.length / 16 + 1)).flatMap (fun i => pad (i + 2)))
  let h := beNat (aesEnc key (List.replicate 16 0))
  (c, xorBytes (beBytes (ghash h aad c) 16) (pad 1))

/-! ### Key wrap (RFC 3394, RFC 5649) -/

/-- One pass of the wrap over the registers: `t` counts the steps. -/
def wrapPass (key : List Nat) (a : List Nat) (t : Nat) : List (List Nat) → List Nat × List (List Nat)
  | [] => (a, [])
  | r :: rs =>
    let b := aesEnc key (a ++ r)
    let x := wrapPass key (xorBytes (b.take 8) (beBytes t 8)) (t + 1) rs
    (x.1, b.drop 8 :: x.2)

/-- `n` passes of the wrap. -/
def wrapPasses (key : List Nat) (a : List Nat) (t : Nat) (rs : List (List Nat)) : Nat → List Nat
  | 0 => a ++ rs.flatMap id
  | n + 1 => let x := wrapPass key a t rs
             wrapPasses key x.1 (t + rs.length) x.2 n

/-- One pass of the unwrap, over the registers last first: `t` counts down. -/
def unwrapPass (key : List Nat) (a : List Nat) (t : Nat) : List (List Nat) → List Nat × List (List Nat)
  | [] => (a, [])
  | r :: rs =>
    let b := aesDec key (xorBytes a (beBytes t 8) ++ r)
    let x := unwrapPass key (b.take 8) (t - 1) rs
    (x.1, b.drop 8 :: x.2)

/-- `n` passes of the unwrap: the integrity register and the plain text. -/
def unwrapPasses (key : List Nat) (a : List Nat) (t : Nat) (rs : List (List Nat)) : Nat → List Nat × List Nat
  | 0 => (a, rs.reverse.flatMap id)
  | n + 1 => let x := unwrapPass key a t rs
             unwrapPasses key x.1 (t - rs.length) x.2 n

/-- RFC 3394 unwrap; none where the integrity check fails. -/
def kwUnwrap (key c : List Nat) : Option (List Nat) :=
  let n := c.length / 8 - 1
  let r := unwrapPasses key (c.take 8) (6 * n) (chunks 8 16 (c.drop 8)).reverse 6
  if r.1 = List.replicate 8 0xA6 then some r.2 else none

/-- RFC 5649 wrap of a byte string of more than 8 bytes. (PRESUMED, notes/assumptions/98.md) -/
def kwpWrap (key p : List Nat) : List Nat :=
  let pad := (8 - p.length % 8) % 8
  wrapPasses key ([0xA6, 0x59, 0x59, 0xA6] ++ beBytes p.length 4) 1 (chunks 8 16 (p ++ List.replicate pad 0)) 6

/-- RFC 5649 unwrap of more than one block; none where the integrity check fails. -/
def kwpUnwrap (key c : List Nat) : Option (List Nat) :=
  let n := c.length / 8 - 1
  let r := unwrapPasses key (c.take 8) (6 * n) (chunks 8 16 (c.drop 8)).reverse 6
  let len := beNat (r.1.drop 4)
  if r.1.take 4 = [0xA6, 0x59, 0x59, 0xA6] && 8 * (n - 1) < len && len ≤ 8 * n && (r.2.drop len).all (· = 0) then
    some (r.2.take len)
  else none

/-! ### RSASSA-PSS verification (RFC 8017) -/

/-- x^65537 modulo n. -/
def rsaPublic (x n : Nat) : Nat := ((List.range 16).foldl (fun a _ => a * a % n) (x % n)) * x % n

/-- MGF1 with SHA-256: `n` blocks of 32 bytes. -/
def mgf1 (seed : List Nat) (n : Nat) : List Nat := (List.range n).flatMap (fun i => sha256 (seed ++ beBytes i 4))

/-- A signature of 384 bytes over `m` holds for the RSA-3072 modulus: SHA-256, MGF1 with SHA-256, salt of 32 bytes. -/
def pssVerify (modulus m sig : List Nat) : Bool :=
  let n := beNat modulus
  if beNat sig ≥ n then false
  else
    let em := beBytes (rsaPublic (beNat sig) n) 384
    let masked := em.take 351
    let h := (em.drop 351).take 32
    let db := xorBytes masked ((mgf1 h 11).take 351)
    let db := nth db 0 0 % 128 :: db.drop 1
    em.getLastD 0 = 0xBC && nth masked 0 0 < 128 && (db.take 318).all (· = 0) && nth db 318 0 = 1 &&
      sha256 (List.replicate 8 0 ++ sha256 m ++ db.drop 319) = h

end Sys2Proof
end

