-- ==== Sys2Proof/Machine/Keys.lean ====
section
/-! DEFINITION. The Efner: root, coppice, slots, key commands, tamper, attestation and lifecycle (chapter 15). -/

namespace Sys2Proof.Machine

/-! ### Roots and lifecycle -/

/-- Debug is unlocked: always in FACTORY, or by DBG_UNLOCK (R402, R403). -/
def State.debugOpen (s : State) : Bool := s.otp.lc = 0 || s.keys.unlocked

/-- The root in use: the test root while debug is unlocked (R400). -/
def State.rootKey (s : State) : Option (List Nat) :=
  if s.debugOpen then some (beBytes (Config.testRoot.toNat) 32) else s.vbat.root.map (fun r => beBytes r 32)

/-- ROOT_ID: the first four bytes of HMAC-SHA-256 of the root over "TZID" (R383); 0 while no root is valid. -/
def State.rootIdBytes (s : State) : List Nat :=
  match s.rootKey with
  | some k => (hmac256 k [0x54, 0x5A, 0x49, 0x44]).take 4
  | none => [0, 0, 0, 0]

/-- UNIQUE_ID as its eight bytes, in the order of Table 15.3. -/
def State.uniqueBytes (s : State) : List Nat := leBytes s.otp.uniqueId 8

/-- Draw `n` random bytes: a free value. -/
def State.random (s : State) (n : Nat) : List Nat × State :=
  let r := s.fresh
  (beBytes (Config.freeValue r.1 (8 * n)).toNat n, r.2)

/-! ### Nodes (R388 to R391) -/

/-- Node `n`. -/
def State.node (s : State) (n : Nat) : Node := s.vbat.nodes.get n ⟨false, 0, 0, 0⟩

/-- Change node `n`. -/
def State.setNode (s : State) (n : Nat) (x : Node) : State :=
  { s with vbat := { s.vbat with nodes := s.vbat.nodes.set n x ⟨false, 0, 0, 0⟩ } }

/-- The key of node `n`, through at most `fuel` ancestors (R389). -/
def State.nodeKey (s : State) (n : Nat) : Nat → List Nat
  | 0 => []
  | fuel + 1 =>
    let x := s.node n
    let kp := if x.parent = 0x40 then s.rootKey.getD [] else s.nodeKey x.parent fuel
    hmac256 kp (beBytes 1 4 ++ [0x54, 0x5A, 0x43, 0x50, 0x00, n, x.attr] ++ leBytes x.gen 2 ++ beBytes 256 4)

/-- The key of node `n` (R389). -/
def State.nodeKeyOf (s : State) (n : Nat) : List Nat := s.nodeKey n 65

/-- Node `m` is `n` or lies below it. -/
def State.below (s : State) (n m : Nat) : Nat → Bool
  | 0 => false
  | fuel + 1 => m = n || ((s.node m).defined && (s.node m).parent < 0x40 && s.below n (s.node m).parent fuel)

/-- Node `n` is a defined node of attribute `a`. -/
def State.nodeIs (s : State) (n a : Nat) : Bool := (s.node n).defined && (s.node n).attr = a

/-! ### Slots (R392) -/

/-- A field of SLOT_STAT. -/
def State.slotGet (s : State) (f : Fld) (n : Nat) : Nat := s.get .key (f.at n)

/-- Put a key into a slot: whatever it held is replaced, and LGEN adds one. -/
def State.putKey (s : State) (n : Nat) (key : List Nat) (origin attr node : Nat) : State :=
  let gen := s.slotGet KEY.SLOT_STAT_LGEN n + 1
  ({ s with keys := { s.keys with slots := s.keys.slots.set n key [] } } : State).puts .key
    [(KEY.SLOT_STAT_FULL.at n, 1), (KEY.SLOT_STAT_ORIGIN.at n, origin), (KEY.SLOT_STAT_ATTR.at n, attr),
     (KEY.SLOT_STAT_LEN.at n, b2n (key.length = 32)), (KEY.SLOT_STAT_NODE.at n, node), (KEY.SLOT_STAT_LGEN.at n, gen)]

/-- Empty a slot: LGEN adds one, and bits 29:16 of SLOT_STAT read 0. -/
def State.unload (s : State) (n : Nat) : State :=
  let gen := s.slotGet KEY.SLOT_STAT_LGEN n + 1
  ({ s with keys := { s.keys with slots := s.keys.slots.set n [] [] } } : State).puts .key
    [(KEY.SLOT_STAT_FULL.at n, 0), (KEY.SLOT_STAT_ORIGIN.at n, 0), (KEY.SLOT_STAT_ATTR.at n, 0),
     (KEY.SLOT_STAT_LEN.at n, 0), (KEY.SLOT_STAT_NODE.at n, 0), (KEY.SLOT_STAT_LGEN.at n, gen)]

/-- Unload every slot, with ORPHAN (R385, R400). -/
def State.unloadAll (s : State) : State :=
  ((List.range 512).foldl State.unload s).raise .key KEY.INT_STAT_ORPHAN

/-- The full slots whose recorded node is `n` or below it. -/
def State.slotsBelow (s : State) (n : Nat) : List Nat :=
  (List.range 512).filter (fun k => s.slotGet KEY.SLOT_STAT_FULL k = 1 && s.below n (s.slotGet KEY.SLOT_STAT_NODE k) 65)

/-- What NODE_INVALIDATE does: generations of `n` and below add one, and their slots are unloaded (R391). -/
def State.invalidate (s : State) (n : Nat) : State :=
  let ns := (List.range 64).filter (fun m => s.below n m 65)
  let slots := s.slotsBelow n
  let s := ns.foldl (fun s m => let x := s.node m; s.setNode m { x with gen := (x.gen + 1) % 65536 }) s
  let s := slots.foldl State.unload s
  if slots.isEmpty then s else s.raise .key KEY.INT_STAT_ORPHAN

/-! ### KEY_BUF -/

/-- Bytes `o` to `o + n - 1` of KEY_BUF. -/
def State.keyBuf (s : State) (o n : Nat) : List Nat :=
  (List.range n).map (fun i => bits (s.get .key (KEY.KEY_BUF_DATA.at ((o + i) / 4))) (8 * ((o + i) % 4)) 8)

/-- Zero KEY_BUF. -/
def State.zeroKeyBuf (s : State) : State :=
  (List.range 256).foldl (fun s w => s.put .key (KEY.KEY_BUF_DATA.at w) 0) s

/-- KEY_BUF holds these output bytes, from word 0, and zeros after them (R395). -/
def State.setKeyBuf (s : State) (l : List Nat) : State :=
  (List.zip (List.range 256) (chunks 4 256 l)).foldl (fun s e => s.put .key (KEY.KEY_BUF_DATA.at e.1) (packBytes e.2))
    s.zeroKeyBuf

/-! ### The end of a command (R397) -/

/-- The time of a key command, in microseconds (Table 15.4); none for an unknown OP. -/
def keyTime (op : Nat) : Option Nat :=
  match op with
  | 0x01 | 0x10 | 0x13 | 0x14 | 0x15 | 0x20 | 0x33 | 0x40 => some 1000
  | 0x02 | 0x03 | 0x11 | 0x12 => some 2000
  | 0x16 => some 100
  | 0x21 | 0x41 => some 50000
  | 0x22 => some 60000000
  | 0x30 | 0x31 | 0x32 => some 100000
  | _ => none

/-- More than `us` microseconds have passed since core cycle `since`. -/
def State.overtime (s : State) (since : Nat) (us : Option Nat) : Bool := us.any (fun u => since + cyclesPerUs * u < s.now)

/-- The running command ends with `status` (R397, Table 15.10). One that failed with 0x0007 or exceeded its time is an event
(Table 17.3), whose PARAM1, "detail", is left open. -/
def State.keyFinish (s : State) (status rsp0 : Nat) (keep : Bool) : State :=
  let s := if keep then s else s.zeroKeyBuf
  let s := (s.puts .key [(KEY.KEY_STAT_BUSY, 0), (KEY.KEY_STAT_DONE, 1), (KEY.KEY_STAT_STATUS, status),
    (KEY.KEY_RSP_RSP.at 0, rsp0), (KEY.KEY_RSP_RSP.at 1, 0)]).raise .key KEY.INT_STAT_CMD_DONE
  let s := s.add .key KEY.CMD_CNT 1
  let s := if status = 0 then s else s.addSat .key KEY.CMD_FAIL 1
  let s := if status = 0x0005 then s.addSat .key KEY.LOAD_ORPHAN 1 else s
  let s := if status = 0x000B then s.addSat .key KEY.SIG_FAIL 1 else s
  let s := if status = 0x0007 || s.overtime s.keys.runAt (keyTime s.keys.runOp) then
      let r := s.fresh
      r.2.offer .key 0x0030 s.keys.runOp (Config.freeValue r.1 32).toNat
    else s
  { s with keys := { s.keys with run := none } }

/-! ### Tamper (R383 to R387) -/

/-- The root and everything that hangs from it is zeroed (R384): with the root the identity is lost (R398). -/
def State.zeroRoot (s : State) : State := { s with vbat := { s.vbat with root := none, nodes := [] }, identity := none }

/-- TAMP input `k` is enabled: its MODE is active high or active low (Table 15.9). -/
def State.tampEnabled (s : State) (k : Nat) : Bool := bits s.vbat.tampCfg (2 * k) 2 = 1 || bits s.vbat.tampCfg (2 * k) 2 = 2

/-- Detector `bit` of Table 15.1 can trip: a TAMP input while it is enabled, the clock glitch detector while main power is
present. -/
def State.canTrip (s : State) (bit : Nat) : Bool :=
  if bit < 4 then s.tampEnabled bit else bit = 4 || bit = 5 || (bit = 6 && s.powered)

/-- Detector `bit` trips (R384, R385). A running key command ends at once. -/
def State.trip (s : State) (bit : Nat) : State :=
  let s := s.zeroRoot
  let v := s.vbat
  let latch := putBit v.latch bit true
  let s : State := { s with vbat := { v with
    tampCount := (v.tampCount + 1) % 65536, latch, latchDark := if s.powered then v.latchDark else putBit v.latchDark bit true } }
  if !s.powered then s
  else
    let s := (s.unloadAll.zeroKeyBuf).raise .key KEY.INT_STAT_TAMPER
    let s := if s.get .key KEY.KEY_STAT_BUSY = 1 then s.keyFinish 0x000A 0 false else s
    let s : State := if bit < 4 then { s with keys := { s.keys with tampActive := true } } else s
    (s.fault .key .contained 0 0).offer .key 0x0020 latch s.vbat.tampCount

/-- Detector `bit` sees its condition of Table 15.1: it trips where it can (R384). -/
def State.tamper (s : State) (bit : Nat) : State := if s.canTrip bit then s.trip bit else s

/-- What the Efner reports of the tamper latch at a power-good (R386). -/
def State.tamperReport (s : State) : State :=
  let v := s.vbat
  let s := s.put .key KEY.TAMP_STAT_CAUSE v.latch
  let s := (List.range 7).foldl (fun s b =>
    if bitAt v.latch b = 1 then
      s.offer .key 0x0020 (2 ^ b + (if bitAt v.latchDark b = 1 then 256 else 0)) v.tampCount
    else s) s
  { s with vbat := { s.vbat with latch := 0, latchDark := 0 } }

/-- At a device reset: a new root where none is valid and it is allowed (R387). `level` tells whether an enabled TAMP input
stands at its active level. -/
def State.rootAtReset (s : State) (level : Bool) : State :=
  let active := level && (List.range 4).any s.tampEnabled
  let s : State := { s with keys := { s.keys with tampActive := active && s.vbat.root.isNone } }
  if s.vbat.root.isNone && !active && (s.otp.lc = 1 || s.otp.lc = 2) then
    let r := s.random 32
    { r.2 with vbat := { r.2.vbat with root := some (beNat r.1), nodes := [] }, identity := none }
  else s

/-! ### Commands (R393 to R403, Table 15.4) -/

/-- Key arguments. -/
def State.argSlot (s : State) : Nat := bits (s.get .key (KEY.KEY_ARG_ARG.at 0)) 0 9
def State.argNode (s : State) : Nat := bits (s.get .key (KEY.KEY_ARG_ARG.at 0)) 16 6
def State.argAttr (s : State) : Nat := bits (s.get .key (KEY.KEY_ARG_ARG.at 0)) 22 2
def State.argLen (s : State) : Nat := if bits (s.get .key (KEY.KEY_ARG_ARG.at 0)) 24 1 = 1 then 32 else 16
def State.argSlotEn (s : State) : Bool := bits (s.get .key (KEY.KEY_ARG_ARG.at 0)) 31 1 = 1
def State.argParent (s : State) : Nat := bits (s.get .key (KEY.KEY_ARG_ARG.at 1)) 0 7
def State.argWslot (s : State) : Nat := bits (s.get .key (KEY.KEY_ARG_ARG.at 1)) 16 9
def State.argKeyId (s : State) : Nat := s.get .key (KEY.KEY_ARG_ARG.at 2)

/-- How a command ends: STATUS, KEY_RSP0, whether KEY_BUF keeps its outputs, and the state. -/
abbrev KeyEnd := Nat × Nat × Bool × State

/-- The command ends without output. -/
def keyOk (s : State) : KeyEnd := (0, 0, false, s)

/-- The command fails. -/
def keyFail (status : Nat) (s : State) : KeyEnd := (status, 0, false, s)

/-- The conditions that fail, as their STATUS codes, and the outcome when none fails. Where several fail at once and the
spec gives no order, which STATUS is given is left open. (DEDUCED, notes/assumptions/100.md) -/
def keyChecks (l : List (Bool × Nat)) (s : State) (ok : KeyEnd) : KeyEnd :=
  let fails := (l.filter (·.1)).map (·.2)
  match fails[Config.pick 8 fails.length % fails.length]? with
  | some st => keyFail st s
  | none => ok

/-- Root not valid, for a command that needs it (R385, R387). -/
def State.noRoot (s : State) : Bool := s.rootKey.isNone

/-- Not allowed in this lifecycle: the command's states are listed. -/
def State.lcBad (s : State) (allowed : List Nat) : Bool := !allowed.contains s.otp.lc

/-- NODE_DEFINE (R388). -/
def State.keyNodeDefine (s : State) : KeyEnd :=
  let n := s.argNode
  let p := s.argParent
  keyChecks [(s.lcBad [1, 2], 0x0009), (s.noRoot, 0x000A), (s.argAttr < 2, 0x0003), (0x40 < p, 0x0002),
    ((s.node n).defined, 0x0008), (p < 0x40 && !s.nodeIs p 3, 0x0008)] s
    (keyOk (s.setNode n { s.node n with defined := true, attr := s.argAttr, parent := p }))

/-- NODE_INVALIDATE (R391). -/
def State.keyNodeInvalidate (s : State) : KeyEnd :=
  keyChecks [(s.lcBad [1, 2], 0x0009), (s.noRoot, 0x000A), (!(s.node s.argNode).defined, 0x0008)] s
    (keyOk (s.invalidate s.argNode))

/-- Node `n` has a defined child. -/
def State.hasChild (s : State) (n : Nat) : Bool :=
  (List.range 64).any (fun m => (s.node m).defined && (s.node m).parent = n)

/-- NODE_DELETE (R391). -/
def State.keyNodeDelete (s : State) : KeyEnd :=
  let n := s.argNode
  keyChecks [(s.lcBad [1, 2], 0x0009), (s.noRoot, 0x000A), (!(s.node n).defined, 0x0008), (s.hasChild n, 0x0008)] s
    (let s := s.invalidate n
     keyOk (s.setNode n { s.node n with defined := false }))

/-- A health test of the random bit generator fails (R387). -/
def State.entropyFail (s : State) : State := (s.raise .key KEY.INT_STAT_ENTROPY_FAIL).fault .key .contained 0 0

/-- GENERATE (R395). -/
def State.keyGenerate (s : State) (entropy : Bool) : KeyEnd :=
  keyChecks [(s.lcBad [0, 1, 2], 0x0009), (s.noRoot, 0x000A), (s.argAttr = 3, 0x0003), (!s.nodeIs s.argNode 2, 0x0008)] s
    (if !entropy then keyFail 0x000D s.entropyFail
     else let r := s.random s.argLen
          keyOk (r.2.putKey s.argSlot r.1 0 s.argAttr s.argNode))

/-- The header of a blob (Table 15.3). -/
def State.blobHeader (s : State) (slot keyId : Nat) : List Nat :=
  let node := s.slotGet KEY.SLOT_STAT_NODE slot
  leBytes 0x4B5A 2 ++ [0x01, s.slotGet KEY.SLOT_STAT_ATTR slot + 4 * s.slotGet KEY.SLOT_STAT_LEN slot +
    16 * s.slotGet KEY.SLOT_STAT_ORIGIN slot, node, 0] ++ leBytes (s.node node).gen 2 ++ s.rootIdBytes ++ leBytes keyId 4 ++
    s.uniqueBytes ++ List.replicate 8 0

/-- EXPORT (R393). -/
def State.keyExport (s : State) : KeyEnd :=
  let k := s.argSlot
  let node := s.slotGet KEY.SLOT_STAT_NODE k
  keyChecks [(s.lcBad [0, 1, 2], 0x0009), (s.noRoot, 0x000A), (s.slotGet KEY.SLOT_STAT_FULL k = 0, 0x0004),
    (s.slotGet KEY.SLOT_STAT_FULL k = 1 && !s.nodeIs node 2, 0x0003)] s
    (let h := s.blobHeader k s.argKeyId
     let blob := h ++ kwpWrap (s.nodeKeyOf node) (h ++ s.keys.slots.get k [])
     (0, blob.length, true, s.setKeyBuf blob))

/-- LOAD: the checks of R394 in their order; the length is the one that LEN of KEY_INFO gives, and the unwrapped bytes have it
too. (DEDUCED, notes/assumptions/100.md) -/
def State.keyLoad (s : State) : KeyEnd :=
  let h := s.keyBuf 0 32
  let info := nth h 3 0
  let len := if bitAt info 2 = 1 then 104 else 88
  let node := nth h 4 0
  if s.lcBad [0, 1, 2] then keyFail 0x0009 s
  else if s.noRoot then keyFail 0x000A s
  else if h.take 3 ≠ [0x5A, 0x4B, 0x01] then keyFail 0x0007 s
  else if (h.drop 16).take 8 ≠ s.uniqueBytes || (h.drop 8).take 4 ≠ s.rootIdBytes then keyFail 0x0006 s
  else if 64 ≤ node || !s.nodeIs node 2 then keyFail 0x0008 s
  else if (h.drop 6).take 2 ≠ leBytes (s.node node).gen 2 then keyFail 0x0005 s
  else match kwpUnwrap (s.nodeKeyOf node) (s.keyBuf 32 (len - 32)) with
    | none => keyFail 0x0007 s
    | some p =>
      if p.length + 40 ≠ len || p.take 32 ≠ h then keyFail 0x0007 s
      else (0, packBytes ((h.drop 12).take 4), false, s.putKey s.argSlot (p.drop 32) (bits info 4 2) (bits info 0 2) node)

/-- DERIVE (R389). -/
def State.keyDerive (s : State) : KeyEnd :=
  keyChecks [(s.lcBad [0, 1, 2], 0x0009), (s.noRoot, 0x000A), (s.argAttr = 3, 0x0003), (!s.nodeIs s.argNode 3, 0x0008)] s
    (let key := (hmac256 (s.nodeKeyOf s.argNode) (beBytes 1 4 ++ [0x54, 0x5A, 0x57, 0x4B, 0x00] ++ s.keyBuf 0 16 ++
       [s.argAttr, b2n (s.argLen = 32)] ++ beBytes (8 * s.argLen) 4)).take s.argLen
     keyOk (s.putKey s.argSlot key 1 s.argAttr s.argNode))

/-- IMPORT (R395). -/
def State.keyImport (s : State) : KeyEnd :=
  keyChecks [(s.lcBad [0, 1, 2], 0x0009), (s.noRoot, 0x000A), (s.argAttr = 3, 0x0003), (!s.nodeIs s.argNode 2, 0x0008)] s
    (keyOk (s.putKey s.argSlot (s.keyBuf 0 s.argLen) 2 s.argAttr s.argNode))

/-- UNWRAP_KW (R395). -/
def State.keyUnwrap (s : State) : KeyEnd :=
  let w := s.argWslot
  let full := s.slotGet KEY.SLOT_STAT_FULL w = 1
  keyChecks [(s.lcBad [0, 1, 2], 0x0009), (s.noRoot, 0x000A), (s.argAttr = 3, 0x0003), (!full, 0x0004),
    (full && s.slotGet KEY.SLOT_STAT_ATTR w ≠ 2, 0x0003)] s
    (match kwUnwrap (s.keys.slots.get w []) (s.keyBuf 0 (s.argLen + 8)) with
     | none => keyFail 0x0007 s
     | some key => keyOk (s.putKey s.argSlot key 2 s.argAttr (s.slotGet KEY.SLOT_STAT_NODE w)))

/-- UNLOAD (R392). -/
def State.keyUnload (s : State) : KeyEnd := keyOk (s.unload s.argSlot)

/-- GET_IDENTITY (Table 15.4). -/
def State.keyGetIdentity (s : State) : KeyEnd :=
  if s.debugOpen then (0, 0, true, s.setKeyBuf (beBytes Config.testIdentity.toNat 384))
  else match s.identity with
    | none => keyFail 0x0009 s
    | some m => (0, 0, true, s.setKeyBuf m)

/-- The measurement, security version and anti-rollback words of Table 15.6 for the running images, given the body hashes
and versions. -/
structure Measure where
  hash : List Nat
  svn : Nat
  deriving DecidableEq, Repr

/-- The attestation statement (Table 15.6), before its signature. -/
def State.statement (s : State) (meas : List Measure) (chipId : Nat) : List Nat :=
  let k := s.argSlot
  let slot := s.argSlotEn
  let wrapOnly := s.nodeIs (s.slotGet KEY.SLOT_STAT_NODE k) 2
  leBytes 0x41545A31 4 ++ leBytes 1 2 ++ leBytes 256 2 ++ s.uniqueBytes ++ leBytes chipId 4 ++
    [s.otp.lc, b2n s.debugOpen + 2 * b2n slot, s.otp.idEpoch, 0] ++ s.rootIdBytes ++ leBytes s.stc 8 ++ s.keyBuf 0 32 ++
    (meas.flatMap (·.hash)) ++ (meas.flatMap (fun m => leBytes m.svn 4)) ++ (s.otp.rb.flatMap (fun r => leBytes r 4)) ++
    [0x01, 0, 0, 0] ++
    (if slot then
      leBytes (k + 4096 * s.slotGet KEY.SLOT_STAT_ATTR k + 65536 * s.slotGet KEY.SLOT_STAT_ORIGIN k +
        1048576 * b2n wrapOnly) 4 ++ leBytes (s.slotGet KEY.SLOT_STAT_LGEN k) 4
     else List.replicate 8 0) ++ List.replicate 16 0

/-- ATTEST (R399): the signature is a free value, since its salt is random. -/
def State.keyAttest (s : State) (meas : List Measure) (chipId : Nat) : KeyEnd :=
  keyChecks [(!s.debugOpen && s.identity.isNone, 0x0009),
    (s.argSlotEn && s.slotGet KEY.SLOT_STAT_FULL s.argSlot = 0, 0x0004)] s
    (let r := s.random 384
     (0, 0, true, r.2.setKeyBuf (s.statement meas chipId ++ r.1)))

/-- An OTP write failed (Table 15.5). -/
def keyOtpFail (s : State) : KeyEnd := keyFail 0x000C (s.fault .key .contained 0 0)

/-- GEN_IDENTITY (R398). -/
def State.keyGenIdentity (s : State) (entropy otpOk : Bool) : KeyEnd :=
  keyChecks [(s.lcBad [1, 2], 0x0009), (s.noRoot, 0x000A), (s.identity.isSome, 0x0009), (8 ≤ s.otp.idEpoch, 0x0009)] s
    (if !entropy then keyFail 0x000D s.entropyFail
     else if !otpOk then keyOtpFail s
     else
       let r := s.random 384
       let s : State := { r.2 with identity := some r.1, otp := { r.2.otp with idEpoch := r.2.otp.idEpoch + 1 } }
       (0, s.otp.idEpoch, false, s.offer .key 0x0041 s.otp.lc s.otp.idEpoch))

/-- LC_ADVANCE (R402); RETIRED locks debug. (DEDUCED, notes/assumptions/149.md) -/
def State.keyLcAdvance (s : State) (entropy otpOk : Bool) : KeyEnd :=
  let next := bits (s.get .key (KEY.KEY_ARG_ARG.at 0)) 0 2
  keyChecks [(s.lcBad [0, 1, 2], 0x0009), (next ≠ s.otp.lc + 1, 0x0002), (next = 2 && s.identity.isNone, 0x0009)] s
    (if next = 1 && !entropy then keyFail 0x000D s.entropyFail
     else if !otpOk then keyOtpFail s
     else
       let s : State := { s with otp := { s.otp with
         lc := next, debugLock := s.otp.debugLock || next = 1, tampLock := s.otp.tampLock || next = 2 } }
       let s :=
         if next = 1 then
           let r := s.random 32
           ({ r.2 with vbat := { r.2.vbat with root := some (beNat r.1), nodes := [] } } : State).unloadAll
         else if next = 3 then
           ({ s with keys := { s.keys with unlocked := false } } : State).zeroRoot.unloadAll
         else s
       keyOk (s.offer .key 0x0041 next s.otp.idEpoch))

/-- A modulus is accepted: its SHA-256 equals a key hash slot that is written and not revoked; the slot (R401). -/
def State.signerSlot (s : State) (modulus : List Nat) : Option Nat :=
  (List.range 4).find? (fun i => bitAt s.otp.revoked i = 0 && nth s.otp.keyHash i none == some (sha256 modulus))

/-- CUSTKEY_SET (Table 15.4). -/
def State.keyCustSet (s : State) (otpOk : Bool) : KeyEnd :=
  let i := bits (s.get .key (KEY.KEY_ARG_ARG.at 0)) 0 2
  keyChecks [(s.lcBad [1], 0x0009), (i = 0 || (nth s.otp.keyHash i none).isSome, 0x0002)] s
    (if !otpOk then keyOtpFail s
     else keyOk { s with otp := { s.otp with keyHash := setNth s.otp.keyHash i (some (sha256 (s.keyBuf 0 384))) } })

/-- A signature by an accepted signer over `m`, from KEY_BUF (R401). -/
def State.keySigned (s : State) (m : List Nat) : Bool :=
  (s.signerSlot (s.keyBuf 0 384)).isSome && pssVerify (s.keyBuf 0 384) m (s.keyBuf 384 384)

/-- REVOKE (R401). -/
def State.keyRevoke (s : State) (otpOk : Bool) : KeyEnd :=
  let i := bits (s.get .key (KEY.KEY_ARG_ARG.at 0)) 0 2
  let left := (List.range 4).filter (fun k => k ≠ i && bitAt s.otp.revoked k = 0 && (nth s.otp.keyHash k none).isSome)
  keyChecks [(s.lcBad [1, 2], 0x0009), (!s.keySigned (s.uniqueBytes ++ [i]), 0x000B), (left.isEmpty, 0x0009),
    (s.signerSlot (s.keyBuf 0 384) = some i, 0x0009)] s
    (if !otpOk then keyOtpFail s
     else keyOk { s with otp := { s.otp with revoked := putBit s.otp.revoked i true } })

/-- TAMPER_CONFIG (R384, Table 15.4). -/
def State.keyTamperConfig (s : State) : KeyEnd :=
  let m := bits (s.get .key (KEY.KEY_ARG_ARG.at 0)) 0 8
  keyChecks [(s.lcBad [1], 0x0009), ((List.range 4).any (fun k => bits m (2 * k) 2 = 3), 0x0002)] s
    (keyOk { s with vbat := { s.vbat with tampCfg := m } })

/-- DBG_CHALLENGE (R403). -/
def State.keyChallenge (s : State) (entropy : Bool) : KeyEnd :=
  keyChecks [(s.lcBad [1, 2], 0x0009)] s
    (if !entropy then keyFail 0x000D s.entropyFail
     else
       let r := s.random 32
       (0, 0, true, ({ r.2 with keys := { r.2.keys with challenge := some r.1 } } : State).setKeyBuf r.1))

/-- DBG_UNLOCK (R400, R403). -/
def State.keyUnlock (s : State) : KeyEnd :=
  let good := match s.keys.challenge with
    | some c => s.keySigned (c ++ s.uniqueBytes)
    | none => false
  let s' : State := { s with keys := { s.keys with challenge := none } }
  keyChecks [(s.lcBad [1, 2], 0x0009), (!good, 0x000B)] s'
    (keyOk ((({ s' with keys := { s'.keys with unlocked := true } } : State).unloadAll).raise .key KEY.INT_STAT_DEBUG_OPEN))

/-- Run the command of code `op`. `entropy` and `otpOk` tell whether the health tests and the fuse writes succeed.
(DESIGN CHOICE, notes/assumptions/7.md) -/
def State.keyOp (s : State) (op : Nat) (entropy otpOk : Bool) (meas : List Measure) (chipId : Nat) : KeyEnd :=
  if s.keys.tampActive then keyFail 0x000A s
  else match op with
    | 0x01 => s.keyNodeDefine
    | 0x02 => s.keyNodeInvalidate
    | 0x03 => s.keyNodeDelete
    | 0x10 => s.keyGenerate entropy
    | 0x11 => s.keyExport
    | 0x12 => s.keyLoad
    | 0x13 => s.keyDerive
    | 0x14 => s.keyImport
    | 0x15 => s.keyUnwrap
    | 0x16 => s.keyUnload
    | 0x20 => s.keyGetIdentity
    | 0x21 => s.keyAttest meas chipId
    | 0x22 => s.keyGenIdentity entropy otpOk
    | 0x30 => s.keyLcAdvance entropy otpOk
    | 0x31 => s.keyCustSet otpOk
    | 0x32 => s.keyRevoke otpOk
    | 0x33 => s.keyTamperConfig
    | 0x40 => s.keyChallenge entropy
    | 0x41 => s.keyUnlock
    | _ => keyFail 0x0001 s

/-- A GO with code `op`: rejected while BUSY or DONE, else the command runs (R397). Its STATUS and outputs are shown when
it completes. (DEDUCED, notes/assumptions/6.md) -/
def State.keyGo (s : State) (op : Nat) (entropy otpOk : Bool) (meas : List Measure) (chipId : Nat) : State :=
  if s.get .key KEY.KEY_STAT_BUSY = 1 || s.get .key KEY.KEY_STAT_DONE = 1 then
    (s.addSat .key KEY.KEY_STAT_REJECTS 1).raise .key KEY.INT_STAT_REJECT
  else
    let s := (s.put .key KEY.KEY_CMD_OP op).put .key KEY.KEY_STAT_BUSY 1
    let r := s.keyOp op entropy otpOk meas chipId
    { r.2.2.2 with keys := { r.2.2.2.keys with run := some (r.1, r.2.1, r.2.2.1), runOp := op, runAt := s.now } }

/-- The running command completes. -/
def State.keyComplete (s : State) : State :=
  match s.keys.run with
  | none => s
  | some (status, rsp0, keep) => if s.get .key KEY.KEY_STAT_BUSY = 1 then s.keyFinish status rsp0 keep else s

/-- FUNC_INIT of the KEY page (R397). -/
def State.keyInit (s : State) : State :=
  let s := if s.get .key KEY.KEY_STAT_BUSY = 1 then s.keyFinish 0x000E 0 false else s
  (s.puts .key [(KEY.KEY_ARG_ARG.at 0, 0), (KEY.KEY_ARG_ARG.at 1, 0), (KEY.KEY_ARG_ARG.at 2, 0)]).zeroKeyBuf

end Sys2Proof.Machine
end

