-- ==== Sys2Proof/Machine/Serial.lean ====
section
/-! DEFINITION. Serial line coding: kerf bits, test patterns, and the coding of serial digital interfaces (R68, R75, R91,
R92, Table 3.9). A list of bits is in line order, first bit first. -/

namespace Sys2Proof

/-- The bits of a number, bit 0 first. -/
def toBits (x : Nat) : Nat → List Bool
  | 0 => []
  | n + 1 => (x % 2 == 1) :: toBits (x / 2) n

/-- The number whose bit 0 is the first of the list. -/
def ofBits : List Bool → Nat
  | [] => 0
  | b :: r => b2n b + 2 * ofBits r

/-! ### Kerf bits (R75) -/

/-- The run count after a line bit `b`, where `len` bits of value `val` came last. -/
def runNext (len : Nat) (val b : Bool) : Nat := if len ≠ 0 && val == b then len + 1 else 1

/-- The line bits that carry `bits` after a run of `len` bits of value `val`: after 36 identical bits one of the opposite
value is inserted. With them, the run they leave. -/
def kerfSend (len : Nat) (val : Bool) : List Bool → List Bool × Nat × Bool
  | [] => if len = 36 then ([!val], 1, !val) else ([], len, val)
  | b :: r =>
    if len = 36 then
      let q := kerfSend (runNext 1 (!val) b) b r
      ((!val) :: b :: q.1, q.2)
    else
      let q := kerfSend (runNext len val b) b r
      (b :: q.1, q.2)

/-- What a receiver's run counter makes of received bits. -/
structure KerfRun where
  len : Nat
  val : Bool
  /-- Kerf violations counted. -/
  viol : Nat
  deriving DecidableEq, Repr

/-- The receiver's run counter over `n` bits of `x`, bit 0 first, that were carried with the kerf bits `ks` between them:
after 36 identical bits the next bit is discarded and the count starts at 1 with it, and a discarded bit of the run's own
value is a violation. Where `ks` ends, every further kerf bit is the one that was sent. -/
def kerfReceive (k : KerfRun) (ks : List Bool) (x : Nat) : Nat → KerfRun
  | 0 => k
  | n + 1 =>
    let b := x % 2 == 1
    if k.len = 36 then
      let d := ks.headD (!k.val)
      kerfReceive ⟨runNext 1 d b, b, k.viol + b2n (d == k.val)⟩ ks.tail (x / 2) n
    else kerfReceive ⟨runNext k.len k.val b, b, k.viol⟩ ks (x / 2) n

/-! ### Test patterns (Table 3.9) -/

/-- The exponents a, b of the polynomial x^a + x^b + 1 of patterns 0 to 4. -/
def prbsPoly (pat : Nat) : Nat × Nat :=
  match pat with
  | 0 => (7, 6)
  | 1 => (9, 5)
  | 2 => (15, 14)
  | 3 => (23, 18)
  | _ => (31, 28)

/-- The next `n` bits of the sequence s(i) = s(i - a) XOR s(i - b), where bit j of `w` is the bit j + 1 places back; and the
window after them. -/
def prbsBits (a b w : Nat) : Nat → List Bool × Nat
  | 0 => ([], w)
  | n + 1 =>
    let s := (bitAt w (a - 1) + bitAt w (b - 1)) % 2
    let r := prbsBits a b ((2 * w + s) % 2 ^ a) n
    ((s == 1) :: r.1, r.2)

/-- A receiver that seeds itself from the first `a` bits finds every later one as the sequence has it, 64 at least. -/
def prbsFollows (pat : Nat) (l : List Bool) : Bool :=
  let (a, b) := prbsPoly pat
  let seed := ofBits ((l.take a).reverse)
  a + 64 ≤ l.length && (prbsBits a b seed (l.length - a)).1 == l.drop a

/-- 64 bits or more repeat the `p`-bit pattern `u`, bit 0 first, from one of its alignments. -/
def repeats (p u : Nat) (l : List Bool) : Bool :=
  64 ≤ l.length && (List.range p).any (fun k =>
    (List.range l.length).all (fun i => nth l i false == (bitAt u ((k + i) % p) == 1)))

/-! ### Serial digital interfaces (R68) -/

/-- NRZI: a 1 is sent as a change of level; `y` is the level before. -/
def nrzi (y : Bool) : List Bool → List Bool
  | [] => []
  | d :: r => (y != d) :: nrzi (y != d) r

/-- NRZI decoding after level `y`. -/
def unNrzi (y : Bool) : List Bool → List Bool
  | [] => []
  | d :: r => (y != d) :: unNrzi d r

/-- The scrambler x^9 + x^4 + 1, where bit j of `w` is the scrambled bit j + 1 places back. -/
def sdiScramble (w : Nat) : List Bool → List Bool
  | [] => []
  | x :: r =>
    let d := (b2n x + bitAt w 8 + bitAt w 3) % 2
    (d == 1) :: sdiScramble ((2 * w + d) % 512) r

/-- The descrambler, where bit j of `w` is the received bit j + 1 places back. -/
def sdiDescramble (w : Nat) : List Bool → List Bool
  | [] => []
  | d :: r => ((b2n d + bitAt w 8 + bitAt w 3) % 2 == 1) :: sdiDescramble ((2 * w + b2n d) % 512) r

/-- The bits of a stream of `k`-bit words as the serialiser sends them, from level `y` and scrambler `w`. -/
def sdiLine (y : Bool) (w k : Nat) (words : List Nat) : List Bool :=
  nrzi y (sdiScramble w (words.flatMap (fun x => toBits x k)))

/-- Where a timing reference begins: `k` ones and 2k zeros, with k 10 at 270 Mb/s and 20 above. -/
def trsAt (k : Nat) : List Bool → Option Nat
  | [] => none
  | b :: r =>
    let l := b :: r
    if 3 * k ≤ l.length && (l.take k).all (fun x => x) && ((l.drop k).take (2 * k)).all (fun x => !x) then some 0
    else (trsAt k r).map (· + 1)

/-- The words of a received line: NRZI decoded, descrambled, and aligned on the first timing reference; none before one is
found. -/
def sdiWords (y : Bool) (w k : Nat) (line : List Bool) : List Nat :=
  let d := sdiDescramble w (unNrzi y line)
  match trsAt k d with
  | some i => let r := d.drop i
              cutWords k (ofBits r) (r.length / k)
  | none => []

/-- Sub-image `t` of `n`, in tenon order: the words are carried in turn.
(PRESUMED, notes/assumptions/128.md) -/
def subImage (n t : Nat) (words : List Nat) : List Nat :=
  ((List.range words.length).zip words).filterMap (fun e => if e.1 % n = t then some e.2 else none)

/-- A tenon's slots for words at `den / num` of the slot rate: word k stands in slot num·k/den, and every other slot holds a
fill word, which is marked by none (R68, R125). (PRESUMED, notes/assumptions/128.md) -/
def tenonSlots (num den : Nat) (words : List Nat) : List (Option Nat) :=
  (List.range (words.length * num / den)).map (fun i =>
    let k := (i * den + num - 1) / num
    if k * num / den = i then words[k]? else none)

/-- Slots per word at an SDI rate code: 27 MHz words at 270 Mb/s, 74.25 MHz words at 1.485 Gb/s, and 148.5 MHz words per
tenon above. -/
def slotRatio (code : Nat) : Nat × Nat :=
  match code with
  | 0x3 => (11, 2)
  | 0x4 | 0x5 => (2, 1)
  | _ => (1, 1)

/-- The two word pairs of the check fields of SMPTE RP 178 and RP 198, the first word lowest.
(PRESUMED, notes/assumptions/128.md) -/
def checkField : List Nat := [0x300 + 0x198 * 2 ^ 10, 0x200 + 0x110 * 2 ^ 10]

/-- The received line bits follow pattern `pat` of Table 3.9, with user pattern `user`, for 64 bits (R92). -/
def followsPattern (pat user : Nat) (inv : Bool) (line : List Bool) : Bool :=
  let l := line.map (fun b => b != inv)
  if pat < 5 then prbsFollows pat l
  else if pat = 5 then
    let d := (sdiDescramble 0 (unNrzi false l)).drop 10
    checkField.any (fun u => repeats 20 u d)
  else pat = 6 && repeats 64 user l

end Sys2Proof
end

