-- ==== Sys2Proof/Machine/Time.lean ====
section
/-! DEFINITION. Network time (chapter 8): the STC, the PTP domains, media time, steps, the servo states, the PPS pins,
and the passing of core cycles. -/

namespace Sys2Proof.Machine

/-- One nanosecond in the units of a domain's time. -/
def nsUnit : Nat := 2 ^ 40

/-- The modulus of a domain's time: 2^48 seconds (R211). -/
def timeMod : Nat := 2 ^ 48 * 1000000000 * nsUnit

/-- A quotient that the spec states without a rounding: its floor, or one more where the implementation rounds up.
(DESIGN CHOICE, notes/assumptions/10.md) -/
def openDiv (site : Nat) (n d : Int) : Int :=
  if d = 0 then 0 else n / d + (if n % d = 0 then 0 else if Config.roundUp site then 1 else 0)

/-- The time of domain `d` (0 A, 1 B). -/
def Clocks.dom (c : Clocks) (d : Fin 2) : Nat := if d = 0 then c.domA else c.domB

/-- Set the time of domain `d`. -/
def Clocks.setDom (c : Clocks) (d : Fin 2) (v : Int) : Clocks :=
  if d = 0 then { c with domA := (v % timeMod).toNat } else { c with domB := (v % timeMod).toNat }

/-- The increment of domain `d` beyond the nominal one. -/
def Clocks.adj (c : Clocks) (d : Fin 2) : Int := if d = 0 then c.adjA else c.adjB

/-- Set the increment of domain `d`. -/
def Clocks.setAdj (c : Clocks) (d : Fin 2) (v : Int) : Clocks :=
  if d = 0 then { c with adjA := v } else { c with adjB := v }

/-- The live selected domain (R220). -/
def State.mtSrc (s : State) : Fin 2 := if s.get .time TIME.MT_STAT_SRC_LIVE = 0 then 0 else 1

/-- Media time MT, in 2^-40 ns (R220). -/
def State.mt (s : State) : Nat := ((s.clk.dom s.mtSrc + s.clk.mtOff) % timeMod).toNat

/-- MT_TARGET in 2^-40 ns. -/
def State.mtTarget (s : State) : Int := sgn 32 (s.live .time TIME.MT_TARGET_TARGET) * nsUnit

/-- The slew step of R223, in 2^-40 ns per core cycle. -/
def State.slewStep (s : State) : Nat := min (s.live .time TIME.MT_CTRL_SLEW_RATE) 10000 * nomStep / 100000000

/-- MT_OFF after `n` core cycles of R223: it moves toward the target and never past it. -/
def slew (off target : Int) (step n : Nat) : Int :=
  if off ≤ target then min target (off + step * n) else max target (off - step * n)

/-- The core cycles until MT_OFF reaches its target, when it moves. -/
def State.slewLeft (s : State) : Option Nat :=
  if s.slewStep = 0 then none
  else some (((s.mtTarget - s.clk.mtOff).natAbs + s.slewStep - 1) / s.slewStep)

/-- MT_STAT.SLEWING (R223). -/
def State.slewing (s : State) : Bool := s.clk.mtOff != s.mtTarget && s.slewStep != 0

/-- Core cycle `t` is reached and no step is applied before it: the domains advance (R211) and MT_OFF moves (R223), with
SLEW_DONE when it arrives. -/
def State.glide (s : State) (t : Nat) : State :=
  let n := t - s.now
  let c := s.clk
  let off := slew c.mtOff s.mtTarget s.slewStep n
  let c' := { (c.setDom 0 (c.domA + n * (nomStep + c.adjA))).setDom 1 (c.domB + n * (nomStep + c.adjB)) with mtOff := off }
  let s' : State := { s with now := max s.now t, clk := c' }
  if c.mtOff ≠ s.mtTarget ∧ off = s.mtTarget then s'.raise .time TIME.INT_STAT_SLEW_DONE else s'

/-- Seconds, nanoseconds and the 16-bit fraction of a time in 2^-40 ns. -/
def secOf (x : Nat) : Nat := x / nsUnit / 1000000000
def nsOf (x : Nat) : Nat := x / nsUnit % 1000000000
def fracOf (x : Nat) : Nat := x / 2 ^ 24 % 2 ^ 16

/-- MT_OFF as MT_OFF_LO and MT_OFF_HI show it: signed, 2^-16 ns (Table 8.5). -/
def State.mtOffShown (s : State) : Nat := wrap 64 (s.clk.mtOff / (2 ^ 24 : Nat))

/-- The servo states of R215. -/
def State.servo (s : State) (d : Fin 2) : Nat := s.get .time (TIME.DOM_STAT_SERVO.at d.val)

/-- Enter a servo state, with DOM_STATE where it changes (R215). -/
def State.setServo (s : State) (d : Fin 2) (v : Nat) : State :=
  if s.servo d = v then s
  else (s.put .time (TIME.DOM_STAT_SERVO.at d.val) v).raise .time
    (if d = 0 then TIME.INT_STAT_DOM_STATE_A else TIME.INT_STAT_DOM_STATE_B)

/-- Domain `d` is enabled. -/
def State.domEn (s : State) (d : Fin 2) : Bool := s.live .time (TIME.DOM_CFG_EN.at d.val) = 1

/-- A write of DOM_ADJ takes effect: the register, and the increment while the domain is enabled (R211). -/
def State.steer (s : State) (d : Fin 2) (v : Nat) : State :=
  let s := s.put .time (TIME.DOM_ADJ_ADJ.at d.val) v
  if s.domEn d then
    let a := sgn 32 v
    let c := s.clk.setAdj d a
    { s with clk := if d = 0 then { c with histA := (s.now, a) :: c.histA } else { c with histB := (s.now, a) :: c.histB } }
  else s

/-- A write of DOM_ADJ that the servo's owner does not make (R213): ignored, and reported when host software made it. -/
def State.adjIgnored (s : State) (firmware : Bool) : State :=
  if firmware then s else (s.addSat .time TIME.ADJ_IGN 1).raise .time TIME.INT_STAT_ADJ_IGNORED

/-- The writer owns the servo of domain `d` (R213). -/
def State.ownsServo (s : State) (d : Fin 2) (firmware : Bool) : Bool :=
  (s.live .time (TIME.DOM_CFG_OWNER.at d.val) = 1) == !firmware

/-- A write of `v` to DOM_ADJ[d] (R213). -/
def State.domAdj (s : State) (d : Fin 2) (firmware : Bool) (v : Nat) : State :=
  if s.ownsServo d firmware then s.steer d v else s.adjIgnored firmware

/-- A write of `v` to DOM_STEP[d] (R213, R214). -/
def State.domStep (s : State) (d : Fin 2) (firmware : Bool) (v : Nat) : State :=
  if !s.ownsServo d firmware then s.adjIgnored firmware
  else if 2 ≤ bits v 30 2 then s.raise .time TIME.INT_STAT_BAD_CFG
  else (s.setWord (Page.base .time + (TIME.DOM_STEP_WHEN.at d.val).off) (BitVec.ofNat 32 v)).put .time
    (TIME.DOM_STAT_STEP_PEND.at d.val) 1

/-- The amount of the waiting step of domain `d`, in 2^-40 ns (R214). -/
def State.stepAmount (s : State) (d : Fin 2) : Int :=
  sgn 29 (s.get .time (TIME.DOM_STEP_AMOUNT.at d.val)) *
    (if s.get .time (TIME.DOM_STEP_UNIT.at d.val) = 1 then 1000000000 else 1) * nsUnit

/-- Apply the waiting step of domain `d`; MT_OFF loses it when the domain is selected (R214, R221). -/
def State.applyStep (s : State) (d : Fin 2) : State :=
  if s.get .time (TIME.DOM_STAT_STEP_PEND.at d.val) = 0 then s
  else
    let a := s.stepAmount d
    let c := s.clk.setDom d (s.clk.dom d + a)
    let c := if s.mtSrc = d then { c with mtOff := c.mtOff - a } else c
    (({ s with clk := c } : State).put .time (TIME.DOM_STAT_STEP_PEND.at d.val) 0).raise .time
      (if d = 0 then TIME.INT_STAT_STEP_DONE_A else TIME.INT_STAT_STEP_DONE_B)

/-- The core cycles until the nanosecond count of domain `d` next passes from 999,999,999 to 0, when its increment is above 0. -/
def State.rollover (s : State) (d : Fin 2) : Nat :=
  let inc := (nomStep + s.clk.adj d).toNat
  (1000000000 * nsUnit - s.clk.dom d % (1000000000 * nsUnit) + inc - 1) / inc

/-- The core cycle in which the waiting step of domain `d` is applied at its rollover (R214). -/
def State.stepAt (s : State) (d : Fin 2) : Option Nat :=
  if s.running .time && s.get .time (TIME.DOM_STAT_STEP_PEND.at d.val) = 1 && s.get .time (TIME.DOM_STEP_WHEN.at d.val) = 1
  then some (s.now + s.rollover d) else none

/-- The step of domain `d` that waits for its rollover in core cycle `at_` is applied there, when that comes by core cycle `t`
(R214, R221). -/
def State.stepBy (s : State) (t : Nat) (d : Fin 2) (at_ : Option Nat) : State :=
  match at_ with
  | some c => if c ≤ t then (s.glide c).applyStep d else s
  | none => s

/-- The waiting step of domain A falls due before that of domain B. -/
def State.stepFirst (s : State) : Bool :=
  match s.stepAt 0, s.stepAt 1 with
  | some x, some y => x ≤ y
  | _, _ => true

/-- Core cycle `t` is reached, through the rollovers at which steps wait, the earlier first. -/
def State.advance (s : State) (t : Nat) : State :=
  let a := s.stepAt 0
  let b := s.stepAt 1
  (if s.stepFirst then (s.stepBy t 0 a).stepBy t 1 b else (s.stepBy t 1 b).stepBy t 0 a).glide t

/-- A command begins: what the last one emitted is gone, and its core cycle is reached.
(DESIGN CHOICE, notes/assumptions/2.md; DESIGN CHOICE, notes/assumptions/114.md) -/
def State.begin (s : State) (t : Nat) : State := ({ s with out := [] } : State).advance t

/-- Change the live selected domain; MT stays as it is (R221). -/
def State.selectDom (s : State) (d : Fin 2) : State :=
  if s.mtSrc = d then s
  else
    let off := s.clk.mtOff + s.clk.dom s.mtSrc - s.clk.dom d
    (((({ s with clk := { s.clk with mtOff := off } } : State).put .time TIME.MT_STAT_SRC_LIVE d.val).add .time
      TIME.MT_SW_CNT 1).raise .time TIME.INT_STAT_MT_SWITCH)

/-- The automatic change of R224, at a T_SMP. -/
def State.autoDom (s : State) : State :=
  let x := s.mtSrc
  let y : Fin 2 := if x = 0 then 1 else 0
  if s.live .time TIME.MT_CTRL_AUTO = 1 ∧ s.servo x ≠ 2 ∧ s.domEn y = true ∧ s.servo y = 2 then
    (s.selectDom y).put .time TIME.MT_STAT_AUTO_SW 1
  else s

/-- What a T_SMP does to the clocks before any commit: waiting steps, then the automatic change (R214, R221, R224). -/
def State.timeSmp (s : State) : State :=
  let s := if s.get .time (TIME.DOM_STEP_WHEN.at 0) = 0 then s.applyStep 0 else s
  let s := if s.get .time (TIME.DOM_STEP_WHEN.at 1) = 0 then s.applyStep 1 else s
  s.autoDom

/-- The masters that domain `d` has heard, and the selected one (R216). -/
def Clocks.heard (c : Clocks) (d : Fin 2) : List Heard := if d = 0 then c.heardA else c.heardB
def Clocks.setHeard (c : Clocks) (d : Fin 2) (l : List Heard) : Clocks :=
  if d = 0 then { c with heardA := l } else { c with heardB := l }
def Clocks.master (c : Clocks) (d : Fin 2) : Option Nat := if d = 0 then c.masterA else c.masterB
def Clocks.setMaster (c : Clocks) (d : Fin 2) (m : Option Nat) : Clocks :=
  if d = 0 then { c with masterA := m } else { c with masterB := m }

/-- The data set `a` is better than `b`: the first entry that differs is lower. -/
def rankBefore : List Nat → List Nat → Bool
  | x :: a, y :: b => x < y || (x = y && rankBefore a b)
  | [], _ :: _ => true
  | _, [] => false

/-- The best of the masters heard. -/
def bestMaster : List Heard → Option Heard
  | [] => none
  | h :: r => match bestMaster r with
    | some b => some (if rankBefore b.rank h.rank then b else h)
    | none => some h

/-- The best master clock algorithm of domain `d`: its choice, the master's port and currentUtcOffset; from FREE the servo
acquires (R215, R216). (PRESUMED, notes/assumptions/141.md) -/
def State.selectMaster (s : State) (d : Fin 2) : State :=
  match bestMaster (s.clk.heard d) with
  | none => s
  | some h =>
    let s := ({ s with clk := s.clk.setMaster d (some h.source) } : State).puts .time
      [(TIME.DOM_STAT_PORT.at d.val, h.port), (TIME.DOM_UTC_UTC_OFF.at d.val, h.utc)]
    if s.servo d = 0 then s.setServo d 1 else s

/-- Domain `d` hears an Announce on MAC port `port` (R216); until READY it is not processed. -/
def State.announce (s : State) (d : Fin 2) (port : Nat) (m : PtpMsg) : State :=
  if !s.ready then s
  else
    let h : Heard := { port, source := m.source, rank := m.rank, utc := m.utc }
    ({ s with clk := s.clk.setHeard d (h :: (s.clk.heard d).filter (fun x => x.source != m.source)) } : State).selectMaster d

/-- EN of a domain rises: no master is selected and the increment is DOM_ADJ (R211, R215). -/
def State.domRises (s : State) (old : State) (d : Fin 2) : State :=
  if s.domEn d && !old.domEn d then
    let a := sgn 32 (s.get .time (TIME.DOM_ADJ_ADJ.at d.val))
    let c := s.clk.setAdj d a
    let c := if d = 0 then { c with runA := 0, histA := [], heardA := [], masterA := none }
      else { c with runB := 0, histB := [], heardB := [], masterB := none }
    ({ s with clk := c } : State).setServo d 0
  else s

/-- One-step is not possible over IPv6 or peer-to-peer; the domain then shows ONESTEP_OFF (R219). -/
def State.oneStepOff (s : State) (d : Fin 2) : State :=
  s.put .time (TIME.DOM_STAT_ONESTEP_OFF.at d.val)
    (b2n (s.live .time (TIME.DOM_CFG_ONESTEP.at d.val) = 1 &&
      (s.live .time (TIME.DOM_CFG_TRANSPORT.at d.val) = 2 || s.live .time (TIME.DOM_CFG_DELAY.at d.val) = 1)))

/-- PPS_OUT falls. -/
def State.ppsLow (s : State) : State := { s with clk := { s.clk with ppsOut := false } }

/-- The live copy of the TIME page has changed from that of `old`: selection, SET, one-step and PPS_OUT (R221, R222,
R224, R226). -/
def State.timeFired (s old : State) : State :=
  let s := (s.domRises old 0).domRises old 1
  let s := (s.oneStepOff 0).oneStepOff 1
  let s := (s.selectDom (if s.live .time TIME.MT_CTRL_SRC = 0 then 0 else 1)).put .time TIME.MT_STAT_AUTO_SW 0
  let s := if s.live .time TIME.MT_CTRL_SET = 1 then
      (({ s with clk := { s.clk with mtOff := s.mtTarget } } : State).putLive .time TIME.MT_CTRL_SET 0).put .time
        TIME.MT_CTRL_SET 0
    else s
  if s.live .time TIME.PPS_OUT_CTRL_EN = 0 then s.ppsLow else s

/-- A profile, transport and delay mechanism of Table 8.1 (R216). (DEDUCED, notes/assumptions/39.md) -/
def profileOk (profile transport delay : Nat) : Bool :=
  match profile with
  | 0 => (transport = 1 || transport = 2) && delay = 0
  | 1 => transport = 1 && delay = 0
  | 2 => transport ≤ 2
  | _ => false

/-- The bits of `x` that are 1, of `n`. -/
def popcount (n x : Nat) : Nat := ((List.range n).filter (fun i => x.testBit i)).length

/-- The ports a domain names, as a bit mask (R216). -/
def State.domPorts (s : State) (lv : Bool) (d : Nat) : Nat :=
  s.cfg lv .time (TIME.DOM_PORTS_LO_PORTS.at d) + s.cfg lv .time (TIME.DOM_PORTS_HI_PORTS.at d) * 2 ^ 32

/-- The checks of R216, R229 and Table 8.6 on the TIME page's shadow: does an arm of it fail?
(DEDUCED, notes/assumptions/39.md) -/
def State.timeBad (s : State) : Bool :=
  let en := fun d : Nat => s.get .time (TIME.DOM_CFG_EN.at d) = 1
  let badDom := fun d : Nat =>
    !profileOk (s.get .time (TIME.DOM_CFG_PROFILE.at d)) (s.get .time (TIME.DOM_CFG_TRANSPORT.at d))
      (s.get .time (TIME.DOM_CFG_DELAY.at d)) ||
    (en d && (popcount 48 (s.domPorts false d) = 0 || 4 < popcount 48 (s.domPorts false d)))
  badDom 0 || badDom 1 ||
  (en 0 && en 1 && s.get .time (TIME.DOM_CFG_DOM_NUM.at 0) = s.get .time (TIME.DOM_CFG_DOM_NUM.at 1) &&
    s.domPorts false 0 &&& s.domPorts false 1 != 0) ||
  (!en (s.get .time TIME.MT_CTRL_SRC)) ||
  s.get .time TIME.PPS_OUT_CTRL_SRC = 3

/-! ### Stamp latencies (R217, R425) -/

/-- Words of a calibration item: its count is 2 for kind 3, else 1. -/
def calLen (kind : Nat) : Nat := if kind = 3 then 2 else 1

/-- The words of calibration item `item`, nominal where the record does not list it. -/
def State.calItem (s : State) (item : Nat) : List Nat :=
  match s.flash.cal with
  | some t => t.get item (List.replicate (calLen (item / 65536)) 0)
  | none => List.replicate (calLen (item / 65536)) 0

/-- The time-stamp latencies of port `p` take their calibration values (R425). -/
def State.useLat (s : State) (p : Nat) : State :=
  let w := s.calItem (3 * 65536 + p)
  s.puts .time [(TIME.TS_LAT_RX_LAT.at p, nth w 0 0), (TIME.TS_LAT_TX_LAT.at p, nth w 1 0)]

/-- FUNC_INIT of the TIME page stops its function: waiting steps are cancelled, and PPS_OUT is low (R54, R228). -/
def State.timeStop (s : State) : State :=
  (s.puts .time [(TIME.DOM_STAT_STEP_PEND.at 0, 0), (TIME.DOM_STAT_STEP_PEND.at 1, 0)]).ppsLow

/-- FUNC_INIT of the TIME page completes: TS_LAT holds its calibration values again, and no domain is one-step (R219, R228,
Table 8.6). -/
def State.timeInit (s : State) : State := (((List.range 48).foldl State.useLat s).oneStepOff 0).oneStepOff 1

end Sys2Proof.Machine
end

