-- ==== Sys2Proof/Machine/Lanes.lean ====
section
/-! DEFINITION. Crosspoint and brace lanes (chapter 3): modes, SDI lock, Ignada blocks, bring-up, taps and tests. -/

namespace Sys2Proof.Machine

/-- A lane number. -/
abbrev LaneNo := Fin 1032

/-- A brace lane (R58). -/
def isBrace (n : LaneNo) : Bool := 1024 ≤ n.val

/-- The lane's own state. -/
def State.lane (s : State) (n : LaneNo) : Lane := s.lanes.get n.val Lane.init

/-- Change the lane's own state. -/
def State.setLane (s : State) (n : LaneNo) (l : Lane) : State := { s with lanes := s.lanes.set n.val l Lane.init }

/-- Change the lane's own state by a function. -/
def State.modLane (s : State) (n : LaneNo) (f : Lane → Lane) : State := s.setLane n (f (s.lane n))

/-- Tenons an SDI rate code takes, Table 3.3. -/
def sdiTenons (code : Nat) : Nat :=
  match code with
  | 0x0 | 0xA | 0xB => 4
  | 0x1 | 0x8 | 0x9 => 2
  | 0x2 | 0x3 | 0x4 | 0x5 | 0x6 | 0x7 => 1
  | _ => 0

/-- RX_MODE of a lane: 3 in a brace lane (R59). (DEDUCED, notes/assumptions/44.md) -/
def State.rxMode (s : State) (lv : Bool) (n : LaneNo) : Nat := s.cfg lv (.lane n) LANE.LANE_MODE_RX_MODE

/-- TX_MODE of a lane. -/
def State.txMode (s : State) (lv : Bool) (n : LaneNo) : Nat := s.cfg lv (.lane n) LANE.LANE_MODE_TX_MODE

/-- Source tenons a lane takes (Table 1.4, R62). -/
def State.laneSrcTenons (s : State) (lv : Bool) (n : LaneNo) : Nat :=
  if isBrace n || s.cfg lv (.lane n) LANE.LANE_MODE_WORD_EN = 0 then 0
  else match s.rxMode lv n with
    | 2 => sdiTenons (s.cfg lv (.lane n) LANE.LANE_MODE_RX_SDI)
    | 3 => s.cfg lv (.lane n) LANE.LANE_MODE_RX_IGN_TEN
    | _ => 0

/-- Destination tenons a lane takes (Table 1.4). -/
def State.laneDstTenons (s : State) (lv : Bool) (n : LaneNo) : Nat :=
  if isBrace n then 0
  else match s.txMode lv n with
    | 2 => sdiTenons (s.cfg lv (.lane n) LANE.LANE_MODE_TX_SDI)
    | 3 => s.cfg lv (.lane n) LANE.LANE_MODE_TX_IGN_TEN
    | _ => 0

/-- The committed combination is invalid (R65). -/
def State.laneBad (s : State) (n : LaneNo) : Bool :=
  let g := fun f => s.get (.lane n) f
  let rx := g LANE.LANE_MODE_RX_MODE
  let tx := g LANE.LANE_MODE_TX_MODE
  let tooMany := fun ten half => 8 < ten || (4 < ten && half = 1)
  (rx = 2 && 0xC ≤ g LANE.LANE_MODE_RX_SDI) ||
  (tx = 2 && (0xC ≤ g LANE.LANE_MODE_TX_SDI || g LANE.LANE_MODE_TX_SDI < 3)) ||
  (rx = 3 && tooMany (g LANE.LANE_MODE_RX_IGN_TEN) (g LANE.LANE_MODE_IGN_HALF_RX)) ||
  (tx = 3 && tooMany (g LANE.LANE_MODE_TX_IGN_TEN) (g LANE.LANE_MODE_IGN_HALF_TX)) ||
  (!isBrace n && rx = 3 && g LANE.LANE_MODE_WORD_EN = 1 && g LANE.LANE_MODE_RX_IGN_TEN = 0)

/-! ### Taps (R78 to R80) -/

/-- The taps a commit of LANE_TXFIR applies: PRE, MAIN, POST, and whether they were clamped (R79). -/
def clampTaps (pre main post : Nat) : (Nat × Nat × Nat) × Bool :=
  if 63 < pre + post then ((pre, 0, 63 - pre), true)
  else if 63 < pre + main + post then ((pre, 63 - pre - post, post), true)
  else ((pre, main, post), false)

/-- SWING_MV of a code of LANE_TXDRV.SWING (R78). -/
def swingMv (swing : Nat) : Nat := 400 + 50 * min 16 swing

/-- The calibration index of lane `n`: XTX 0 to 1,023, BTX from 1,216 (Table 16.8). -/
def trimItem (n : LaneNo) : Nat := 65536 + (if n.val < 1024 then n.val else n.val - 1024 + 1216)

/-- The swing of lane `n` in mVppd: SWING_MV of its live setting, with its trim of 5 mV units (R78, R425). -/
def State.swing (s : State) (n : LaneNo) : Int :=
  swingMv (s.live (.lane n) LANE.LANE_TXDRV_SWING) + 5 * sgn 32 (nth (s.boot.trims.get (trimItem n) [0]) 0 0)

/-- 63 times the differential output in mVppd of a bit with transitions on both sides, and of a bit within a long run, with
taps PRE, MAIN, POST (R78). -/
def firOutput (mv : Nat) (t : Nat × Nat × Nat) : Int × Int :=
  ((mv * (t.1 + t.2.1 + t.2.2) : Nat), (mv : Int) * ((t.2.1 : Int) - t.1 - t.2.2))

/-- Set the live taps. -/
def State.setTaps (s : State) (n : LaneNo) (t : Nat × Nat × Nat) : State :=
  ((s.putLive (.lane n) LANE.LANE_TXFIR_PRE t.1).putLive (.lane n) LANE.LANE_TXFIR_MAIN t.2.1).putLive (.lane n)
    LANE.LANE_TXFIR_POST t.2.2

/-- The live taps. -/
def State.taps (s : State) (n : LaneNo) : Nat × Nat × Nat :=
  (s.live (.lane n) LANE.LANE_TXFIR_PRE, s.live (.lane n) LANE.LANE_TXFIR_MAIN, s.live (.lane n) LANE.LANE_TXFIR_POST)

/-! ### Word lock -/

/-- WORD_LOCK rises or falls, with its cause (Table 3.12). Its rise ends the fill that follows an elastic-buffer fault
(R63). -/
def State.setWordLock (s : State) (n : LaneNo) (b : Bool) : State :=
  if (s.get (.lane n) LANE.LANE_STAT_WORD_LOCK = 1) == b then s
  else
    let s := if b then s.modLane n (fun l => { l with starved := false }) else s
    (s.put (.lane n) LANE.LANE_STAT_WORD_LOCK (b2n b)).raise (.lane n)
      (if b then LANE.INT_STAT_LOCK_GAINED else LANE.INT_STAT_LOCK_LOST)

/-- The rate at which a receiver with setting `code` starts to hunt (R66): its ceiling, or its fixed rate. -/
def huntStart (code : Nat) : Nat :=
  match code with
  | 0 => 0xA
  | 1 => 0x8
  | 2 => 0x6
  | c => c

/-- The candidate after `c` in the order of R66; after 270 Mb/s the hunt starts again at its ceiling.
(DEDUCED, notes/assumptions/40.md) -/
def huntNext (code c : Nat) : Nat :=
  match c with
  | 0xA => 0xB
  | 0xB => 0x8
  | 0x8 => 0x9
  | 0x9 => 0x6
  | 0x6 => 0x7
  | 0x7 => 0x4
  | 0x4 => 0x5
  | 0x5 => 0x3
  | _ => huntStart code

/-- An SDI lane loses word lock and hunts again from its ceiling; its tenons carry fill (R63, R67). -/
def State.sdiLost (s : State) (n : LaneNo) : State :=
  if s.rxMode true n = 2 && s.get (.lane n) LANE.LANE_STAT_WORD_LOCK = 1 then
    (((s.setWordLock n false).puts (.lane n) [(LANE.LANE_STAT_DET_SDI, 0), (LANE.LANE_STAT_LEVEL_B, 0)]).modLane n
      (fun l => { l with hunt := huntStart (s.live (.lane n) LANE.LANE_MODE_RX_SDI), fill := 0xFF, video := none }))
  else s

/-! ### The Ignada state machine (R84 to R90, Table 3.8) -/

/-- IGN_STATE. -/
def State.ign (s : State) (n : LaneNo) : Nat := s.get (.lane n) LANE.LANE_STAT_IGN_STATE

/-- Both halves, and either half, in Ignada mode. -/
def State.rxIgn (s : State) (n : LaneNo) : Bool := s.rxMode true n = 3
def State.txIgn (s : State) (n : LaneNo) : Bool := s.txMode true n = 3

/-- Training applies: TRAIN_EN, and both halves Ignada at the same rate (R84). -/
def State.trains (s : State) (n : LaneNo) : Bool :=
  s.live (.lane n) LANE.LANE_MODE_TRAIN_EN = 1 && s.rxIgn n && s.txIgn n &&
    s.live (.lane n) LANE.LANE_MODE_IGN_HALF_RX = s.live (.lane n) LANE.LANE_MODE_IGN_HALF_TX

/-- The start-up squelch of R90 and Table 16.3: until the LANES phase has ended. -/
def State.squelched (s : State) : Bool :=
  let ph := s.get .upd UPD.BOOT_STAT_PHASE
  ph < 6 || ph = 0xF

/-- Move to an Ignada state: WORD_LOCK of an Ignada receive half follows UP, IGN_UP is raised on entry to UP and
IGN_DOWN on leaving UP or RESYNC for DETECT or OFF (Tables 3.8, 3.12). (DEDUCED, notes/assumptions/49.md) -/
def State.setIgn (s : State) (n : LaneNo) (st : Nat) : State :=
  let old := s.ign n
  let s := s.put (.lane n) LANE.LANE_STAT_IGN_STATE st
  let s := if s.rxIgn n then s.setWordLock n (st = 4) else s
  let s := if st = 4 && old ≠ 4 then s.raise (.lane n) LANE.INT_STAT_IGN_UP else s
  let s := if (old = 4 || old = 7) && (st = 0 || st = 1) then s.raise (.lane n) LANE.INT_STAT_IGN_DOWN else s
  let s := s.modLane n (fun l => { l with ignAt := s.now, trainRun := 0 })
  if st = 4 then s.modLane n (fun l => { l with hdrWin := [], sfMiss := 0 })
  else if s.rxIgn n then s.modLane n (fun l => { l with fill := 0xFF, tens := List.replicate 8 ⟨false, 0, 0, 0⟩ })
  else s

/-- DETECT is entered: an attempt begins, from the committed taps, with no request to the partner (R80, R86, R89). A lane
whose receive half is not Ignada passes to UP at once, unless the start-up squelch holds it (R84, R90). -/
def State.detect (s : State) (n : LaneNo) : State :=
  let t := s.setIgn n 1
  let l := t.lane n
  let s := t.setLane n { l with
    attemptAt := s.now, hdrRun := 0, hdrWin := [], sfSeen := 0, pos := 0, sfMiss := 0, sfErr := 0, sfErrLast := 0,
    readyRun := 0, trainRun := 0, rxReady := false, stPre := 0, stMain := 0, stPost := 0, reqs := [0, 0, 0],
    preset := false }
  let s := if s.trains n then s.setTaps n l.base else s
  if s.rxIgn n || s.squelched then s else s.setIgn n 4

/-- DETECT with ATTEMPT and NO_PARTNER cleared. -/
def State.detectAfresh (s : State) (n : LaneNo) : State :=
  (s.puts (.lane n) [(LANE.LANE_STAT_ATTEMPT, 0), (LANE.LANE_STAT_NO_PARTNER, 0)]).detect n

/-- A failure of an attempt, with its cause of IGN_TRAIN_LOG: 1 attempt timeout, 2 training timeout, 3 energy lost
(R89). The eighth leads to LISTEN. -/
def State.ignFail (s : State) (n : LaneNo) (cause : Nat) : State :=
  let a := s.get (.lane n) LANE.LANE_STAT_ATTEMPT + 1
  let tenths := (s.now - (s.lane n).attemptAt) / 118800
  let s := (s.puts (.lane n) [(LANE.LANE_STAT_ATTEMPT, a), (LANE.IGN_TRAIN_LOG, cause * 65536 + sat 16 tenths)]).raise
    (.lane n) LANE.INT_STAT_TRAIN_FAIL
  if 8 ≤ a then
    ((s.setIgn n 6).put (.lane n) LANE.LANE_STAT_NO_PARTNER 1).raise (.lane n) LANE.INT_STAT_NO_PARTNER
  else s.setIgn n 5

/-- The backoff of failure number `a`, in milliseconds (R89). -/
def backoffMs (a : Nat) : Nat := min (100 * 2 ^ (a - 1)) 1600

/-- SYNC is entered. -/
def State.ignSync (s : State) (n : LaneNo) : State := s.setIgn n 3

/-- Energy has been present for 1 ms in DETECT: training, or SYNC (Table 3.8). -/
def State.ignEnergy (s : State) (n : LaneNo) : State :=
  if s.ign n = 1 && s.rxIgn n && !s.squelched then
    if s.trains n then (s.setIgn n 2).modLane n (fun l => { l with trainAt := s.now, readyRun := 0, rxReady := false })
    else s.ignSync n
  else s

/-- Energy is lost (Table 3.8). -/
def State.ignEnergyLost (s : State) (n : LaneNo) : State :=
  if !s.rxIgn n then s
  else match s.ign n with
    | 2 | 3 => s.ignFail n 3
    | 4 | 7 => (s.put (.lane n) LANE.LANE_STAT_ATTEMPT 0).detect n
    | _ => s

/-- The attempt timer reaches 100 ms. -/
def State.ignAttemptOver (s : State) (n : LaneNo) : State :=
  if s.rxIgn n && !s.squelched && (s.ign n = 1 || s.ign n = 2 || s.ign n = 3) &&
    (s.lane n).attemptAt + 100 * cyclesPerMs ≤ s.now then s.ignFail n 1
  else s

/-- The training timer reaches 60 ms. -/
def State.ignTrainOver (s : State) (n : LaneNo) : State :=
  if s.ign n = 2 && (s.lane n).trainAt + 60 * cyclesPerMs ≤ s.now then s.ignFail n 2 else s

/-- Training completes after the RX_READY exchange (R87). -/
def State.ignTrained (s : State) (n : LaneNo) : State :=
  if s.ign n = 2 && (s.lane n).rxReady && 8 ≤ (s.lane n).readyRun then s.ignSync n else s

/-- RESTART (Table 3.8): no effect in OFF. -/
def State.ignRestart (s : State) (n : LaneNo) : State := if s.ign n = 0 then s else s.detectAfresh n

/-- Superframe lock is lost: UP goes to RESYNC (R88, Table 3.8). -/
def State.sfLost (s : State) (n : LaneNo) : State :=
  let s := s.modLane n (fun l => { l with sfSeen := 0, pos := 0, sfMiss := 0, hdrWin := [] })
  if s.ign n = 4 && s.rxIgn n then s.setIgn n 7 else s

/-- Superframe lock is found: SYNC and RESYNC go to UP (Table 3.8). -/
def State.sfLocked (s : State) (n : LaneNo) : State :=
  if s.ign n = 3 then (s.put (.lane n) LANE.LANE_STAT_ATTEMPT 0).setIgn n 4
  else if s.ign n = 7 then s.setIgn n 4
  else s

/-! ### Ignada blocks (R69 to R77) -/

/-- The valid header bytes of Table 3.4, by TYPE. -/
def headerBytes : List Nat := [0x50, 0x61, 0x32, 0x03, 0x94, 0xA5, 0xF6, 0xC7, 0xE8, 0xD9, 0x8A, 0xBB, 0x2C]

/-- The TYPE of a header byte of Table 3.4. -/
def headerType (h : Nat) : Option Nat := if headerBytes.contains h then some (h % 16) else none

/-- The CHECK bits of a TYPE: the remainder of TYPE(x)·x^4 by x^4 + x + 1, XOR 0b0101 (R69). -/
def headerCheck (type : Nat) : Nat :=
  let r3 := if bitAt type 3 = 1 then type * 16 ^^^ 0b10011000 else type * 16
  let r2 := if bitAt r3 6 = 1 then r3 ^^^ 0b1001100 else r3
  let r1 := if bitAt r2 5 = 1 then r2 ^^^ 0b100110 else r2
  let r0 := if bitAt r1 4 = 1 then r1 ^^^ 0b10011 else r1
  r0 ^^^ 0b0101

/-- Is TYPE allowed on this kind of lane: brace messages in place of sideband and tenon data on a brace lane (R70).
(DEDUCED, notes/assumptions/43.md) -/
def laneType (n : LaneNo) (type : Nat) : Bool := if isBrace n then 9 ≤ type else type ≠ 11

/-- Is TYPE allowed in Ignada state `st` (R69): superframes wherever the receiver looks for them or follows them, training
blocks wherever Table 3.8 counts them, and what no rule settles is open.
(DESIGN CHOICE, notes/assumptions/129.md) -/
def stateType (st type : Nat) : Bool :=
  if type = 12 then st = 2 || st = 4 || st = 6 || st = 7 || Config.headerAllowed st type
  else st = 3 || st = 4 || st = 7 || Config.headerAllowed st type

/-- The TYPE of a block whose header byte is `h`, unless it is a header error on lane `n` (R69). -/
def State.blockType (s : State) (n : LaneNo) (h : Nat) : Option Nat :=
  (headerType h).filter (fun ty => laneType n ty && stateType (s.ign n) ty)

/-- The scrambler advances over the payload of a block of this TYPE (R73). -/
def scrambled (type : Nat) : Bool := type ≠ 10 && type ≠ 12

/-- The receiver's run counter over one block: its header, its payload, and the bits it discards (R75). -/
def State.kerf (s : State) (n : LaneNo) (kerfs : List Bool) (hdr payload : Nat) : State :=
  let l := s.lane n
  let k := kerfReceive ⟨l.kerfLen, l.kerfVal, 0⟩ kerfs (hdr + payload * 256) 264
  (s.setLane n { l with kerfLen := k.len, kerfVal := k.val }).addSat (.lane n) LANE.IGN_KERF_VIOL k.viol

/-- A superframe header was due and did not arrive, or failed (R72, R88). Before lock the search for two headers 1,024
blocks apart begins again. -/
def State.sfMissed (s : State) (n : LaneNo) : State :=
  let l := s.lane n
  let s := (s.addSat (.lane n) LANE.IGN_SF_ERR 1).setLane n { l with
    sfMiss := l.sfMiss + 1, pos := 0, sfErrLast := min 63 l.sfErr, sfErr := 0,
    sfSeen := if s.ign n = 4 then l.sfSeen else 0 }
  if 4 ≤ l.sfMiss + 1 then s.sfLost n else s

/-- A block has arrived, with a good header or not: block lock, the error window and the place in the superframe. -/
def State.blockCounted (s : State) (n : LaneNo) (good : Bool) : State :=
  let l := s.lane n
  let win := ((!good) :: l.hdrWin).take 256
  let s := s.setLane n { l with
    hdrRun := if good then min 64 (l.hdrRun + 1) else 0, hdrWin := win, pos := l.pos + 1,
    sfErr := if good then l.sfErr else l.sfErr + 1 }
  let s := if good then s else s.addSat (.lane n) LANE.IGN_HDR_ERR 1
  if 32 ≤ (win.filter id).length then s.sfLost n else s

/-- The scrambled payload of a block, descrambled, and the scrambler moved on (R73). -/
def State.descramble (s : State) (n : LaneNo) (payload : Nat) : Nat × State :=
  let r := scrBits (s.lane n).scr 256
  (payload ^^^ r.1, s.modLane n (fun l => { l with scr := r.2 }))

/-- The words of the bits of a tenon: bits to skip are dropped, whole words are cut, the rest is kept (R71). -/
def TenonRx.take (x : TenonRx) (payload : Nat) : List Nat × TenonRx :=
  let skip := x.skip
  let v := x.v + payload / 2 ^ skip * 2 ^ x.n
  let len := x.n + 256 - skip
  (cutWords 20 v (len / 20), { x with skip := 0, n := len % 20, v := v / 2 ^ (len / 20 * 20) % 2 ^ (len % 20) })

/-- The lane's word path carries tenon `t` (R62, R76). -/
def State.takesTenon (s : State) (n : LaneNo) (t : Nat) : Bool :=
  s.live (.lane n) LANE.LANE_MODE_WORD_EN = 1 && s.ign n = 4 && t < s.live (.lane n) LANE.LANE_MODE_RX_IGN_TEN

/-- A tenon data block of tenon `t` (R71, R76); a tenon that carries fill hands over no words (R63). -/
def State.tenonBlock (s : State) (n : LaneNo) (t payload : Nat) : State :=
  let r := s.descramble n payload
  let s := r.2
  if s.live (.lane n) LANE.LANE_MODE_WORD_EN = 0 || s.ign n ≠ 4 then s
  else if s.live (.lane n) LANE.LANE_MODE_RX_IGN_TEN ≤ t then s.raise (.lane n) LANE.INT_STAT_TEN_EXCESS
  else
    let x := nth (s.lane n).tens t ⟨false, 0, 0, 0⟩
    if !x.aligned then s
    else
      let w := x.take r.1
      let s := s.modLane n (fun l => { l with tens := setNth l.tens t w.2 })
      if bitAt (s.lane n).fill t = 1 then s else s.emit (.laneWords n.val t w.1)

/-- A header error on a data block of tenon `t`: the tenon carries fill until it is realigned (R76). One bit to skip and no
alignment marks a tenon that was aligned and slipped. -/
def State.tenonSlipped (s : State) (n : LaneNo) (t : Nat) : State :=
  s.modLane n (fun l => { l with
    tens := setNth l.tens t ⟨false, b2n (s.ign n = 4), 0, 0⟩, fill := putBit l.fill t true })

/-- Realign tenon `t` from a superframe header's WORD_PHASE; the first alignment of a lane is none of R76's. -/
def State.realign (s : State) (n : LaneNo) (hdr t : Nat) : State :=
  let l := s.lane n
  let carried := bitAt (bits hdr 48 8) t = 1 && s.takesTenon n t
  let x := nth l.tens t ⟨false, 0, 0, 0⟩
  if carried then
    if x.aligned then s
    else
      let s := s.setLane n { l with
        tens := setNth l.tens t ⟨true, bits hdr (64 + 5 * t) 5, 0, 0⟩, fill := putBit l.fill t l.starved }
      if x.skip = 1 then s.addSat (.lane n) LANE.IGN_TEN_SLIP 1 else s
  else s.setLane n { l with tens := setNth l.tens t ⟨false, 0, 0, 0⟩, fill := putBit l.fill t true }

/-- A superframe header block's payload (R72, Table 3.5). -/
def State.sfHeader (s : State) (n : LaneNo) (p : Nat) : State :=
  if crc32 p 224 ≠ bits p 224 32 || bits p 0 31 = 0 then s.sfMissed n
  else
    let l := s.lane n
    let apart := l.sfSeen = 0 || l.pos = 1024
    let seen := if apart then min 2 (l.sfSeen + 1) else 1
    let s := (s.setLane n { l with
      scr := bits p 0 31, pos := 0, sfMiss := 0, sfSeen := seen, sfErrLast := min 63 l.sfErr, sfErr := 0 }).puts (.lane n)
      [(LANE.LANE_IGN_RXINFO_TEN_1001, bits p 56 8), (LANE.LANE_IGN_RXINFO_TEN_PRESENT, bits p 48 8),
       (LANE.LANE_IGN_RXINFO_RXTAG, bits p 104 16)]
    let s := if seen = 2 && 64 ≤ l.hdrRun then s.sfLocked n else s
    (List.range 8).foldl (fun s t => s.realign n p t) s

/-- A sideband block's payload (R74, Table 3.6). `video` is the format that the tenon contents show and the core cycle of
the start of one of its switch lines, which TMARK places (R109). -/
def State.sideband (s : State) (n : LaneNo) (payload : Nat) (video : Option (Nat × Nat)) : State :=
  let r := s.descramble n payload
  let p := r.1
  if crc16 p 240 ≠ bits p 240 16 then r.2.addSat (.lane n) LANE.IGN_SB_ERR 1
  else
    ((r.2.modLane n (fun l => { l with
      tally := bits p 16 64, tmark := cutWords 20 (bits p 80 160) 8, video := video.or l.video })).puts (.lane n)
      [(LANE.LANE_IGN_FAR_FAR, bits p 8 8), (LANE.LANE_IGN_TALLY_RX_LO_TALLY, bits p 16 32)])

/-- One tap under a request of the partner: the tap, and the status to report (R86). -/
def tapStep (req st tap sum : Nat) : Nat × Nat :=
  if req = 0 then (tap, 0)
  else if st ≠ 0 then (tap, st)
  else if req = 1 then (if 63 ≤ tap || 63 ≤ sum then (tap, 3) else (tap + 1, 1))
  else if req = 2 then (if tap = 0 then (tap, 2) else (tap - 1, 1))
  else (tap, st)

/-- The partner's tap requests of a training block (R85, R86). The taps are taken in the order PRE, MAIN, POST, and a block
with PRESET moves no tap beyond it and reports "not updated". (DESIGN CHOICE, notes/assumptions/122.md) -/
def State.tapRequests (s : State) (n : LaneNo) (p : Nat) : State :=
  let l := s.lane n
  if bits p 6 1 = 1 then (s.setTaps n l.base).setLane n { l with stPre := 0, stMain := 0, stPost := 0 }
  else
    let t := s.taps n
    let a := tapStep (bits p 0 2) l.stPre t.1 (t.1 + t.2.1 + t.2.2)
    let b := tapStep (bits p 2 2) l.stMain t.2.1 (a.1 + t.2.1 + t.2.2)
    let c := tapStep (bits p 4 2) l.stPost t.2.2 (a.1 + b.1 + t.2.2)
    (s.setTaps n (a.1, b.1, c.1)).setLane n { l with stPre := a.2, stMain := b.2, stPost := c.2 }

/-- The next request for a tap, where `req` is the one being sent, `st` the partner's status and `want` what adaptation
asks for: a request is held until the status is other than "not updated", then hold is sent, and a new request waits
until the status is "not updated" again (R86). -/
def nextReq (req st want : Nat) : Nat := if req ≠ 0 then (if st = 0 then req else 0) else if st = 0 then want else 0

/-- The requests to the partner after a training block of it has been received (R85, R86): what the receiver asks for, and
whether it asks for PRESET, is open. (DESIGN CHOICE, notes/assumptions/131.md) -/
def State.ownRequests (s : State) (n : LaneNo) (p : Nat) : State :=
  let a := s.fresh
  let want := (Config.freeValue a.1 8).toNat
  let l := a.2.lane n
  let req := fun i => nextReq (nth l.reqs i 0) (bits p (16 + 2 * i) 2) (bits want (2 * i) 2 % 3)
  a.2.setLane n { l with reqs := [req 0, req 1, req 2], preset := bitAt want 6 = 1 }

/-- A training block's payload (R85 to R87, Table 3.8). -/
def State.training (s : State) (n : LaneNo) (p : Nat) : State :=
  let ready := bits p 7 1 = 1
  let s := s.modLane n (fun l => { l with readyRun := if ready then min 8 (l.readyRun + 1) else 0 })
  if s.ign n = 2 then (s.tapRequests n p).ownRequests n p
  else if (s.ign n = 4 || s.ign n = 7) && s.rxIgn n then
    let k := (s.lane n).trainRun + 1
    if 16 ≤ k then (s.put (.lane n) LANE.LANE_STAT_ATTEMPT 0).detect n
    else s.modLane n (fun l => { l with trainRun := k })
  else s

/-- A run of training blocks is broken (R87, Table 3.8). -/
def State.runBroken (s : State) (n : LaneNo) : State := s.modLane n (fun l => { l with readyRun := 0, trainRun := 0 })

/-- A superframe has passed without its header (R88). -/
def State.sfDue (s : State) (n : LaneNo) : State :=
  if 1024 ≤ (s.lane n).pos && 1 ≤ (s.lane n).sfSeen then s.sfMissed n else s

/-- A block arrives with a header error; `due` is the TYPE of the block that the partner sent, whose payload the scrambler
passes over (R73, R76). (DEDUCED, notes/assumptions/43.md) -/
def State.badBlock (s : State) (n : LaneNo) (due payload : Nat) : State :=
  let s := (s.blockCounted n false).runBroken n
  let s := if scrambled due then (s.descramble n payload).2 else s
  (if due < 8 then s.tenonSlipped n due else s).sfDue n

/-- A block with a good header arrives. -/
def State.goodBlock (s : State) (n : LaneNo) (ty payload : Nat) (video : Option (Nat × Nat)) : State :=
  let s := s.blockCounted n true
  let s := if ty ≠ 10 then s.sfDue n else s
  let s := if ty ≠ 12 then s.runBroken n else s
  if ty < 8 then s.tenonBlock n ty payload
  else if ty = 8 then s.sideband n payload video
  else if ty = 9 then (s.descramble n payload).2.add (.lane n) LANE.IGN_FILL_RX 1
  else if ty = 10 then s.sfHeader n payload
  else if ty = 11 then (s.descramble n payload).2
  else s.training n payload

/-- A block arrives on an Ignada receive half: `due` is the TYPE the partner sent, `kerfs` the kerf bits received in it
(R69, R75). -/
def State.block (s : State) (n : LaneNo) (due hdr payload : Nat) (kerfs : List Bool) (video : Option (Nat × Nat)) : State :=
  if !s.rxIgn n || s.ign n = 0 then s
  else
    let s := s.kerf n kerfs hdr payload
    match s.blockType n hdr with
    | none => s.badBlock n due payload
    | some ty => s.goodBlock n ty payload video

/-! ### Commits and FUNC_INIT of a LANE page -/

/-- A field that Table 3.8's first row names has changed: the state machine starts afresh, whichever half changed.
(DESIGN CHOICE, notes/assumptions/121.md) -/
def State.laneModeChanged (s old : State) (n : LaneNo) : Bool :=
  [LANE.LANE_MODE_RX_MODE, LANE.LANE_MODE_TX_MODE, LANE.LANE_MODE_IGN_HALF_RX, LANE.LANE_MODE_IGN_HALF_TX,
    LANE.LANE_MODE_TRAIN_EN].any (fun f => s.live (.lane n) f != old.live (.lane n) f)

/-- The live copy of a LANE page has changed from that of `old` (R60, R79, R80, Table 3.8). -/
def State.laneFired (s old : State) (n : LaneNo) : State :=
  let t := s.taps n
  let r := clampTaps t.1 t.2.1 t.2.2
  let keep := old.ign n = 2 && old.trains n && s.trains n && !s.laneModeChanged old n
  let s := (s.modLane n (fun l => { l with base := r.1 })).setTaps n (if keep then old.taps n else r.1)
  let s := s.put (.lane n) LANE.LANE_STAT_FIR_CLAMP (b2n r.2)
  let s := if r.2 then s.raise (.lane n) LANE.INT_STAT_FIR_CLAMP else s
  let rxChanged := s.rxMode true n ≠ old.rxMode true n || (s.rxMode true n = 2 &&
    s.live (.lane n) LANE.LANE_MODE_RX_SDI ≠ old.live (.lane n) LANE.LANE_MODE_RX_SDI)
  let pathChanged := s.rxIgn n &&
    s.live (.lane n) LANE.LANE_MODE_WORD_EN ≠ old.live (.lane n) LANE.LANE_MODE_WORD_EN
  let s := if pathChanged then
      s.modLane n (fun l => { l with fill := 0xFF, tens := List.replicate 8 ⟨false, 0, 0, 0⟩ })
    else s
  let s := if rxChanged then
      let s := s.setWordLock n (s.rxIgn n && s.ign n = 4)
      (s.puts (.lane n) [(LANE.LANE_STAT_DET_SDI, 0), (LANE.LANE_STAT_LEVEL_B, 0)]).modLane n
        (fun l => { l with hunt := huntStart (s.live (.lane n) LANE.LANE_MODE_RX_SDI), fill := 0xFF, video := none })
    else s
  let s := if s.rxMode true n = 0 then
      let s := if s.get (.lane n) LANE.LANE_STAT_SIG_DET = 1 then s.raise (.lane n) LANE.INT_STAT_SIG_LOST else s
      s.puts (.lane n) [(LANE.LANE_STAT_SIG_DET, 0), (LANE.LANE_STAT_CDR_LOCK, 0)]
    else s
  if !s.rxIgn n && !s.txIgn n then (if s.ign n = 0 then s else s.setIgn n 0)
  else if s.ign n = 0 || s.laneModeChanged old n then s.detectAfresh n
  else s

/-- FUNC_INIT of a LANE page: both halves off, tenons returned, and bring-up ended; a brace lane, whose modes are
fixed, starts afresh in DETECT (R59, R64, Table 3.19). -/
def State.laneInit (s : State) (n : LaneNo) : State :=
  let s := s.put (.lane n) LANE.IGN_TRAIN_LOG 0
  let s := s.setWordLock n false
  let s := if s.get (.lane n) LANE.LANE_STAT_SIG_DET = 1 then
      (s.put (.lane n) LANE.LANE_STAT_SIG_DET 0).raise (.lane n) LANE.INT_STAT_SIG_LOST else s
  let s := s.setLane n Lane.init
  if isBrace n then s.detectAfresh n
  else (s.setIgn n 0).puts (.lane n) [(LANE.LANE_STAT_DET_SDI, 0), (LANE.LANE_STAT_LEVEL_B, 0),
    (LANE.LANE_STAT_ATTEMPT, 0), (LANE.LANE_STAT_NO_PARTNER, 0), (LANE.LANE_STAT_FIR_CLAMP, 0),
    (LANE.LANE_STAT_ADAPT_FROZEN, 0), (LANE.LANE_STAT_CDR_LOCK, 0),
    (LANE.LANE_PRBS_CHK_LOCKED, 0), (LANE.LANE_EYE_STAT_BUSY, 0)]

/-! ### Tests (R91 to R95) -/

/-- The user pattern of a LANE page. -/
def State.userPattern (s : State) (n : LaneNo) : Nat :=
  s.get (.lane n) LANE.LANE_USER_LO_PAT + s.get (.lane n) LANE.LANE_USER_HI_PAT * 2 ^ 32

/-- LANE_PRBS_GEN has been written over `old`: EN rising takes the user pattern (R91). -/
def State.genWritten (s old : State) (n : LaneNo) : State :=
  let s := if s.get (.lane n) LANE.LANE_PRBS_GEN_EN = 1 then s.unusual else s
  if s.get (.lane n) LANE.LANE_PRBS_GEN_EN = 1 && old.get (.lane n) LANE.LANE_PRBS_GEN_EN = 0 then
    s.modLane n (fun l => { l with userGen := s.userPattern n })
  else s

/-- Zero the checker's counters (R92). -/
def State.chkZero (s : State) (n : LaneNo) : State :=
  (s.puts (.lane n) [(LANE.LANE_ERR_CNT_ERR, 0), (LANE.LANE_BIT_CNT_LO_BITS, 0)]).modLane n (fun l => { l with bitCnt := 0 })

/-- LANE_PRBS_CHK has been written over `old`: EN rising or CLR zeroes the counters (R92). -/
def State.chkWritten (s old : State) (n : LaneNo) (clr : Bool) : State :=
  let on := s.get (.lane n) LANE.LANE_PRBS_CHK_EN = 1
  let rises := on && old.get (.lane n) LANE.LANE_PRBS_CHK_EN = 0
  let s := if on then s.unusual else s.put (.lane n) LANE.LANE_PRBS_CHK_LOCKED 0
  let s := if rises then (s.modLane n (fun l => { l with userChk := s.userPattern n })).put (.lane n)
      LANE.LANE_PRBS_CHK_LOCKED 0 else s
  if rises || clr then s.chkZero n else s

/-- The checker has compared further bits and found errors: both counts saturate, and count only while LOCKED (R92). -/
def State.chkCount (s : State) (n : LaneNo) (nbits errs : Nat) : State :=
  if s.get (.lane n) LANE.LANE_PRBS_CHK_LOCKED = 0 then s
  else
    let b := sat 48 ((s.lane n).bitCnt + nbits)
    ((s.addSat (.lane n) LANE.LANE_ERR_CNT_ERR errs).put (.lane n) LANE.LANE_BIT_CNT_LO_BITS b).modLane n
      (fun l => { l with bitCnt := b })

/-- LANE_ERR_INJ.SHOT: the next line bit is inverted (R94). -/
def State.injectBit (s : State) (n : LaneNo) : State := s.unusual.emit (.invertBit n.val)

/-- LANE_EYE_CTRL.START (R95). A START while a point runs begins the point again, and a running point ends in its own
time though the CDR loses lock. (DEDUCED, notes/assumptions/42.md; DESIGN CHOICE, notes/assumptions/120.md) -/
def State.eyeStart (s : State) (n : LaneNo) : State :=
  if s.get (.lane n) LANE.LANE_STAT_CDR_LOCK = 0 then
    ((s.puts (.lane n) [(LANE.LANE_EYE_STAT_BUSY, 0), (LANE.LANE_EYE_STAT_DONE, 1),
      (LANE.LANE_EYE_STAT_NO_LOCK, 1)]).raise (.lane n) LANE.INT_STAT_EYE_DONE).unusual
  else (s.puts (.lane n) [(LANE.LANE_EYE_STAT_BUSY, 1), (LANE.LANE_EYE_STAT_DONE, 0),
      (LANE.LANE_EYE_STAT_NO_LOCK, 0)]).unusual

/-- What the adaptation of the CTLE and of the DFE has come to, while neither a freeze nor its hold in `old` stops it (R81
to R83). (DESIGN CHOICE, notes/assumptions/130.md) -/
def State.adapt (s old : State) (n : LaneNo) : State :=
  if s.rxMode true n = 0 || s.get (.lane n) LANE.LANE_STAT_ADAPT_FROZEN = 1 then s
  else
    let a := s.fresh
    let v := (Config.freeValue a.1 38).toNat
    let on := fun f => old.get (.lane n) f = 0
    a.2.modLane n (fun l => { l with
      ctle := if on LANE.LANE_RXEQ_CTLE_HOLD then v % 64 % 41 else l.ctle,
      dfe := if on LANE.LANE_RXEQ_DFE_HOLD then v / 64 else l.dfe })

/-- LANE_RXEQ has been written over `old`: a hold stops adaptation where it stands, CTLE_HOLD forces CTLE_SET, and either
ends normal service (R83, R49). -/
def State.rxeqWritten (s old : State) (n : LaneNo) : State :=
  let s := s.adapt old n
  let ctle := s.get (.lane n) LANE.LANE_RXEQ_CTLE_HOLD = 1
  let s := if ctle then s.modLane n (fun l => { l with ctle := min 40 (s.get (.lane n) LANE.LANE_RXEQ_CTLE_SET) }) else s
  if ctle || s.get (.lane n) LANE.LANE_RXEQ_DFE_HOLD = 1 then s.unusual else s

/-- An SDI error count has grown by what the received lines held (Table 3.19).
(DESIGN CHOICE, notes/assumptions/9.md) -/
def State.sdiErrors (s : State) (n : LaneNo) (f : Fld) : State :=
  if s.rxMode true n = 2 && s.get (.lane n) LANE.LANE_STAT_WORD_LOCK = 1 then
    let a := s.fresh
    a.2.addSat (.lane n) f (Config.freeValue a.1 32).toNat
  else s

/-- A 1 µs transition-density window ends, in units of 1/1,024 (R82). -/
def State.density (s : State) (n : LaneNo) (d : Nat) : State :=
  if s.rxMode true n = 0 then s
  else
    let s := s.put (.lane n) LANE.RX_DENSITY d
    if d < 32 then
      let s := s.modLane n (fun l => { l with adaptRun := 0 })
      if s.get (.lane n) LANE.LANE_STAT_ADAPT_FROZEN = 1 then s
      else ((s.adapt s n).put (.lane n) LANE.LANE_STAT_ADAPT_FROZEN 1).raise (.lane n) LANE.INT_STAT_ADAPT_FRZ
    else if s.get (.lane n) LANE.LANE_STAT_ADAPT_FROZEN = 0 then s
    else
      let k := (s.lane n).adaptRun + 1
      if 8 ≤ k then (s.put (.lane n) LANE.LANE_STAT_ADAPT_FROZEN 0).modLane n (fun l => { l with adaptRun := 0 })
      else s.modLane n (fun l => { l with adaptRun := k })

end Sys2Proof.Machine
end

