-- ==== Sys2Proof/Machine/Eth.lean ====
section
/-! DEFINITION. Ethernet ports and MACsec (chapter 6), but for the received frame. -/

namespace Sys2Proof.Machine

/-- A MAC port. -/
abbrev PortNo := Fin 48

/-- What port `p` holds beyond its page. -/
def State.port (s : State) (p : PortNo) : EthPort := s.eth.get p.val EthPort.init

/-- Set what port `p` holds. -/
def State.setPort (s : State) (p : PortNo) (x : EthPort) : State := { s with eth := s.eth.set p.val x EthPort.init }

/-! ### Counters (R168, R169) -/

/-- Add `n` to counter `c` of Table 6.6, with the half map (R168). -/
def State.cntAdd (s : State) (p : PortNo) (c n : Nat) : State :=
  let old := s.get (.eth p) (ETH.CNT_COUNT.at c)
  let s := s.put (.eth p) (ETH.CNT_COUNT.at c) (old + n)
  if old < 2 ^ 31 ∧ 2 ^ 31 ≤ s.get (.eth p) (ETH.CNT_COUNT.at c) then
    (s.put (.eth p) ((ETH.CNT_HALF_MAP_HALF.at (c / 32)).bit (c % 32)) 1).raise (.eth p) ETH.INT_STAT_CNT_HALF
  else s

/-- Add to several counters. -/
def State.cntAdds (s : State) (p : PortNo) (l : List (Nat × Nat)) : State := l.foldl (fun s e => s.cntAdd p e.1 e.2) s

/-- The snapshot of R169. -/
def State.cntSnap (s : State) (p : PortNo) : State :=
  let s := (List.range 64).foldl (fun s c =>
    s.put (.eth p) (ETH.CNT_SNAPV_COUNT.at c) (s.get (.eth p) (ETH.CNT_COUNT.at c))) s
  [0, 1].foldl (fun s w =>
    (s.put (.eth p) (ETH.CNT_HALF_SNAP_HALF.at w) (s.get (.eth p) (ETH.CNT_HALF_MAP_HALF.at w))).put (.eth p)
      (ETH.CNT_HALF_MAP_HALF.at w) 0) s

/-- The size bucket of a frame of `n` bytes, Table 6.6: 0 to 8; none for a length that no bucket takes. -/
def sizeBucket (n : Nat) : Option Nat :=
  if n < 64 || 9216 < n then none
  else if n = 64 then some 0
  else if n ≤ 127 then some 1
  else if n ≤ 255 then some 2
  else if n ≤ 511 then some 3
  else if n ≤ 1023 then some 4
  else if n ≤ 1518 then some 5
  else if n ≤ 2047 then some 6
  else if n ≤ 4095 then some 7
  else some 8

/-- The counter of a size bucket, from the first of its nine. -/
def bucketCnt (base n : Nat) : List (Nat × Nat) :=
  match sizeBucket n with
  | some b => [(base + b, 1)]
  | none => []

/-! ### The link state machine (R150 to R155) -/

/-- The live mode of a port. -/
def State.ethMode (s : State) (p : PortNo) : Nat := s.live (.eth p) ETH.ETH_MODE_MODE

/-- Lanes of the port that a mode uses (Table 6.1). -/
def modeLanes (m : Nat) : Nat := if m = 0 then 0 else if m ≤ 3 then 4 else 1

/-- LINK_STATE: 0 DISABLED, 1 AN, 2 TRAIN, 3 ALIGN, 4 UP, 5 BACKOFF. -/
def State.link (s : State) (p : PortNo) : Nat := s.get (.eth p) ETH.ETH_STAT_LINK_STATE

/-- The live mode trains its link (Table 6.1). -/
def State.ethTrains (s : State) (p : PortNo) : Bool :=
  s.ethMode p ≠ 3 && s.live (.eth p) ETH.ETH_MODE_TRAIN_EN = 1

/-- The entry state of the live mode, DISABLED with MODE 0 or under the squelch (R153, R155). -/
def State.ethEntry (s : State) (p : PortNo) : Nat :=
  if s.ethMode p = 0 || s.squelched then 0
  else if s.ethMode p ≠ 3 && s.live (.eth p) ETH.ETH_MODE_AN_EN = 1 then 1
  else if s.ethTrains p then 2
  else 3

/-- The used lanes of a port, a bit each. -/
def State.usedLanes (s : State) (p : PortNo) : Nat := 2 ^ modeLanes (s.ethMode p) - 1

/-- Energy on the lanes of `l`, of which the used ones count: an unused lane is powered down (R151). -/
def State.setEnergy (s : State) (p : PortNo) (l : Nat) : State := s.put (.eth p) ETH.ETH_STAT_SIG_DET (l &&& s.usedLanes p)

/-- The port's mode runs a FEC: the RS-FEC at 100 Gb/s, and FEC25 other than 0b00 at 25 Gb/s (R151). -/
def State.fecOn (s : State) (p : PortNo) : Bool :=
  modeLanes (s.ethMode p) = 4 || (modeLanes (s.ethMode p) = 1 && s.live (.eth p) ETH.ETH_MODE_FEC25 ≠ 0)

/-- The Clause 73 base page that the port sends (R154): selector 1, one technology ability, and at 25 Gb/s the request of
its FEC, F2 for the RS-FEC and F3 for the BASE-R FEC. (PRESUMED, notes/assumptions/137.md) -/
def State.anPage (s : State) (p : PortNo) : Nat :=
  let ability := match s.ethMode p with | 1 => 7 | 2 => 8 | _ => 10
  let fec := if s.ethMode p < 4 then 0 else match s.live (.eth p) ETH.ETH_MODE_FEC25 with | 1 => 2 ^ 45 | 2 => 2 ^ 44 | _ => 0
  1 + 2 ^ (21 + ability) + fec

/-- The partner's base page resolves to the live mode and its FEC: it has the ability too, and of the FECs that either side
requests the RS-FEC comes before the BASE-R FEC (R153, R154). (PRESUMED, notes/assumptions/137.md) -/
def State.anResolves (s : State) (p : PortNo) (page : Nat) : Bool :=
  let both := fun i => bitAt (s.anPage p) i + bitAt page i
  let fec := if both 44 ≠ 0 then 2 else if both 45 ≠ 0 then 1 else 0
  (List.range 11).any (fun a => both (21 + a) = 2) &&
    (s.ethMode p < 4 || fec = s.live (.eth p) ETH.ETH_MODE_FEC25)

/-- The live taps of the port's lanes become `l` (R152). -/
def State.setEtx (s : State) (p : PortNo) (l : List (Nat × Nat × Nat)) : State :=
  (List.zip (List.range 4) l).foldl (fun s e =>
    ((s.putLive (.eth p) (ETH.ETX_FIR_PRE.at e.1) e.2.1).putLive (.eth p) (ETH.ETX_FIR_MAIN.at e.1) e.2.2.1).putLive
      (.eth p) (ETH.ETX_FIR_POST.at e.1) e.2.2.2) s

/-- The live taps. -/
def State.etx (s : State) (p : PortNo) : List (Nat × Nat × Nat) :=
  (List.range 4).map (fun k => (s.live (.eth p) (ETH.ETX_FIR_PRE.at k), s.live (.eth p) (ETH.ETX_FIR_MAIN.at k),
    s.live (.eth p) (ETH.ETX_FIR_POST.at k)))

/-- Enter a link state, with LINK_UP and LINK_DOWN, the locks and remote fault, which hold in UP alone, and the
committed taps, from which training starts (R152, Table 6.2). Entering AN sends the base page (R154); local fault holds while
an enabled port is not in UP. (DEDUCED, notes/assumptions/49.md; DEDUCED, notes/assumptions/56.md; PRESUMED,
notes/assumptions/138.md) -/
def State.setLink (s : State) (p : PortNo) (st : Nat) : State :=
  let old := s.link p
  let s := (s.setPort p { s.port p with linkAt := s.now }).put (.eth p) ETH.ETH_STAT_LINK_STATE st
  let s := if old = 4 ∧ st ≠ 4 then
      (s.puts (.eth p) [(ETH.ETH_STAT_RF_RX, 0)]).raise (.eth p) ETH.INT_STAT_LINK_DOWN
    else s
  let s := s.puts (.eth p) [(ETH.ETH_STAT_ALIGN_LOCK, b2n (st = 4)), (ETH.ETH_STAT_FEC_LOCK, b2n (st = 4 && s.fecOn p)),
    (ETH.ETH_STAT_LF, b2n (st ≠ 0 && st ≠ 4))]
  let s := if st = 4 ∧ old ≠ 4 then
      (s.put (.eth p) ETH.ETH_STAT_FAIL_CNT 0).raise (.eth p) ETH.INT_STAT_LINK_UP
    else s
  let s := if st = 0 then s.setEnergy p 0 else s
  if st = 1 then s.emit (.anPage p.val (s.anPage p))
  else if st = 2 then s.setEtx p (s.port p).base
  else s

/-- The port starts afresh: FAIL_CNT 0, and the entry state (Table 6.2, row "Any"). -/
def State.ethAfresh (s : State) (p : PortNo) : State :=
  (s.put (.eth p) ETH.ETH_STAT_FAIL_CNT 0).setLink p (s.ethEntry p)

/-- A failure of Table 6.2: counted, its cause raised, BACKOFF. How TRAIN_LOG shows the cause and the lane is not
stated: the word is a free value. (DESIGN CHOICE, notes/assumptions/57.md) -/
def State.ethFail (s : State) (p : PortNo) (cause : Fld) : State :=
  let (k, s) := s.fresh
  ((((s.addSat (.eth p) ETH.ETH_STAT_FAIL_CNT 1).put (.eth p) ETH.TRAIN_LOG (Config.freeValue k 32).toNat).raise (.eth p)
    cause).setLink p 5)

/-- Clause 73 completes with the partner's base page of 48 bits (R153, R154). How AN_LP shows it in 32 bits is not stated.
(DESIGN CHOICE, notes/assumptions/57.md) -/
def State.ethAn (s : State) (p : PortNo) (page : Nat) : State :=
  if s.link p ≠ 1 then s
  else
    let s := s.put (.eth p) ETH.AN_LP (Config.anWord page).toNat
    if s.anResolves p page then
      (s.setEnergy p 15).setLink p (if s.ethTrains p then 2 else 3)
    else s.ethFail p ETH.INT_STAT_AN_FAIL

/-- Training completes with the taps it has set (R152, Table 6.2). -/
def State.ethTrained (s : State) (p : PortNo) (taps : List (Nat × Nat × Nat)) : State :=
  if s.link p ≠ 2 then s
  else
    let n := modeLanes (s.ethMode p)
    let l := taps.take n ++ (s.etx p).drop (min n taps.length)
    ((s.setEtx p l).setEnergy p 15).setLink p 3

/-- Energy has been absent for 100 µs on the lanes that are not in `l`: lost, if one of them is used (R153, Table 6.2). -/
def State.ethEnergyLost (s : State) (p : PortNo) (l : Nat) : State :=
  let s := s.setEnergy p l
  if s.usedLanes p &&& l = s.usedLanes p then s
  else match s.link p with
  | 2 => s.ethFail p ETH.INT_STAT_TRAIN_FAIL
  | 3 => s.ethFail p ETH.INT_STAT_ALIGN_FAIL
  | 4 => s.setLink p (s.ethEntry p)
  | _ => s

/-- Every lock is reached in ALIGN: UP (Table 6.2). -/
def State.ethLocked (s : State) (p : PortNo) : State :=
  if s.link p = 3 then (s.setEnergy p 15).setLink p 4 else s

/-- Remote fault begins or ends while the port is in UP (R153). -/
def State.remoteFault (s : State) (p : PortNo) (b : Bool) : State :=
  if s.link p ≠ 4 then s
  else
    let s := s.put (.eth p) ETH.ETH_STAT_RF_RX (b2n b)
    if b then s.raise (.eth p) ETH.INT_STAT_RF_RX else s

/-- The live copy of an ETH page has changed from that of `old` (R152, R153). (DEDUCED, notes/assumptions/56.md) -/
def State.ethFired (s old : State) (p : PortNo) : State :=
  let l := (s.etx p).map (fun t => (clampTaps t.1 t.2.1 t.2.2).1)
  let changed := [ETH.ETH_MODE_MODE, ETH.ETH_MODE_FEC25, ETH.ETH_MODE_AN_EN, ETH.ETH_MODE_TRAIN_EN].any
    (fun f => s.live (.eth p) f != old.live (.eth p) f)
  let s := s.setPort p { s.port p with base := l }
  let s := s.setEtx p (if old.link p = 2 && !changed then old.etx p else l)
  if changed then s.ethAfresh p else s

/-- The shadow of an ETH page holds an unused code (R150, R151, R163). -/
def State.ethBad (s : State) (p : PortNo) : Bool :=
  6 ≤ s.get (.eth p) ETH.ETH_MODE_MODE || s.get (.eth p) ETH.ETH_MODE_FEC25 = 3 ||
    s.get (.eth p) ETH.ETH_FC_RX_FC_MODE = 3

/-! ### Pause (R163, R164) -/

/-- A quantum in core cycles: 512 bit times at the port's rate, as a fraction. -/
def State.quantum (s : State) (p : PortNo) : Nat × Nat :=
  -- 5.12 ns or 20.48 ns at 1.188 cycles a nanosecond
  if modeLanes (s.ethMode p) = 1 then (2433024, 100000) else (608256, 100000)

/-- Class `k` takes a pause of `q` quanta from now; 0 ends it (R164). -/
def State.pauseClass (s : State) (p : PortNo) (k q : Nat) : State :=
  if bitAt (s.live (.eth p) ETH.ETH_FC_PAUSE_IGNORE) k = 1 || 8 ≤ k then s
  else
    let x := s.port p
    let s := s.setPort p { x with pause := x.pause.set k (if q = 0 then none else some (q, s.now)) }
    if q = 0 then s else s.cntAdd p (56 + k) 1

/-- The pause time of class `k` still runs (R164). -/
def State.paused (s : State) (p : PortNo) (k : Nat) : Bool :=
  match nth (s.port p).pause k none with
  | none => false
  | some (q, at_) => (s.now - at_) * (s.quantum p).2 < q * (s.quantum p).1

/-- The pause time of class `k` runs out (R164). -/
def State.pauseOver (s : State) (p : PortNo) (k : Nat) : State :=
  if s.paused p k then s
  else
    let x := s.port p
    s.setPort p { x with pause := x.pause.set k none }

/-- The remaining pause time of class `k`, in quanta (Table 6.12). -/
def State.pauseLeft (s : State) (p : PortNo) (k : Nat) : Nat :=
  match nth (s.port p).pause k none with
  | none => 0
  | some (q, at_) =>
    let gone := openDiv 2 (((s.now - at_) * (s.quantum p).2 : Nat) : Int) (s.quantum p).1
    q - gone.toNat

/-! ### Host queues (R165 to R167) -/

/-- The registers of a host queue: EN, BASE_LO, BASE_HI, N, TAIL, HEAD. -/
structure HqRegs where
  en : Fld
  lo : Fld
  hi : Fld
  n : Fld
  tail : Fld
  head : Fld

/-- The registers of the receive or the transmit queue (Table 6.10). -/
def hq (tx : Bool) : HqRegs :=
  if tx then ⟨ETH.HQ_TX_CTRL_EN, ETH.HQ_TX_BASE_LO_BASE, ETH.HQ_TX_BASE_HI_BASE, ETH.HQ_TX_SIZE_N, ETH.HQ_TX_TAIL_TAIL,
    ETH.HQ_TX_HEAD_HEAD⟩
  else ⟨ETH.HQ_RX_CTRL_EN, ETH.HQ_RX_BASE_LO_BASE, ETH.HQ_RX_BASE_HI_BASE, ETH.HQ_RX_SIZE_N, ETH.HQ_RX_TAIL_TAIL,
    ETH.HQ_RX_HEAD_HEAD⟩

/-- SIZE: 2^N, N outside 4 to 12 acting as 4 (Table 6.10). -/
def hqSize (n : Nat) : Nat := if 4 ≤ n && n ≤ 12 then 2 ^ n else 16

/-- A descriptor stands at HEAD for the TZ1024 to take. -/
def State.hqReady (s : State) (p : PortNo) (tx : Bool) : Bool :=
  let r := hq tx
  s.get (.eth p) r.en = 1 && s.get (.eth p) r.head ≠ s.get (.eth p) r.tail

/-- The bus address of the descriptor at HEAD. -/
def State.hqAddr (s : State) (p : PortNo) (tx : Bool) : Nat :=
  let r := hq tx
  s.get (.eth p) r.lo * 64 + s.get (.eth p) r.hi * 2 ^ 32 + 16 * s.get (.eth p) r.head

/-- Write the descriptor at HEAD back (bytes 10 to 13 of Table 6.5, as one number), advance HEAD and raise the cause
(R165). The descriptor is taken and returned in this command. -/
def State.hqBack (s : State) (p : PortNo) (tx : Bool) (len flags reason : Nat) : State :=
  let r := hq tx
  let s := (s.poolUse 8 (if tx then 48 + p.val else p.val) 1).emit
    (if tx then .hostWrite (s.hqAddr p tx + 12) 1 flags
     else .hostWrite (s.hqAddr p tx + 10) 4 (len + flags * 2 ^ 16 + reason * 2 ^ 24))
  (s.put (.eth p) r.head ((s.get (.eth p) r.head + 1) % hqSize (s.get (.eth p) r.n))).raise (.eth p)
    (if tx then ETH.INT_STAT_HQ_TX else ETH.INT_STAT_HQ_RX)

/-- EN has been written over that of `old`: a queue that stops has its HEAD return to 0 (R165). -/
def State.hqEnWritten (s old : State) (p : PortNo) (tx : Bool) : State :=
  let r := hq tx
  if s.get (.eth p) r.en = old.get (.eth p) r.en then s else s.put (.eth p) r.head 0

/-- A frame for the host receive queue, with what the descriptor at HEAD gives: buffer address and BUF_LEN
(R165, R166). `len` is without FCS. (DEDUCED, notes/assumptions/62.md) -/
def State.hqDeliver (s : State) (p : PortNo) (len reason : Nat) (vlan valid : Bool) (bufAddr bufLen : Nat) : State :=
  if !s.hqReady p false || bufLen < len then
    (s.cntAdd p 26 1).raise (.eth p) ETH.INT_STAT_HQ_RX_EMPTY
  else
    (s.emit (.hostWrite bufAddr len 0)).hqBack p false len (1 + 4 * b2n vlan + 8 * b2n valid) reason

/-- A frame joins the transmit buffer of its port with a credit (Table 2.7). -/
def State.enqueue (s : State) (p : PortNo) (f : TxFrame) : State :=
  let x := s.port p
  (s.setPort p { x with queue := x.queue ++ [f] }).poolIssue 7 p.val 1

/-- The transmit descriptor at HEAD is taken: its frame is queued, or discarded under R167, and the descriptor is
written back. `len` is without FCS. (DEDUCED, notes/assumptions/62.md) -/
def State.hqSend (s : State) (p : PortNo) (f : TxFrame) : State :=
  if !s.hqReady p true then s
  else
    let f := { f with cls := if 4 ≤ f.cls then 3 else f.cls, host := true }
    if f.bypass && !f.eapol then (s.cntAdd p 51 1).hqBack p true 0 3 0
    else (s.enqueue p f).hqBack p true 0 1 0

/-! ### MACsec (R171 to R175) -/

/-- CIPHER has 64-bit packet numbers. -/
def State.xpn (s : State) (p : PortNo) : Bool := 2 ≤ s.live (.msec p) MSEC.MSEC_CTRL_CIPHER

/-- The largest PN. -/
def State.maxPn (s : State) (p : PortNo) : Nat := if s.xpn p then 2 ^ 64 - 1 else 2 ^ 32 - 1

/-- A PN from its two words. -/
def State.pn (s : State) (p : PortNo) (lo hi : Nat) : Nat := if s.xpn p then lo + hi * 2 ^ 32 else lo

/-- SA `x` of a port is a transmit SA (0 to 7) or a receive SA (16 to 79): its registers EN, KEY, PN_LO, PN_HI,
KEY_LOST, PN_EXH. -/
def saFlds (x : Nat) : Fld × Fld × Fld × Fld × Fld × Fld :=
  if x < 16 then (MSEC.TXSA_CTRL_EN.at x, MSEC.TXSA_CTRL_KEY.at x, MSEC.TXSA_PN_LO_PN.at x, MSEC.TXSA_PN_HI_PN.at x,
    MSEC.TXSA_STAT_KEY_LOST.at x, MSEC.TXSA_STAT_PN_EXH.at x)
  else (MSEC.RXSA_CTRL_EN.at (x - 16), MSEC.RXSA_CTRL_KEY.at (x - 16), MSEC.RXSA_PN_LO_PN.at (x - 16),
    MSEC.RXSA_PN_HI_PN.at (x - 16), MSEC.RXSA_STAT_KEY_LOST.at (x - 16), MSEC.RXSA_STAT_PN_EXH.at (x - 16))

/-- The SAs of a port. -/
def allSas : List Nat := List.range 8 ++ (List.range 64).map (· + 16)

/-- SA `x` of the shadow breaks R174. -/
def State.saBadKey (s : State) (p : PortNo) (x : Nat) : Bool :=
  let f := saFlds x
  let k := s.get (.msec p) f.2.1
  s.get (.msec p) f.1 = 1 &&
    !(s.slotGet KEY.SLOT_STAT_FULL k = 1 && s.slotGet KEY.SLOT_STAT_ATTR k = (if x < 16 then 0 else 1) &&
      s.slotGet KEY.SLOT_STAT_LEN k = s.get (.msec p) MSEC.MSEC_CTRL_CIPHER % 2)

/-- An arm of the MSEC page breaks R174. -/
def State.msecBadKey (s : State) (p : PortNo) : Bool := allSas.any (s.saBadKey p)

/-- An arm of the MSEC page breaks R173 or Table 6.13. -/
def State.msecBad (s : State) (p : PortNo) : Bool :=
  s.get (.msec p) MSEC.MSEC_CTRL_VALIDATE = 3 || s.get (.msec p) MSEC.MSEC_CTRL_CONF_OFFSET = 3

/-- A fire of the MSEC page: enabled SAs record their slot's load generation, and a written SA starts from its
committed PN with SA_STAT clear (R174, R175). (DEDUCED, notes/assumptions/61.md) -/
def State.msecFired (s : State) (p : PortNo) : State :=
  let s := allSas.foldl (fun s x =>
    let f := saFlds x
    let key := 128 * p.val + x
    let gen := if s.live (.msec p) f.1 = 1 then s.slotGet KEY.SLOT_STAT_LGEN (s.live (.msec p) f.2.1) + 1 else 0
    let s : State := { s with saGen := s.saGen.set key gen 0 }
    if s.saWritten.contains key then
      let s := s.puts (.msec p) [(f.2.2.2.2.1, 0), (f.2.2.2.2.2, 0)]
      let lo := s.live (.msec p) f.2.2.1
      let hi := if s.xpn p then s.live (.msec p) f.2.2.2.1 else 0
      if x < 16 then s.puts (.msec p) [(MSEC.TXSA_PN_LIVE_LO_PN.at x, lo), (MSEC.TXSA_PN_LIVE_HI_PN.at x, hi)]
      else { s with rxPn := s.rxPn.set key (s.pn p lo hi) 1 }
    else s) s
  { s with saWritten := s.saWritten.filter (fun k => k / 128 != p.val) }

/-- SA `x` is enabled; one whose key slot has changed since the last fire stops now, with KEY_LOST and a contained
fault (R174). The result tells whether the SA may be used. -/
def State.saUse (s : State) (p : PortNo) (x : Nat) : State × Bool :=
  let f := saFlds x
  let k := s.live (.msec p) f.2.1
  if s.live (.msec p) f.1 = 0 then (s, false)
  else if s.get (.msec p) f.2.2.2.2.1 = 1 || s.get (.msec p) f.2.2.2.2.2 = 1 then (s, false)
  else if s.slotGet KEY.SLOT_STAT_FULL k = 1 && s.slotGet KEY.SLOT_STAT_LGEN k + 1 = s.saGen.get (128 * p.val + x) 0 then
    (s, true)
  else (((s.put (.msec p) f.2.2.2.2.1 1).raise (.msec p) MSEC.INT_STAT_KEY_LOST).fault (.msec p) .contained 0 x, false)

/-- Port `p` protects and validates frames: live EN, and the MSEC page's function runs; while it is stopped, frames pass
unprotected as after its FUNC_INIT (R177, R363). -/
def State.secured (s : State) (p : PortNo) : Bool := s.live (.msec p) MSEC.MSEC_CTRL_EN = 1 && s.running (.msec p)

/-- SCI of transmit SC `sc`. -/
def State.txSci (s : State) (p : PortNo) (sc : Nat) : Nat :=
  s.live (.msec p) (MSEC.TXSC_SCI_LO_SCI.at sc) + s.live (.msec p) (MSEC.TXSC_SCI_HI_SCI.at sc) * 2 ^ 32

/-- Confidentiality offset in bytes (R171). -/
def State.confOffset (s : State) (p : PortNo) : Nat :=
  match s.live (.msec p) MSEC.MSEC_CTRL_CONF_OFFSET with | 1 => 30 | 2 => 50 | _ => 0

/-- The 16 bytes of the SecTAG of a frame with `len` bytes after it: EtherType, TCI with SCI, E and C, AN, short length, low
word of the PN, SCI (R171; IEEE 802.1AE-2018). (PRESUMED, notes/assumptions/139.md) -/
def secTag (conf : Bool) (an pn sci len : Nat) : List Nat :=
  beBytes 0x88E5 2 ++ [0x20 + (if conf then 0x0C else 0) + an, if len < 48 then len else 0] ++ beBytes (pn % 2 ^ 32) 4 ++
    beBytes sci 8

/-- The 12 bytes of the initial vector: SCI and PN, or under XPN the SSCI and the PN with the salt added (R171, R175; IEEE
802.1AE-2018). (PRESUMED, notes/assumptions/139.md) -/
def secIv (xpn : Bool) (sci ssci salt pn : Nat) : List Nat :=
  if xpn then xorBytes (beBytes (ssci * 2 ^ 64 + pn) 12) (beBytes salt 12) else beBytes (sci * 2 ^ 32 + pn) 12

/-- SALT of transmit SA `x`, low word first. -/
def State.txSalt (s : State) (p : PortNo) (x : Nat) : Nat :=
  let w := fun k => s.live (.msec p) (MSEC.TXSA_SALT_SALT.at2 x k)
  w 0 + w 1 * 2 ^ 32 + w 2 * 2 ^ 64

/-- What protects a frame in SC `sc` with SA `an` and packet number `pn`. -/
def State.saOf (s : State) (p : PortNo) (sc an pn : Nat) : SecTx :=
  let x := 4 * sc + an
  { sc, an, pn, sci := s.txSci p sc, conf := s.live (.msec p) (MSEC.TXSC_CTRL_CONF.at sc) = 1, offset := s.confOffset p,
    iv := secIv (s.xpn p) (s.txSci p sc) (s.live (.msec p) (MSEC.TXSA_SSCI_SSCI.at x)) (s.txSalt p x) pn,
    slot := s.live (.msec p) (MSEC.TXSA_CTRL_KEY.at x) }

/-- The bytes of a frame, from its destination address to its last byte before the FCS, as they leave under protection: the
addresses, the SecTAG, the user data enciphered behind the offset or in clear, and the ICV (R171, R172; IEEE 802.1AE-2018).
(PRESUMED, notes/assumptions/139.md) -/
def State.protected (s : State) (x : SecTx) (frame : List Nat) : List Nat :=
  let key := s.keys.slots.get x.slot []
  let data := frame.drop 12
  let head := frame.take 12 ++ secTag x.conf x.an x.pn x.sci data.length
  let clear := if x.conf then data.take x.offset else data
  let r := gcmEncrypt key x.iv (head ++ clear) (data.drop clear.length)
  head ++ clear ++ r.1 ++ r.2

/-- Protect a frame of class `k`: what protects it, or none where it is discarded (R172, R175). -/
def State.protect (s : State) (p : PortNo) (k : Nat) : State × Option SecTx :=
  let sc := bitAt (s.live (.msec p) MSEC.MSEC_CTRL_TXSC1_CLS) k
  let an := s.live (.msec p) (MSEC.TXSC_CTRL_ENC_AN.at sc)
  let x := 4 * sc + an
  if s.live (.msec p) (MSEC.TXSC_CTRL_EN.at sc) = 0 then (s, none)
  else
    let (s, ok) := s.saUse p x
    if !ok then (s, none)
    else
      let pn := s.pn p (s.get (.msec p) (MSEC.TXSA_PN_LIVE_LO_PN.at x)) (s.get (.msec p) (MSEC.TXSA_PN_LIVE_HI_PN.at x))
      let thr := s.pn p (s.live (.msec p) MSEC.PN_THR_LO_THR) (s.live (.msec p) MSEC.PN_THR_HI_THR)
      let s := if pn = s.maxPn p then
          (s.put (.msec p) (MSEC.TXSA_STAT_PN_EXH.at x) 1).raise (.msec p) MSEC.INT_STAT_PN_EXH
        else
          let s := s.puts (.msec p) [(MSEC.TXSA_PN_LIVE_LO_PN.at x, (pn + 1) % 2 ^ 32),
            (MSEC.TXSA_PN_LIVE_HI_PN.at x, (pn + 1) / 2 ^ 32)]
          if pn + 1 = thr then s.raise (.msec p) MSEC.INT_STAT_PN_NEAR else s
      (s, some (s.saOf p sc an pn))

/-- What a port does to a received frame under MACsec: kept or dropped, and whether it was validated (R173). `sec` is
SCI, AN, PN and whether the ICV is right. (DEDUCED, notes/assumptions/61.md) -/
def State.validate (s : State) (p : PortNo) (eapol : Bool) (sec : Option (Nat × Nat × Nat × Bool)) :
    State × Bool × Bool :=
  let v := s.live (.msec p) MSEC.MSEC_CTRL_VALIDATE
  if !s.secured p || v = 0 then (s, true, false)
  else match sec with
    | none =>
      let s := s.addSat (.msec p) MSEC.RX_UNTAGGED 1
      if v = 2 && !eapol then (s.cntAdd p 30 1, false, false) else (s, true, false)
    | some (sci, an, pn, icvOk) =>
      let fail := fun (s : State) => if v = 2 then (s.cntAdd p 30 1, false, false) else (s, true, false)
      match (List.range 16).find? (fun j => s.live (.msec p) (MSEC.RXSC_CTRL_EN.at j) = 1 &&
          s.live (.msec p) (MSEC.RXSC_SCI_LO_SCI.at j) + s.live (.msec p) (MSEC.RXSC_SCI_HI_SCI.at j) * 2 ^ 32 = sci) with
      | none => fail (s.addSat (.msec p) MSEC.RX_NO_SA 1)
      | some j =>
        let x := 16 + 4 * j + an % 4
        let (s, ok) := s.saUse p x
        let low := s.rxPn.get (128 * p.val + x) 1
        if !ok then fail (s.addSat (.msec p) MSEC.RX_NO_SA 1)
        else if s.live (.msec p) MSEC.MSEC_CTRL_REPLAY_EN = 1 && pn + s.live (.msec p) MSEC.REPLAY_WIN_WIN < low then
          fail ((s.addSat (.msec p) MSEC.RX_LATE 1).raise (.msec p) MSEC.INT_STAT_REPLAY)
        else if !icvOk then fail (s.addSat (.msec p) MSEC.RX_BAD_ICV 1)
        else
          (({ s with rxPn := s.rxPn.set (128 * p.val + x) (max low (pn + 1)) 1 } : State).add (.msec p) MSEC.RX_OK 1,
            true, true)

/-! ### Transmit scheduling (R159 to R162) -/

/-- The field of the start threshold of class `k`. -/
def thrFld (k : Nat) : Fld :=
  nth [ETH.TXQ_THR_LO_THR0, ETH.TXQ_THR_LO_THR1, ETH.TXQ_THR_LO_THR2, ETH.TXQ_THR_LO_THR3, ETH.TXQ_THR_HI_THR0,
    ETH.TXQ_THR_HI_THR1, ETH.TXQ_THR_HI_THR2, ETH.TXQ_THR_HI_THR3] k ETH.TXQ_THR_LO_THR0

/-- Enough of a frame of class `k` is in the transmit buffer to start it (R160). -/
def State.mayStart (s : State) (p : PortNo) (k len held : Nat) : Bool :=
  let thr := max 1 (s.live (.eth p) (thrFld k))
  len ≤ held || (thr ≠ 63 && thr * 256 ≤ held)

/-- Sending of media is possible: UP, TX_EN, no remote fault (R162). (DEDUCED, notes/assumptions/59.md) -/
def State.canSend (s : State) (p : PortNo) : Bool :=
  s.link p = 4 && s.live (.eth p) ETH.ETH_CTRL_TX_EN = 1 && s.get (.eth p) ETH.ETH_STAT_RF_RX = 0

/-- A media packet reaches its scheduled instant on a path of port `p`: it joins the transmit buffer, or is discarded
(R162). The result tells whether it went. -/
def State.mediaSend (s : State) (p : PortNo) (f : TxFrame) : State × Bool :=
  if s.canSend p then (s.enqueue p f, true) else (s.cntAdd p 51 1, false)

/-- A frame goes out without protection: MACsec is off, an EAPOL frame of R167, or PAUSE or PFC (R172). -/
def State.bare (s : State) (p : PortNo) (f : TxFrame) : Bool := !s.secured p || (f.eapol && f.bypass) || f.flow ≠ 0

/-- Bytes of a frame on the wire, from its destination address through its FCS (R171). -/
def State.wireLen (s : State) (p : PortNo) (f : TxFrame) : Nat := f.len + (if s.bare p f then 0 else 32)

/-- A media frame that leaves late is counted for its slot or flow (R200, R276). -/
def State.mediaLate (s : State) (d : MediaDue) : State :=
  if s.now ≤ d.until_ then s
  else if d.audio then
    let s := s.tput (TBL.FLOWA_TX_TX_LATE_CNT.at d.flow) (sat 32 (s.tget (TBL.FLOWA_TX_TX_LATE_CNT.at d.flow) + 1))
    match idx? 16 (d.flow / 256) with
    | some b => s.raise (.flowaTx b) FATX.INT_STAT_TX_LATE
    | none => s
  else match idx? 1024 d.flow with
    | some n => s.addSat (.txSlot n) TXS.TX_LATE 1
    | none => s

/-- Domain `d` works with PTP messages of domainNumber `m.dom` on port `p` over the transport of the message (R216). -/
def State.ptpDomain (s : State) (p : PortNo) (m : PtpMsg) (d : Fin 2) : Bool :=
  s.domEn d && s.live .time (TIME.DOM_CFG_DOM_NUM.at d.val) = m.dom &&
    s.live .time (TIME.DOM_CFG_TRANSPORT.at d.val) = m.transport && bitAt (s.domPorts true d.val) p.val = 1

/-- The stamp of a message that passes the pins of port `p` now: the STC, and the time of every enabled domain, less TS_LAT_RX
or plus TS_LAT_TX (R217). -/
def State.stampOf (s : State) (p : PortNo) (rx : Bool) (m : PtpMsg) : Stamp :=
  let lat : Int := if rx then -(s.get .time (TIME.TS_LAT_RX_LAT.at p.val) : Int) else s.get .time (TIME.TS_LAT_TX_LAT.at p.val)
  let dom := fun (d : Fin 2) => if s.domEn d then some (((s.clk.dom d + lat * 2 ^ 32) % timeMod).toNat) else none
  { rx, kind := m.kind, dom := m.dom, seq := m.seq, stc := wrap 64 (s.stc + lat * 2 ^ 8), timeA := dom 0, timeB := dom 1 }

/-- A stamp of a PTP event message on port `p` waits for the firmware, or is dropped where 64 wait (R217). -/
def State.stamp (s : State) (p : PortNo) (rx : Bool) (m : PtpMsg) : State :=
  let l := s.clk.stamps.get p.val []
  if 64 ≤ l.length then s.addSat .time TIME.TS_DROP 1
  else { s with clk := { s.clk with stamps := s.clk.stamps.set p.val (l ++ [s.stampOf p rx m]) [] } }

/-- The domain whose Sync messages port `p` sends as `m`, if it is one-step (R219). -/
def State.syncDomain (s : State) (p : PortNo) (m : PtpMsg) : Option (Fin 2) :=
  [(0 : Fin 2), 1].find? (fun d => s.ptpDomain p m d && s.live .time (TIME.DOM_CFG_ONESTEP.at d.val) = 1)

/-- A frame as it leaves port `p`: a Sync of a one-step domain carries its own transmit stamp in that domain's time, and over
IPv4 its UDP checksum is 0; any other Sync is followed by a Follow_Up that carries its stamp (R219).
(DEDUCED, notes/assumptions/140.md) -/
def State.sendPtp (s : State) (p : PortNo) (f : TxFrame) : State :=
  match f.ptp with
  | none => s
  | some m =>
    let st := s.stampOf p false m
    let s' := if m.event then s.stamp p false m else s
    if m.kind ≠ 0 then s'
    else
      let time := fun (d : Fin 2) => if d = 0 then st.timeA else st.timeB
      match s.syncDomain p m with
      | some d =>
        if s.get .time (TIME.DOM_STAT_ONESTEP_OFF.at d.val) = 0 then s'.emit (.oneStep p.val m.seq (time d) (m.transport = 1))
        else s'.enqueue p { f with ptp := some { m with kind := 8, time := time d } }
      | none => s'

/-- A frame starts and is counted; `whole` tells whether its data reaches to its end (R161, R168, R172).
(DEDUCED, notes/assumptions/58.md) -/
def State.startFrame (s : State) (p : PortNo) (f : TxFrame) (whole : Bool) : State :=
  let bare := s.bare p f
  let n := s.wireLen p f
  let (s, sa) := if bare then (s, none) else s.protect p f.cls
  if !bare && sa.isNone then (s.cntAdd p 51 1).addSat (.msec p) MSEC.TX_DROP 1
  else
    let s := s.cntAdds p ([(32, n)] ++ bucketCnt 41 n)
    let s := if whole then
        s.cntAdds p ([(33, n), (34, 1), (35 + min f.dest 2, 1)] ++ (if f.flow = 1 then [(38, 1)] else []) ++
          (if f.flow = 2 then [(39, 1)] else []) ++ (if f.vlan then [(40, 1)] else []))
      else s
    let s := s.cntAdds p ((if bare then [] else [(52, 1)]) ++ (if f.host then [(53, 1)] else []) ++
      (if f.ptp.any (·.event) then [(54, 1)] else []))
    let s := match f.media with | some d => s.mediaLate d | none => s
    (s.emit (.ethFrame p.val f sa)).sendPtp p f

/-- Remove the first frame of class `k` from a queue. -/
def dropFirst (k : Nat) : List TxFrame → List TxFrame
  | [] => []
  | f :: r => if f.cls = k then r else f :: dropFirst k r

/-- The scheduler's choice: the highest class whose oldest frame may start (R159, R160, R164). `held` gives the bytes
of each class's oldest frame in the buffer, `slack` the byte times to the next scheduled media frame. -/
def State.txPick (s : State) (p : PortNo) (slack : Nat) (held : List Nat) : Option TxFrame :=
  [7, 6, 5, 4, 3, 2, 1, 0].findSome? (fun k =>
    match (s.port p).queue.find? (fun f => f.cls = k) with
    | none => none
    | some f =>
      let wire := s.wireLen p f + 8 + 12
      if !s.paused p k && s.mayStart p k f.len (nth held k 0) && (4 ≤ k || wire ≤ slack) then some f else none)

/-- The scheduler starts the next frame of port `p` (R159). Under remote fault every frame that is due is discarded
(R153); a media frame whose port has left UP or has TX_EN = 0 is discarded too (R162), a host frame then waits.
`own` is a frame of the firmware that joins the queue first. (DEDUCED, notes/assumptions/59.md) -/
def State.txStart (s : State) (p : PortNo) (slack : Nat) (held : List Nat) (own : Option TxFrame) (whole : Bool) : State :=
  let s := match own with
    | some f => s.enqueue p { f with host := false, bypass := false }
    | none => s
  match s.txPick p slack held with
  | none => s
  | some f =>
    let x := s.port p
    let taken := (s.setPort p { x with queue := dropFirst f.cls x.queue }).poolReturn 7 p.val 1
    if s.canSend p then
      taken.startFrame p f whole
    else if (s.link p = 4 && s.get (.eth p) ETH.ETH_STAT_RF_RX = 1) || 4 ≤ f.cls then taken.cntAdd p 51 1
    else s

/-- A started frame of class `k` runs out of data (R161). While the page is armed its latched value is the shadow.
(DEDUCED, notes/assumptions/58.md) -/
def State.underrun (s : State) (p : PortNo) (k : Nat) : State :=
  let f := thrFld k
  let s := ((s.cntAdd p 50 1).raise (.eth p) ETH.INT_STAT_UNDERRUN).fault (.eth p) .contained 0 k
  let s := s.putLive (.eth p) f (sat 6 (s.live (.eth p) f + 1))
  (s.put (.eth p) f (sat 6 (s.get (.eth p) f + 1))).emit (.ethCut p.val)

/-! ### FUNC_INIT (R176, R177) -/

/-- FUNC_INIT of the ETH page, as it starts: DISABLED, queues stopped, credits returned, counters zeroed. -/
def State.ethInit (s : State) (p : PortNo) : State :=
  let n := (s.port p).queue.length
  let s := (s.setLink p 0).puts (.eth p) [(ETH.ETH_STAT_FAIL_CNT, 0), (ETH.ETH_STAT_SIG_DET, 0)]
  let s := (s.setPort p EthPort.init).poolReturn 7 p.val n
  let s := (List.range 64).foldl (fun s c => s.put (.eth p) (ETH.CNT_COUNT.at c) 0) s
  let s := [0, 1].foldl (fun s w => (s.put (.eth p) (ETH.CNT_HALF_MAP_HALF.at w) 0).put (.eth p)
    (ETH.CNT_HALF_SNAP_HALF.at w) 0) s
  s.puts (.eth p) [(ETH.HQ_RX_HEAD_HEAD, 0), (ETH.HQ_TX_HEAD_HEAD, 0)]

/-- OTP gives the port its MAC address: the block's base plus the port number (Tables 6.9 and 15.7).
(PRESUMED, notes/assumptions/20.md) -/
def State.macFromOtp (s : State) (p : PortNo) : State :=
  let a := (s.otp.macBase + p.val) % 2 ^ 48
  (((s.put (.eth p) ETH.ETH_MAC_LO_MAC a).putLive (.eth p) ETH.ETH_MAC_LO_MAC a).put (.eth p) ETH.ETH_MAC_HI_MAC
    (a / 2 ^ 32)).putLive (.eth p) ETH.ETH_MAC_HI_MAC (a / 2 ^ 32)

/-- FUNC_INIT of the MSEC page: every SA forgets its key and its PN. -/
def State.msecInit (s : State) (p : PortNo) : State :=
  let s := allSas.foldl (fun s x =>
    let f := saFlds x
    let s : State := { s with saGen := s.saGen.set (128 * p.val + x) 0 0, rxPn := s.rxPn.set (128 * p.val + x) 1 1 }
    s.puts (.msec p) [(f.2.2.2.2.1, 0), (f.2.2.2.2.2, 0)]) s
  let s := (List.range 8).foldl (fun s x =>
    s.puts (.msec p) [(MSEC.TXSA_PN_LIVE_LO_PN.at x, 1), (MSEC.TXSA_PN_LIVE_HI_PN.at x, 0)]) s
  { s with saWritten := s.saWritten.filter (fun k => k / 128 != p.val) }

end Sys2Proof.Machine
end

