-- ==== Sys2Proof/Machine/Formats.lean ====
section
/-! DEFINITION. The video formats of Table 9.7. -/

namespace Sys2Proof.Machine

/-- A video format: frame rate `num / den`, total lines per frame, switch line, tenons, active width and height, and
whether it is interlaced (Table 9.7). -/
structure Format where
  num : Nat
  den : Nat
  lines : Nat
  sw : Nat
  tenons : Nat
  width : Nat
  height : Nat
  interlaced : Bool
  deriving DecidableEq, Repr

/-- The format of a FORMAT code (Table 9.7); the active sizes are those the format's name states, and of ST 125
and BT.601 for the two SD formats. (PRESUMED, notes/assumptions/48.md) -/
def format? (code : Nat) : Option Format :=
  match code with
  | 0x01 => some ⟨30000, 1001, 525, 10, 1, 720, 486, true⟩
  | 0x02 => some ⟨25, 1, 625, 6, 1, 720, 576, true⟩
  | 0x10 => some ⟨50, 1, 750, 7, 1, 1280, 720, false⟩
  | 0x11 => some ⟨60000, 1001, 750, 7, 1, 1280, 720, false⟩
  | 0x12 => some ⟨60, 1, 750, 7, 1, 1280, 720, false⟩
  | 0x20 => some ⟨25, 1, 1125, 7, 1, 1920, 1080, true⟩
  | 0x21 => some ⟨30000, 1001, 1125, 7, 1, 1920, 1080, true⟩
  | 0x22 => some ⟨30, 1, 1125, 7, 1, 1920, 1080, true⟩
  | 0x30 => some ⟨24000, 1001, 1125, 7, 1, 1920, 1080, false⟩
  | 0x31 => some ⟨24, 1, 1125, 7, 1, 1920, 1080, false⟩
  | 0x32 => some ⟨25, 1, 1125, 7, 1, 1920, 1080, false⟩
  | 0x33 => some ⟨30000, 1001, 1125, 7, 1, 1920, 1080, false⟩
  | 0x34 => some ⟨30, 1, 1125, 7, 1, 1920, 1080, false⟩
  | 0x38 => some ⟨50, 1, 1125, 7, 1, 1920, 1080, false⟩
  | 0x39 => some ⟨60000, 1001, 1125, 7, 1, 1920, 1080, false⟩
  | 0x3A => some ⟨60, 1, 1125, 7, 1, 1920, 1080, false⟩
  | 0x40 => some ⟨24000, 1001, 1125, 7, 2, 3840, 2160, false⟩
  | 0x41 => some ⟨24, 1, 1125, 7, 2, 3840, 2160, false⟩
  | 0x42 => some ⟨25, 1, 1125, 7, 2, 3840, 2160, false⟩
  | 0x43 => some ⟨30000, 1001, 1125, 7, 2, 3840, 2160, false⟩
  | 0x44 => some ⟨30, 1, 1125, 7, 2, 3840, 2160, false⟩
  | 0x48 => some ⟨50, 1, 1125, 7, 4, 3840, 2160, false⟩
  | 0x49 => some ⟨60000, 1001, 1125, 7, 4, 3840, 2160, false⟩
  | 0x4A => some ⟨60, 1, 1125, 7, 4, 3840, 2160, false⟩
  | _ => none

/-- The frame period in core cycles: 1.188 GHz divided by the frame rate, which is whole for every rate of
Table 9.7. -/
def Format.cycles (f : Format) : Nat := cyclesPerSec * f.den / f.num

/-- A /1.001 format. -/
def Format.ntsc (f : Format) : Bool := f.den = 1001

/-- VTG `v` is enabled (R244). -/
def State.vtgEn (s : State) (v : Nat) : Bool :=
  match idx? 32 v with
  | some v => s.live (.vtg v) VTG.VTG_CTRL_EN = 1
  | none => false

/-- The live FORMAT code of VTG `v`. -/
def State.vtgCode (s : State) (v : Nat) : Nat :=
  match idx? 32 v with
  | some v => s.live (.vtg v) VTG.VTG_CTRL_FORMAT
  | none => 0

/-- The live format of VTG `v`. -/
def State.vtgFormat (s : State) (v : Nat) : Option Format := format? (s.vtgCode v)

/-- The frame period of VTG `v`, in core cycles. -/
def State.vtgCycles (s : State) (v : Nat) : Nat :=
  match s.vtgFormat v with
  | some f => f.cycles
  | none => 0

end Sys2Proof.Machine
end

