-- ==== Sys2Proof/Machine/BitPlane.lean ====
section
/-! DEFINITION. The bit plane (chapter 4, R98 to R113). -/

namespace Sys2Proof.Machine

/-- Crosspoint source code of the serialiser. -/
def srcSerialiser : Nat := 0x800

/-- The source that the live entry of output `n` names: the serialiser, or its SRC code (R98). -/
def State.xbpWanted (s : State) (n : Nat) : Nat :=
  if s.tlive (TBL.XBP_ROUTE_SER.at n) = 1 then srcSerialiser else s.tlive (TBL.XBP_ROUTE_SRC.at n)

/-- The source at the crosspoint of output `n`. -/
def State.xbpSrc (s : State) (n : Nat) : Nat := s.xbp.src.get n 0x7FF

/-- The crosspoint of output `n` takes the source its live entry names; a change is counted (Table 4.7). -/
def State.xbpSwitch (s : State) (n : Nat) : State :=
  let w := s.xbpWanted n
  if s.xbpSrc n = w then s
  else ({ s with xbp := { s.xbp with src := s.xbp.src.set n w 0x7FF } } : State).add .xbp XBP.SWITCH_CNT 1

/-- Output `n` waits for no superframe boundary any longer. -/
def State.xbpUnwait (s : State) (n : Nat) : State := { s with xbp := { s.xbp with waits := s.xbp.waits.del n } }

/-- The lane of output `n`. -/
def outLane (n : Fin 1024) : LaneNo := ⟨n.val, by omega⟩

/-- The new source switches at a superframe boundary of its own: an Ignada lane in UP, or the serialiser (R107). -/
def State.xbpSuperframed (s : State) (src : Nat) : Bool :=
  if src = srcSerialiser then true
  else match idx? 1032 src with
    | some m => src < 1024 && s.rxIgn m && s.ign m = 4
    | none => false

/-- SER_IDLE of output `n` follows its condition, and is raised when the bit sets (R103). While FUNC_INIT of the XBP page
runs it waits for the completion (R113). -/
def State.serIdle (s : State) (n : Fin 1024) : State :=
  let c := s.tlive (TBL.XBP_ROUTE_SER.at n.val) = 1 && s.txMode true (outLane n) < 2
  let f := (XBP.SER_IDLE_IDLE.at (n.val / 32)).bit (n.val % 32)
  if (s.get .xbp f = 1) == c || s.busy.contains .xbp then s
  else
    let s := s.put .xbp f (b2n c)
    if c then s.raise .xbp XBP.INT_STAT_SER_IDLE else s

/-- The live entry of output `n` has changed: the crosspoint changes now, or waits for the superframe boundary; an
earlier wait is abandoned (R106 to R108). A live entry that selects a pattern source ends normal service (R111). -/
def State.xbpApplied (s : State) (n : Fin 1024) : State :=
  let s := s.serIdle n
  let w := s.xbpWanted n.val
  let s := if 0x400 ≤ w && w < 0x408 then s.unusual else s
  let s := if s.xbp.waits.get n.val 0 ≠ 0 then (s.xbpUnwait n.val).addSat .xbp XBP.IGN_ABANDON 1 else s
  if s.txMode true (outLane n) = 3 && s.xbpSuperframed w && s.xbpSrc n.val ≠ w then
    { s with xbp := { s.xbp with waits := s.xbp.waits.set n.val (s.now + 1) 0 } }
  else s.xbpSwitch n.val

/-- The serialiser of a lane sends training blocks (R85). -/
def State.serTrains (s : State) (n : LaneNo) : Bool :=
  s.txIgn n && s.live (.lane n) LANE.LANE_MODE_TRAIN_EN = 1 && s.trains n && [1, 2, 5, 6].contains (s.ign n)

/-- The superframe boundary of output `n` is reached (R107), whatever TX_MODE of its lane has become meanwhile.
(DESIGN CHOICE, notes/assumptions/123.md) -/
def State.xbpBoundary (s : State) (n : Fin 1024) : State :=
  let w := s.xbp.waits.get n.val 0
  if w = 0 then s
  else if s.xbpWanted n.val = srcSerialiser && s.serTrains (outLane n) then s
  else ((s.xbpUnwait n.val).xbpSwitch n.val).peak .xbp XBP.IGN_WAIT_MAX (s.now + 1 - w)

/-- The lane of a source code, if it is an XRX lane. -/
def srcLane (src : Nat) : Option LaneNo := if src < 1024 then idx? 1032 src else none

/-- The timing of a source is known (R109): an SDI lane in word lock, or an Ignada lane in UP with a VALID TMARK for tenon
0. -/
def State.timingKnown (s : State) (src : Nat) : Bool :=
  match srcLane src with
  | none => false
  | some m =>
    (s.rxMode true m = 2 && s.get (.lane m) LANE.LANE_STAT_WORD_LOCK = 1) ||
      (s.rxIgn m && s.ign m = 4 && bitAt (nth (s.lane m).tmark 0 0) 19 = 1)

/-- The frame rate of a source and the core cycle of the start of one of its switch lines, as the rows that brought its
lock or its sideband gave them (R109). (DEDUCED, notes/assumptions/46.md) -/
def State.srcTiming (s : State) (src : Nat) : Option (Nat × Nat × Nat) :=
  match srcLane src with
  | none => none
  | some m => (s.lane m).video.bind (fun x => (format? x.1).map (fun f => (f.num, f.den, x.2)))

/-- The signed distance from a periodic instant to `t`, in cycles: the nearest instant of `at_ + k × p`, minus `t`. -/
def nearest (at_ p t : Nat) : Int :=
  if p = 0 then 0
  else
    let d : Int := ((at_ : Int) - t) % p
    if d * 2 < p then d else d - p

/-- Set a bit of a per-output bitmap. -/
def State.xbpBit (s : State) (f : Fld) (n : Nat) (b : Bool) : State := s.put .xbp ((f.at (n / 32)).bit (n % 32)) (b2n b)

/-- ASYNC of output `n` becomes `b`, with its cause when it changes (R110). -/
def State.setAsync (s : State) (n : Nat) (b : Bool) : State :=
  if (s.get .xbp ((XBP.ASYNC_ASYNC.at (n / 32)).bit (n % 32)) = 1) == b then s
  else (s.xbpBit XBP.ASYNC_ASYNC n b).raise .xbp (if b then XBP.INT_STAT_ASYNC_SET else XBP.INT_STAT_ASYNC_CLR)

/-- The window of R110 in core cycles: 0 acts as 1 µs (Table 4.4). -/
def State.asyncWin (s : State) : Nat := max 1 (s.get .xbp XBP.XBP_CTRL_ASYNC_WIN) * cyclesPerUs

/-- Output `n` is evaluated as synchronous or not, with the offset of its source's switch line from T_FRM; PROBE_TIMING
follows when it is the probed output, and keeps its last value while the timing is not known.
(DESIGN CHOICE, notes/assumptions/124.md) -/
def State.timed (s : State) (n : Nat) (sync : Bool) (off : Int) : State :=
  let s := (s.xbpBit XBP.TIMING_UNK_UNK n false).setAsync n (!sync)
  if s.get .xbp XBP.PROBE_SEL = n then s.put .xbp XBP.PROBE_TIMING (wrap 32 off) else s

/-- Evaluate the timing of output `n` at a T_FRM[v] (R110). Where the timing is known and no row gave it, it is a free value.
(DEDUCED, notes/assumptions/46.md; DESIGN CHOICE, notes/assumptions/47.md) -/
def State.evalTiming (s : State) (v n : Nat) : State :=
  let src := s.xbpWanted n
  if !s.timingKnown src then (s.xbpBit XBP.TIMING_UNK_UNK n true).setAsync n false
  else match s.srcTiming src, s.vtgFormat v with
    | some (num, den, at_), some f =>
      let off := nearest at_ (cyclesPerSec * den / num) s.now
      s.timed n (num * f.den = f.num * den && off.natAbs ≤ s.asyncWin) off
    | _, _ =>
      let r := s.fresh
      let x := (Config.freeValue r.1 33).toNat
      r.2.timed n (bitAt x 32 = 1) (sgn 32 x)

/-- The outputs whose evaluation can change anything: those whose live entry is not the reset entry, whose ASYNC bit is
set or whose TIMING_UNK bit is clear. -/
def State.xbpActive (s : State) : List Nat :=
  let live := s.lv.filterMap (fun e => if 0x02000000 ≤ e.1 && e.1 < 0x02001000 then some ((e.1 - 0x02000000) / 4) else none)
  let base := Page.base .xbp
  let marked := s.sh.flatMap (fun e =>
    if base + 0x100 ≤ e.1 && e.1 < base + 0x180 then
      (List.range 32).filterMap (fun i => if e.2.getLsbD i then some ((e.1 - base - 0x100) * 8 + i) else none)
    else if base + 0x180 ≤ e.1 && e.1 < base + 0x200 then
      (List.range 32).filterMap (fun i => if e.2.getLsbD i then none else some ((e.1 - base - 0x180) * 8 + i))
    else [])
  (live ++ marked).foldl insertNat []

/-- The evaluation of R110 at a T_FRM[v]. -/
def State.xbpEvaluate (s : State) (v : Nat) : State :=
  (s.xbpActive.filter (fun n => s.tlive (TBL.XBP_ROUTE_VTG.at n) = v)).foldl (fun s n => s.evalTiming v n) s

/-- The addresses in `[lo, hi)` that the shadow or the live copy lists. -/
def State.listed (s : State) (lo hi : Nat) : List Nat :=
  ((s.sh ++ s.lv).filterMap (fun e => if lo ≤ e.1 && e.1 < hi then some e.1 else none)).foldl insertNat []

/-- The checks of R99 on the XBP page's shadow: does an arm of it fail? -/
def State.xbpBad (s : State) : Bool :=
  (s.listed 0x02000000 0x02001000).any (fun a =>
    let n := (a - 0x02000000) / 4
    let src := s.tget (TBL.XBP_ROUTE_SRC.at n)
    (0x408 ≤ src && src < 0x7FF) || (s.tget (TBL.XBP_ROUTE_SER.at n) = 1 && src ≠ 0x7FF))

/-- FUNC_INIT of the XBP page: every output is at electrical idle (R113). -/
def State.xbpStop (s : State) : State := { s with xbp := { s.xbp with src := [], waits := [] } }

/-- FUNC_INIT of the XBP page completes: ASYNC, TIMING_UNK and SER_IDLE as the reset entries give them (R113). -/
def State.xbpInit (s : State) : State :=
  let any := (List.range 32).any (fun w => s.get .xbp (XBP.ASYNC_ASYNC.at w) ≠ 0)
  let s := if any then s.raise .xbp XBP.INT_STAT_ASYNC_CLR else s
  let s := (List.range 32).foldl (fun s w => s.puts .xbp [(XBP.ASYNC_ASYNC.at w, 0), (XBP.TIMING_UNK_UNK.at w, 0xFFFFFFFF),
    (XBP.SER_IDLE_IDLE.at w, 0)]) s
  s.xbpStop

/-- XBP_PGEN[k] has been written: the source takes its user pattern (R111). -/
def State.pgenTaken (s : State) (k : Nat) : State :=
  let u := s.get .xbp (XBP.XBP_PGEN_USER_LO_PAT.at k) + s.get .xbp (XBP.XBP_PGEN_USER_HI_PAT.at k) * 2 ^ 32
  { s with xbp := { s.xbp with user := setNth s.xbp.user k u } }

end Sys2Proof.Machine
end

