-- ==== Sys2Proof/Machine/Brace.lean ====
section
/-! DEFINITION. The brace link (R114 to R124). -/

namespace Sys2Proof.Machine

/-- A 32-bit difference, signed. -/
def diff32 (a b : Nat) : Int := sgn 32 ((a + 2 ^ 32 - b % 2 ^ 32) % 2 ^ 32)

/-- The local cycle count (R117). -/
def State.localCount (s : State) : Nat := s.now % 2 ^ 32

/-- Brace lane `k`. -/
def braceLane (k : Fin 8) : LaneNo := ⟨1024 + k.val, by omega⟩

/-- The brace lanes. -/
def braceLanes : List (Fin 8) := [0, 1, 2, 3, 4, 5, 6, 7]

/-- BRC_CTRL.ROLE. -/
def State.role (s : State) : Nat := s.get .brc BRC.BRC_CTRL_ROLE

/-- The LANE_TAG that brace lane `k` of a twin of role `r` sends (R115). -/
def braceTag (r k : Nat) : Nat := 0xB000 + 0x100 * r + k

/-- Brace lane `k` is usable (R115). -/
def State.braceUsable (s : State) (k : Fin 8) : Bool :=
  s.ign (braceLane k) = 4 && s.get (.lane (braceLane k)) LANE.LANE_IGN_RXINFO_RXTAG = braceTag (1 - s.role) k.val

/-- The usable lanes. -/
def State.braceUp (s : State) : List (Fin 8) := braceLanes.filter s.braceUsable

/-- LINK_STATE. -/
def State.linkState (s : State) : Nat := s.get .brc BRC.BRC_STAT_LINK_STATE

/-- The comparison history is cleared (Table 4.9, R119). -/
def State.clearHistory (s : State) : State :=
  { s with brace := { s.brace with started := [], own := [], twin := [], seen := [], mismatch := false } }

/-- ALIGN is entered or begun again: round trips and the numbering start anew. -/
def State.enterAlign (s : State) : State :=
  let s := s.clearHistory
  { s with brace := { s.brace with trips := [], tripCnt := 0, smpNumbered := false, frmNumbered := [] } }.put .brc
    BRC.BRC_STAT_LINK_STATE 2

/-- MIN_LANES: 0 acts as 1, 9 to 15 as 8 (Table 4.10). -/
def State.minLanes (s : State) : Nat := max 1 (min 8 (s.get .brc BRC.BRC_CTRL_MIN_LANES))

/-- A lane in UP whose RXTAG is wrong is excluded: MISWIRE is raised when it becomes so, and MISWIRE_LOG follows the RXTAG
it shows (R115, Table 4.13). -/
def State.miswire (s : State) (k : Fin 8) : State :=
  let bad := s.ign (braceLane k) = 4 && !s.braceUsable k
  let tag := s.get (.lane (braceLane k)) LANE.LANE_IGN_RXINFO_RXTAG
  let was := s.brace.miswired.get k.val 0
  if !bad then { s with brace := { s.brace with miswired := s.brace.miswired.del k.val } }
  else if was = tag + 1 then s
  else
    let s := ({ s with brace := { s.brace with miswired := s.brace.miswired.set k.val (tag + 1) 0 } } : State).put .brc
      BRC.MISWIRE_LOG (k.val * 65536 + tag)
    if was = 0 then s.raise .brc BRC.INT_STAT_MISWIRE else s

/-- The link state follows BRC_CTRL.EN and the usable lanes (R115, R120, Table 4.9); while FUNC_INIT of the BRC page runs the
link is off (R124). -/
def State.linkUpdate (s : State) : State :=
  let s := braceLanes.foldl State.miswire s
  let before := popcount 8 (s.get .brc BRC.BRC_STAT_LANES_UP)
  let up := s.braceUp
  let s := s.put .brc BRC.BRC_STAT_LANES_UP (up.foldl (fun m k => m + 2 ^ k.val) 0)
  if s.get .brc BRC.BRC_CTRL_EN = 0 || s.busy.contains .brc then
    if s.linkState = 0 then s else s.clearHistory.put .brc BRC.BRC_STAT_LINK_STATE 0
  else
    let s := if s.linkState = 0 then s.put .brc BRC.BRC_STAT_LINK_STATE 1 else s
    if s.linkState = 1 then (if up.isEmpty then s else s.enterAlign)
    else if up.isEmpty then
      (s.clearHistory.put .brc BRC.BRC_STAT_LINK_STATE 1).raise .brc BRC.INT_STAT_BRACE_DOWN
    else if up.length < s.minLanes && s.minLanes ≤ before then s.raise .brc BRC.INT_STAT_DEGRADED
    else s

/-- BRC_CTRL.REALIGN (Table 4.9). -/
def State.linkRealign (s : State) : State := if 2 ≤ s.linkState then s.enterAlign else s

/-! ### Ticks and their numbers -/

/-- A T_SMP: its tick number and its instant (R117). -/
def State.braceSmp (s : State) : State :=
  let s := s.add .brc BRC.TNUM_SMP_TNUM 1
  { s with brace := { s.brace with
    smpAt := ((s.get .brc BRC.TNUM_SMP_TNUM, s.now) :: s.brace.smpAt).take 16 } }

/-- A T_FRM[v]: its tick number and its instant; on the follower a numbered tick starts the comparison (R122). -/
def State.braceFrm (s : State) (v : Nat) : State :=
  let s := s.add .brc (BRC.TNUM_FRM_TNUM.at v) 1
  let n := s.get .brc (BRC.TNUM_FRM_TNUM.at v)
  let b := s.brace
  let b := { b with frmAt := b.frmAt.set v (((n, s.now) :: b.frmAt.get v []).take 4) [] }
  let start := s.role = 1 && s.linkState = 3 && b.frmNumbered.contains v && !b.started.any (fun e => e.1 = v)
  { s with brace := if start then { b with started := b.started.set v (n + 1) 0 } else b }

/-- VTG `v` is enabled or disabled: its numbering and its comparison start again (R119, R122). -/
def State.braceVtg (s : State) (v : Nat) : State :=
  { s with brace := { s.brace with frmNumbered := s.brace.frmNumbered.filter (· != v), started := s.brace.started.del v } }

/-! ### Messages (R116 to R119, Table 4.8) -/

/-- A message with its CRC. -/
def braceSeal (p : Nat) : Nat := p + crc32 p 224 * 2 ^ 224

/-- The fields every message starts with. -/
def State.braceHead (s : State) (type : Nat) (k : Fin 8) : Nat := type + s.role * 16 + k.val * 256

/-- ECHO_TIME and ECHO_HOLD of a message sent now. Before any tick message has been received both are 0, which stands for
no echo. (DESIGN CHOICE, notes/assumptions/51.md) -/
def State.echoNow (s : State) : Nat × Nat :=
  match s.brace.echo with
  | some e => (e.1, (s.localCount + 2 ^ 32 - e.2) % 2 ^ 32)
  | none => (0, 0)

/-- The tick message sent on lane `k` now. (DESIGN CHOICE, notes/assumptions/115.md) -/
def State.tickMessage (s : State) (k : Fin 8) : Nat :=
  let at_ := (s.brace.smpAt.head?.getD (0, s.now)).2
  let e := s.echoNow
  braceSeal (s.braceHead 1 k + s.get .brc BRC.TNUM_SMP_TNUM * 2 ^ 16 + (s.now - at_) % 2 ^ 15 * 2 ^ 48 +
    s.localCount * 2 ^ 64 + e.1 * 2 ^ 96 + e.2 * 2 ^ 128)

/-- The idle message of lane `k`. -/
def State.idleMessage (s : State) (k : Fin 8) : Nat := braceSeal (s.braceHead 0 k)

/-- The lane sends message blocks: in SYNC or UP (R77). -/
def State.braceSends (s : State) (k : Fin 8) : Bool := s.ign (braceLane k) = 3 || s.ign (braceLane k) = 4

/-- A message slot without a record: from ALIGN on a tick message on every usable lane, and an idle message on every other
lane that sends messages (R116, Table 4.9). (DEDUCED, notes/assumptions/132.md) -/
def State.sendTicks (s : State) : State :=
  (braceLanes.filter s.braceSends).foldl (fun s k =>
    s.emit (.braceMsg k.val (if 2 ≤ s.linkState && s.braceUsable k then s.tickMessage k else s.idleMessage k))) s

/-- A mean that the spec states without a rounding. -/
def meanTrips (l : List Nat) : Nat := (openDiv 1 ((l.foldl (· + ·) 0 : Nat) : Int) (2 * l.length)).toNat

/-- A round trip is measured (R117). -/
def State.roundTrip (s : State) (d : Nat) : State :=
  let l := (d :: s.brace.trips).take 16
  let s : State := { s with brace := { s.brace with trips := l, tripCnt := s.brace.tripCnt + 1 } }
  s.puts .brc [(BRC.BRC_DELAY_D, meanTrips l),
    (BRC.DELAY_RANGE, sat 16 (l.foldl max 0) * 65536 + sat 16 (l.foldl min (2 ^ 32 - 1)))]

/-- A skew, with TICK_SKEW when it exceeds TOL (R118). -/
def State.setSkew (s : State) (f : Fld) (d : Int) : State :=
  let s := s.put .brc f (wrap 32 d)
  if s.get .brc BRC.BRC_CTRL_TOL < d.natAbs then s.raise .brc BRC.INT_STAT_TICK_SKEW else s

/-- The partner's tick instant nearest to own ticks: how many periods it lies from the own tick at `at_`, and whether
the distance to that own tick is at most 3/8 of the period (R119). -/
def numberTick (inst at_ p : Nat) : Int × Bool :=
  let d := diff32 inst at_
  let k := (d + p / 2) / p
  (k, (d - k * p).natAbs * 8 ≤ 3 * p)

/-- On the follower in ALIGN: number T_SMP from the leader's tick (R119). -/
def State.numberSmp (s : State) (inst tnum : Nat) : State :=
  if s.brace.smpNumbered then s
  else match s.brace.smpAt.head? with
    | none => s
    | some (_, at_) =>
      let r := numberTick inst (at_ % 2 ^ 32) 24750
      if r.2 then
        let n := wrap 32 ((tnum : Int) - r.1)
        { s.put .brc BRC.TNUM_SMP_TNUM n with brace := { s.brace with smpNumbered := true, smpAt := [(n, at_)] } }
      else s.raise .brc BRC.INT_STAT_ALIGN_FAIL

/-- The local count of the own tick numbered `n`: kept, or the last own tick plus the difference in tick numbers times the
nominal period `p`, as R122 predicts it (R118). (DEDUCED, notes/assumptions/50.md) -/
def ownInstant (l : List (Nat × Nat)) (n p : Nat) : Option Nat :=
  match l.find? (fun e => e.1 = n), l.head? with
  | some e, _ => some (e.2 % 2 ^ 32)
  | none, some e => some (wrap 32 ((e.2 : Int) + diff32 n e.1 * p))
  | none, none => none

/-- On the leader in ALIGN: T_SMP is aligned once a tick of the follower lies within 3/8 of the period of the own tick of
its number (R119). (DEDUCED, notes/assumptions/50.md) -/
def State.alignedSmp (s : State) (inst tnum : Nat) : State :=
  match ownInstant s.brace.smpAt tnum 24750 with
  | some at_ => if (diff32 inst at_).natAbs * 8 ≤ 3 * 24750 then { s with brace := { s.brace with smpNumbered := true } } else s
  | none => s

/-- A valid message carries the partner's ROLE: equal to the own one it is a conflict in ALIGN, and a change in UP
(Table 4.9). -/
def State.partnerRole (s : State) (r : Nat) : State :=
  let s := s.put .brc BRC.BRC_STAT_PARTNER_ROLE r
  let s := if s.linkState = 3 && r = s.role then s.enterAlign else s
  if s.linkState = 2 && r = s.role && s.get .brc BRC.BRC_STAT_ROLE_CONFLICT = 0 then
    (s.put .brc BRC.BRC_STAT_ROLE_CONFLICT 1).raise .brc BRC.INT_STAT_ROLE_CONFLICT
  else s

/-- A valid tick message, arrived at this cycle (R117 to R120). (DESIGN CHOICE, notes/assumptions/51.md) -/
def State.tickMsg (s : State) (p : Nat) : State :=
  let arr := s.localCount
  let tx := bits p 64 32
  if s.linkState < 2 then s
  else
    let s := if bits p 96 64 = 0 then s else s.roundTrip (((arr + 2 ^ 33 - bits p 96 32) - bits p 128 32) % 2 ^ 32)
    let s : State := { s with brace := { s.brace with echo := some (tx, arr) } }
    let d := s.get .brc BRC.BRC_DELAY_D
    let inst := (arr + 2 ^ 33 - d - bits p 48 15) % 2 ^ 32
    let tnum := bits p 16 32
    if s.linkState = 2 then
      if bits p 4 1 = s.role then s
      else
        let s := if s.brace.trips.isEmpty then s else if s.role = 1 then s.numberSmp inst tnum else s.alignedSmp inst tnum
        if 16 ≤ s.brace.tripCnt && s.brace.smpNumbered then
          (s.puts .brc [(BRC.BRC_STAT_ROLE_CONFLICT, 0), (BRC.BRC_STAT_LINK_STATE, 3)]).raise .brc BRC.INT_STAT_BRACE_UP
        else s
    else match ownInstant s.brace.smpAt tnum 24750 with
      | some at_ => s.setSkew BRC.SKEW_SMP_SKEW (diff32 inst at_)
      | none => s

/-! ### Records and comparison (R121 to R123) -/

/-- CRC-32 of a list of 32-bit words, each little-endian (R121). -/
def crcWords (l : List Nat) : Nat := l.foldl (fun c w => crcBits 0xEDB88320 c w 32) 0xFFFFFFFF ^^^ 0xFFFFFFFF

/-- The live entries of a table of one-word entries as R121's stream: index and word of those `q` selects. -/
def State.stream (s : State) (base stride words n : Nat) (q : Nat → Bool) : List Nat :=
  (List.range n).flatMap (fun i =>
    if q i then i :: (List.range words).map (fun w => (s.lword (base + stride * i + 4 * w)).toNat) else [])

/-- ROUTE_CRC of VTG `v`: the live entries of XBP, XWP and FLOWV bound to it (R121). -/
def State.routeCrc (s : State) (v : Nat) : Nat :=
  crcWords (s.stream 0x02000000 4 1 1024 (fun n => s.tlive (TBL.XBP_ROUTE_VTG.at n) = v) ++
    s.stream 0x02002000 4 1 2048 (fun d => s.tlive (TBL.XWP_ROUTE_VTG.at d) = v) ++
    s.stream 0x02020000 4 1 1024 (fun n => s.tlive (TBL.FLOWV_TXSEL_VTG.at n) = v))

/-- Index `i` of the audio route table holds an entry (R255). -/
def audIndex (i : Nat) : Bool := i < 0xC300 || 0xC800 ≤ i

/-- AUD_CRC: the whole live audio route table (R121). -/
def State.audCrc (s : State) : Nat := crcWords (s.stream 0x02050000 8 2 0xD000 audIndex)

/-- The AUD table is aligned to VTG `v`. -/
def State.audAligned (s : State) (v : Nat) : Bool :=
  s.live .aud AUD.AUD_CTRL_ALIGN_EN = 1 && s.live .aud AUD.AUD_CTRL_ALIGN_VTG = v

/-- The own frame record of VTG `v` as it is in the cycle of its tick, its AUD_CRC left open. -/
def State.frameRec (s : State) (v : Nat) : BraceRec :=
  { full := false, vtg := v, tnum := s.get .brc (BRC.TNUM_FRM_TNUM.at v), cmt := s.get .glb GLB.CMT_COUNT_COUNT,
    crcs := [s.routeCrc v], audValid := false, audCrc := 0 }

/-- AUD_VALID and AUD_CRC of a frame record, from the AUD table as it stands (R121). -/
def State.withAud (s : State) (r : BraceRec) : BraceRec :=
  if s.audAligned r.vtg then { r with audValid := true, audCrc := s.audCrc } else r

/-- The own full record as it is now. -/
def State.fullRec (s : State) : BraceRec :=
  { full := true, vtg := 0, tnum := s.get .brc BRC.TNUM_SMP_TNUM, cmt := s.get .glb GLB.CMT_COUNT_COUNT,
    crcs := [crcWords (s.stream 0x02000000 4 1 1024 (fun _ => true)), crcWords (s.stream 0x02002000 4 1 2048 (fun _ => true)),
      crcWords (s.stream 0x02020000 4 1 1024 (fun _ => true))],
    audValid := true, audCrc := s.audCrc }

/-- The payload that carries a record on lane `k`. -/
def State.recPayload (s : State) (r : BraceRec) (k : Fin 8) : Nat :=
  if r.full then
    braceSeal (s.braceHead 3 k + r.tnum * 2 ^ 32 + r.cmt * 2 ^ 64 + packWords (r.crcs ++ [r.audCrc]) * 2 ^ 96)
  else
    let at_ := ((s.brace.frmAt.get r.vtg []).head?.getD (0, s.now)).2
    braceSeal (s.braceHead 2 k + r.vtg * 2 ^ 16 + b2n r.audValid * 2 ^ 21 + r.tnum * 2 ^ 32 + r.cmt * 2 ^ 64 +
      packWords r.crcs * 2 ^ 96 + r.audCrc * 2 ^ 128 + (s.now - at_) % 2 ^ 32 * 2 ^ 160)

/-- Two records are of the same type, VTG and tick number. -/
def BraceRec.same (a b : BraceRec) : Bool := a.full == b.full && a.vtg = b.vtg && a.tnum = b.tnum

/-- A record is subject to comparison: full records in UP, frame records from their starting point (R122). -/
def State.compared (s : State) (r : BraceRec) : Bool :=
  s.linkState = 3 && (r.full || match s.brace.started.find? (fun e => e.1 = r.vtg) with
    | some (_, n) => 0 ≤ diff32 r.tnum (n - 1)
    | none => false)

/-- A mismatch (R123): `what` is BRC_DIV_INFO.WHAT. -/
def State.diverge (s : State) (r : BraceRec) (what own twin ownCrc twinCrc : Nat) : State :=
  let s := ((s.put .brc BRC.BRC_STAT_DIVERGED 1).raise .brc BRC.INT_STAT_TWIN_DIVERGE).addSat .brc BRC.DIV_CNT 1
  let s := if s.get .brc BRC.BRC_DIV_INFO_VALID = 1 then s
    else s.puts .brc [(BRC.BRC_DIV_INFO_VALID, 1), (BRC.BRC_DIV_INFO_KIND, b2n r.full), (BRC.BRC_DIV_INFO_VTG, r.vtg),
      (BRC.BRC_DIV_INFO_WHAT, what), (BRC.DIV_TNUM_TNUM, r.tnum), (BRC.DIV_OWN_CMT_CMT, own), (BRC.DIV_TWIN_CMT_CMT, twin),
      (BRC.DIV_OWN_CRC_CRC, ownCrc), (BRC.DIV_TWIN_CRC_CRC, twinCrc)]
  ({ s with brace := { s.brace with mismatch := true } } : State).fault .brc .contained 0 r.vtg

/-- The CRCs of two records that differ, first one first. -/
def firstDiff : List (Nat × Nat) → Option (Nat × Nat)
  | [] => none
  | e :: r => if e.1 = e.2 then firstDiff r else some e

/-- A pair of records is compared (R122, R123). -/
def State.comparePair (s : State) (own twin : BraceRec) : State :=
  let dCmt := own.cmt ≠ twin.cmt
  let dRoute := own.crcs ≠ twin.crcs
  let dAud := own.audValid ≠ twin.audValid || (own.audValid && own.audCrc ≠ twin.audCrc)
  let what := b2n dCmt + 2 * b2n dRoute + 4 * b2n dAud
  let dif := (firstDiff (List.zip (own.crcs ++ [own.audCrc]) (twin.crcs ++ [twin.audCrc]))).getD (0, 0)
  let s := s.add .brc BRC.REC_RX 1
  if what ≠ 0 then
    let s := s.diverge own what own.cmt twin.cmt dif.1 dif.2
    if own.full then { s with brace := { s.brace with mismatch := false } } else s
  else if own.full then
    let s := if !s.brace.mismatch && s.get .brc BRC.BRC_STAT_DIVERGED = 1 then
        (s.put .brc BRC.BRC_STAT_DIVERGED 0).raise .brc BRC.INT_STAT_AGREE
      else s
    { s with brace := { s.brace with mismatch := false } }
  else s

/-- A record of the own side has been sent: matched with a waiting record of the partner, or kept (R122). -/
def State.ownRecord (s : State) (r : BraceRec) : State :=
  match s.brace.twin.find? (fun x => x.same r) with
  | some t =>
    let s : State := { s with brace := { s.brace with twin := s.brace.twin.filter (fun x => !x.same r) } }
    if s.compared r then s.comparePair r t else s
  | none => { s with brace := { s.brace with own := r :: s.brace.own } }

/-- An own record is kept for its sending, in place of an earlier one of its source. -/
def State.keepRecord (s : State) (open_ : Bool) (r : BraceRec) : State :=
  let rest := s.brace.made.filter (fun e : Bool × BraceRec => !(e.2.full == r.full && e.2.vtg = r.vtg))
  { s with brace := { s.brace with made := rest ++ [(open_, r)] } }

/-- The frame record of a T_FRM[v], after every application due in its cycle (R121): the follower makes one only while
that tick is numbered. Its AUD_CRC waits for the first T_SMP from then, which may have fallen in this cycle.
(DEDUCED, notes/assumptions/52.md) -/
def State.makeFrame (s : State) (v : Nat) : State :=
  if s.linkState < 2 || (s.role = 1 && !s.brace.frmNumbered.contains v) then s
  else if s.brace.smpAt.head?.any (fun x => x.2 = s.now) then s.keepRecord false (s.withAud (s.frameRec v))
  else s.keepRecord true (s.frameRec v)

/-- At a T_SMP the frame records that wait for it take their AUD_CRC, and a full record is made when the tick number is
a multiple of 48,000 (R121). (DEDUCED, notes/assumptions/52.md) -/
def State.makeFull (s : State) : State :=
  if s.linkState < 2 then s
  else
    let made := s.brace.made.map (fun e : Bool × BraceRec => if e.1 then (false, s.withAud e.2) else e)
    let s : State := { s with brace := { s.brace with made := made } }
    if s.get .brc BRC.TNUM_SMP_TNUM % 48000 = 0 then s.keepRecord false s.fullRec else s

/-- A computed record is sent on every usable lane, once it has its AUD_CRC where it needs one (R116, R121). -/
def State.sendRecord (s : State) (full : Bool) (v : Nat) : State :=
  match s.brace.made.find? (fun e => e.2.full == full && (full || e.2.vtg = v) && !(e.1 && s.audAligned v)) with
  | none => s
  | some e =>
    let r := e.2
    let s : State := { s with brace := { s.brace with made := s.brace.made.filter (· ≠ e) } }
    if s.linkState < 2 then s
    else
      let s := s.braceUp.foldl (fun s k => s.emit (.braceMsg k.val (s.recPayload r k))) s
      let s := s.add .brc BRC.REC_TX 1
      if s.linkState = 3 then s.ownRecord r else s

/-- On the follower: number T_FRM[v] from the leader's frame record (R119). -/
def State.numberFrm (s : State) (v inst tnum : Nat) : State :=
  if s.role = 0 || s.brace.frmNumbered.contains v then s
  else match (s.brace.frmAt.get v []).head? with
    | none => s
    | some (_, at_) =>
      let p := s.vtgCycles v
      if p = 0 then s
      else
        let r := numberTick inst (at_ % 2 ^ 32) p
        if r.2 then
          let n := wrap 32 ((tnum : Int) - r.1)
          { s.put .brc (BRC.TNUM_FRM_TNUM.at v) n with brace := { s.brace with
            frmNumbered := insertNat s.brace.frmNumbered v, frmAt := s.brace.frmAt.set v [(n, at_)] [] } }
        else s.raise .brc BRC.INT_STAT_ALIGN_FAIL

/-- The last own tick of a record's source, and the source's nominal period. -/
def State.ownTick (s : State) (r : BraceRec) : Option (Nat × Nat × Nat) :=
  if r.full then s.brace.smpAt.head?.map (fun e => (e.1, e.2, 24750))
  else (s.brace.frmAt.get r.vtg []).head?.map (fun e => (e.1, e.2, s.vtgCycles r.vtg))

/-- The own tick of a partner record is predicted more than 2 ms after the record's arrival (R122). -/
def State.tooEarly (s : State) (r : BraceRec) : Bool :=
  match s.ownTick r with
  | none => false
  | some (n, at_, p) => (s.now : Int) + 2376000 < at_ + diff32 r.tnum n * p

/-- A partner record that R122 takes in: compared, or kept for the own record. -/
def State.twinRecord (s : State) (r : BraceRec) : State :=
  if s.linkState = 3 && !r.full && !s.vtgEn r.vtg then s.diverge r 8 0 r.cmt 0 (r.crcs.headD 0)
  else if !s.compared r then s
  else match s.brace.own.find? (fun x => x.same r) with
    | some o =>
      ({ s with brace := { s.brace with own := s.brace.own.filter (fun x => !x.same r) } } : State).comparePair o r
    | none =>
      if s.tooEarly r then s.diverge r 8 0 r.cmt 0 (r.crcs.headD 0)
      else { s with brace := { s.brace with twin := r :: s.brace.twin } }

/-- The record a payload carries. -/
def readRec (p : Nat) : BraceRec :=
  if bits p 0 4 = 3 then
    { full := true, vtg := 0, tnum := bits p 32 32, cmt := bits p 64 32,
      crcs := [bits p 96 32, bits p 128 32, bits p 160 32], audValid := true, audCrc := bits p 192 32 }
  else
    { full := false, vtg := bits p 16 5, tnum := bits p 32 32, cmt := bits p 64 32, crcs := [bits p 96 32],
      audValid := bits p 21 1 = 1, audCrc := bits p 128 32 }

/-- A valid record of the partner: the first copy acts, later copies are ignored (R116, R118, R119, R122). -/
def State.recMsg (s : State) (p : Nat) : State :=
  let r := readRec p
  let key := (r.full, r.vtg, r.tnum)
  if s.linkState < 2 || s.brace.seen.contains key then s
  else
    let s : State := { s with brace := { s.brace with seen := (key :: s.brace.seen).take 256 } }
    let inst := (s.localCount + 2 ^ 33 - s.get .brc BRC.BRC_DELAY_D - bits p 160 32) % 2 ^ 32
    let s := if r.full || s.brace.trips.isEmpty then s else s.numberFrm r.vtg inst r.tnum
    let start := !r.full && s.role = 0 && s.linkState = 3 && s.vtgEn r.vtg && !s.brace.started.any (fun e => e.1 = r.vtg)
    let s : State := if start then { s with brace := { s.brace with started := s.brace.started.set r.vtg (r.tnum + 1) 0 } } else s
    let s := if !r.full && s.compared r then
        match ownInstant (s.brace.frmAt.get r.vtg []) r.tnum (s.vtgCycles r.vtg) with
        | some at_ => s.setSkew (BRC.SKEW_FRM_SKEW.at r.vtg) (diff32 inst at_)
        | none => s
      else s
    s.twinRecord r

/-- A brace message has arrived on lane `k`; `p` is its payload after descrambling (R116). -/
def State.braceMessage (s : State) (k : Fin 8) (p : Nat) : State :=
  if !s.braceUsable k then s
  else if crc32 p 224 ≠ bits p 224 32 || bits p 8 8 ≠ k.val then s.addSat .brc BRC.MSG_ERR 1
  else
    let s := s.partnerRole (bits p 4 1)
    match bits p 0 4 with
    | 1 => s.tickMsg p
    | 2 => s.recMsg p
    | 3 => s.recMsg p
    | _ => s

/-- An own record is still unmatched 2 ms after its tick (R122). -/
def State.recordTimeout (s : State) (full : Bool) (v tnum : Nat) : State :=
  match s.brace.own.find? (fun x => x.full == full && x.vtg = v && x.tnum = tnum) with
  | none => s
  | some r =>
    let c := s.compared r
    let s : State := { s with brace := { s.brace with own := s.brace.own.filter (fun x => !x.same r) } }
    if c then s.diverge r 8 r.cmt 0 (r.crcs.headD 0) 0 else s

/-- FUNC_INIT of the BRC page: the link is off, and history and divergence are cleared (R124). -/
def State.brcInit (s : State) : State :=
  (s.clearHistory.puts .brc [(BRC.BRC_STAT_LINK_STATE, 0), (BRC.BRC_STAT_DIVERGED, 0), (BRC.BRC_DIV_INFO_VALID, 0),
    (BRC.BRC_DIV_INFO_KIND, 0), (BRC.BRC_DIV_INFO_VTG, 0), (BRC.BRC_DIV_INFO_WHAT, 0), (BRC.DIV_TNUM_TNUM, 0),
    (BRC.DIV_OWN_CMT_CMT, 0), (BRC.DIV_TWIN_CMT_CMT, 0), (BRC.DIV_OWN_CRC_CRC, 0), (BRC.DIV_TWIN_CRC_CRC, 0)])

end Sys2Proof.Machine
end

