-- ==== Sys2Proof/Machine/Refs.lean ====
section
/-! DEFINITION. References, DPLLs and timing generators (chapter 9), and the grid media times of R225. -/

namespace Sys2Proof.Machine

/-! ### Exact fractions -/

/-- A fraction `n / d` of nanoseconds. -/
structure Frac where
  n : Int
  d : Nat
  deriving DecidableEq, Repr

/-- Sum of two fractions. -/
def Frac.add (x y : Frac) : Frac := ⟨x.n * y.d + y.n * x.d, x.d * y.d⟩

/-- A fraction times an integer. -/
def Frac.scale (x : Frac) (k : Int) : Frac := ⟨x.n * k, x.d⟩

/-- floor(x × num / den). -/
def Frac.floorMul (x : Frac) (num den : Nat) : Int := x.n * num / (x.d * den : Nat)

/-- x reduced modulo p, into 0 to p. -/
def Frac.mod (x p : Frac) : Frac := ⟨(x.n * p.d) % (p.n * x.d), x.d * p.d⟩

/-- The sign of x - y is negative or zero: x ≤ y. -/
def Frac.le (x y : Frac) : Bool := x.n * y.d ≤ y.n * x.d

/-- A time in 2^-40 ns. -/
def Frac.ofTime (x : Int) : Frac := ⟨x, nsUnit⟩

/-- x - y. -/
def Frac.sub (x y : Frac) : Frac := x.add (y.scale (-1))

/-- x reduced to the range -p/2 to +p/2. -/
def Frac.wrapTo (x p : Frac) : Frac :=
  let r := x.mod p
  if (r.scale 2).le p then r else r.sub p

/-- The size of x. -/
def Frac.abs (x : Frac) : Frac := ⟨x.n.natAbs, x.d⟩

/-- In 2^-40 ns, by an open rounding. -/
def Frac.toTime (x : Frac) (site : Nat) : Int := openDiv site (x.n * nsUnit) x.d

/-! ### Rates -/

/-- The rate of a RATE code (Table 9.6), as a fraction of 1 Hz: numerator, denominator. -/
def refRate (code : Nat) : Option (Nat × Nat) :=
  match code with
  | 0x0 => some (1, 1)
  | 0x1 => some (24000, 1001)
  | 0x2 => some (24, 1)
  | 0x3 => some (25, 1)
  | 0x4 => some (30000, 1001)
  | 0x5 => some (30, 1)
  | 0x6 => some (48000, 1001)
  | 0x7 => some (48, 1)
  | 0x8 => some (50, 1)
  | 0x9 => some (60000, 1001)
  | 0xA => some (60, 1)
  | 0xB => some (48000, 1)
  | _ => none

/-- A RATE code that DPLL `k` may follow (Table 9.1). -/
def rateFor (k code : Nat) : Bool :=
  let ntsc := code = 1 || code = 4 || code = 6 || code = 9
  match k with
  | 0 => code ≤ 0xA && !ntsc
  | 1 => ntsc
  | 2 => code ≤ 0xB && !ntsc
  | _ => code ≤ 0xB

/-- What candidate `c` holds. -/
def State.cand (s : State) (c : Nat) : RefCand := s.cands.get c RefCand.init

/-- Change what candidate `c` holds. -/
def State.modCand (s : State) (c : Nat) (f : RefCand → RefCand) : State :=
  { s with cands := s.cands.set c (f (s.cand c)) RefCand.init }

/-- DPLL `k`. -/
def State.dpll (s : State) (k : Nat) : Dpll := s.dplls.get k Dpll.init

/-- Change DPLL `k`. -/
def State.modDpll (s : State) (k : Nat) (f : Dpll → Dpll) : State :=
  { s with dplls := s.dplls.set k (f (s.dpll k)) Dpll.init }

/-- VTG `v`. -/
def State.vtgRun (s : State) (v : Nat) : Vtg := s.vtgs.get v Vtg.init

/-- Set VTG `v`. -/
def State.setVtg (s : State) (v : Nat) (x : Vtg) : State := { s with vtgs := s.vtgs.set v x Vtg.init }

/-- A live field of CAND_CFG[c]. -/
def State.candCfg (s : State) (f : Fld) (c : Nat) : Nat := s.live .ref (f.at c)

/-- AVG of candidate `c` in core cycles; 0 acts as 1 (Table 9.9). -/
def State.avgCycles (s : State) (c : Nat) : Nat := max 1 (s.candCfg REF.CAND_CFG_AVG c) * cyclesPerSec

/-- CAND_OFS[c] in ns; candidate 26 has none. -/
def State.candOfs (s : State) (c : Nat) : Int := if c < 26 then sgn 32 (s.live .ref (REF.CAND_OFS_OFS.at c)) else 0

/-- The rank of candidate `c` for DPLL `k` (R231). -/
def State.rank (s : State) (lv : Bool) (k c : Nat) : Nat :=
  bits (if lv then s.live .ref (REF.PRIO.at2 k (c / 8)) else s.get .ref (REF.PRIO.at2 k (c / 8))) (4 * (c % 8)) 4

/-- The lane that monitor `c` - 10 watches. -/
def State.monitor (s : State) (c : Nat) : Nat := s.live .ref (REF.LMON_LANE.at (c - 10))

/-- SEL of DPLL `k`; none with 0x1F. -/
def State.selected (s : State) (k : Nat) : Option Nat :=
  let x := s.get .ref (REF.DPLL_STAT_SEL.at k)
  if x < 27 then some x else none

/-- Candidate `c` is of a kind and family that DPLL `k` may select (Table 9.1). -/
def State.allowed (s : State) (k c : Nat) : Bool :=
  if c < 8 then rateFor k (s.candCfg REF.CAND_CFG_RATE c)
  else if c < 10 || c = 26 then true
  else match s.srcTiming (s.monitor c) with
    | some (_, den, _) => k = 3 || (if k = 1 then den = 1001 else den = 1)
    | none => false

/-- Candidate `c` is eligible for DPLL `k` (R231). -/
def State.eligible (s : State) (k c : Nat) : Bool :=
  s.rank true k c ≠ 0 && s.get .ref (REF.CAND_STAT_QUAL.at c) = 1 && s.get .ref (REF.CAND_STAT_WAITING.at c) = 0 &&
    s.allowed k c

/-- CAND_FREQ[c], 0.001 ppm. -/
def State.candFreq (s : State) (c : Nat) : Int := sgn 32 (s.get .ref (REF.CAND_FREQ_FREQ.at c))

/-! ### DPLL time and frequency -/

/-- The output offset of DPLL `k`, 0.001 ppm. -/
def State.dpllFreq (s : State) (k : Nat) : Int := sgn 32 (s.get .ref (REF.DPLL_FREQ_FREQ.at k))

/-- STATE of DPLL `k`: 0 FREE_RUN, 1 ACQUIRING, 2 LOCKED, 3 HOLDOVER. -/
def State.dpllState (s : State) (k : Nat) : Nat := s.get .ref (REF.DPLL_STAT_STATE.at k)

/-- What `n` core cycles bring at an offset of `freq` from the nominal SYSCLK rate, in ns: 1/1.188 ns each. -/
def cyclesAt (n freq : Int) : Frac := ⟨n * 250 * (1000000000 + freq), 297000000000⟩

/-- τ of DPLL `k` now, in 2^-40 ns (R242). (DESIGN CHOICE, notes/assumptions/68.md) -/
def State.tau (s : State) (k : Nat) : Int :=
  let x := s.dpll k
  let d := cyclesAt ((s.now : Int) - x.at_) (s.dpllFreq k)
  x.tau + openDiv 3 (d.n * nsUnit) d.d

/-- Move τ of DPLL `k` on to now, and open a new stretch of its history. -/
def State.dpllMark (s : State) (k : Nat) (freq : Int) (locked : Bool) : State :=
  let t := s.tau k % (1001 * 1000000000 * nsUnit : Nat)
  let old := s.now - 320 * cyclesPerSec
  let h := (s.now, freq, locked) :: (s.dpll k).hist
  let fresh := h.takeWhile (fun e => old < e.1)
  (s.modDpll k (fun x => { x with tau := t, at_ := s.now, hist := fresh ++ (h.drop fresh.length).take 1 })).put .ref
    (REF.DPLL_FREQ_FREQ.at k) (wrap 32 freq)

/-- Set the output frequency of DPLL `k`. -/
def State.setFreq (s : State) (k : Nat) (f : Int) : State :=
  if s.dpllFreq k = f then s else s.dpllMark k f (s.dpllState k = 2)

/-- Enter a state of Table 9.5, with HIST, STATE_CHG, HOLDOVER, and DPLL_UNLOCK of the VTGs when LOCKED is left
(R239, R246). -/
def State.setDpll (s : State) (k st : Nat) : State :=
  let old := s.dpllState k
  if old = st then s
  else
    let s := (s.put .ref (REF.DPLL_STAT_STATE.at k) st).put .ref ((REF.DPLL_HIST_HIST.at k).bit st) 1
    let s := s.raise .ref (REF.INT_STAT_STATE_CHG0.bit (4 * k))
    let s := if st = 3 then s.raise .ref (REF.INT_STAT_HOLDOVER0.bit (4 * k)) else s
    let s := s.dpllMark k (s.dpllFreq k) (st = 2)
    if old = 2 && k < 2 then
      (List.finRange 32).foldl (fun s v =>
        match s.vtgFormat v.val with
        | some f => if s.vtgEn v.val && f.ntsc == (k = 1) then s.raise (.vtg v) VTG.INT_STAT_DPLL_UNLOCK else s
        | none => s) s
    else s

/-- Change SEL of DPLL `k` (R239). -/
def State.setSel (s : State) (k : Nat) (c : Option Nat) : State :=
  let x := c.getD 0x1F
  if s.get .ref (REF.DPLL_STAT_SEL.at k) = x then s
  else (((s.put .ref (REF.DPLL_STAT_SEL.at k) x).add .ref (REF.SEL_CNT.at k) 1).put .ref
    ((REF.DPLL_HIST_HIST.at k).bit 5) 1).raise .ref (REF.INT_STAT_SEL_CHG0.bit (4 * k))

/-- The mean output frequency over the LOCKED part of a window of core cycles: the sum of frequency times cycles, and
the cycles (R238). (DESIGN CHOICE, notes/assumptions/72.md) -/
def lockedMean (hist : List (Nat × Int × Bool)) (lo hi now : Nat) : Int × Nat :=
  (hist.foldl (fun (acc : (Int × Nat) × Nat) e =>
    let a := max lo e.1
    let b := min hi acc.2
    let n := b - a
    (if e.2.2 then (acc.1.1 + e.2.1 * n, acc.1.2 + n) else acc.1, e.1)) ((0, 0), now)).1

/-- DPLL `k` loses its selection, candidate `c` (R238). -/
def State.dpllLose (s : State) (k c : Nat) : State :=
  let hi := s.now - s.avgCycles c
  let lo := hi - max 1 (s.live .ref (REF.DPLL_CTRL2_HO_AVG.at k)) * cyclesPerSec
  let m := lockedMean (s.dpll k).hist lo hi s.now
  let s := (s.modDpll k (fun x => { x with held := some s.now, within := none, beyond := none })).setSel k none
  if m.2 = 0 then (s.setDpll k 0).setFreq k 0
  else
    let f := openDiv 4 m.1 m.2
    ((s.put .ref (REF.HOLD_FREQ_FREQ.at k) (wrap 32 f)).setDpll k 3).setFreq k f

/-! ### Offered phases (Table 9.3, R240, R242) -/

/-- P_ref of candidate `c`, in ns. -/
def State.pRef (s : State) (c : Nat) : Option Frac :=
  if c < 8 then (refRate (s.candCfg REF.CAND_CFG_RATE c)).map (fun r => ⟨1000000000 * r.2, r.1⟩)
  else if c < 10 then some ⟨1001000000000, 1⟩
  else if c < 26 then (s.srcTiming (s.monitor c)).map (fun t => ⟨1000000000 * t.2.1, t.1⟩)
  else some ⟨1001000000000, 1⟩

/-- The lowest-numbered enabled VTG of a video DPLL. -/
def State.dpllVtg (s : State) (k : Nat) : Option Nat :=
  (List.range 32).find? (fun v => s.vtgEn v && (match s.vtgFormat v with | some f => f.ntsc == (k = 1) | none => false))

/-- The last event that candidate `c` has offered DPLL `k`. -/
def State.lastOffer (s : State) (k c : Nat) : Option Offer := (s.cand c).offers.get k none

/-- Candidate `c` offers DPLL `k` the τ `o` now (Table 9.3). -/
def State.offerEvent (s : State) (k c : Nat) (o : Frac) : State :=
  let e : Offer := ⟨s.now, s.tau k, o.n, o.d⟩
  s.modCand c (fun x => { x with offers := x.offers.set k (some e) none })

/-- The τ that candidate `c` offers DPLL `k` now, in ns, modulo its P_ref: what its last event offered, carried on at its
measured rate. The start of line 1 of a monitored lane, and a grid instant of a DPLL without a running VTG, have no row: there the
time goes on from the lane's lock, or is media time. (DESIGN CHOICE, notes/assumptions/69.md) -/
def State.offered (s : State) (k c : Nat) : Option Frac :=
  let since := fun (t0 : Nat) => cyclesAt ((s.now : Int) - t0) (s.candFreq c)
  match s.lastOffer k c with
  | some o => some ((Frac.mk o.num o.den).add (since o.at_))
  | none =>
    if c < 8 then none
    else if c < 10 then some ((Frac.ofTime s.mt).sub ⟨s.candOfs c, 1⟩)
    else if c < 26 then
      match s.srcTiming (s.monitor c), (s.lane (match idx? 1032 (s.monitor c) with | some n => n | none => 0)).video with
      | some (_, _, at_), some (code, _) =>
        (format? code).map (fun f =>
          ((since at_).add (Frac.scale ⟨1000000000 * f.den, f.num * f.lines⟩ (f.sw - 1))).add ⟨s.candOfs c, 1⟩)
      | _, _ => none
    else
      let skew := if k = 2 then some (sgn 32 (s.get .brc BRC.SKEW_SMP_SKEW))
        else (s.dpllVtg k).map (fun v => sgn 32 (s.get .brc (BRC.SKEW_FRM_SKEW.at v)))
      skew.map (fun x => (Frac.ofTime (s.tau k)).add (cyclesAt x 0))

/-- The phase error e of DPLL `k` against candidate `c`, in ns: its own τ at the offered event less the τ offered (R240). -/
def State.phaseErr (s : State) (k c : Nat) : Option Frac :=
  match s.pRef c, s.lastOffer k c, s.offered k c with
  | some p, some o, _ => some (((Frac.ofTime o.tau).sub ⟨o.num, o.den⟩).wrapTo p)
  | some p, none, some o => some (((Frac.ofTime (s.tau k)).sub o).wrapTo p)
  | _, _, _ => none

/-- The distance of DPLL `k`'s τ now from what candidate `c` offers now (R242). -/
def State.phaseNow (s : State) (k c : Nat) : Option Frac :=
  match s.pRef c, s.offered k c with
  | some p, some o => some (((Frac.ofTime (s.tau k)).sub o).wrapTo p)
  | _, _ => none

/-- LOCK_TOL of DPLL `k` in ns; 0 acts as 1. -/
def State.lockTol (s : State) (k : Nat) : Nat := max 1 (s.live .ref (REF.DPLL_CTRL_LOCK_TOL.at k)) * 10

/-- PULL_LIM of DPLL `k` in 0.001 ppm, 1 to 10,000 steps of 0.01 ppm. -/
def State.pullLim (s : State) (k : Nat) : Nat := min 10000 (max 1 (s.live .ref (REF.DPLL_CTRL_PULL_LIM.at k))) * 10

/-- Since when a condition that is judged now has held. -/
def sinceWhen (o : Option Nat) (now : Nat) (b : Bool) : Option Nat := if b then o.or (some now) else none

/-- The frequency and DPLL_PHERR of DPLL `k` while it follows a candidate, with how long e has stayed within LOCK_TOL and beyond
4 LOCK_TOL, or for the network DPLL its frequency within 0.01 ppm of the candidate's (R239 to R241). Inside LOCK_TOL the loop's
output is stated only to lie within PULL_LIM of the candidate's: a free value there.
(DESIGN CHOICE, notes/assumptions/69.md) -/
def State.follow (s : State) (k : Nat) : State :=
  if s.dpllState k ≠ 1 && s.dpllState k ≠ 2 then s
  else match s.selected k with
    | none => s
    | some c =>
      let f := s.candFreq c
      if k = 3 then
        let s := s.setFreq k (clamp (-50000) 50000 f)
        s.modDpll k (fun x => { x with within := sinceWhen x.within s.now (f.natAbs ≤ 50000) })
      else match s.phaseErr k c with
        | none => s
        | some e =>
          let s := s.put .ref (REF.DPLL_PHERR_E.at k) (wrap 32 (openDiv 5 e.n e.d))
          let s := s.modDpll k (fun x => { x with
            within := sinceWhen x.within s.now (e.abs.le ⟨s.lockTol k, 1⟩),
            beyond := sinceWhen x.beyond s.now (!e.abs.le ⟨4 * s.lockTol k, 1⟩) })
          let lim := s.pullLim k
          if s.dpllState k = 1 && !(e.abs.le ⟨s.lockTol k, 1⟩) then
            s.setFreq k (if 0 < e.n then f - lim else f + lim)
          else
            let r := s.fresh
            (r.2.modDpll k (fun x => { x with loose := true })).setFreq k
              (f + ((Config.freeValue r.1 32).toNat % (2 * lim + 1) : Nat) - lim)

/-- The DPLLs that follow candidate `c` take what it offers now. -/
def State.followers (s : State) (c : Nat) : State :=
  [0, 1, 2, 3].foldl (fun s k => if s.selected k = some c then s.follow k else s) s

/-- Every VTG of DPLL `k` realigns (R242, R247). -/
def State.realignVtg (s : State) (v : Fin 32) : State :=
  let x := s.vtgRun v.val
  if x.start.isNone then s
  else ((s.setVtg v.val { x with realign := true }).raise (.vtg v) VTG.INT_STAT_REALIGN).addSat (.vtg v) VTG.REALIGN_CNT 1

/-- A step of τ under ACQ_STEP: τ takes the offered value, the nearest equivalent, and the VTGs of the DPLL realign; the next
T_SMP of the audio DPLL comes 24,750 core cycles after the last or later (R242). What the candidates have offered stands against
the new τ. -/
def State.tauStep (s : State) (k c : Nat) : State :=
  match (if k < 3 then s.phaseNow k c else none) with
  | none => s
  | some e =>
    let d := e.toTime 6
    let s := s.modDpll k (fun x => { x with tau := x.tau - d, loose := false, stepped := true })
    let s : State := { s with cands := s.cands.map (fun x => (x.1, { x.2 with
      offers := x.2.offers.map (fun o => if o.1 = k then (o.1, o.2.map (fun y => { y with tau := y.tau - d })) else o) })) }
    (List.finRange 32).foldl (fun s v =>
      match s.vtgFormat v.val with
      | some f => if s.vtgEn v.val && k < 2 && f.ntsc == (k = 1) then s.realignVtg v else s
      | none => s) s

/-- DPLL `k` takes candidate `c`: ACQUIRING (Table 9.5). -/
def State.dpllTake (s : State) (k c : Nat) : State :=
  let step := s.dpllState k = 0 && s.live .ref (REF.DPLL_CTRL_ACQ_STEP.at k) = 1
  let s := ((s.setSel k (some c)).setDpll k 1).modDpll k (fun x => { x with within := none, beyond := none })
  let s := if step then (s.dpllMark k (s.candFreq c) false).tauStep k c else s
  s.follow k

/-- The best-ranked eligible candidate of DPLL `k`, the lowest `c` among equals. -/
def State.bestCand (s : State) (k : Nat) : Option Nat :=
  (List.range 27).foldl (fun best c =>
    if !s.eligible k c then best
    else match best with
      | none => some c
      | some b => if s.rank true k c < s.rank true k b then some c else best) none

/-- R236 for DPLL `k`. -/
def State.reselect (s : State) (k : Nat) : State :=
  match s.selected k with
  | some c =>
    if s.eligible k c then
      match s.bestCand k with
      | some b =>
        if s.live .ref (REF.DPLL_CTRL_REVERT.at k) = 1 && s.rank true k b < s.rank true k c then s.dpllTake k b else s
      | none => s
    else s.dpllLose k c
  | none =>
    if (s.dpll k).held.isSome then s
    else match s.bestCand k with
      | some c => s.dpllTake k c
      | none => s

/-- The DPLLs. -/
def allDplls : List Nat := [0, 1, 2, 3]

/-! ### Disagreement (R237) -/

/-- Two candidates disagree for DPLL `k`. -/
def State.disagree (s : State) (k a b : Nat) : Bool :=
  10 * s.live .ref (REF.DPLL_CTRL2_DIS_THR.at k) < (s.candFreq a - s.candFreq b).natAbs ||
  (k < 3 && (match s.offered k a, s.offered k b, s.pRef a, s.pRef b with
    | some x, some y, some p, some q =>
      let m := if p.le q then p else q
      !((x.sub y).wrapTo m).abs.le ⟨1000 * s.live .ref (REF.DPLL_CTRL2_DIS_PH.at k), 1⟩
    | _, _, _, _ => false))

/-- Some pair of eligible candidates of the selected candidate's rank disagrees. -/
def State.anyDisagree (s : State) (k : Nat) : Bool :=
  match s.selected k with
  | none => false
  | some c =>
    let l := (List.range 27).filter (fun d => s.eligible k d && s.rank true k d = s.rank true k c)
    l.any (fun a => l.any (fun b => a < b && s.disagree k a b))

/-- While a pair disagrees WAS_DISAGREE is set, and DIS_LIVE, with its cause when it rises (R237). -/
def State.disagreeSet (s : State) (k : Nat) : State :=
  if !s.anyDisagree k then s
  else
    let s := (s.put .ref ((REF.DPLL_HIST_HIST.at k).bit 4) 1).modDpll k (fun x => { x with disAt := s.now })
    if s.get .ref (REF.DPLL_STAT_DIS_LIVE.at k) = 1 then s
    else (s.put .ref (REF.DPLL_STAT_DIS_LIVE.at k) 1).raise .ref (REF.INT_STAT_DISAGREE0.bit (4 * k))

/-- Re-evaluate every DPLL after a change of eligibility or rank, and what disagrees. -/
def State.refSettle (s : State) : State :=
  allDplls.foldl (fun s k => (s.reselect k).disagreeSet k) s

/-- Candidate `c` has offered an event, or its frequency has been measured: the DPLLs that select it follow. -/
def State.refSettleBy (s : State) (c : Nat) : State := s.refSettle.followers c

/-! ### Qualification (R232 to R235) -/

/-- The activity and period condition of a PTP, lane or brace candidate (Table 9.3). -/
def State.refAlive (s : State) (c : Nat) : Bool :=
  if c = 8 then s.servo 0 = 2
  else if c = 9 then s.servo 1 = 2
  else if c < 26 then (s.srcTiming (s.monitor c)).isSome
  else s.linkState = 3 && s.role = 1

/-- CAND_STAT follows the checks (R232, R233, R235): a check that began at `since` counts as passed after AVG.
(DEDUCED, notes/assumptions/70.md) -/
def State.qualify (s : State) (c : Nat) : State :=
  let x := s.cand c
  let on := s.candCfg REF.CAND_CFG_EN c = 1
  let held := fun (o : Option Nat) => match o with | some t => t + s.avgCycles c ≤ s.now | none => false
  let act := on && held x.actSince
  let per := on && held x.perSince
  let old := s.get .ref (REF.CAND_STAT_QUAL.at c) = 1
  let s := s.puts .ref [(REF.CAND_STAT_ACT_OK.at c, b2n act), (REF.CAND_STAT_PER_OK.at c, b2n per)]
  let q := act && per && s.get .ref (REF.CAND_STAT_FREQ_OK.at c) = 1
  if q == old then s
  else if q then
    let s := (s.put .ref (REF.CAND_STAT_QUAL.at c) 1).modCand c (fun y => { y with had := true, waitAt := s.now })
    let s := s.put .ref (REF.CAND_STAT_WAITING.at c) (b2n x.had)
    if !x.had && allDplls.any (fun k => s.eligible k c) then s.raise .ref REF.INT_STAT_QUAL_GAINED else s
  else
    ((s.puts .ref [(REF.CAND_STAT_QUAL.at c, 0), (REF.CAND_STAT_WAITING.at c, 0), (REF.CAND_STAT_LOST.at c, 1)]).addSat
      .ref (REF.QUAL_LOSS_CNT.at c) 1).raise .ref REF.INT_STAT_QUAL_LOST

/-- The whole seconds left of a wait (R235). -/
def State.wtrLeft (s : State) (c : Nat) : Nat :=
  if s.get .ref (REF.CAND_STAT_WAITING.at c) = 0 then 0
  else
    let all := s.candCfg REF.CAND_CFG_WTR c * cyclesPerSec
    (all - (s.now - (s.cand c).waitAt)) / cyclesPerSec

/-- DPLL `k` follows a lane or the brace link, whose phase now is not the one it has taken. -/
def State.phaseMoved (s : State) (k : Nat) : Bool :=
  (s.selected k).any (fun c => 10 ≤ c && (match s.phaseErr k c with
    | some e => wrap 32 (openDiv 5 e.n e.d) ≠ s.get .ref (REF.DPLL_PHERR_E.at k)
    | none => false))

/-- A candidate's activity or period check has held for AVG since it was last looked at (R233). -/
def State.checkDue (s : State) (c : Nat) : Bool :=
  let x := s.cand c
  let held := fun (o : Option Nat) => o.any (fun t => t + s.avgCycles c ≤ s.now)
  s.candCfg REF.CAND_CFG_EN c = 1 &&
    ((held x.actSince != (s.get .ref (REF.CAND_STAT_ACT_OK.at c) = 1)) ||
      (held x.perSince != (s.get .ref (REF.CAND_STAT_PER_OK.at c) = 1)))

/-- Checks that have held for AVG count as passed: called at every T_SMP. (DEDUCED, notes/assumptions/70.md) -/
def State.refCatch (s : State) : State :=
  if !s.running .ref then s
  else match (s.cands.map (·.1)).filter s.checkDue with
    | [] => s
    | l => (l.foldl State.qualify s).refSettle

/-- The checks of the PTP, lane and brace candidates follow their condition: called after every change of a servo, a
lane or the brace link. -/
def State.refFollow (s : State) : State :=
  let s := (List.range 19).foldl (fun s i =>
    let c := i + 8
    if s.candCfg REF.CAND_CFG_EN c = 0 && s.get .ref (REF.CAND_STAT_QUAL.at c) = 0 then s
    else
      let x := s.cand c
      let s := if s.refAlive c then
          if x.actSince.isSome then s
          else s.modCand c (fun y => { y with actSince := some s.now, perSince := some s.now })
        else s.modCand c (fun y => { y with actSince := none, perSince := none })
      s.qualify c) s
  allDplls.foldl (fun s k => if s.phaseMoved k then s.follow k else s) s.refSettle

/-! ### Measured frequency (R234) -/

/-- The time-weighted mean of a history from cycle `lo` to `now`: the sum of value times cycles, and the cycles. -/
def meanSince (lo now : Nat) (h : List (Nat × Int)) : Int × Nat :=
  (h.foldl (fun (acc : (Int × Nat) × Nat) e =>
    let n := acc.2 - max lo e.1
    ((acc.1.1 + e.2 * (n : Int), acc.1.2 + n), min acc.2 e.1)) (((0 : Int), 0), now)).1

/-- The whole STC second that begins in this core cycle. -/
def State.newSecond (s : State) : Option Nat :=
  let x := (s.now - s.resetCycle) * nomStep
  let sec := 1000000000 * nsUnit
  if x % sec < nomStep then some (x / sec) else none

/-- Edges of a pulse input, or the phase of the brace link, as a measurement of frequency counts them (Table 9.3): a core cycle and
the count or the phase there. -/
def State.freqMark (s : State) (c : Nat) : Option (Nat × Int) :=
  if c < 8 then (s.cand c).edge.map (fun e => (e, (s.cand c).count))
  else if c = 26 then (s.offered 2 26).map (fun o => (s.now, o.toTime 18))
  else none

/-- The mean offset over the marks `a`, AVG seconds ago, and `b`, now, in 0.001 ppm: the nominal length of the periods counted, or
the phase gained, over the time that passed. -/
def State.markMean (s : State) (c : Nat) (a b : Nat × Int) : Option Int :=
  let n := b.2 - a.2
  let t : Int := (b.1 : Int) - a.1
  let want : Option Frac :=
    if c < 8 then (refRate (s.candCfg REF.CAND_CFG_RATE c)).map (fun r => ⟨n * cyclesPerSec * r.2, r.1⟩)
    else some ⟨(n % (1001 * 1000000000 * nsUnit : Nat)) * 297, 250 * nsUnit⟩
  if t ≤ 0 then none else want.map (fun w => openDiv 17 ((w.n - t * w.d) * 1000000000) (t * w.d))

/-- The complete AVG-second mean of candidate `c` at whole STC second `sec`: from its edges, its domain's rate or the skew of the
brace link; the switch lines of a monitored lane have no row, and its mean `freq` comes with this one (R234).
(DEDUCED, notes/assumptions/143.md) -/
def State.freqMean (s : State) (c sec : Nat) (freq : Int) : Option Int :=
  let avg := max 1 (s.candCfg REF.CAND_CFG_AVG c)
  let held := (s.cand c).actSince.any (fun t => t + s.avgCycles c ≤ s.now)
  if c = 8 || c = 9 then
    let h := if c = 8 then s.clk.histA else s.clk.histB
    let m := meanSince (s.now - s.avgCycles c) s.now h
    if held && m.2 ≠ 0 then some (openDiv 17 (m.1 * 1000000000) (nomStep * m.2)) else none
  else if 10 ≤ c && c < 26 then if held then some freq else none
  else match s.freqMark c, (s.cand c).marks.find? (fun e => e.1 + avg = sec) with
    | some b, some a => s.markMean c a.2 b
    | _, _ => none

/-- The averaged frequency of candidate `c` is updated, at a whole second of the STC (R234). -/
def State.freqUpdate (s : State) (c : Nat) (freq : Int) : State :=
  match s.newSecond with
  | none => s
  | some sec =>
    if 27 ≤ c || s.candCfg REF.CAND_CFG_EN c = 0 || (s.cand c).marks.any (fun e => e.1 = sec) then s
    else
      let mean := s.freqMean c sec freq
      let s := match s.freqMark c with
        | some m => s.modCand c (fun x => { x with marks := ((sec, m) :: x.marks).take 64 })
        | none => s
      match mean with
      | none => s
      | some v =>
        let s := s.put .ref (REF.CAND_FREQ_FREQ.at c) (wrap 32 v)
        let ok := (sgn 32 (wrap 32 v)).natAbs ≤ s.candCfg REF.CAND_CFG_WIN c * 500
        ((s.put .ref (REF.CAND_STAT_FREQ_OK.at c) (b2n ok)).qualify c).refSettleBy c

/-- The wait of candidate `c` is over, WTR seconds after it began (R235). -/
def State.wtrOver (s : State) (c : Nat) : State :=
  if 27 ≤ c || s.get .ref (REF.CAND_STAT_WAITING.at c) = 0 ||
      s.now < (s.cand c).waitAt + s.candCfg REF.CAND_CFG_WTR c * cyclesPerSec then s
  else
    let s := s.put .ref (REF.CAND_STAT_WAITING.at c) 0
    let s := if allDplls.any (fun k => s.eligible k c) then s.raise .ref REF.INT_STAT_QUAL_GAINED else s
    s.refSettle

/-! ### REFP_IN edges and the flywheel (Table 9.3, R249) -/

/-- The nominal period of REFP_IN[i] in core cycles. -/
def State.nominal (s : State) (i : Nat) : Option Nat :=
  (refRate (s.candCfg REF.CAND_CFG_RATE i)).map (fun r => cyclesPerSec * r.2 / r.1)

/-- The mean of the last 16 periods in 2^-8 core cycles (R249). -/
def flyPeriod (l : List Nat) : Nat :=
  if l.isEmpty then 0 else (openDiv 7 ((256 * l.foldl (· + ·) 0 : Nat) : Int) l.length).toNat

/-- At most 4 of the known periods deviate by more than 0.1 % (Table 9.3). -/
def periodsOk (l : List Nat) (nom : Nat) : Bool :=
  (l.filter (fun p => nom < 1000 * (Int.ofNat p - Int.ofNat nom).natAbs)).length ≤ 4

/-- The flywheel's prediction of the edge nearest to now, for a period of `p` / 256 cycles (R249).
(DEDUCED, notes/assumptions/73.md) -/
def nearestFly (fly p now : Nat) : Int :=
  if p = 0 then fly
  else
    let n := ((now - fly) * 256 + p / 2) / p
    fly + n * p / 256

/-- An edge on REFP_IN[i] (R232, R233, R249). (DEDUCED, notes/assumptions/73.md) -/
def State.refEdge (s : State) (i : Nat) (falling : Bool) : State :=
  if 8 ≤ i || (s.candCfg REF.CAND_CFG_POL i = 1) != falling then s
  else match s.nominal i with
    | none => s
    | some nom =>
      let x := s.cand i
      let gap := match x.edge with | some e => s.now - e | none => 0
      let act := x.edge.isSome && 2 * gap ≤ 3 * nom
      let periods := if x.edge.isSome then (gap :: x.periods).take 16 else x.periods
      let actSince := if act then x.actSince.or (some s.now) else some s.now
      let perSince := if x.edge.isSome && periodsOk periods nom then x.perSince.or (some s.now) else none
      let pred := nearestFly x.fly (flyPeriod x.periods) s.now
      let move := (s.now : Int) - pred
      let flying := s.get .ref (REF.REFO_STAT_FLY.bit i) = 1
      let back := flying && act && (match x.actSince with | some t => t + cyclesPerSec ≤ s.now | none => false)
      let s := s.modCand i (fun y => { y with
        actSince := actSince, perSince := perSince, edge := some s.now, periods := periods, count := y.count + 1,
        fly := if flying && !back then y.fly else s.now })
      let s := s.puts .ref [(REF.REFI_PERIOD.at i, flyPeriod periods), (REF.REFI_EDGE_ERR.at i, wrap 32 move)]
      let s := if back then
          let used := (List.range 8).any (fun j =>
            s.live .ref (REF.REFO_CTRL_EN.at j) = 1 && s.live .ref (REF.REFO_CTRL_SRC.at j) = i)
          let s := s.put .ref (REF.REFO_STAT_FLY.bit i) 0
          if 2 < move.natAbs && used then s.raise .ref REF.INT_STAT_REFO_STEP else s
        else s
      let s := [0, 1, 2].foldl (fun s k => s.offerEvent k i ⟨s.candOfs i, 1⟩) s
      (s.qualify i).refSettleBy i

/-- No edge of REFP_IN[c] has come within 1.5 nominal periods of the last: the activity check fails (R233). -/
def State.refTimeout (s : State) (c : Nat) : State :=
  match s.nominal c, (s.cand c).edge with
  | some nom, some e =>
    if 8 ≤ c || 2 * (s.now - e) < 3 * nom then s
    else ((s.modCand c (fun y => { y with actSince := none })).qualify c).refSettle
  | _, _ => s

/-- No edge of REFP_IN[i] has come for 1.5 periods: its flywheel goes on alone (R249). (DEDUCED, notes/assumptions/73.md) -/
def State.refFly (s : State) (i : Nat) : State :=
  let x := s.cand i
  if 8 ≤ i || s.get .ref (REF.REFO_STAT_FLY.bit i) = 1 || x.periods.isEmpty ||
      !x.edge.any (fun e => 3 * flyPeriod x.periods ≤ 512 * (s.now - e)) then s
  else (s.put .ref (REF.REFO_STAT_FLY.bit i) 1).raise .ref REF.INT_STAT_REFO_FLY

/-- How far `n` core cycles at the nominal rate may differ while the rate of VTG `v`'s DPLL is not nominal: the bound of R243, and
one core cycle. -/
def State.rateRoom (s : State) (v n : Nat) : Nat :=
  let k := if (s.vtgFormat v).any Format.ntsc then 1 else 0
  if (s.dpll k).loose || s.dpllFreq k ≠ 0 then n * 2275 / 10000000 + 1 else 1

/-! ### REFP_OUT pulses (R248) -/

/-- REFP_OUT[j] may send: enabled, no squelch, and a running source VTG. -/
def State.refoOn (s : State) (j : Nat) : Bool :=
  let src := s.live .ref (REF.REFO_CTRL_SRC.at j)
  s.live .ref (REF.REFO_CTRL_EN.at j) = 1 && s.ready && (src < 8 || s.vtgEn (src - 0x20))

/-- The distance of a whole number from the nearest multiple of `p`. -/
def nearMultiple (x : Int) (p : Nat) : Nat := if p = 0 then x.natAbs else min (x % p).toNat (p - (x % p).toNat)

/-- The period of REFP_OUT[j]'s source in core cycles, 0 while it is not known (R248). -/
def State.refoPeriod (s : State) (j : Nat) : Nat :=
  let src := s.live .ref (REF.REFO_CTRL_SRC.at j)
  if src < 8 then flyPeriod (s.cand src).periods / 256 else (s.vtgRun (src - 0x20)).period

/-- The source of REFP_OUT[j] has its event REFO_OFS before this core cycle (R248): the flywheel's prediction, or the frame start of a
VTG, taken from its last one with the room that its DPLL's rate leaves. -/
def State.refoDue (s : State) (j : Nat) : Bool :=
  let src := s.live .ref (REF.REFO_CTRL_SRC.at j)
  let at_ := (s.now : Int) - sgn 28 (s.live .ref (REF.REFO_OFS_OFS.at j))
  if src < 8 then
    let x := s.cand src
    x.edge.isSome && 2 * nearMultiple (256 * (at_ - x.fly)) (flyPeriod x.periods) ≤ 256
  else match (s.vtgRun (src - 0x20)).start with
    | some a => let p := (s.vtgRun (src - 0x20)).period
                nearMultiple (at_ - a) p ≤ s.rateRoom (src - 0x20) p
    | none => false

/-- The pulse of REFP_OUT[j] begins (R248). -/
def State.refoRise (s : State) (j : Nat) : State :=
  if 8 ≤ j || s.refo.contains j || !s.refoOn j || !s.refoDue j then s
  else { s with refo := insertNat s.refo j, refoAt := s.refoAt.set j s.now 0 }

/-- The length of a pulse of REFP_OUT[j] in core cycles: WIDTH µs, at most half the period (R248). -/
def State.refoWidth (s : State) (j : Nat) : Nat :=
  let w := max 1 (s.live .ref (REF.REFO_CTRL_WIDTH.at j)) * cyclesPerUs
  let p := s.refoPeriod j
  if p = 0 then w else min w (p / 2)

/-- The pulse of REFP_OUT[j] ends, once it has lasted its width (R248). -/
def State.refoFall (s : State) (j : Nat) : State :=
  if s.now < s.refoAt.get j 0 + s.refoWidth j then s else { s with refo := s.refo.filter (· != j) }

/-- Pulses of outputs that may not send end. -/
def State.refoFollow (s : State) : State := { s with refo := s.refo.filter s.refoOn }

/-- The level of pin REFP_OUT[j]. -/
def State.refoLevel (s : State) (j : Nat) : Bool := s.refo.contains j != (s.live .ref (REF.REFO_CTRL_POL.at j) = 1)

/-! ### Commits of the REF page and of a VTG page -/

/-- An arm of the REF page breaks R248 or R250. -/
def State.refBad (s : State) : Bool :=
  let g := fun f : Fld => s.get .ref f
  (List.range 27).any (fun c =>
    (c < 8 && g (REF.CAND_CFG_EN.at c) = 1 && (refRate (g (REF.CAND_CFG_RATE.at c))).isNone) ||
    g (REF.CAND_CFG_WTR.at c) = 0 || 3600 < g (REF.CAND_CFG_WTR.at c)) ||
  allDplls.any (fun k => (List.range 8).any (fun c =>
    s.rank false k c ≠ 0 && !rateFor k (g (REF.CAND_CFG_RATE.at c)))) ||
  (List.range 8).any (fun j =>
    let src := g (REF.REFO_CTRL_SRC.at j)
    let ofs := (sgn 28 (g (REF.REFO_OFS_OFS.at j))).natAbs
    let period := if src < 8 then (refRate (g (REF.CAND_CFG_RATE.at src))).map (fun r => cyclesPerSec * r.2 / r.1)
      else (format? (s.vtgCode (src - 0x20))).map Format.cycles
    (8 ≤ src && src < 0x20) || (match period with | some p => p < ofs | none => false))

/-- The live copy of the REF page has changed from that of `old` (R235, R236, R248).
(DEDUCED, notes/assumptions/70.md) -/
def State.refFired (s old : State) : State :=
  let s := (List.range 27).foldl (fun s c =>
    let a := Page.base .ref + REF.CAND_CFG_EN.off + 4 * c
    if s.lword a = old.lword a then s
    else
      let again := [REF.CAND_CFG_EN, REF.CAND_CFG_RATE, REF.CAND_CFG_POL].any
        (fun f => s.candCfg f c != old.candCfg f c)
      let s := if again then
          (s.modCand c (fun y => { RefCand.init with fly := y.fly })).put .ref (REF.CAND_STAT_FREQ_OK.at c) 0
        else s
      let s := s.qualify c
      s.modCand c (fun y => { y with had := s.get .ref (REF.CAND_STAT_QUAL.at c) = 1 })) s
  (allDplls.foldl State.follow s.refFollow).refoFollow

/-- An arm of a VTG page breaks R244. -/
def State.vtgBad (s : State) (v : Fin 32) : Bool :=
  match format? (s.get (.vtg v) VTG.VTG_CTRL_FORMAT) with
  | none => true
  | some f => 148500000 * (if f.ntsc then 1000 else 1001) * f.den ≤
      (sgn 28 (s.get (.vtg v) VTG.VTG_OFS_OFS)).natAbs * f.num * 1001

/-- The live copy of a VTG page has changed from that of `old` (R247). -/
def State.vtgFired (s old : State) (v : Fin 32) : State :=
  let en := s.live (.vtg v) VTG.VTG_CTRL_EN = 1
  let s := if !en then s.setVtg v.val Vtg.init
    else if old.live (.vtg v) VTG.VTG_CTRL_EN = 1 && (s.vtgCode v.val ≠ old.vtgCode v.val ||
        s.live (.vtg v) VTG.VTG_OFS_OFS ≠ old.live (.vtg v) VTG.VTG_OFS_OFS) then s.realignVtg v
    else s
  s.refoFollow

/-- A frame of VTG `v` starts (R245, R247). -/
def State.vtgStart (s : State) (v : Fin 32) : State :=
  match s.vtgFormat v.val with
  | none => s
  | some f =>
    let s := match (s.vtgRun v.val).start with
      | some a => s.put (.vtg v) VTG.FRAME_CYC (s.now - a)
      | none => s
    s.setVtg v.val { s.vtgRun v.val with
      start := some s.now, period := f.cycles, lines := f.lines, sw := f.sw, ticked := false, second := false,
      realign := false }

/-- VTG_STAT.GAP: the frame in progress at a realignment has ended, and the new grid has not begun (R247). -/
def State.vtgGap (s : State) (v : Nat) : Bool :=
  let x := s.vtgRun v
  x.realign && (match x.start with | some a => a + x.period ≤ s.now | none => false)

/-- VTG_STAT as it reads (Table 9.13). -/
def State.vtgStat (s : State) (v : Nat) : Nat :=
  let x := s.vtgRun v
  let line := match x.start with
    | some a => if s.vtgGap v || x.period = 0 then 0 else min x.lines (1 + (s.now - a) * x.lines / x.period)
    | none => 0
  line * 65536 + b2n (s.vtgGap v) * 4 + b2n ((s.vtgFormat v).any Format.ntsc) * 2 + b2n (s.vtgEn v && x.start.isSome)

/-! ### Grid media time (R225) -/

/-- CAND_OFS of the selected candidate of DPLL `k`, 0 when none is selected. -/
def State.selOfs (s : State) (k : Nat) : Int := match s.selected k with | some c => s.candOfs c | none => 0

/-- The grid media time of an instant of a grid with period `p` and offset `phi` (R225): snapped to the nearest grid
instant, or media time itself with SNAP_MISS. (DEDUCED, notes/assumptions/67.md) -/
def State.gridTime (s : State) (p phi : Frac) : State × Frac :=
  let m := Frac.ofTime s.mt
  let g := m.sub ((m.sub phi).wrapTo p)
  let snap := s.live .time TIME.MT_CTRL_SNAP
  if snap = 0 then (s, m)
  else if (g.sub m).abs.le ⟨snap, 1⟩ then (s, g)
  else ((s.addSat .time TIME.SNAP_MISS 1).raise .time TIME.INT_STAT_SNAP_MISS, m)

/-- The period of the T_SMP grid. -/
def smpPeriod : Frac := ⟨62500, 3⟩

/-- The grid media time of a T_SMP (R225, R243). -/
def State.smpTime (s : State) : State × Frac := s.gridTime smpPeriod ⟨s.selOfs 2, 1⟩

/-- The frame period of a format. -/
def Format.period (f : Format) : Frac := ⟨1000000000 * f.den, f.num⟩

/-- The period of the nominal clock of a format's DPLL, T_c (R245). -/
def Format.tc (f : Format) : Frac := if f.ntsc then ⟨2002, 297⟩ else ⟨2000, 297⟩

/-- φ of the frame-start grid of VTG `v` (R245). -/
def State.framePhi (s : State) (v : Fin 32) (f : Format) : Frac :=
  (f.tc.scale (sgn 28 (s.live (.vtg v) VTG.VTG_OFS_OFS))).add ⟨s.selOfs (if f.ntsc then 1 else 0), 1⟩

/-- The grid media time of a frame start of VTG `v` (R225, R245). -/
def State.frameTime (s : State) (v : Fin 32) (f : Format) : State × Frac := s.gridTime f.period (s.framePhi v f)

/-- The grid media time of an instant of DPLL `k`'s grid is the event that the PTP candidates offer it (Table 9.3, R242). -/
def State.ptpEvent (s : State) (k : Nat) (g : Frac) : State :=
  [8, 9].foldl (fun s c =>
    if s.candCfg REF.CAND_CFG_EN c = 0 then s
    else ((s.offerEvent k c (g.sub ⟨s.candOfs c, 1⟩)).disagreeSet k).followers c) s

/-! ### Where ticks and frame starts fall (R243, R245, R247) -/

/-- DPLL `k`'s τ less `phi` passes a multiple of `p` at an instant nearest to this core cycle. -/
def State.passes (s : State) (k : Nat) (p phi : Frac) : Bool :=
  let e := (((Frac.ofTime (s.tau k)).sub phi).wrapTo p).abs
  (e.scale 2).le (cyclesAt 1 (s.dpllFreq k))

/-- `d` core cycles may hold a whole number of spacings of `lo` to `hi`. -/
def spaced (d lo hi : Nat) : Bool := lo ≤ d && lo ≠ 0 && (d + hi - 1) / hi ≤ d / lo

/-- A T_SMP falls in this core cycle: τ of the audio DPLL passes a multiple of the sample period; where the loop's output leaves τ
open, one or more spacings of 24,744 to 24,756 core cycles have passed; after a step, 24,750 at least (R242, R243).
(DESIGN CHOICE, notes/assumptions/144.md) -/
def State.smpDue (s : State) : Bool :=
  let d := s.dpll 2
  let gap := d.last.map (fun c => s.now - c)
  gap.all (fun n => (if d.stepped then 24750 else 24744) ≤ n) &&
    (if d.loose then gap.all (fun n => spaced n 24744 24756) else s.passes 2 smpPeriod ⟨0, 1⟩)

/-- The core cycle of a T_SMP is noted. -/
def State.smpFell (s : State) : State := s.modDpll 2 (fun x => { x with last := some s.now, stepped := false })

/-- Frame starts of VTG `v` in format `f`, or the starts of its second fields, fall in this core cycle, after the frame in progress
has been completed (R181, R245, R247). (DESIGN CHOICE, notes/assumptions/144.md) -/
def State.frameDue (s : State) (v : Fin 32) (f : Format) (second : Bool) : Bool :=
  let x := s.vtgRun v.val
  let k := if f.ntsc then 1 else 0
  let room := s.rateRoom v.val
  if second then
    x.start.any (fun a => !x.second && !s.vtgGap v.val && nearMultiple (2 * ((s.now : Int) - a) - x.period) 0 ≤
      2 * room (x.period / 2))
  else
    x.start.all (fun a => a + x.period ≤ s.now + room x.period) &&
      (if (s.dpll k).loose then
          x.realign || x.start.all (fun a => nearMultiple ((s.now : Int) - a) x.period ≤
            room x.period * ((s.now - a + x.period / 2) / max 1 x.period))
        else s.passes k f.period (f.tc.scale (sgn 28 (s.live (.vtg v) VTG.VTG_OFS_OFS))))

/-- Line `n` of the frame of VTG `v` in progress starts in this core cycle (R245). (DESIGN CHOICE, notes/assumptions/144.md) -/
def State.lineDue (s : State) (v : Fin 32) (n : Nat) : Bool :=
  let x := s.vtgRun v.val
  1 ≤ n && n ≤ x.lines && x.start.any (fun a => !s.vtgGap v.val &&
    nearMultiple ((s.now - a : Nat) * x.lines - ((n - 1) * x.period : Nat)) 0 ≤
      x.lines * (1 + s.rateRoom v.val ((n - 1) * x.period / max 1 x.lines)))

/-- T_FRM of VTG `v` falls in this core cycle: the start of the first switch line of the frame in progress, once a frame (R245,
R247). (DESIGN CHOICE, notes/assumptions/144.md) -/
def State.frmDue (s : State) (v : Fin 32) : Bool := !(s.vtgRun v.val).ticked && s.lineDue v (s.vtgRun v.val).sw

end Sys2Proof.Machine
end

