-- ==== Sys2Proof/Machine/Sdi.lean ====
section
/-! DEFINITION. Serial digital lines as the tenon generators and the SDI regenerators build them: timing references, line
numbers, line CRC, ancillary packets and payload identifiers (R141, R146, R147). The spec names these parts and leaves
their words to the SMPTE standards. (PRESUMED, notes/assumptions/133.md) -/

namespace Sys2Proof.Machine

/-- The fourth word of a timing reference: 1, F, V, H, four protection bits, 0, 0. -/
def trsWord (f v h : Nat) : Nat :=
  512 + 256 * f + 128 * v + 64 * h + 32 * ((v + h) % 2) + 16 * ((f + h) % 2) + 8 * ((f + v) % 2) + 4 * ((f + v + h) % 2)

/-- A timing reference. -/
def trsWords (f v h : Nat) : List Nat := [0x3FF, 0x000, 0x000, trsWord f v h]

/-- A 10-bit word of 9 bits whose bit 9 is the inverse of bit 8. -/
def invTop (x : Nat) : Nat := x % 512 + 512 * (1 - bitAt x 8)

/-- The two words of a line number. -/
def lineNumber (n : Nat) : List Nat := [invTop (n % 128 * 4), invTop (n / 128 % 16 * 4)]

/-- The line CRC x^18 + x^5 + x^4 + 1 over 10-bit words, bit 0 first, and its two words. -/
def lineCrc (words : List Nat) : List Nat :=
  let c := words.foldl (fun c w => crcBits 0x23000 c w 10) 0
  [invTop (c % 512), invTop (c / 512)]

/-- A byte with even parity in bit 8 and its inverse in bit 9. -/
def parityWord (b : Nat) : Nat := invTop (b % 256 + 256 * (((List.range 8).map (bitAt b)).foldl (· + ·) 0 % 2))

/-- An ancillary packet: its flag, DID, SDID, count, user words and checksum. -/
def ancPacket (did sdid : Nat) (bytes : List Nat) : List Nat :=
  let body := [did, sdid, bytes.length].map parityWord ++ bytes.map parityWord
  [0x000, 0x3FF, 0x3FF] ++ body ++ [invTop ((body.map (· % 512)).foldl (· + ·) 0 % 512)]

/-- The packet of payload identifier `pid`, byte 1 in bits 7:0 (R146). -/
def pidPacket (pid : Nat) : List Nat := ancPacket 0x41 0x01 (cutWords 8 pid 4)

/-- The words of an ancillary packet (R192, R201). -/
def ancWords (a : AncPkt) : List Nat := ancPacket a.did a.sdid a.bytes

/-- Ancillary packets in a space of `n` words that begins with `start`: each at its Horiz_Offset, or after those already there when
that is 0xFFF (R192). -/
def placeAnc (n : Nat) (start : List Nat) (l : List AncPkt) : List Nat :=
  (l.foldl (fun (acc : List Nat × Nat) a =>
    let at_ := if a.offset = 0xFFF then acc.2 else a.offset
    ((acc.1.take at_ ++ (ancWords a) ++ acc.1.drop (at_ + (ancWords a).length)).take n, max acc.2 (at_ + (ancWords a).length)))
    (start ++ List.replicate (n - start.length) 0x040, start.length)).1

/-- A packet that ST 2110-40 does not carry: audio data and control packets of ST 272 and ST 299, and the payload identifier
(R201). -/
def ancWithheld (a : AncPkt) : Bool :=
  (0xF8 ≤ a.did && a.did ≤ 0xFF) || (0xEC ≤ a.did && a.did ≤ 0xEF) || (0xE0 ≤ a.did && a.did ≤ 0xE7) ||
    (0xA0 ≤ a.did && a.did ≤ 0xA7) || (a.did = 0x41 && a.sdid = 0x01)

/-- The bytes of ANC packets in an ST 2110-40 payload after its header: each with 72 bits beside its user words of 10 bits, in
words of 32 bits. -/
def ancBytes (l : List AncPkt) : Nat := (l.map (fun a => (72 + 10 * a.bytes.length + 31) / 32 * 4)).foldl (· + ·) 0

/-- A luma and a chroma word as one word of a tenon. -/
def tenonWord (y c : Nat) : Nat := y * 1024 + c

/-- The words of a line of a tenon at 1.485 Gb/s and above, after a line with active words `prev`, in `total` words. -/
def SdiLine.words (l : SdiLine) (prev : List Nat) (total : Nat) : List Nat :=
  let eav := trsWords l.f l.v 1 ++ lineNumber l.num
  let crc := fun (g : Nat → Nat) => lineCrc (prev.map g ++ eav)
  let pid := match l.pid with | some p => pidPacket p | none => []
  let head := (eav ++ crc (· / 1024)).zip (eav ++ crc (· % 1024)) |>.map (fun e => tenonWord e.1 e.2)
  let anc := pid.map (fun y => tenonWord y 0x200) ++ l.hanc
  let sav := (trsWords l.f l.v 0).map (fun w => tenonWord w w)
  let blank := total - (head.length + anc.length + sav.length + l.active.length)
  head ++ anc ++ List.replicate blank (tenonWord 0x040 0x200) ++ sav ++ l.active

/-- The regenerator of R146 on a line: its own line count or the source's number, and the payload identifier by PID_MODE; `at_`
tells that ST 352 gives the line for it. The timing reference and the line CRC are those of `SdiLine.words`. -/
def regenLine (renum : Option Nat) (mode pid : Nat) (at_ : Bool) (l : SdiLine) : SdiLine :=
  { l with num := renum.getD l.num,
           pid := match mode with
             | 1 => if at_ then l.pid.or (some pid) else l.pid
             | 2 => if at_ || l.pid.isSome then some pid else none
             | _ => l.pid }

/-- The line count of a regenerator that renumbers, from the count of the line before. -/
def regenCount (count : Nat) (l : SdiLine) : Nat := if l.first then 1 else count + 1

/-- Words of a line of one tenon: its word rate, 27 MHz at 270 Mb/s, 74.25 MHz at 1.485 Gb/s and 148.5 MHz above, the last
two divided by 1.001 with a /1.001 format, over the lines of a second. -/
def Format.lineWords (f : Format) : Nat :=
  if f.lines < 700 then 27000000 * f.den / (f.num * f.lines)
  else
    let fast := f.tenons ≠ 1 || (f.lines = 1125 && !f.interlaced && 40 * f.den < f.num)
    (if fast then 148500000 else 74250000) * (if f.ntsc then 1000 else f.den) / (f.num * f.lines)

/-- The first active line of each field of a format (SMPTE and ITU standards; R200's term A).
(PRESUMED, notes/assumptions/48.md) -/
def Format.firstActive (f : Format) : Nat × Nat :=
  match f.lines, f.interlaced with
  | 525, _ => (20, 283)
  | 625, _ => (23, 336)
  | 750, _ => (26, 0)
  | _, true => (21, 584)
  | _, false => (42, 0)

/-- The lines that ST 352 gives for the payload identifier of a format (R192). -/
def Format.pidLines (f : Format) : List Nat :=
  match f.lines, f.interlaced with
  | 525, _ => [13, 276]
  | 625, _ => [9, 322]
  | 750, _ => [10]
  | _, true => [10, 572]
  | _, false => [10]

/-- Line `n` of a frame lies in active picture, and at which row of its field. -/
def Format.activeRow (f : Format) (n : Nat) : Option Nat :=
  let h := if f.interlaced then f.height / 2 else if f.tenons = 1 then f.height else f.height / 2
  let (a, b) := f.firstActive
  if a ≤ n && n < a + h then some (n - a) else if f.interlaced && b ≤ n && n < b + h then some (n - b) else none

/-- The word of active column `x` of pattern `pat` in an active width `w` (R141): black, bars in eight columns, or the check
field. -/
def genWord (pat x w : Nat) : Nat :=
  match pat with
  | 0 => tenonWord 0x040 0x200
  | 3 => (nth checkField (x % 2) 0) % 2 ^ 20
  | _ =>
    let k := x * 8 / max 1 w
    tenonWord (Config.genColour pat k 0).toNat (Config.genColour pat k (1 + x % 2)).toNat

/-- Line `n` of the frame of a tenon generator that sends `pat` in format `f` of code `code` (R141). -/
def genLine (f : Format) (code pat n : Nat) : SdiLine :=
  let w := if f.tenons = 4 then f.width / 2 else f.width
  let field := if f.interlaced && f.firstActive.2 ≤ n + f.sw then 1 else 0
  let pid := if f.pidLines.contains n then some (Config.formatPid code).toNat else none
  match f.activeRow n with
  | some _ =>
    { first := n = 1, f := field, v := 0, num := n, pid, hanc := [], active := (List.range w).map (fun x => genWord pat x w) }
  | none =>
    { first := n = 1, f := field, v := 1, num := n, pid, hanc := [], active := List.replicate w (tenonWord 0x040 0x200) }

/-- Line `n` of tenon 0 of a frame that a receive slot plays in the format of code `code`: timing references, line numbers and
line CRC are those of every line; ancillary packets of the horizontal space follow the payload identifier, and those of the
vertical space stand in the active line. The words of an active picture line are those of the packets, and left out here
(R192). -/
def playedLine (f : Format) (code n : Nat) (pid : Option Nat) (pkts : List AncPkt) : SdiLine :=
  let l := genLine f code 0 n
  let id := if f.pidLines.contains n then pid else none
  let used := (match id with | some p => pidPacket p | none => [])
  let space := f.lineWords - (16 + l.active.length)
  let hanc := (placeAnc space used (pkts.filter (·.c))).drop used.length
  let vanc := placeAnc l.active.length [] (pkts.filter (fun a => !a.c))
  { l with pid := id, hanc := hanc.map (fun y => tenonWord y 0x200),
           active := if l.v = 1 then vanc.map (fun y => tenonWord y 0x200) else [] }

end Sys2Proof.Machine
end

