-- ==== Sys2Proof/Machine/WordPlane.lean ====
section
/-! DEFINITION. The word plane (chapter 5): views of the configuration, tenon maps, paths and their placement, routes,
generators, de-embedding, embedding and regeneration. -/

namespace Sys2Proof.Machine

/-! ### Views: the live configuration, or the one after a fire -/

/-- A view of the configuration: pages for which it holds are taken from the shadow, the others from the live copy. -/
abbrev View := Page → Bool

/-- The live configuration. -/
def liveView : View := fun _ => false

/-- The arm of page `p`, pending or draining. -/
def State.armOf (s : State) (p : Page) : Option Arm := (s.arms.find? (fun e => e.1 = p.num)).map (·.2)

/-- Page `p` is armed: its arm has latched and F has not been reached. -/
def State.armed (s : State) (p : Page) : Bool :=
  match s.armOf p with
  | some a => !a.draining
  | none => false

/-- The configuration after the fires of the armed pages and of the pages `cand` that are being armed. -/
def State.after (s : State) (cand : List Page) : View := fun p => cand.contains p || s.armed p

/-- A field of page `p` in a view. -/
def State.vget (s : State) (v : View) (p : Page) (f : Fld) : Nat := s.cfg (!v p) p f

/-! ### Tenons of functions (Table 1.4, Table 5.1) -/

/-- The tenons of a two-bit TEN code: one, two, four; 0b11 is not used. -/
def tenCount (code : Nat) : Nat :=
  match code with
  | 0 => 1
  | 1 => 2
  | 2 => 4
  | _ => 0

/-- Tenons of the format code `c`, 0 where it is none of Table 9.7. -/
def fmtTenons (c : Nat) : Nat :=
  match format? c with
  | some f => f.tenons
  | none => 0

/-- The format code of VTG `n` in a view, and whether it is enabled there. -/
def State.vtgIn (s : State) (v : View) (n : Nat) : Bool × Nat :=
  match idx? 32 n with
  | some i => (s.vget v (.vtg i) VTG.VTG_CTRL_EN = 1, s.vget v (.vtg i) VTG.VTG_CTRL_FORMAT)
  | none => (false, 0)

/-- Tenons of layer `l` of engine `e` as a stream layer, else 0 (R308, R309). -/
def State.layerTenons (s : State) (v : View) (e : Fin 64) (l : Nat) : Nat :=
  if s.vget v (.eng e) (ENGI.LAYER_SRC_EN.at l) = 1 && s.vget v (.eng e) (ENGI.LAYER_SRC_KIND.at l) = 0 then
    fmtTenons (s.vget v (.eng e) (ENGI.LAYER_SRC_SRC_FMT.at l))
  else 0

/-- Tenons of the input block of engine `e` (R309). (DEDUCED, notes/assumptions/55.md) -/
def State.engIn (s : State) (v : View) (e : Fin 64) : Nat :=
  ((List.range 16).map (s.layerTenons v e)).foldl (· + ·) 0

/-- Output tenons of engine `e` (R307). A view takes OUT_VTG's FORMAT as it does the engine's own fields, so that an arm of a
VTG page is checked for the engines that run on it (R20).
(DEDUCED, notes/assumptions/55.md; DESIGN CHOICE, notes/assumptions/116.md) -/
def State.engOut (s : State) (v : View) (e : Fin 64) : Nat :=
  if s.vget v (.eng e) ENGI.ENG_CTRL_EN = 0 then 0
  else match s.vget v (.eng e) ENGI.ENG_CTRL_OUT_MODE with
    | 0 => fmtTenons (s.vtgIn v (s.vget v (.eng e) ENGI.ENG_CTRL_OUT_VTG)).2
    | 1 => 4
    | _ => 0

/-- Source tenons of function `f` of bay `b` (Table 5.1). -/
def State.srcTenons (s : State) (v : View) (b f : Nat) : Nat :=
  if f < 64 then
    match idx? 1032 (64 * b + f) with
    | some n => s.laneSrcTenons (!v (.lane n)) n
    | none => 0
  else if f < 128 then
    match idx? 1024 (64 * b + (f - 64)) with
    | some n => if s.vget v (.rxSlot n) RXS.RX_CTRL_EN = 1 then tenCount (s.vget v (.rxSlot n) RXS.RX_CTRL_TEN) else 0
    | none => 0
  else if f < 132 then
    match idx? 64 (4 * b + (f - 128)) with
    | some e => s.engOut v e
    | none => 0
  else
    let g := 4 * b + (f - 132)
    if s.tcfg (!v .xwpMap) (TBL.XWP_GEN_EN.at g) = 1 then tenCount (s.tcfg (!v .xwpMap) (TBL.XWP_GEN_TEN.at g)) else 0

/-- Destination tenons of function `f` of bay `b` (Table 5.1). -/
def State.dstTenons (s : State) (v : View) (b f : Nat) : Nat :=
  if f < 64 then
    match idx? 1032 (64 * b + f) with
    | some n => s.laneDstTenons (!v (.lane n)) n
    | none => 0
  else if f < 128 then
    match idx? 1024 (64 * b + (f - 64)) with
    | some n => if s.vget v (.txSlot n) TXS.TX_CTRL_EN = 1 then tenCount (s.vget v (.txSlot n) TXS.TX_CTRL_TEN) else 0
    | none => 0
  else
    match idx? 64 (4 * b + (f - 128)) with
    | some e => s.engIn v e
    | none => 0

/-- Tenons, V and BASE of a function: pool 0 is the source pool, 1 the destination pool. -/
def State.tmap (s : State) (v : View) (pool b f : Nat) : Nat × Bool × Nat :=
  let lv := !v .xwpMap
  if pool = 0 then
    (s.srcTenons v b f, s.tcfg lv (TBL.XWP_SRC_TMAP_V.at2 b f) = 1, s.tcfg lv (TBL.XWP_SRC_TMAP_BASE.at2 b f))
  else
    (s.dstTenons v b f, s.tcfg lv (TBL.XWP_DST_TMAP_V.at2 b f) = 1, s.tcfg lv (TBL.XWP_DST_TMAP_BASE.at2 b f))

/-- Functions of a bay in a pool's map. -/
def mapSize (pool : Nat) : Nat := if pool = 0 then 136 else 132

/-- The range of tenons of its bay that a map entry gives: first, and one past the last. -/
def tmapRange (m : Nat × Bool × Nat) : List (Nat × Nat) := if m.2.1 && m.1 ≠ 0 then [(m.2.2, m.2.2 + m.1)] else []

/-- The held ranges of a function: live, and after the arms (R129). -/
def State.heldRanges (s : State) (v : View) (pool b f : Nat) : List (Nat × Nat) :=
  tmapRange (s.tmap liveView pool b f) ++ tmapRange (s.tmap v pool b f)

/-- Do two ranges share a tenon? -/
def rangesMeet (x y : Nat × Nat) : Bool := x.1 < y.2 && y.1 < x.2

/-- The conflicts of R129 in one bay and pool: FUNC_A and FUNC_B, the lower function index of an overlap being FUNC_A.
(DESIGN CHOICE, notes/assumptions/125.md) -/
def State.tmapConflicts (s : State) (v : View) (pool b : Nat) : List (Nat × Nat) :=
  let fs := (List.range (mapSize pool)).map (fun f => (f, s.heldRanges v pool b f))
  let used := fs.filter (fun x => !x.2.isEmpty)
  let past := (used.filter (fun x => x.2.any (fun r => 128 < r.2))).map (fun x => (x.1, 0xFF))
  let meet := used.flatMap (fun x => (used.filter (fun y => x.1 < y.1 && x.2.any (fun r => y.2.any (rangesMeet r)))).map
    (fun y => (x.1, y.1)))
  let unplaced := (List.range (mapSize pool)).filterMap (fun f =>
    let m := s.tmap v pool b f
    if m != s.tmap liveView pool b f && m.1 ≠ 0 && !m.2.1 then some (f, 0xFE) else none)
  past ++ meet ++ unplaced

/-- R129 is checked for an arm of the map page or of a LANE, FLOWV or ENG page. -/
def tmapChecked (p : Page) : Bool :=
  match p with
  | .xwpMap | .lane _ | .rxSlot _ | .txSlot _ | .flowv _ | .cls _ | .eng _ | .engComp _ | .engColour _ => true
  | _ => false

/-- The check of R129 for an arm of the pages `cand`: the state with its report, and whether the arm is refused. Where
several conflicts hold at once, which of them is recorded is left open. (DESIGN CHOICE, notes/assumptions/11.md) -/
def State.tmapCheck (s : State) (cand : List Page) : State × Bool :=
  if !cand.any tmapChecked then (s, false)
  else
    let v := s.after cand
    let all := [0, 1].flatMap (fun pool => (List.range 16).flatMap (fun b =>
      (s.tmapConflicts v pool b).map (fun c => (pool, b, c))))
    match all[Config.pick 1 all.length % all.length]? with
    | none => (s, false)
    | some (pool, b, c) =>
      let s := s.raise .xwpMap XWPM.INT_STAT_TMAP_CONFLICT
      (if s.get .xwpMap XWPM.XWP_TMAP_ERR_VALID = 1 then s
        else s.puts .xwpMap [(XWPM.XWP_TMAP_ERR_VALID, 1), (XWPM.XWP_TMAP_ERR_POOL, pool), (XWPM.XWP_TMAP_ERR_BAY, b),
          (XWPM.XWP_TMAP_ERR_FUNC_A, c.1), (XWPM.XWP_TMAP_ERR_FUNC_B, c.2)], true)

/-! ### What a tenon carries -/

/-- The function of bay `b` whose live range holds tenon `k` of the bay, with the tenon's place in its stream. -/
def State.feeder (s : State) (pool t : Nat) : Option (Nat × Nat) :=
  (List.range (mapSize pool)).findSome? (fun f =>
    let m := s.tmap liveView pool (t / 128) f
    if m.2.1 && m.2.2 ≤ t % 128 && t % 128 < m.2.2 + m.1 then some (f, t % 128 - m.2.2) else none)

/-- Generator `g` sends its pattern: enabled, its VTG enabled, with a format of as many tenons, and the map page's function
runs (R140, R141). -/
def State.genSends (s : State) (g : Nat) : Bool :=
  let v := s.tlive (TBL.XWP_GEN_VTG.at g)
  s.running .xwpMap && s.tlive (TBL.XWP_GEN_EN.at g) = 1 && s.vtgEn v && fmtTenons (s.vtgCode v) = tenCount (s.tlive (TBL.XWP_GEN_TEN.at g))

/-- Source tenon `t` carries NOSIG = 1 (R125, R63, R128, R139, R141, R188, R307), as while its function is paused (R363) and, of a
crosspoint lane, before READY (R408). -/
def State.srcNosig (s : State) (t : Nat) : Bool :=
  match s.feeder 0 t with
  | none => true
  | some (f, i) =>
    let b := t / 128
    if f < 64 then
      match idx? 1032 (64 * b + f) with
      | none => true
      | some n =>
        !s.running (.lane n) || (n.val < 1024 && !s.ready) || bitAt (s.lane n).fill i = 1 ||
          (if s.rxIgn n then s.ign n ≠ 4 else s.get (.lane n) LANE.LANE_STAT_WORD_LOCK = 0)
    else if f < 128 then
      match idx? 1024 (64 * b + (f - 64)) with
      | none => true
      | some n => !s.running (.rxSlot n) || s.get (.rxSlot n) RXS.RX_STAT_STATE ≠ 2
    else if f < 132 then
      match idx? 64 (4 * b + (f - 128)) with
      | none => true
      | some e => s.live (.eng e) ENGI.ENG_CTRL_EN = 0 || !s.running (.eng e) || !s.vtgEn (s.live (.eng e) ENGI.ENG_CTRL_OUT_VTG)
    else !s.genSends (4 * b + (f - 132))

/-- The live source of destination tenon `d`; 0x800 is no source (R136). -/
def State.routeSrc (s : State) (d : Nat) : Nat := s.tlive (TBL.XWP_ROUTE_SRC.at d)

/-- The middle switch of the path of destination `d` (R131). -/
def State.pathMid (s : State) (d : Nat) : Option Nat :=
  (s.xwp.paths.find? (fun p => p.1 = s.routeSrc d && p.2.1 = d % 64)).map (·.2.2)

/-- Destination tenon `d` carries NOSIG = 1 (R125, R126, R135, R139). -/
def State.dstNosig (s : State) (d : Nat) : Bool :=
  if 0x800 ≤ s.routeSrc d then true else (s.pathMid d).isNone || s.srcNosig (s.routeSrc d)

/-- The first destination tenon of function `f` of bay `b`, when its live map entry places it. -/
def State.dstFirst (s : State) (b f : Nat) : Option Nat :=
  let m := s.tmap liveView 1 b f
  if m.2.1 && m.1 ≠ 0 then some (128 * b + m.2.2) else none

/-! ### Placement (R130 to R135) -/

/-- The destinations whose live or armed entry is listed: every other one names no source. -/
def State.routed (s : State) : List Nat := (s.listed 0x02002000 0x02004000).map (fun a => (a - 0x02002000) / 4)

/-- The live destinations that name a source, ascending, with it. -/
def State.liveRoutes (s : State) : List (Nat × Nat) :=
  s.routed.filterMap (fun d => let x := s.routeSrc d; if x < 0x800 then some (d, x) else none)

/-- The lowest middle switch free at both ends for a path from source `x` to egress `e`. -/
def freeMid (paths : List (Nat × Nat × Nat)) (x e : Nat) : Option Nat :=
  (List.range 63).find? (fun m => !paths.any (fun p => p.2.2 = m && (p.1 % 64 = x % 64 || p.2.1 = e)))

/-- ING_PEAK follows the path count of ingress switch `i`. -/
def State.ingPeak (s : State) (i : Nat) : State :=
  let n := (s.xwp.paths.filter (fun p => p.1 % 64 = i)).length
  if s.get .xwpRoute XWPR.ING_PEAK % 256 < n then s.put .xwpRoute XWPR.ING_PEAK (n + i * 256) else s

/-- The UNPLACED bit of destination `d`. -/
def unpBit (d : Nat) : Fld := (XWPR.UNPLACED_UNP.at (d / 32)).bit (d % 32)

/-- Destination `d` lacks its path: reported when its bit sets (R135). -/
def State.pathFail (s : State) (d : Nat) : State :=
  if s.get .xwpRoute (unpBit d) = 1 then s
  else ((s.put .xwpRoute (unpBit d) 1).raise .xwpRoute XWPR.INT_STAT_PATH_FAIL).fault .xwpRoute .contained 0 d

/-- The path from source `x` to egress switch `e` is placed. -/
def State.placed (s : State) (x e : Nat) : Bool := s.xwp.paths.any (fun p => p.1 = x && p.2.1 = e)

/-- Place the path of destination `d` from source `x`, or report (R132, R135). -/
def State.placePath (s : State) (d x : Nat) : State :=
  if s.placed x (d % 64) then s
  else match freeMid s.xwp.paths x (d % 64) with
    | some m =>
      (({ s with xwp := { s.xwp with paths := s.xwp.paths ++ [(x, d % 64, m)] } } : State).add .xwpRoute XWPR.PLACE_CNT
        1).ingPeak (x % 64)
    | none => s.pathFail d

/-- The words that a placement pass changes: the counts, and UNPLACED. -/
def placeWords : List Nat :=
  [XWPR.PLACE_CNT.off, XWPR.RELEASE_CNT.off, XWPR.ING_PEAK.off] ++ (List.range 64).map (fun w => XWPR.UNPLACED_UNP.off + 4 * w)

/-- The first placement pass of a core cycle: it notes what stood before it. -/
def State.placeFirst (s : State) (base : Nat) (retry : List Nat) : State :=
  let words := placeWords.map (fun o => (o, s.word (base + o)))
  let pass : PlacePass := ⟨s.now, s.xwp.paths, words, retry⟩
  { s with xwp := { s.xwp with pass := some pass } }

/-- The pass of a core cycle in which another pass has been made begins again from where the first began, so that every
release of the cycle comes before every placement (R132). A failure that the first has reported stays reported.
(DESIGN CHOICE, notes/assumptions/134.md) -/
def State.placeBegin (s : State) (retry : List Nat) : State :=
  let base := Page.base .xwpRoute
  match s.xwp.pass with
  | some p =>
    if p.at_ = s.now then
      let t := p.words.foldl (fun (s : State) e => s.setWord (base + e.1) e.2) s
      { t with xwp := { t.xwp with paths := p.paths, pass := some { p with retry := p.retry ++ retry } } }
    else s.placeFirst base retry
  | none => s.placeFirst base retry

/-- Paths the live table no longer needs are released, and new ones placed (R132). `retry` names the VTGs whose
destinations try again for a path they lack, with 32 for all of them (R135). A destination's UNPLACED bit clears when its
path is placed. While FUNC_INIT of the page runs nothing is placed (R140). -/
def State.placePaths (s : State) (retry : List Nat) : State :=
  if s.busy.contains .xwpRoute then s
  else
    let s := s.placeBegin retry
    let again := match s.xwp.pass with | some p => p.retry | none => retry
    let tries := fun d => again.contains 32 || again.contains (s.tlive (TBL.XWP_ROUTE_VTG.at d))
    let routes := s.liveRoutes
    let keep := s.xwp.paths.filter (fun p => routes.any (fun r => r.2 = p.1 && r.1 % 64 = p.2.1))
    let gone := s.xwp.paths.length - keep.length
    let s := ({ s with xwp := { s.xwp with paths := keep } } : State).add .xwpRoute XWPR.RELEASE_CNT gone
    let s := routes.foldl (fun s r =>
      if s.get .xwpRoute (unpBit r.1) = 1 && !tries r.1 then s else s.placePath r.1 r.2) s
    s.routed.foldl (fun s d =>
      if 0x800 ≤ s.routeSrc d || s.placed (s.routeSrc d) (d % 64) then s.put .xwpRoute (unpBit d) 0 else s) s

/-- The paths of a table that need a link from each ingress switch: pairs of source and egress switch. -/
def tablePaths (t : List (Nat × Nat)) : List (Nat × Nat) := (t.map (fun r => (r.2, r.1 % 64))).eraseDups

/-- The lowest ingress switch with more than 32 paths, and its count (R134). -/
def overIngress (t : List (Nat × Nat)) : Option (Nat × Nat) :=
  let ps := tablePaths t
  (List.range 64).findSome? (fun i =>
    let n := (ps.filter (fun p => p.1 % 64 = i)).length
    if 32 < n then some (i, n) else none)

/-- The predicted instant of the first T_FRM[v] at or after cycle `c`: from the last tick seen and the frame period.
(DEDUCED, notes/assumptions/34.md) -/
def State.nextFrm (s : State) (v c : Nat) : Nat :=
  match (s.brace.frmAt.get v []).head? with
  | none => c + s.vtgCycles v
  | some (_, at_) =>
    let p := s.vtgCycles v
    if c ≤ at_ || p = 0 then at_ else at_ + (c - at_ + p - 1) / p * p

/-- The predicted instant of the first T_SMP at or after cycle `c`: every 24,750 core cycles (R253).
(DEDUCED, notes/assumptions/34.md) -/
def State.nextSmp (s : State) (c : Nat) : Nat :=
  match s.brace.smpAt.head? with
  | none => c
  | some (_, at_) => if c ≤ at_ then at_ else at_ + (c - at_ + 24749) / 24750 * 24750

/-- The fire tick F of an arm latching now, under the present tick timing; an STC tick's own instant, or the T_SMP of a late
arm (R34, R36, R134). -/
def State.predictF (s : State) (sel delay : Nat) : Nat :=
  if sel < 0x20 then s.nextFrm sel (s.now + 2376) + delay * s.vtgCycles sel
  else if sel = 0x20 then s.nextSmp (s.now + 1188) + delay * 24750
  else if s.stcLate sel then s.nextSmp (s.now + 1188)
  else s.stcCycle (sel - 0x28)

/-- The fire tick of an arm that has latched, under the present tick timing. -/
def State.predictArm (s : State) (a : Arm) : Nat :=
  match a.smp with
  | some c => s.nextSmp (max c s.now)
  | none =>
    let c := max s.now (a.at_ + guard a.sel)
    if a.sel < 0x20 then s.nextFrm a.sel c + (a.left - 1) * s.vtgCycles a.sel
    else if a.sel = 0x20 then s.nextSmp c + (a.left - 1) * 24750
    else s.stcCycle (a.sel - 0x28)

/-- The changed entries of the route page's shadow: any field of XWP_ROUTE or XWP_EMB differs (R43, R145). -/
def State.xwpChanged (s : State) : List (Fin 2048) :=
  ((s.listed 0x02002000 0x02004000).map (fun a => (a - 0x02002000) / 4) ++
    (s.listed 0x02008000 0x0200A000).map (fun a => (a - 0x02008000) / 4)).foldl insertNat [] |>.filterMap (fun d =>
      if s.word (0x02002000 + 4 * d) != s.lword (0x02002000 + 4 * d) ||
         s.word (0x02008000 + 4 * d) != s.lword (0x02008000 + 4 * d) then idx? 2048 d else none)

/-- The instant at which the armed entry of destination `d` is predicted to apply, with fire tick `f` (R42). -/
def State.predictApply (s : State) (f d : Nat) : Nat :=
  let v := s.tget (TBL.XWP_ROUTE_VTG.at d)
  if s.vtgEn v then s.nextFrm v f else s.nextSmp f

/-- The tables that R134 counts: the live one, and that after each distinct apply instant in turn. -/
def State.predictTables (s : State) (f : Nat) : List (List (Nat × Nat)) :=
  let changed := s.xwpChanged.map (fun d => (d.val, s.predictApply f d.val))
  let instants := (changed.map (·.2)).foldl insertNat []
  let table := fun t : Option Nat => s.routed.filterMap (fun d =>
    let done := changed.any (fun c => c.1 = d && (match t with | some t => c.2 ≤ t | none => false))
    let x := if done then s.tget (TBL.XWP_ROUTE_SRC.at d) else s.routeSrc d
    if x < 0x800 then some (d, x) else none)
  table none :: instants.map (fun t => table (some t))

/-- The check of R134 for an arm that includes the route page. PATHS shows the low 7 bits of a count above 127.
(DESIGN CHOICE, notes/assumptions/126.md) -/
def State.blockCheck (s : State) (sel delay : Nat) : State × Bool :=
  let ts := s.predictTables (s.predictF sel delay)
  match (List.range ts.length).findSome? (fun k => (overIngress (nth ts k [])).map (fun o => (k, o))) with
  | none => (s, false)
  | some (k, o) =>
    let s := s.raise .xwpRoute XWPR.INT_STAT_BLOCKED
    (if s.get .xwpRoute XWPR.XWP_BLOCK_INFO_VALID = 1 then s
      else s.puts .xwpRoute [(XWPR.XWP_BLOCK_INFO_VALID, 1), (XWPR.XWP_BLOCK_INFO_STATE, k),
        (XWPR.XWP_BLOCK_INFO_INGRESS, o.1), (XWPR.XWP_BLOCK_INFO_PATHS, o.2)], true)

/-! ### Routes (R136, R137) and regeneration (R146, R147) -/

/-- The destination groups of bay `b`: first tenon, tenons, and the function (R137).
(DEDUCED, notes/assumptions/54.md) -/
def State.dstGroups (s : State) (v : View) (b : Nat) : List (Nat × Nat × Nat) :=
  (List.range 132).flatMap (fun f =>
    let m := s.tmap v 1 b f
    if !m.2.1 || m.1 = 0 then []
    else
      let d0 := 128 * b + m.2.2
      if f < 64 then
        match idx? 1032 (64 * b + f) with
        | some n => if s.txMode (!v (.lane n)) n = 2 then [(d0, m.1, f)] else (List.range m.1).map (fun i => (d0 + i, 1, f))
        | none => []
      else if f < 128 then [(d0, m.1, f)]
      else match idx? 64 (4 * b + (f - 128)) with
        | some e =>
          let r := (List.range 16).foldl (fun (acc : List (Nat × Nat × Nat) × Nat) l =>
            let n := s.layerTenons v e l
            if n = 0 then acc else (acc.1 ++ [(d0 + acc.2, n, f)], acc.2 + n)) ([], 0)
          r.1
        | none => [])

/-- The source tenons `s0` to `s0 + n - 1` lie within one feeder's held range (R137). -/
def State.heldByOne (s : State) (v : View) (s0 n : Nat) : Bool :=
  (List.range 136).any (fun f => (s.heldRanges v 0 (s0 / 128) f).any (fun r => r.1 ≤ s0 % 128 && s0 % 128 + n ≤ r.2))

/-- The armed entries of a destination group of two or more tenons break R137. (DEDUCED, notes/assumptions/54.md) -/
def State.groupBad (s : State) (v : View) (d0 n : Nat) : Bool :=
  let src := fun i => s.tget (TBL.XWP_ROUTE_SRC.at (d0 + i))
  let vtg := fun i => s.tget (TBL.XWP_ROUTE_VTG.at (d0 + i))
  let all := List.range n
  2 ≤ n && !(all.all (fun i => src i = 0x800)) &&
    !(all.all (fun i => src i = src 0 + i && vtg i = vtg 0) && src 0 + n ≤ 0x800 && s.heldByOne v (src 0) n)

/-- The frame rate times 1,000, and whether a format is of the 1.485 Gb/s class, the 2.97 Gb/s class and so on: the
rate code that carries it, integer family (standards of Table 3.3). -/
def Format.rateCode (f : Format) : Nat :=
  if f.lines < 700 then 0x3
  else if f.tenons = 4 then 0xA
  else if f.tenons = 2 then 0x8
  else if f.lines = 1125 && !f.interlaced && 40 * f.den < f.num then 0x6
  else 0x4

/-- Format code `c` can be carried at rate code `r` (R147). -/
def carries (c r : Nat) : Bool :=
  match format? c with
  | none => false
  | some f => r = (if f.rateCode = 3 then 3 else if f.ntsc then f.rateCode + 1 else f.rateCode)

/-- The VTG pages as they will be at cycle `f` of a fire that includes the pages `cand` (R147). -/
def State.vtgAt (s : State) (cand : List Page) (f : Nat) : View := fun p =>
  cand.contains p || match s.armOf p with
    | some a => !a.draining && s.predictArm a ≤ f
    | none => false

/-- The format of VTG `n` at the fire cannot be carried by XTX lane `m` (R147). -/
def State.regenBad (s : State) (v at_ : View) (m : LaneNo) (n : Nat) : Bool :=
  let f := s.vtgIn at_ n
  s.txMode (!v (.lane m)) m = 2 && f.1 && !carries f.2 (s.vget v (.lane m) LANE.LANE_MODE_TX_SDI)

/-- An arm against `sel` with `delay` that includes the route page breaks R136, R137, R144, R146 or R147. -/
def State.routeBad (s : State) (cand : List Page) (sel delay : Nat) : Bool :=
  let v := s.after cand
  let at_ := s.vtgAt cand (s.predictF sel delay)
  (s.routed.any (fun d => 0x801 ≤ s.tget (TBL.XWP_ROUTE_SRC.at d))) ||
  ((s.listed 0x02008000 0x0200A000).any (fun a => s.tget (TBL.XWP_EMB_MODE.at ((a - 0x02008000) / 4)) = 3)) ||
  ((s.listed 0x0200A000 0x0200C000).any (fun a => s.tget (TBL.XWP_REGEN_PID_MODE.at ((a - 0x0200A000) / 8)) = 3)) ||
  ((List.range 16).any (fun b => (s.dstGroups v b).any (fun g =>
    s.groupBad v g.1 g.2.1 ||
    (g.2.2 < 64 && (idx? 1032 (64 * b + g.2.2)).any (fun n =>
      s.regenBad v at_ n (s.tget (TBL.XWP_ROUTE_VTG.at g.1)))))))

/-- An arm of the map page breaks R141. -/
def State.genBad (s : State) : Bool :=
  (s.listed 0x02016000 0x02016100).any (fun a =>
    let g := (a - 0x02016000) / 4
    let v := s.tget (TBL.XWP_GEN_VTG.at g)
    let ten := s.tget (TBL.XWP_GEN_TEN.at g)
    s.tget (TBL.XWP_GEN_EN.at g) = 1 &&
      (4 ≤ s.tget (TBL.XWP_GEN_PAT.at g) || ten = 3 || !s.vtgEn v || fmtTenons (s.vtgCode v) ≠ tenCount ten))

/-- The lanes in SDI word transmit mode, ascending. -/
def State.sdiOutputs (s : State) : List (Fin 1024) :=
  (List.filterMap (fun e : Nat × Word =>
    match pageOf (e.1 / 4096) with
    | some (.lane n) => if e.1 % 4096 = 0x040 && s.txMode true n = 2 then idx? 1024 n.val else none
    | _ => none) s.lv)

/-- The regenerator of XTX lane `n` is idle under R147. -/
def State.regenIdle (s : State) (n : Fin 1024) : Bool :=
  match s.dstFirst (n.val / 64) (n.val % 64) with
  | none => false
  | some d0 =>
    let v := s.tlive (TBL.XWP_ROUTE_VTG.at d0)
    if s.vtgEn v then !carries (s.vtgCode v) (s.live (.lane (outLane n)) LANE.LANE_MODE_TX_SDI) else s.dstNosig d0

/-- The REGEN_FAULT bit of lane `n`. -/
def regenBit (n : Nat) : Fld := (XWPR.REGEN_FAULT_RF.at (n / 32)).bit (n % 32)

/-- Set or clear the REGEN_FAULT bit of a lane, with its cause when it sets. -/
def State.setRegen (s : State) (n : Fin 1024) (b : Bool) : State :=
  if (s.get .xwpRoute (regenBit n.val) = 1) == b then s
  else
    let s := s.put .xwpRoute (regenBit n.val) (b2n b)
    if b then s.raise .xwpRoute XWPR.INT_STAT_REGEN_FAULT else s

/-- The lanes whose REGEN_FAULT bit is set. -/
def State.regenSet (s : State) : List (Fin 1024) :=
  let base := Page.base .xwpRoute + 0x280
  s.sh.flatMap (fun e =>
    if base ≤ e.1 && e.1 < base + 0x80 then
      (List.range 32).filterMap (fun i => if e.2.getLsbD i then idx? 1024 ((e.1 - base) * 8 + i) else none)
    else [])

/-- REGEN_FAULT follows the conditions of R147: called after every change of a signal, a route, a VTG or a lane. -/
def State.regen (s : State) : State :=
  let outs := s.sdiOutputs
  let s := s.regenSet.foldl (fun s n => if outs.contains n then s else s.setRegen n false) s
  outs.foldl (fun s n => s.setRegen n (s.regenIdle n)) s

/-- FUNC_INIT of the route page: every path is released (R140). -/
def State.routeInit (s : State) : State :=
  let s := ({ s with xwp := { s.xwp with paths := [], pass := none } } : State).add .xwpRoute XWPR.RELEASE_CNT s.xwp.paths.length
  (List.range 64).foldl (fun s w => s.put .xwpRoute (XWPR.UNPLACED_UNP.at w) 0) s

/-! ### Audio at the edges (R142 to R145) -/

/-- Slot of channel `k` of group `g` of the set on tenon `t` (R142). -/
def deembSlot (t g k : Nat) : Nat := 16 * t + 4 * g + k

/-- The rate code of the stream on source tenon `t`, where the feeder fixes or shows it, and the tenon's place in it: none
for an Ignada lane, which does not say what its tenons carry. -/
def State.srcRate (s : State) (t : Nat) : Option (Nat × Nat) :=
  let b := t / 128
  let ofFmt := fun (c i : Nat) => (format? c).map (fun f => (f.rateCode, i))
  match s.feeder 0 t with
  | none => none
  | some (f, i) =>
    if f < 64 then
      (idx? 1032 (64 * b + f)).bind (fun n =>
        if s.rxIgn n then none else some (s.get (.lane n) LANE.LANE_STAT_DET_SDI, i))
    else if f < 128 then
      (idx? 1024 (64 * b + (f - 64))).bind (fun n => ofFmt (s.vtgCode (s.live (.rxSlot n) RXS.RX_CTRL_VTG)) i)
    else if f < 132 then
      (idx? 64 (4 * b + (f - 128))).bind (fun e => ofFmt (s.vtgCode (s.live (.eng e) ENGI.ENG_CTRL_OUT_VTG)) i)
    else ofFmt (s.vtgCode (s.tlive (TBL.XWP_GEN_VTG.at (4 * b + (f - 132))))) i

/-- Groups 5 to 8 are carried at 2.97 Gb/s, and in sub-image 1 above (R142). -/
def upperSet (x : Nat × Nat) : Bool := x.1 = 6 || x.1 = 7 || (8 ≤ x.1 && x.2 = 0)

/-- The de-embedder of tenon `t` reads group `grp` (0 to 7): its set and the group are enabled, and the tenon carries a
signal of a rate at which ST 299-2 places groups 5 to 8 (R142). -/
def State.deembReads (s : State) (t grp : Nat) : Bool :=
  s.tlive (TBL.XWP_DEEMB_EN.at t) = 1 && s.tlive (TBL.XWP_DEEMB_GSET.at t) = grp / 4 &&
    bitAt (s.tlive (TBL.XWP_DEEMB_GRP_EN.at t)) (grp % 4) = 1 && !s.srcNosig t &&
    (grp < 4 || (match s.srcRate t with | some x => upperSet x | none => true))

/-- A sample arrives in the FIFO of a de-embedded channel (R143). -/
def State.deembPush (s : State) (key w : Nat) : State :=
  let q := s.xwp.fifo.get key []
  let s' : State := { s with xwp := { s.xwp with
    fifo := s.xwp.fifo.set key ((if 8 ≤ q.length then q.drop 1 else q) ++ [(w % 2 ^ 32, s.now)]) [],
    silent := s.xwp.silent.filter (· ≠ key) } }
  if 8 ≤ q.length then (s'.addSat .xwpMap XWPM.DEEMB_OVER 1).raise .xwpMap XWPM.INT_STAT_DEEMB_SLIP else s'

/-- A channel is not present in its group's packets: it reads as silence, and nothing waits for it (R142). -/
def State.deembSilent (s : State) (key : Nat) : State :=
  { s with xwp := { s.xwp with
    fifo := s.xwp.fifo.set key [] [], last := s.xwp.last.set key 0 0, silent := insertNat s.xwp.silent key } }

/-- An audio data packet of group `grp` (0 to 7) ends on tenon `t`, with its channels' samples; `ok` tells whether its
checksum and ECC are right (R142, Table 5.9). (DESIGN CHOICE, notes/assumptions/53.md) -/
def State.deembPacket (s : State) (t grp : Nat) (samples : List (Nat × Nat)) (ok : Bool) : State :=
  let g := grp % 4
  if 2048 ≤ t || !s.deembReads t grp then s
  else if !ok then s.addSat .xwpMap XWPM.DEEMB_PKT_ERR 1
  else
    let s := (List.range 4).foldl (fun s k =>
      if samples.any (fun x => x.1 = k) then s else s.deembSilent (deembSlot t g k)) s
    samples.foldl (fun s x => if x.1 < 4 then s.deembPush (deembSlot t g x.1) x.2 else s) s

/-- The sample a de-embedded channel writes at this T_SMP (R143). -/
def State.deembChannel (s : State) (key : Nat) : State :=
  if s.xwp.silent.contains key then s
  else match s.xwp.fifo.get key [] with
  | (w, at_) :: r =>
    if at_ + 1188 ≤ s.now then
      { s with xwp := { s.xwp with fifo := s.xwp.fifo.set key r [], last := s.xwp.last.set key w 0 } }
    else (s.addSat .xwpMap XWPM.DEEMB_UNDER 1).raise .xwpMap XWPM.INT_STAT_DEEMB_SLIP
  | [] => (s.addSat .xwpMap XWPM.DEEMB_UNDER 1).raise .xwpMap XWPM.INT_STAT_DEEMB_SLIP

/-- The tenons with de-embedding enabled. -/
def State.deembTenons (s : State) : List Nat :=
  s.lv.filterMap (fun e =>
    if 0x02014000 ≤ e.1 && e.1 < 0x02016000 && e.2.getLsbD 0 then some ((e.1 - 0x02014000) / 4) else none)

/-- The slots of the enabled groups of tenon `t`. -/
def State.deembKeys (s : State) (t : Nat) : List Nat :=
  ((List.range 4).filter (fun g => bitAt (s.tlive (TBL.XWP_DEEMB_GRP_EN.at t)) g = 1)).flatMap (fun g =>
    (List.range 4).map (deembSlot t g))

/-- While a tenon carries NOSIG = 1 its FIFOs are emptied, whenever it comes to do so (R143). -/
def State.deembFollow (s : State) : State :=
  let dead := ((s.deembTenons.filter (fun t => s.xwp.fifo.any (fun e => e.1 / 16 = t))).filter s.srcNosig).flatMap s.deembKeys
  { s with xwp := { s.xwp with fifo := s.xwp.fifo.filter (fun e => !dead.contains e.1) } }

/-- FUNC_INIT of the map page stops de-embedding; the generators stop with the page's function (R140). -/
def State.mapStop (s : State) : State := { s with xwp := { s.xwp with fifo := [], last := [], silent := [] } }

/-- De-embedding at a T_SMP: what each enabled channel writes, as (slot, word); every other slot of the range holds the
zero word (R142, R143). -/
def State.deembSmp (s : State) : State × List (Nat × Nat) :=
  s.deembTenons.foldl (fun acc t =>
    let keys := acc.1.deembKeys t
    if acc.1.srcNosig t then
      ({ acc.1 with xwp := { acc.1.xwp with
          fifo := keys.foldl (fun m k => m.set k [] []) acc.1.xwp.fifo,
          last := keys.foldl (fun m k => m.set k 0x10 0) acc.1.xwp.last,
          silent := acc.1.xwp.silent.filter (fun k => !keys.contains k) } },
        acc.2 ++ keys.map (fun k => (k, 0x10)))
    else keys.foldl (fun acc k =>
      let s := acc.1.deembChannel k
      (s, acc.2 ++ [(k, s.xwp.last.get k 0)])) acc) (s, [])

/-- The rate code of the stream on destination tenon `d`, and the tenon's place in it (R144). -/
def State.dstRate (s : State) (d : Nat) : Option (Nat × Nat) :=
  match s.feeder 1 d with
  | none => none
  | some (f, i) =>
    let byVtg := (s.vtgFormat (s.tlive (TBL.XWP_ROUTE_VTG.at d))).map (fun x => (x.rateCode, i))
    if f < 64 then
      (idx? 1032 (64 * (d / 128) + f)).bind (fun n =>
        if s.txIgn n then byVtg else some (s.live (.lane n) LANE.LANE_MODE_TX_SDI, i))
    else byVtg

/-- The groups the embedder of destination `d` writes and the groups it keeps, when the tenon carries the groups of the
mask `carried`: none is written with EN = 0, nor of groups 5 to 8 at a rate that ST 299-2 does not place them at (R142,
R144). -/
def State.embedGroups (s : State) (d carried : Nat) : Nat × Nat :=
  let upper := s.tlive (TBL.XWP_EMB_GSET.at d) = 1
  let set := !upper || (match s.dstRate d with | some x => upperSet x | none => true)
  let en := s.tlive (TBL.XWP_EMB_GRP_EN.at d) * (if upper then 16 else 1)
  if s.tlive (TBL.XWP_EMB_EN.at d) = 0 || !set then (0, carried)
  else match s.tlive (TBL.XWP_EMB_MODE.at d) with
    | 0 => (en, carried &&& (0xFF ^^^ en))
    | 1 => (en, 0)
    | _ => (en &&& (0xFF ^^^ carried), carried)

/-! ### Slots (R125, R126) -/

/-- A tenon slot: a word of the stream, a fill word, or no signal (R125). -/
inductive Slot where
  /-- DATA = 1. -/
  | data (w : Nat)
  /-- DATA = 0, NOSIG = 0. -/
  | fill
  /-- DATA = 0, NOSIG = 1. -/
  | noSignal
  deriving DecidableEq, Repr

/-- What a slot of source tenon `t` carries when its feeder brings `w`, or no word (R125). -/
def State.srcSlot (s : State) (t : Nat) (w : Option Nat) : Slot :=
  if s.srcNosig t then .noSignal else match w with | some x => .data (x % 2 ^ 20) | none => .fill

/-- What a slot of destination tenon `d` carries when `x` entered its source tenon 96 core cycles before (R126). -/
def State.dstSlot (s : State) (d : Nat) (x : Slot) : Slot :=
  if 0x800 ≤ s.routeSrc d || (s.pathMid d).isNone then .noSignal else x

/-- The destinations routed from source tenon `t` whose path is placed (R126). -/
def State.dstsOf (s : State) (t : Nat) : List Nat :=
  (s.liveRoutes.filter (fun r => r.2 = t && s.placed t (r.1 % 64))).map (·.1)

/-- The first source tenon of lane `n`, when its live map entry places it. -/
def State.laneFirst (s : State) (n : LaneNo) : Option Nat :=
  let m := s.tmap liveView 0 (n.val / 64) (n.val % 64)
  if n.val < 1024 && m.2.1 && m.1 ≠ 0 then some (128 * (n.val / 64) + m.2.2) else none

/-- Words that lane `n` hands to its tenon `t` leave every destination routed from that tenon 96 core cycles later (R126). An
Ignada block marks no word as fill, so that every word of it is a word of the stream.
(DEDUCED, notes/assumptions/135.md) -/
def State.handOver (s : State) (n t : Nat) (words : List Nat) : State :=
  match (idx? 1032 n).bind s.laneFirst with
  | none => s
  | some t0 =>
    (s.dstsOf (t0 + t)).foldl (fun (s : State) d =>
      s.emit (.tenonWords d (s.now + 96) ((words.map (fun w => s.dstSlot d (s.srcSlot (t0 + t) (some w)))).filterMap
        (fun x => match x with | .data w => some w | _ => none)))) s

/-- The words that the command has handed to source tenons cross the word plane. -/
def State.carryOver (s : State) : State :=
  s.out.foldl (fun (s : State) e => match e with | .laneWords n t ws => s.handOver n t ws | _ => s) s

end Sys2Proof.Machine
end

