-- ==== Sys2Proof/Machine/Transmit.lean ====
section
/-! DEFINITION. What the transmit half of a lane carries (chapters 3 to 5): the opcode table has no row for a sent bit, so the
pins are functions of the state, and the bits of a pattern, of a superframe and of an SDI line are functions of what is
given to them. (DESIGN CHOICE, notes/assumptions/136.md) -/

namespace Sys2Proof.Machine

/-! ### Which signal a transmit half carries (R91, R98, R101 to R104, R111) -/

/-- The signal at the pins of a transmit half. -/
inductive LaneOut where
  /-- Electrical idle. -/
  | idle
  /-- A test pattern: PAT of Table 3.9, the user pattern taken, inversion, and the line rate as a rate code of R111. -/
  | pattern (pat user : Nat) (inv : Bool) (rate : Option Nat)
  /-- The line bits of an XRX lane, every one of them unchanged or every one inverted (R102). -/
  | line (src : Nat) (inv : Bool)
  /-- SDI at a rate code, from the regenerator: the source's lines, or black. -/
  | sdi (code : Nat) (black inv : Bool)
  /-- Training blocks. -/
  | training (inv : Bool)
  /-- Superframes. -/
  | superframes (inv : Bool)
  deriving DecidableEq, Repr

/-- The line rate of a lane's serialiser, as a rate code of R111; none where TX_MODE gives none. -/
def State.serRate (s : State) (n : LaneNo) : Option Nat :=
  match s.txMode true n with
  | 2 => some (s.live (.lane n) LANE.LANE_MODE_TX_SDI)
  | 3 => some (if s.live (.lane n) LANE.LANE_MODE_IGN_HALF_TX = 1 then 0xC else 0xD)
  | _ => none

/-- TX_INV of a lane. -/
def State.txInv (s : State) (n : LaneNo) : Bool := s.live (.lane n) LANE.LANE_MODE_TX_INV = 1

/-- The lane's generator: PAT 5 runs at TX_SDI, and PAT 7 sends electrical idle (R91, Table 3.9). -/
def State.genOut (s : State) (n : LaneNo) : LaneOut :=
  let inv := (s.get (.lane n) LANE.LANE_PRBS_GEN_INV = 1) != s.txInv n
  match s.get (.lane n) LANE.LANE_PRBS_GEN_PAT with
  | 7 => .idle
  | 5 => .pattern 5 0 inv (some (s.live (.lane n) LANE.LANE_MODE_TX_SDI))
  | 6 => .pattern 6 (s.lane n).userGen inv (s.serRate n)
  | p => .pattern p 0 inv (s.serRate n)

/-- The serialiser of a lane: SDI through its regenerator, which is idle without a destination group and in the cases of
REGEN_FAULT (R147), or training blocks and superframes (R84, R85); nothing in the other modes. -/
def State.serOut (s : State) (n : LaneNo) : LaneOut :=
  match s.txMode true n with
  | 3 => if s.serTrains n then .training (s.txInv n) else .superframes (s.txInv n)
  | 2 =>
    match idx? 1024 n.val with
    | none => .idle
    | some o =>
      match s.dstFirst (o.val / 64) (o.val % 64) with
      | none => .idle
      | some d => if s.regenIdle o then .idle
                  else .sdi (s.live (.lane n) LANE.LANE_MODE_TX_SDI) (s.dstNosig d) (s.txInv n)
  | _ => .idle

/-- Pattern source `k` of the bit plane on an output with TX_INV `inv`: codes 0x3 to 0xD give a rate, and any other code, PAT
5 and PAT 7 send electrical idle (R111, R102). -/
def State.sourceOut (s : State) (k : Nat) (inv : Bool) : LaneOut :=
  let rate := s.get .xbp (XBP.XBP_PGEN_RATE.at k)
  let pat := s.get .xbp (XBP.XBP_PGEN_PAT.at k)
  if rate < 3 || 0xD < rate || pat = 5 || pat = 7 then .idle
  else .pattern pat (if pat = 6 then nth s.xbp.user k 0 else 0)
    ((s.get .xbp (XBP.XBP_PGEN_INV.at k) = 1) != inv) (some rate)

/-- Source code `src` of the bit plane on lane `n`: a source lane must be on and its CDR locked, and its RX_INV and the
output's TX_INV apply (R98, R101, R102). Before READY the receivers feed no plane (R408). -/
def State.planeOut (s : State) (n : LaneNo) (src : Nat) : LaneOut :=
  if src < 0x400 then
    match idx? 1032 src with
    | some m =>
      if !s.ready || !s.running .xbp || s.rxMode true m = 0 || s.get (.lane m) LANE.LANE_STAT_CDR_LOCK = 0 then .idle
      else .line src ((s.live (.lane m) LANE.LANE_MODE_RX_INV = 1) != s.txInv n)
    | none => .idle
  else if src < 0x408 then s.sourceOut (src - 0x400) (s.txInv n)
  else .idle

/-- What the pins of a transmit half carry: electrical idle under the start-up squelch, in a FUNC_INIT and with TX_MODE 0b00;
else the generator while it is on; else the serialiser or the source that the crosspoint stands at (R59, R64, R90, R91, R98,
R103, R104). -/
def State.sent (s : State) (n : LaneNo) : LaneOut :=
  if s.squelched || !s.running (.lane n) || s.txMode true n = 0 then .idle
  else if s.get (.lane n) LANE.LANE_PRBS_GEN_EN = 1 then s.genOut n
  else if isBrace n || s.xbpSrc n.val = srcSerialiser then s.serOut n
  else s.planeOut n (s.xbpSrc n.val)

/-! ### Test patterns (Table 3.9, R91, R111) -/

/-- `len` bits of a pattern from register window `w`: the sequence of patterns 0 to 4, the check field as SDI from words of
`k` bits, or the 64 user bits, bit 0 first. -/
def patternBits (pat user : Nat) (inv : Bool) (w k len : Nat) : List Bool :=
  let l :=
    if pat < 5 then (prbsBits (prbsPoly pat).1 (prbsPoly pat).2 w len).1
    else if pat = 5 then (sdiLine false w k ((List.range (len / 20 + 1)).flatMap (fun i =>
      let p := nth checkField (i % 2) 0
      if k = 20 then [p] else [p % 1024, p / 1024]))).take len
    else (List.range len).map (fun i => bitAt user (i % 64) = 1)
  l.map (· != inv)

/-! ### Training blocks (R85, Table 3.7) -/

/-- The payload of a training block that the lane sends, from window `w` of its PRBS31, and the window after it. -/
def State.trainingPayload (s : State) (n : LaneNo) (w : Nat) : Nat × Nat :=
  let l := s.lane n
  let r := prbsBits 31 28 w 224
  (nth l.reqs 0 0 + nth l.reqs 1 0 * 2 ^ 2 + nth l.reqs 2 0 * 2 ^ 4 + b2n l.preset * 2 ^ 6 + b2n l.rxReady * 2 ^ 7 +
    s.ign n * 2 ^ 8 + l.stPre * 2 ^ 16 + l.stMain * 2 ^ 18 + l.stPost * 2 ^ 20 + ofBits r.1 * 2 ^ 32, r.2)

/-! ### Superframes (R69 to R77) -/

/-- What the transmitter of a lane carries from block to block. -/
structure SfTx where
  /-- SF_COUNT of the superframe being sent. -/
  count : Nat
  /-- The scrambler. -/
  scr : Nat
  /-- Each tenon's bits that wait to be sent, first bit first, and how many bits of the word begun have been sent. -/
  bits : List (List Bool × Nat)
  /-- Tenons at 148.5/1.001 MHz, a bit each. -/
  slow : Nat
  /-- TMARK of the previous superframe, tenon by tenon. -/
  marks : List Nat
  /-- The run of line bits sent last (R75). -/
  runLen : Nat
  runVal : Bool
  deriving DecidableEq, Repr

/-- The tenons that lane `n` carries (R77). -/
def State.carried (s : State) (n : LaneNo) : Nat := s.laneDstTenons true n

/-- The tag the lane sends: TXTAG, or that of a brace lane (R72, R77, R115). -/
def State.sentTag (s : State) (n : LaneNo) : Nat :=
  if isBrace n then braceTag s.role (n.val - 1024) else s.live (.lane n) LANE.LANE_IGN_CTRL_TXTAG

/-- The payload of the superframe header that the lane sends (Table 3.5, R72, R77): its SEED is the scrambler's state at the end
of the superframe before (R73). -/
def State.headerPayload (s : State) (n : LaneNo) (x : SfTx) : Nat :=
  let k := s.carried n
  let phase := ((List.range k).map (fun t => (20 - (nth x.bits t ([], 0)).2 % 20) % 20 * 2 ^ (64 + 5 * t))).foldl (· + ·) 0
  let p := x.scr % 2 ^ 31 + x.count % 2 ^ 16 * 2 ^ 32 + (2 ^ k - 1) * 2 ^ 48 + x.slow % 2 ^ k * 2 ^ 56 + phase +
    s.sentTag n * 2 ^ 104
  p + crc32 p 224 * 2 ^ 224

/-- The payload of sideband block `q` of the superframe, before scrambling (Table 3.6, R74, R77): what the lane's own receive half
shows, or zeros where it is not Ignada (R84). -/
def State.sidebandPayload (s : State) (n : LaneNo) (x : SfTx) (q : Nat) : Nat :=
  let far := if s.rxIgn n then
      b2n (s.ign n = 4) + s.get (.lane n) LANE.LANE_STAT_ADAPT_FROZEN * 2 + (s.lane n).sfErrLast * 4
    else 0
  let tally := s.live (.lane n) LANE.LANE_IGN_TALLY_TX_LO_TALLY + s.live (.lane n) LANE.LANE_IGN_TALLY_TX_HI_TALLY * 2 ^ 32
  let marks := ((List.range (s.carried n)).map (fun t => nth x.marks t 0 % 2 ^ 20 * 2 ^ (80 + 20 * t))).foldl (· + ·) 0
  let p := q % 4 + far * 2 ^ 8 + tally * 2 ^ 16 + marks
  p + crc16 p 240 * 2 ^ 240

/-- The lane sends data and sideband blocks: SYNC, UP, and RESYNC after them (R77). -/
def State.sendsData (s : State) (n : LaneNo) : Bool := [3, 4, 7].contains (s.ign n)

/-- The line bits of a block of TYPE `ty`, and the transmitter after it: the header byte and the payload, scrambled where the
TYPE is, with the kerf bits put in (R69, R73, R75). -/
def SfTx.send (x : SfTx) (ty payload : Nat) : List Bool × SfTx :=
  let r := scrBits x.scr 256
  let on := scrambled ty
  let sent := if on then payload ^^^ r.1 else payload
  let k := kerfSend x.runLen x.runVal (toBits (nth headerBytes ty 0 + sent * 256) 264)
  (k.1, { x with scr := if on then r.2 else x.scr, runLen := k.2.1, runVal := k.2.2 })

/-- 256 bits of tenon `t` leave for a data block (R71). -/
def SfTx.takeTenon (x : SfTx) (t : Nat) : Nat × SfTx :=
  let e := nth x.bits t ([], 0)
  (ofBits (e.1.take 256), { x with bits := setNth x.bits t (e.1.drop 256, (e.2 + 256) % 20) })

/-- Block `k` of a superframe (R70, R73, R77): the header; in blocks 1, 257, 513 and 769 the sideband, or on a brace lane message
`msg`; else data of the lowest tenon with 256 bits ready, or fill. -/
def State.sfBlock (s : State) (n : LaneNo) (x : SfTx) (msg : Option Nat) (k : Nat) : List Bool × SfTx :=
  let fill := fun (x : SfTx) => x.send 9 0
  if k = 0 then
    let r := x.send 10 (s.headerPayload n x)
    (r.1, { r.2 with count := (x.count + 1) % 2 ^ 16 })
  else if k % 256 = 1 then
    if isBrace n then (match msg with | some p => x.send 11 p | none => fill x)
    else if s.sendsData n then x.send 8 (s.sidebandPayload n x (k / 256))
    else fill x
  else
    match if s.sendsData n then (List.range (s.carried n)).find? (fun t => 256 ≤ (nth x.bits t ([], 0)).1.length) else none with
    | some t => let r := x.takeTenon t
                r.2.send t r.1
    | none => fill x

/-- The words of a tenon join the bits that wait to be sent (R71). -/
def SfTx.feed (x : SfTx) (t : Nat) (words : List Nat) : SfTx :=
  let e := nth x.bits t ([], 0)
  { x with bits := setNth x.bits t (e.1 ++ words.flatMap (fun w => toBits w 20), e.2) }

/-! ### SDI lines (R68, R146, R147) -/

/-- A line as the regenerator of lane `n` sends it: renumbered from `count`, with its payload identifier on the lines that ST 352
gives, as `at_` tells, and its line CRC. -/
def State.regenLineOut (s : State) (n : Fin 1024) (count total : Nat) (at_ : Bool) (prev : List Nat) (l : SdiLine) : List Nat :=
  let renum := if s.tlive (TBL.XWP_REGEN_LN_RENUM.at n.val) = 1 then some (regenCount count l) else none
  (regenLine renum (s.tlive (TBL.XWP_REGEN_PID_MODE.at n.val)) (s.tlive (TBL.XWP_PID_PID.at n.val)) at_ l).words prev total

/-- Line `num` of the black that the regenerator of lane `n` sends in the format of code `fmt` (R147). -/
def State.blackLine (s : State) (n : Fin 1024) (fmt num : Nat) : List Nat :=
  match format? fmt with
  | some f => s.regenLineOut n (num - 1) f.lineWords (f.pidLines.contains num) [] (genLine f fmt 0 num)
  | none => []

/-- The words of `n` sub-images in turn, the inverse of their division. (PRESUMED, notes/assumptions/128.md) -/
def joinImages (images : List (List Nat)) : List Nat :=
  (List.range (images.headD []).length).flatMap (fun i => images.map (fun l => nth l i 0))

/-- The line bits of a lane's SDI from the slots of its tenons, without their fill words, after level `y` and scrambler state `w`
(R68). -/
def sdiSent (code : Nat) (y : Bool) (w : Nat) (tenons : List (List (Option Nat))) : List Bool :=
  sdiLine y w (if code = 3 then 10 else 20) (joinImages (tenons.map (fun l => l.filterMap (fun x => x))))

end Sys2Proof.Machine
end

