-- ==== Sys2Proof/Machine/Flows.lean ====
section
/-! DEFINITION. Video flows over IP (chapter 7): receive slots, send slots, and the rates of R204. -/

namespace Sys2Proof.Machine

/-! ### Formats of a flow -/

/-- Rows of one unit: a frame, or a field of an interlaced format (R181). -/
def Format.rows (f : Format) : Nat := if f.interlaced then f.height / 2 else f.height

/-- Units a second: twice the frame rate for an interlaced format. -/
def Format.units (f : Format) : Nat := if f.interlaced then 2 * f.num else f.num

/-- Bytes of one row at 4:2:2, 10 bits: five for two pixels (R180). -/
def Format.rowBytes (f : Format) : Nat := f.width * 5 / 2

/-- The period of one unit, in ns. -/
def Format.unitPeriod (f : Format) : Frac := ⟨1000000000 * f.den, f.units⟩

/-- Packets of one unit in a packing mode (R198). -/
def Format.packets (f : Format) (pm plen : Nat) : Nat :=
  if pm = 1 then (f.rows * f.rowBytes + 1259) / 1260
  else if plen = 0 then 0 else f.rows * ((f.rowBytes + plen - 1) / plen)

/-- The SRDs of packet `k` of a unit: row, offset and length in bytes (R198). -/
def Format.srds (f : Format) (pm plen k : Nat) : List (Nat × Nat × Nat) :=
  let row := max 1 f.rowBytes
  if pm = 1 then
    let a := 1260 * k
    let b := min (a + 1260) (f.rows * row)
    (List.range ((b - 1) / row - a / row + 1)).map (fun i =>
      let r := a / row + i
      let from_ := max a (r * row)
      (r, from_ - r * row, min b ((r + 1) * row) - from_))
  else
    let n := if plen = 0 then 1 else (row + plen - 1) / plen
    [(k / n, k % n * plen, min plen (row - k % n * plen))]

/-- The number of row boundaries inside packets of a unit in block packing: the SRDs beyond the first of each packet. -/
def Format.extraSrds (f : Format) (pm : Nat) : Nat :=
  if pm = 1 then ((List.range (f.rows - 1)).filter (fun r => (r + 1) * f.rowBytes % 1260 ≠ 0)).length else 0

/-! ### Slots -/

/-- Receive slot `n`. -/
def State.rx (s : State) (n : Fin 1024) : RxSlot := s.rxs.get n.val RxSlot.init

/-- Set receive slot `n`. -/
def State.setRx (s : State) (n : Fin 1024) (x : RxSlot) : State := { s with rxs := s.rxs.set n.val x RxSlot.init }

/-- Send slot `n`. -/
def State.tx (s : State) (n : Fin 1024) : TxSlot := s.txs.get n.val TxSlot.init

/-- Set send slot `n`. -/
def State.setTx (s : State) (n : Fin 1024) (x : TxSlot) : State := { s with txs := s.txs.set n.val x TxSlot.init }

/-- RX_STAT.STATE: 0 OFF, 1 WAIT, 2 RUN, 3 LOST. -/
def State.rxState (s : State) (n : Fin 1024) : Nat := s.get (.rxSlot n) RXS.RX_STAT_STATE

/-- The bay of a slot. -/
def slotBay (n : Fin 1024) : Nat := n.val / 64

/-- The format of the VTG a receive slot is bound to, when its TEN can carry it (R180). -/
def State.rxFormat (s : State) (lv : Bool) (n : Fin 1024) : Option Format :=
  match s.vtgFormat (s.cfg lv (.rxSlot n) RXS.RX_CTRL_VTG) with
  | some f => if f.tenons = tenCount (s.cfg lv (.rxSlot n) RXS.RX_CTRL_TEN) then some f else none
  | none => none

/-- Send selection entry of send slot `n`: VTG and SRC. -/
def State.txSel (s : State) (lv : Bool) (n : Fin 1024) : Nat × Nat :=
  (s.tcfg lv (TBL.FLOWV_TXSEL_VTG.at n.val), s.tcfg lv (TBL.FLOWV_TXSEL_SRC.at n.val))

/-- The format of the VTG a send slot is bound to, when its TEN can carry it (R180). -/
def State.txFormat (s : State) (lv : Bool) (vtg : Nat) (n : Fin 1024) : Option Format :=
  match s.vtgFormat vtg with
  | some f => if f.tenons = tenCount (s.cfg lv (.txSlot n) TXS.TX_CTRL_TEN) then some f else none
  | none => none

/-- Buffers a receive slot reserves; below 16 acts as 16 (R191). -/
def State.rxBuf (s : State) (lv : Bool) (n : Fin 1024) : Nat := max 16 (s.cfg lv (.rxSlot n) RXS.RX_BUF_BUF)

/-- The receive slots whose RX_CTRL is listed: every other one is disabled, live and in its shadow. -/
def State.rxListed (s : State) : List (Fin 1024) :=
  (s.listed 0x00800000 0x00C00000).filterMap (fun a => if a % 4096 = 0x040 then idx? 1024 (a / 4096 - 0x800) else none)

/-- The send slots whose TX_CTRL is listed. -/
def State.txListed (s : State) : List (Fin 1024) :=
  (s.listed 0x00C00000 0x01000000).filterMap (fun a => if a % 4096 = 0x040 then idx? 1024 (a / 4096 - 0xC00) else none)

/-- A receive slot page breaks R180: its format, its TEN. -/
def State.rxBad (s : State) (n : Fin 1024) : Bool := (s.rxFormat false n).isNone

/-- A send slot page breaks R180, R198 or R200, in a view. -/
def State.txBad (s : State) (v : View) (n : Fin 1024) : Bool :=
  let bay := match idx? 16 (slotBay n) with | some b => v (.flowv b) | none => false
  let vtg := (s.txSel (!bay) n).1
  let plen := s.get (.txSlot n) TXS.TX_PLEN_PLEN
  match s.txFormat false vtg n with
  | none => true
  | some f =>
    (s.get (.txSlot n) TXS.TX_CTRL_PM = 0 && (plen < 100 || 1400 < plen || plen % 5 ≠ 0)) ||
    -- TX_TRO, in 0.1 µs, below A plus two line periods
    s.get (.txSlot n) TXS.TX_TRO_TRO * f.num * f.lines < (f.firstActive.1 + 1) * 10000000 * f.den

/-- An arm of a classification page breaks R184. (PRESUMED, notes/assumptions/37.md) -/
def State.clsBad (s : State) (b : Fin 16) : Bool :=
  (s.listed (0x02024000 + b.val * 8192) (0x02024000 + b.val * 8192 + 8192)).any (fun a =>
    let e := (a - 0x02024000) / 32
    let k := s.tget (TBL.CLS_KIND.at e)
    let lo := s.tget (TBL.CLS_TARGET.at e)
    let hi := lo + s.tget (TBL.CLS_SPAN.at e)
    8 ≤ k || (k < 4 && !(64 * b.val ≤ lo && hi < 64 * b.val + 64)) ||
      ((k = 4 || k = 5) && !(256 * b.val ≤ lo && hi < 256 * b.val + 256)))

/-- An arm of a bay page breaks R196. -/
def State.flowvBad (s : State) (b : Fin 16) : Bool :=
  (s.listed (0x02020000 + b.val * 256) (0x02020000 + b.val * 256 + 256)).any (fun a =>
    s.tget (TBL.FLOWV_TXSEL_SRC.at ((a - 0x02020000) / 4)) = 3)

/-! ### Rates (R204) -/

/-- The rate of one path of a send slot on a port, kb/s rounded up, in the live configuration or in the shadow; 0 when
the VTG's format is none of Table 9.7. `sec` tells whether the port's MACsec is on.
(DEDUCED, notes/assumptions/38.md) -/
def State.txRate (s : State) (lv : Bool) (vtg : Nat) (sec : Bool) (n : Fin 1024) : Nat :=
  let g := fun f => s.cfg lv (.txSlot n) f
  match s.vtgFormat vtg with
  | none => 0
  | some f =>
    let np := f.packets (g TXS.TX_CTRL_PM) (g TXS.TX_PLEN_PLEN)
    let na := if g TXS.TX_CTRL_ANC_EN = 1 then g TXS.TX_CTRL_ANC_PKTS else 0
    let each := 90 + (if g TXS.TX_CTRL_IPV6 = 1 then 20 else 0) + (if sec then 32 else 0) -
      (if g TXS.TX_CTRL_VLAN_EN = 1 then 0 else 4)
    let bytes := f.rows * f.rowBytes + 1200 * na + (np + na) * each + 6 * f.extraSrds (g TXS.TX_CTRL_PM)
    (8 * bytes * f.units + 1000 * f.den - 1) / (1000 * f.den)

/-! ### The receive slot -/

/-- Buffers are returned (pool class 9). -/
def State.rxRelease (s : State) (n : Fin 1024) (keep : Nat × Nat → Bool) : State :=
  let x := s.rx n
  let l := x.pkts.filter keep
  (s.setRx n { x with pkts := l }).poolReturn 9 (slotBay n) (x.pkts.length - l.length)

/-- Enter a state of Table 7.3; READY holds in RUN alone. -/
def State.setRxState (s : State) (n : Fin 1024) (st : Nat) : State :=
  let s := s.put (.rxSlot n) RXS.RX_STAT_STATE st
  if st = 2 then s else s.put (.rxSlot n) RXS.RX_STAT_READY 0

/-- The slot starts afresh in WAIT or OFF, with its buffered packets returned (Table 7.3). -/
def State.rxAfresh (s : State) (n : Fin 1024) (st : Nat) : State :=
  (((s.rxRelease n (fun _ => false)).setRx n { RxSlot.init with heardA := s.now, heardB := s.now }).setRxState n st).puts (.rxSlot n)
    [(RXS.RX_STAT_SKEW_OVER, 0), (RXS.RX_STAT_PATH_A_DOWN, 0), (RXS.RX_STAT_PATH_B_DOWN, 0)]

/-- The live copy of a receive slot page has changed from that of `old` (R189, R190). Where its VTG's format has changed since
the arm to one that TEN cannot carry, the slot goes to LOST (R180). -/
def State.rxFired (s old : State) (n : Fin 1024) : State :=
  if s.live (.rxSlot n) RXS.RX_CTRL_EN = 0 then (if s.rxState n = 0 then s else s.rxAfresh n 0)
  else if (s.rxFormat true n).isNone then
    if s.rxState n = 3 then s else ((s.rxAfresh n 1).setRxState n 3).raise (.rxSlot n) RXS.INT_STAT_FMT_MISMATCH
  else if s.rxState n = 0 then s.rxAfresh n 1
  else if [RXS.RX_CTRL_VTG, RXS.RX_CTRL_TEN, RXS.RX_DMIN_DMIN, RXS.RX_CTRL_PAIR].any
      (fun f => s.live (.rxSlot n) f != old.live (.rxSlot n) f) then s.rxAfresh n 1
  else s

/-- The 90 kHz count of a media time (R186, R199). -/
def mediaCount (g : Frac) : Int := g.floorMul 90000 1000000000

/-- t_v - M(T) for timestamp `ts` at grid media time `g`, in ns (R186): M(T) is where the count last became T.
(DESIGN CHOICE, notes/assumptions/63.md) -/
def delayOf (g : Frac) (ts : Nat) : Frac :=
  let c := mediaCount g
  g.sub ⟨(c - (c - ts) % (2 ^ 32 : Nat)) * 100000, 9⟩

/-- RX_DMIN in ns; more than 40,000 µs acts as 40,000. -/
def State.rxDmin (s : State) (n : Fin 1024) : Nat := min 40000 (s.live (.rxSlot n) RXS.RX_DMIN_DMIN) * 1000

/-- The timestamps among the stored packets that fall in the window of R186.
(DESIGN CHOICE, notes/assumptions/63.md) -/
def State.rxWindow (s : State) (n : Fin 1024) (f : Format) (g : Frac) : List Nat :=
  let lo : Frac := ⟨s.rxDmin n, 1⟩
  (((s.rx n).pkts.map (·.2)).eraseDups).filter (fun ts =>
    let d := delayOf g ts
    lo.le d && !(lo.add f.unitPeriod).le d)

/-- `a` is an earlier timestamp than `b`, modulo 2^32. -/
def tsBefore (a b : Nat) : Bool := let d := (b + 2 ^ 32 - a % 2 ^ 32) % 2 ^ 32; 0 < d && d < 2 ^ 31

/-- The payload identifier that a receive slot writes (R192). -/
def State.rxPid (s : State) (n : Fin 1024) : Option Nat :=
  if s.live (.rxSlot n) RXS.RX_CTRL_PID_EN = 1 then some (s.live (.rxSlot n) RXS.RX_PID_PID) else none

/-- A frame start of the bound VTG at a receive slot (R186, R188, R189). Which of several timestamps in the window is
selected is left open. -/
def State.rxFrame (s : State) (n : Fin 1024) (f : Format) (g : Frac) : State :=
  let x := s.rx n
  let st := s.rxState n
  let miss := s.get (.rxSlot n) RXS.PKT_MISS
  let win := s.rxWindow n f g
  let pid := s.rxPid n
  match win[Config.pick 2 win.length % win.length]? with
  | some ts =>
    let good := if st = 2 && x.ts.isSome && miss = x.missAt then x.good + 1 else 0
    let s := s.rxRelease n (fun p => !tsBefore p.2 ts && (x.ts != some p.2 || p.2 = ts))
    let d := delayOf g ts
    let s := s.setRx n { s.rx n with
      ts := some ts, lastTs := some ts, gone := [], missed := [], absent := 0, good := good, missAt := miss, lines := [] }
    let s := s.put (.rxSlot n) RXS.RX_D_LIVE_D (openDiv 8 d.n (100 * d.d)).toNat
    let s := if st = 3 then s.raise (.rxSlot n) RXS.INT_STAT_FLOW_BACK else s
    let s := s.setRxState n 2
    let s := if 2 ≤ good && s.get (.rxSlot n) RXS.RX_STAT_READY = 0 then
        (s.put (.rxSlot n) RXS.RX_STAT_READY 1).raise (.rxSlot n) RXS.INT_STAT_READY
      else s
    s.emit (.rxFrame n.val (some ts) pid)
  | none =>
    let s := match x.ts with
      | some old => s.rxRelease n (fun p => p.2 != old)
      | none => s
    let s := s.setRx n { s.rx n with
      ts := none, gone := [], missed := [], absent := x.absent + 1, good := 0, missAt := miss, lines := [] }
    if st ≠ 2 then s
    else
      let s := (s.addSat (.rxSlot n) RXS.FRM_ABSENT 1).put (.rxSlot n) RXS.RX_STAT_READY 0
      if s.live (.rxSlot n) RXS.RX_CTRL_LOSS_FR ≤ x.absent + 1 then
        (s.setRxState n 3).raise (.rxSlot n) RXS.INT_STAT_FLOW_LOST
      else s.emit (.rxFrame n.val none pid)

/-- A skew lies within its limit less 100 µs (R194). -/
def State.rxSkewIn (s : State) (n : Fin 1024) (d : Int) : Bool :=
  d.natAbs + 100 * cyclesPerUs ≤ min 2000 (s.live (.rxSlot n) RXS.RX_SKEW_MAX) * cyclesPerUs

/-- The skew of a packet pair enters the mean, and the limit is judged (R194). -/
def State.rxSkew (s : State) (n : Fin 1024) (d : Int) : State :=
  let x := s.rx n
  let l := (d :: x.skews).take 256
  let skewOk := if s.rxSkewIn n d then x.skewOk.or (some s.now) else none
  let s := (s.setRx n { x with skews := l, skewOk }).put (.rxSlot n) RXS.RX_SKEW_LIVE_SKEW
    (wrap 32 (openDiv 9 (10 * l.foldl (· + ·) 0) (cyclesPerUs * l.length)))
  if min 2000 (s.live (.rxSlot n) RXS.RX_SKEW_MAX) * cyclesPerUs < d.natAbs ∧
      s.get (.rxSlot n) RXS.RX_STAT_SKEW_OVER = 0 then
    (s.put (.rxSlot n) RXS.RX_STAT_SKEW_OVER 1).raise (.rxSlot n) RXS.INT_STAT_SKEW_OVER
  else s

/-- Packets of path `b` are being dropped for their skew: it is the later path, and the last skew exceeds the limit
(R194). -/
def State.rxSkewDrops (s : State) (n : Fin 1024) (b : Bool) : Bool :=
  match (s.rx n).skews.head? with
  | some d => min 2000 (s.live (.rxSlot n) RXS.RX_SKEW_MAX) * cyclesPerUs < d.natAbs && (b == decide (0 < d))
  | none => false

/-- A packet's arrival on a path: PATH_BACK, the sequence gap and the skew (R194, R195). -/
def State.rxArrive (s : State) (n : Fin 1024) (b : Bool) (seq : Nat) : State :=
  let down := if b then RXS.RX_STAT_PATH_B_DOWN else RXS.RX_STAT_PATH_A_DOWN
  let s := if s.get (.rxSlot n) down = 1 then (s.put (.rxSlot n) down 0).raise (.rxSlot n) RXS.INT_STAT_PATH_BACK else s
  let x := s.rx n
  let gap := match (if b then x.lastB else x.lastA) with
    | some last => let d := (seq + 2 ^ 32 - last % 2 ^ 32) % 2 ^ 32; 1 < d && d < 2 ^ 31
    | none => false
  let s := if gap then s.addSat (.rxSlot n) (if b then RXS.SEQ_GAP_B else RXS.SEQ_GAP_A) 1 else s
  let s := s.setRx n (if b then { x with lastB := some seq, heardB := s.now } else { x with lastA := some seq, heardA := s.now })
  if s.live (.rxSlot n) RXS.RX_CTRL_PAIR = 0 then s
  else
    let x := s.rx n
    match x.arrivals.find? (fun a => a.1 = seq && a.2.1 != b) with
    | some (_, _, at_) =>
      let d : Int := if b then (s.now : Int) - at_ else (at_ : Int) - s.now
      (s.setRx n { x with arrivals := x.arrivals.filter (fun a => a.1 != seq) }).rxSkew n d
    | none => s.setRx n { x with arrivals := ((seq, b, s.now) :: x.arrivals).take 8192 }

/-- Its pixels have already been played: an older frame's packet, or one of this frame whose last pixel is past. -/
def RxSlot.played (x : RxSlot) (seq ts : Nat) : Bool :=
  x.gone.contains seq || (match x.lastTs with | some t => tsBefore ts t || (ts = t && x.ts.isNone) | none => false)

/-- A video packet arrives for a receive slot on path A or B (R187, R193, R194). (DEDUCED, notes/assumptions/64.md) -/
def State.rxPacket (s : State) (n : Fin 1024) (b : Bool) (p : RtpVideo) : State :=
  if b && s.live (.rxSlot n) RXS.RX_CTRL_PAIR = 0 then s.addSat (.rxSlot n) RXS.PKT_PATHB_OFF 1
  else
    let s := s.rxArrive n b p.seq
    let x := s.rx n
    if 1448 < p.bytes || !p.srdOk || p.pt ≠ s.live (.rxSlot n) RXS.RX_PT_PT_VID then s.addSat (.rxSlot n) RXS.FMT_ERR 1
    else if s.rxSkewDrops n b then s.addSat (.rxSlot n) RXS.SKEW_DROP 1
    else if x.pkts.any (fun e => e.1 = p.seq) then s.addSat (.rxSlot n) RXS.PKT_DUP 1
    else if x.played p.seq p.ts then s.addSat (.rxSlot n) RXS.PKT_LATE 1
    else if s.rxBuf true n ≤ x.pkts.length then
      (s.addSat (.rxSlot n) RXS.PKT_OVF 1).raise (.rxSlot n) RXS.INT_STAT_BUF_OVF
    else
      (((s.setRx n { x with pkts := x.pkts ++ [(p.seq, p.ts)] }).poolIssue 9 (slotBay n) 1).add (.rxSlot n) RXS.PKT_OK
        1).peak (.rxSlot n) RXS.RX_BUF_USE_PEAK (x.pkts.length + 1)

/-- An ST 2110-40 packet arrives for a receive slot (R192, R193). (DEDUCED, notes/assumptions/64.md) -/
def State.rxAnc (s : State) (n : Fin 1024) (b : Bool) (p : RtpAnc) : State :=
  if b && s.live (.rxSlot n) RXS.RX_CTRL_PAIR = 0 then s.addSat (.rxSlot n) RXS.PKT_PATHB_OFF 1
  else
    let x := s.rx n
    if s.live (.rxSlot n) RXS.RX_CTRL_ANC_EN = 0 || p.pt ≠ s.live (.rxSlot n) RXS.RX_PT_PT_ANC then s
    else if x.anc.any (fun a => a.1 = p.seq && a.2.1 = p.ts) then s.addSat (.rxSlot n) RXS.PKT_DUP 1
    else p.pkts.foldl (fun s a =>
      let x := s.rx n
      let late := (match x.lastTs with | some t => tsBefore p.ts t | none => false) ||
        (x.ts = some p.ts && x.lines.contains a.line)
      if late then s.add (.rxSlot n) RXS.ANC_LATE 1
      else s.setRx n { x with anc := x.anc ++ [(p.seq, p.ts, a)] }) s

/-- A line of the selected frame starts to play (R187, R192): `need` names the packets with its pixels, `last` those
whose last pixel it plays. -/
def State.rxLine (s : State) (n : Fin 1024) (line : Nat) (need last : List Nat) : State :=
  match (s.rx n).ts, s.rxFormat true n with
  | none, _ => s
  | _, none => s
  | some ts, some f =>
    if s.rxState n ≠ 2 then s
    else
      let x := s.rx n
      let black := need.filter (fun q => !x.pkts.any (fun e => e.1 = q))
      let newly := black.filter (fun q => !x.missed.contains q)
      let ins := x.anc.filter (fun a => a.2.1 = ts && a.2.2.line = line)
      let s := s.addSat (.rxSlot n) RXS.PKT_MISS newly.length
      let s := s.setRx n { x with
        missed := x.missed ++ newly, gone := x.gone ++ last, lines := line :: x.lines,
        anc := x.anc.filter (fun a => !(a.2.1 = ts && a.2.2.line = line) && !tsBefore a.2.1 ts) }
      let s := s.add (.rxSlot n) RXS.ANC_PKT ins.length
      (s.rxRelease n (fun e => !last.contains e.1)).emit (.rxLine n.val black
        (playedLine f (s.vtgCode (s.live (.rxSlot n) RXS.RX_CTRL_VTG)) line (s.rxPid n) (ins.map (·.2.2))))

/-- A receive path has delivered nothing for 10 ms (R195). -/
def State.rxPathLost (s : State) (n : Fin 1024) (b : Bool) : State :=
  let down := if b then RXS.RX_STAT_PATH_B_DOWN else RXS.RX_STAT_PATH_A_DOWN
  if s.live (.rxSlot n) RXS.RX_CTRL_EN = 0 || (b && s.live (.rxSlot n) RXS.RX_CTRL_PAIR = 0) || s.get (.rxSlot n) down = 1 ||
    s.now < (if b then (s.rx n).heardB else (s.rx n).heardA) + 10000 * cyclesPerUs then s
  else (s.put (.rxSlot n) down 1).raise (.rxSlot n) RXS.INT_STAT_PATH_LOST

/-- The skew has stayed within its limit less 100 µs for 1 s (R194). -/
def State.rxSkewOk (s : State) (n : Fin 1024) : State :=
  let x := s.rx n
  if x.skewOk.any (fun c => c + cyclesPerSec ≤ s.now) && x.skews.head?.any (s.rxSkewIn n) then
    s.put (.rxSlot n) RXS.RX_STAT_SKEW_OVER 0
  else s

/-! ### The send slot -/

/-- TX_STAT.SENDING follows the packetiser. -/
def State.txStat (s : State) (n : Fin 1024) : State :=
  let x := s.tx n
  s.put (.txSlot n) TXS.TX_STAT_SENDING (b2n (x.run || !x.frames.isEmpty))

/-- A send slot stops at once. -/
def State.txStop (s : State) (n : Fin 1024) : State :=
  ((s.setTx n TxSlot.init).put (.txSlot n) TXS.TX_STAT_NOSIG 0).txStat n

/-- The live copy of a send slot page has changed: a disabled slot stops, and so does one whose VTG's format has changed since the
arm to one that TEN cannot carry (R180). -/
def State.txFired (s : State) (n : Fin 1024) : State :=
  if s.live (.txSlot n) TXS.TX_CTRL_EN = 0 then s.txStop n
  else if (s.txFormat true (s.txSel true n).1 n).isNone then (s.txStop n).raise (.txSlot n) TXS.INT_STAT_FMT_MISMATCH
  else s

/-- A frame start of the VTG of a send slot (R196 to R201). (PRESUMED, notes/assumptions/65.md) -/
def State.txFrame (s : State) (n : Fin 1024) (g : Frac) (second : Bool) : State :=
  let sel := s.txSel true n
  let x := s.tx n
  match s.txFormat true sel.1 n with
  | none => s
  | some f =>
    if sel.2 = 0 || sel.2 = 3 then (s.setTx n { x with run := false }).txStat n
    else
      let nosig := sel.2 = 1 && (match s.dstFirst (slotBay n) (64 + n.val % 64) with | some d => s.dstNosig d | none => true)
      let pm := s.live (.txSlot n) TXS.TX_CTRL_PM
      let plen := s.live (.txSlot n) TXS.TX_PLEN_PLEN
      let ts := wrap 32 (mediaCount g)
      let code := s.vtgCode sel.1
      let black := sel.2 = 2 || nosig
      let run : TxRun := { ts, sent := 0, total := f.packets pm plen, fmt := code, pm, plen, black, first := !x.run,
                           tf := s.now, tro := s.live (.txSlot n) TXS.TX_TRO_TRO }
      let anc : AncRun := { ts, sent := 0, tf := s.now, fmt := code, second }
      let s := s.setTx n { x with
        run := true, frames := x.frames ++ [run], ancRuns := ((if black then [] else [anc]) ++ x.ancRuns).take 2 }
      let s := s.put (.txSlot n) TXS.TX_STAT_NOSIG (b2n nosig)
      let s := if nosig then (s.addSat (.txSlot n) TXS.TX_NOSIG_FRM 1).raise (.txSlot n) TXS.INT_STAT_TX_NOSIG else s
      s.txStat n

/-- The class of a send slot's packets: 4 to 7; 0 to 3 act as 4 (R202). -/
def State.txClass (s : State) (n : Fin 1024) : Nat := max 4 (s.live (.txSlot n) TXS.TX_CTRL_CLS)

/-- Four words of an address, the first being its last four bytes. (PRESUMED, notes/assumptions/65.md) -/
def ipOf (g : Nat → Nat) (v6 : Bool) : Nat :=
  if v6 then ((List.range 4).map (fun w => g w * 2 ^ (32 * w))).foldl (· + ·) 0 else g 0

/-- The MAC address derived from a multicast address: that of RFC 1112, or of RFC 2464 for IPv6. For another address it is left
open. (DESIGN CHOICE, notes/assumptions/142.md) -/
def autoMac (ip : Nat) (v6 : Bool) : Nat :=
  if v6 then (if ip / 2 ^ 120 = 0xFF then 0x3333 * 2 ^ 32 + ip % 2 ^ 32 else (Config.unicastMac ip).toNat)
  else if ip / 2 ^ 28 = 0xE then 0x01005E * 2 ^ 24 + ip % 2 ^ 23 else (Config.unicastMac ip).toNat

/-- The destination kind of a MAC address: unicast, multicast or broadcast. -/
def macKind (mac : Nat) : Nat := if mac = 2 ^ 48 - 1 then 2 else bitAt mac 40

/-- The headers of a packet of send slot `n` on path `p` of port `port` (R198, R201, R202, Table 7.6). -/
def State.txHead (s : State) (n : Fin 1024) (p port seq ts : Nat) (marker anc : Bool) : MediaHead :=
  let g := fun f => s.live (.txSlot n) f
  let v6 := g TXS.TX_CTRL_IPV6 = 1
  let dst := ipOf (fun w => g (if anc then TXS.ANC_IP_IP.at2 p w else TXS.DST_IP_IP.at2 p w)) v6
  { port, mac := if g (TXS.DST_MAC_HI_AUTO.at p) = 1 then autoMac dst v6
      else g (TXS.DST_MAC_HI_MAC.at p) * 2 ^ 32 + g (TXS.DST_MAC_LO_MAC.at p),
    vlan := if g TXS.TX_CTRL_VLAN_EN = 1 then some (g (TXS.TAG_PCP.at p), g (TXS.TAG_VID.at p)) else none,
    ipv6 := v6, src := ipOf (fun w => g (TXS.SRC_IP_IP.at2 p w)) v6, dst,
    ttl := g (TXS.TAG_TTL.at p), dscp := g (TXS.TAG_DSCP.at p), sport := g (TXS.UDP_SPORT.at p),
    dport := g (if anc then TXS.UDP_ANC_DPORT_ANC.at p else TXS.UDP_DPORT_VID.at p),
    pt := g (if anc then TXS.TX_PT_PT_ANC else TXS.TX_PT_PT_VID),
    ssrc := g (if anc then TXS.TX_SSRC_ANC_SSRC else TXS.TX_SSRC_VID_SSRC), seq, ts, marker }

/-- The ports of the paths that a send slot sends on (R202). -/
def State.txPaths (s : State) (n : Fin 1024) : List (Nat × Nat) :=
  (0, s.live (.txSlot n) TXS.TX_PORT_PORT_A) ::
    (if s.live (.txSlot n) TXS.TX_CTRL_DUAL = 1 then [(1, s.live (.txSlot n) TXS.TX_PORT_PORT_B)] else [])

/-- One packet goes out on its path or paths, with `bytes` after the RTP and payload headers; the result tells whether any path
took it (R162, R202). `out` gives what it is on a path. -/
def State.txPacket (s : State) (n : Fin 1024) (seq ts : Nat) (marker anc : Bool) (bytes : Nat) (due : Option MediaDue)
    (out : Nat → MediaHead → Emit) : State × Bool :=
  let g := fun f => s.live (.txSlot n) f
  let len := bytes + 70 + (if g TXS.TX_CTRL_IPV6 = 1 then 20 else 0) - (if g TXS.TX_CTRL_VLAN_EN = 1 then 0 else 4)
  (s.txPaths n).foldl (fun (acc : State × Bool) e =>
    match idx? 48 e.2 with
    | none => acc
    | some p =>
      let head := s.txHead n e.1 e.2 seq ts marker anc
      let frame : TxFrame :=
        { len := len, cls := s.txClass n, dest := macKind head.mac, vlan := g TXS.TX_CTRL_VLAN_EN = 1, flow := 0,
          eapol := false, ptp := none, bypass := false, host := false, media := due }
      let r := acc.1.mediaSend p frame
      if r.2 then (r.1.emit (out e.1 head), true) else (r.1, acc.2)) (s, false)

/-- The active lines of a frame or field as the raster counts them: RACTIVE is these over the total lines (R200). -/
def Format.activeLines (f : Format) : Nat := if f.tenons = 1 then f.height else f.height / 2

/-- The scheduled instant of packet `k` of a frame, in core cycles: t_f + TX_TRO + k TRS (R200). -/
def TxRun.due (r : TxRun) (f : Format) (k : Nat) : Frac :=
  let unit := if f.interlaced then f.cycles / 2 else f.cycles
  ⟨(10 * r.tf + 1188 * r.tro) * f.lines * r.total + 10 * k * unit * f.activeLines, 10 * f.lines * r.total⟩

/-- The bytes of black pixels from byte `from_` of a row: Cb, Y, Cr and Y in five bytes. -/
def blackBytes (from_ n : Nat) : List Nat := (List.range n).map (fun i => nth [0x80, 0x04, 0x08, 0x00, 0x40] ((from_ + i) % 5) 0)

/-- The next video packet of a send slot reaches its scheduled instant (R198, R200, R202, R162). `payload` is what its destination
tenons have brought for its pixels. (PRESUMED, notes/assumptions/65.md) -/
def State.txVideo (s : State) (n : Fin 1024) (payload : List Nat) : State :=
  let x := s.tx n
  match x.frames with
  | [] => s
  | fr :: rest =>
    match format? fr.fmt with
    | none => s
    | some f =>
      if !(fr.due f fr.sent).le ⟨s.now, 1⟩ then s
      else
        let srds := f.srds fr.pm fr.plen fr.sent
        let bytes := (srds.map (·.2.2)).foldl (· + ·) 0
        let seq := if fr.first && fr.sent = 0 then 0 else x.seq
        let lastOne := fr.total ≤ fr.sent + 1
        let pixels := if fr.black then srds.flatMap (fun e => blackBytes e.2.1 e.2.2) else payload.take bytes
        let due : MediaDue := ⟨false, n.val, ((fr.due f (fr.sent + 1)).floorMul 1 1).toNat⟩
        let r := s.txPacket n seq fr.ts lastOne false (bytes + 6 * (srds.length - 1)) (some due)
          (fun p h => .videoPacket n.val p h srds pixels)
        let s := r.1.setTx n { x with
          seq := (seq + 1) % 2 ^ 32,
          frames := if lastOne then rest else { fr with sent := fr.sent + 1 } :: rest }
        let s := if r.2 then s.add (.txSlot n) TXS.TX_PKT 1 else s
        (if r.2 && lastOne then s.add (.txSlot n) TXS.TX_FRM 1 else s).txStat n

/-- Line `line` of a frame or field has ended by core cycle `now`, and is one of its own lines (R181, R201). -/
def AncRun.ended (r : AncRun) (now line : Nat) : Bool :=
  match format? r.fmt with
  | none => false
  | some f =>
    (if r.second then f.lines < 2 * line else !f.interlaced || 2 * line ≤ f.lines + 1) &&
      2 * line * f.cycles ≤ 2 * f.lines * (now - r.tf) + (if r.second then f.lines * f.cycles else 0)

/-- An ST 2110-40 packet of ancillary packets that lines of one frame or field have brought (R201). -/
def State.txAncOne (s : State) (n : Fin 1024) (pkts : List AncPkt) : State :=
  let x := s.tx n
  match x.ancRuns.findIdx? (fun r => pkts.all (fun a => r.ended s.now a.line)) with
  | none => s
  | some i =>
    match x.ancRuns[i]? with
    | none => s
    | some r =>
      if s.live (.txSlot n) TXS.TX_CTRL_ANC_PKTS ≤ r.sent || 1200 < ancBytes pkts then s.addSat (.txSlot n) TXS.ANC_DROP 1
      else
        let q := s.txPacket n x.ancSeq r.ts false true (ancBytes pkts) none (fun p h => .ancPacket n.val p h pkts)
        let s := q.1.setTx n { x with
          ancSeq := (x.ancSeq + 1) % 2 ^ 32, ancRuns := setNth x.ancRuns i { r with sent := r.sent + 1 } }
        if q.2 then s.add (.txSlot n) TXS.TX_PKT 1 else s

/-- Ancillary packets found in tenon 0 of the frames being sent are sent, in ST 2110-40 packets as `rtp` groups them, without those
that are not sent; at most ANC_PKTS a frame (R201). -/
def State.txAnc (s : State) (n : Fin 1024) (rtp : List (List AncPkt)) : State :=
  if s.live (.txSlot n) TXS.TX_CTRL_ANC_EN = 0 then s
  else ((rtp.map (fun l => l.filter (fun a => !ancWithheld a))).filter (fun l => !l.isEmpty)).foldl
    (fun s l => s.txAncOne n l) s

/-! ### VTG instants at the slots -/

/-- A frame or field start of VTG `v` at every slot bound to it, with its grid media time (R181, R186, R196). -/
def State.flowFrame (s : State) (v : Fin 32) (f : Format) (g : Frac) (second : Bool) : State :=
  let s := (s.rxListed.filter (fun n => s.live (.rxSlot n) RXS.RX_CTRL_EN = 1 &&
      s.live (.rxSlot n) RXS.RX_CTRL_VTG = v.val && (s.rxFormat true n).isSome && s.rxState n ≠ 0 &&
      s.running (.rxSlot n))).foldl
    (fun s n => s.rxFrame n f g) s
  (s.txListed.filter (fun n => s.live (.txSlot n) TXS.TX_CTRL_EN = 1 && (s.txSel true n).1 = v.val &&
      s.running (.txSlot n))).foldl
    (fun s n => s.txFrame n g second) s

/-- XTX lane `n` sends black in the timing of VTG `v` (R147). -/
def State.sendsBlack (s : State) (v : Nat) (n : Fin 1024) : Bool :=
  match s.sent (outLane n), s.dstFirst (n.val / 64) (n.val % 64) with
  | .sdi _ true _, some d => s.tlive (TBL.XWP_ROUTE_VTG.at d) = v
  | _, _ => false

/-- A frame of the generators, of the black and of the engines that run on VTG `v`, of format code `c`, begins (R141, R147,
R306). -/
def State.framesBegin (s : State) (v c : Nat) : State :=
  let s := ((List.range 64).filter (fun g => s.genSends g && s.tlive (TBL.XWP_GEN_VTG.at g) = v)).foldl
    (fun s g => s.emit (.genFrame g c (s.tlive (TBL.XWP_GEN_PAT.at g)))) s
  let s := (s.sdiOutputs.filter (s.sendsBlack v)).foldl
    (fun s n => s.emit (.blackFrame n.val c (s.tlive (TBL.XWP_PID_PID.at n.val)))) s
  let mine := (List.finRange 64).filter (fun e =>
    (s.engs.get e.val Eng.init).on && s.running (.eng e) && s.live (.eng e) ENGI.ENG_CTRL_OUT_VTG = v)
  mine.foldl (fun s e => s.emit (.engFrame e.val c)) s

/-- A frame of VTG `v` starts, or the second field of an interlaced one (R181, R225, R245). -/
def State.frameStart (s : State) (v : Fin 32) (second : Bool) : State :=
  match s.vtgFormat v.val with
  | none => s
  | some f =>
    if !s.vtgEn v.val || !s.running (.vtg v) || (second && !f.interlaced) || !s.frameDue v f second then s
    else
      let s := if second then s.setVtg v.val { s.vtgRun v.val with second := true } else (s.vtgStart v).framesBegin v.val (s.vtgCode v.val)
      let phi := s.framePhi v f
      let r := s.gridTime f.period (if second then phi.add ⟨500000000 * f.den, f.num⟩ else phi)
      let t := r.1.flowFrame v f r.2 second
      if second || !t.running .ref then t else t.ptpEvent (if f.ntsc then 1 else 0) r.2

/-- The format of VTG `v` has changed from that of `old`: slots whose TEN cannot carry it (R180). -/
def State.flowFormat (s old : State) (v : Fin 32) : State :=
  if s.vtgFormat v.val = old.vtgFormat v.val then s
  else
    let s := (s.rxListed.filter (fun n => s.live (.rxSlot n) RXS.RX_CTRL_VTG = v.val && s.rxState n ≠ 0 &&
        (s.rxFormat true n).isNone)).foldl (fun s n =>
      (s.setRxState n 3).raise (.rxSlot n) RXS.INT_STAT_FMT_MISMATCH) s
    (s.txListed.filter (fun n => s.live (.txSlot n) TXS.TX_CTRL_EN = 1 && (s.txSel true n).1 = v.val &&
        (s.txFormat true v.val n).isNone)).foldl (fun s n => (s.txStop n).raise (.txSlot n) TXS.INT_STAT_FMT_MISMATCH) s

end Sys2Proof.Machine
end

