-- ==== Sys2Proof/Machine/Audio.lean ====
section
/-! DEFINITION. The sample plane and network audio (chapter 10). -/

namespace Sys2Proof.Machine

/-! ### The sine of R262 -/

/-- The fixed point of the sine: 2^160. -/
def fixOne : Nat := 2 ^ 160

/-- π and ln 10 in that fixed point, rounded down. -/
def fixPi : Nat := 4591442807048218921384805199743311128454155024418
def fixLn10 : Nat := 3365231883504527125129111981421568120141379515367

/-- The Taylor sum of `n` further terms, each the last times -x^2 / ((k + 1)(k + 2)). -/
def sinTerms (x : Int) (term : Int) (k : Nat) : Nat → Int
  | 0 => 0
  | n + 1 => term + sinTerms x (-(term * x / fixOne * x / fixOne) / ((k + 1) * (k + 2) : Nat)) (k + 2) n

/-- sin(2π m / 48,000) in fixed point, exact where it is 0, ±1/2 or ±1. (DEDUCED, notes/assumptions/79.md) -/
def sinFix (m : Nat) : Int :=
  let m := m % 48000
  let neg := 24000 ≤ m
  let r := m % 24000
  let r := if 12000 < r then 24000 - r else r
  let x : Int := (fixPi * r / 24000 : Nat)
  let v : Int := if r = 0 then 0 else if r = 4000 then fixOne / 2 else if r = 12000 then fixOne else sinTerms x x 1 40
  if neg then -v else v

/-- The sum of `n` further terms of exp. -/
def expTerms (x : Nat) (term : Nat) (k : Nat) : Nat → Nat
  | 0 => 0
  | n + 1 => term + expTerms x (term * x / fixOne / (k + 1)) (k + 1) n

/-- 10^(-d / 2,000) in fixed point, for a LEVEL of -d. -/
def ampFix (d : Nat) : Nat :=
  let whole := 10 ^ (d / 2000)
  let rest := fixLn10 * (d % 2000) / 2000
  if d = 0 then fixOne else fixOne * fixOne / (whole * expTerms rest fixOne 0 60)

/-- round(A × (2^23 - 1) × sin), half away from zero (R262). (DEDUCED, notes/assumptions/79.md) -/
def sineSample (level : Int) (freq n : Nat) : Int :=
  let d := (-(clamp (-12000) 0 level)).toNat
  let f := min 20000 (max 1 freq)
  let p := sinFix (f * n % 48000) * (ampFix d : Int) * 8388607
  let q : Nat := (2 * p.natAbs + fixOne * fixOne) / (2 * fixOne * fixOne)
  if p < 0 then -(q : Int) else q

/-! ### Slot words (R252) -/

/-- SAMPLE of a slot word, signed. -/
def sampleOf (w : Nat) : Int := sgn 24 (w / 256)

/-- A slot word from a sample and a low byte. -/
def slotWord (y : Int) (low : Nat) : Nat := wrap 24 y * 256 + low % 256

/-- The low byte of a source without channel status, at grid count `n` (R252). -/
def lowByte (n : Nat) : Nat := if n % 192 = 0 then 0x80 else 0

/-- The grid count floor(G × 48,000 / 10^9). -/
def gridCount (g : Frac) : Nat := (g.floorMul 48000 1000000000).toNat

/-! ### Entry arithmetic (R256 to R258) -/

/-- The fields of an entry's words. -/
def entSrc (w0 : Nat) : Nat := w0 % 65536
def entScarf (w0 : Nat) : Nat := min 64 (bits w0 16 7)
def entMute (w0 : Nat) : Bool := bitAt w0 24 = 1
def entPol (w0 : Nat) : Bool := bitAt w0 25 = 1
def entData (w0 : Nat) : Bool := bitAt w0 26 = 1
def entP96 (w0 : Nat) : Bool := bitAt w0 27 = 1

/-- The output sample of R256 for sample `x`, and whether it clips. -/
def entryOut (w0 w1 : Nat) (x : Int) : Int × Bool :=
  let y := (x * (w1 % 2 ^ 24 : Nat) + 2 ^ 21) / 2 ^ 22
  let y := if entPol w0 then -y else y
  let clip := y < -8388608 || 8388607 < y
  (if entMute w0 then 0 else clamp (-8388608) 8388607 y, clip)

/-- The word of slot `n`. -/
def State.slot (s : State) (n : Nat) : Nat := s.aud.slots.get n 0

/-- An entry takes a read: its source is a slot of Table 10.2 (R254, R258). -/
def takesRead (src : Nat) : Bool := src < 0xC340

/-- One entry's output: the sample and whether it clips; with no source the sample is 0 (R256). -/
def State.entrySample (s : State) (w0 w1 : Nat) : Int × Bool :=
  if entSrc w0 = 0xFFFF then (0, false) else entryOut w0 w1 (sampleOf (s.slot (entSrc w0)))

/-- The output word of destination entry `i`, its reads and whether it clips (R256, R257, R260). -/
def State.entryWord (s : State) (i w0 w1 : Nat) : Nat × Nat × Bool :=
  let reads := b2n (takesRead (entSrc w0))
  let low := if entSrc w0 = 0xFFFF then 0 else s.slot (entSrc w0) % 256
  match s.aud.scarf.find? (fun e => e.1 = i) with
  | some (_, x) =>
    let new := s.entrySample w0 w1
    let old := s.entrySample x.w0 x.w1
    let w : Int := ((x.k + 1) * 65536 / (x.len + 1) : Nat)
    (slotWord ((new.1 * w + old.1 * (65536 - w) + 32768) / 65536) low, reads + b2n (takesRead (entSrc x.w0)),
      new.2 || old.2)
  | none =>
    if entSrc w0 = 0xFFFF then (0, 0, false)
    else if entData w0 then (if entMute w0 then 0x10 else s.slot (entSrc w0), reads, false)
    else
      let y := s.entrySample w0 w1
      (slotWord y.1 low, reads, y.2)

/-- The live entries with a source: index, word 0 and word 1. -/
def State.audEntries (s : State) : List (Nat × Nat × Nat) :=
  s.lv.filterMap (fun e =>
    if 0x02050000 ≤ e.1 && e.1 < 0x020B8000 && e.1 % 8 = 0 && e.2.toNat % 65536 ≠ 0xFFFF then
      some ((e.1 - 0x02050000) / 8, e.2.toNat, (s.lword (e.1 + 4)).toNat)
    else none)

/-- The entries that are computed: those with a source, and those that scarf to none. -/
def State.audWork (s : State) : List (Nat × Nat × Nat) :=
  s.audEntries ++ (s.aud.scarf.filterMap (fun e =>
    let w0 := (s.lword (0x02050000 + 8 * e.1)).toNat
    if w0 % 65536 = 0xFFFF then some (e.1, w0, (s.lword (0x02050004 + 8 * e.1)).toNat) else none))

/-- Meter `m` takes an output (R263). -/
def State.meterTake (s : State) (m word : Nat) : State :=
  let a := (sampleOf word).natAbs
  { s with aud := { s.aud with meters := s.aud.meters.set m (max a (s.aud.meters.get m 0)) 0 } }

/-- Every destination entry computes its output from the newest generation (R253, step 3). -/
def State.audCompute (s : State) : State :=
  let rows := s.audWork.map (fun e => (e.1, s.entryWord e.1 e.2.1 e.2.2))
  let clips := (rows.filter (fun r => r.2.2.2)).length
  let reads := (rows.map (fun r => r.2.2.1)).foldl (· + ·) 0
  let s := rows.foldl (fun s r => if 0xC800 ≤ r.1 then s.meterTake (r.1 - 0xC800) r.2.1 else s) s
  let outs := rows.foldl (fun (t : Tab Nat) r => t.set r.1 r.2.1 0) []
  let scarf := s.aud.scarf.filterMap (fun e =>
    if e.2.len ≤ e.2.k + 1 then none else some (e.1, { e.2 with k := e.2.k + 1 }))
  let s := { s with aud := { s.aud with outs := outs, scarf := scarf } }
  let s := if clips = 0 then s else (s.addSat .aud AUD.CLIP_CNT clips).raise .aud AUD.INT_STAT_CLIP
  s.peak .aud AUD.READ_PEAK reads

/-! ### Swap and scarf (R258 to R261) -/

/-- An entry is due to scarf: DATA is 0 in both, a field of R260 differs, and the length is not 0. -/
def dueScarf (o0 o1 w0 w1 : Nat) : Bool :=
  !entData o0 && !entData w0 && entScarf w0 ≠ 0 &&
    (entSrc o0 ≠ entSrc w0 || o1 % 2 ^ 24 ≠ w1 % 2 ^ 24 || entMute o0 != entMute w0 || entPol o0 != entPol w0)

/-- The table has been swapped from that of `old`: scarfs start in ascending index within the figure of R258. -/
def State.audSwapped (s old : State) : State :=
  let keys := (((old.lv ++ s.lv).filterMap (fun e =>
    if 0x02050000 ≤ e.1 && e.1 < 0x020B8000 then some ((e.1 - 0x02050000) / 8) else none)).foldl insertNat [])
  let word := fun (x : State) (i k : Nat) => (x.lword (0x02050000 + 8 * i + 4 * k)).toNat
  let changed := keys.filter (fun i => word old i 0 ≠ word s i 0 || word old i 1 ≠ word s i 1)
  let kept := s.aud.scarf.filter (fun e => !changed.contains e.1)
  let room := 99000 - s.audEntries.length
  let due := changed.filter (fun i => dueScarf (word old i 0) (word old i 1) (word s i 0) (word s i 1))
  let start := due.take (room - kept.length)
  let cut := due.length - start.length
  let none : Scarf := ⟨0, 0, 0, 0⟩
  let scarf := start.foldl (fun (t : Tab Scarf) i =>
    let x : Scarf := ⟨word old i 0, word old i 1, 0, entScarf (word s i 0)⟩
    t.set i x none) kept
  let s := ({ s with aud := { s.aud with scarf := scarf } } : State).add .aud AUD.SCARF_CNT start.length
  let s := if cut = 0 then s else (s.addSat .aud AUD.SCARF_CUT_CNT cut).raise .aud AUD.INT_STAT_SCARF_CUT
  (s.put .aud AUD.AUD_SWAP_SMP_SMP (s.get .tick TICK.SMP_COUNT_COUNT)).raise .aud AUD.INT_STAT_SWAPPED

/-- FUNC_INIT of the AUD page (R280). -/
def State.audInit (s : State) : State :=
  { s with aud := { s.aud with outs := [], scarf := [], meters := [] } }

/-! ### Generators and meters (R262, R263) -/

/-- What the enabled generators write at grid count `n`: slot and word. -/
def State.genSlots (s : State) (n : Nat) : List (Nat × Nat) :=
  (List.range 64).filterMap (fun g =>
    if s.live .aud (AUD.AUD_GEN_EN.at g) = 0 then none
    else
      let y := sineSample (sgn 16 (s.live .aud (AUD.AUD_GEN_LVL_LEVEL.at g))) (s.live .aud (AUD.AUD_GEN_FREQ.at g)) n
      let wave := s.live .aud (AUD.AUD_GEN_WAVE.at g)
      let y := if wave = 1 || (wave = 2 && 12000 ≤ n % 144000) then y else 0
      some (0xC300 + g, slotWord y (lowByte n)))

/-- An armed generator uses the code that R262 refuses. -/
def State.genBadWave (s : State) : Bool :=
  (List.range 64).any (fun g => s.get .aud (AUD.AUD_GEN_EN.at g) = 1 && s.get .aud (AUD.AUD_GEN_WAVE.at g) = 3)

/-- The meters that hold a peak or whose snapshot is not at its reset value. -/
def State.meterKeys (s : State) : List Nat :=
  (s.aud.meters.map (fun e : Nat × Nat => e.1) ++ s.sh.filterMap (fun e : Nat × Word =>
    if 0x02130000 ≤ e.1 && e.1 < 0x02134000 then some ((e.1 - 0x02130000) / 8) else none)).foldl insertNat []

/-- Meter `m` reads as the second of a 96 kHz pair, or as its first (R263). (DEDUCED, notes/assumptions/74.md) -/
def State.meterPair (s : State) (m : Nat) : Bool := entP96 (s.lword (0x02050000 + 8 * (0xC800 + m / 2 * 2))).toNat

/-- The snapshot of R263: every meter is copied and restarted. The true peak of a meter with signal is a free value.
(DESIGN CHOICE, notes/assumptions/78.md) -/
def State.meterSnap (s : State) : State :=
  if !s.aud.snap then s
  else
    let s := s.meterKeys.foldl (fun s m =>
      let v := fun k => s.aud.meters.get k 0
      let x := if s.meterPair m then (if m % 2 = 0 then max (v m) (v (m + 1)) else 0) else v m
      let s := s.tput (TBL.METER_SNAPV_SPK.at m) x
      if x = 0 then s.tput (TBL.METER_SNAPV_TPK.at m) 0x8000
      else
        let r := s.fresh
        r.2.tput (TBL.METER_SNAPV_TPK.at m) (Config.freeValue r.1 16).toNat) s
    ({ s with aud := { s.aud with meters := [], snap := false } } : State).raise .aud AUD.INT_STAT_METER_DONE

/-! ### Flows: formats and ranges (R264 to R267) -/

/-- An audio flow. -/
abbrev FlowNo := Fin 4096

/-- A field of an entry of the receive or the send flow table. -/
def State.fa (s : State) (lv : Bool) (f : Fld) (n : FlowNo) : Nat := s.tcfg lv (f.at n.val)

/-- The bay of an audio flow. -/
def flowBay (n : FlowNo) : Fin 16 := ⟨n.val / 256, by omega⟩

/-- Samples per packet and channel (Table 10.4). -/
def samplesPer (rate96 pt125 : Nat) : Nat := (if pt125 = 1 then 6 else 48) * (rate96 + 1)

/-- Bytes per sample of a FMT code. -/
def fmtBytes (fmt : Nat) : Nat := match fmt with | 0 => 2 | 1 => 3 | 2 => 4 | _ => 0

/-- The fields of the format of a flow: EN, FMT, RATE96, PT125, CH. -/
structure FlowFlds where
  en : Fld
  fmt : Fld
  rate96 : Fld
  pt125 : Fld
  ch : Fld

/-- Those of a receive or of a send flow. -/
def flowFlds (tx : Bool) : FlowFlds :=
  if tx then ⟨TBL.FLOWA_TX_EN, TBL.FLOWA_TX_FMT, TBL.FLOWA_TX_RATE96, TBL.FLOWA_TX_PT125, TBL.FLOWA_TX_CH⟩
  else ⟨TBL.FLOWA_RX_EN, TBL.FLOWA_RX_FMT, TBL.FLOWA_RX_RATE96, TBL.FLOWA_RX_PT125, TBL.FLOWA_RX_CH⟩

/-- Channels of a flow. -/
def State.flowCh (s : State) (tx lv : Bool) (n : FlowNo) : Nat := s.fa lv (flowFlds tx).ch n + 1

/-- Payload bytes of a flow's packets (R264). -/
def State.flowBytes (s : State) (tx lv : Bool) (n : FlowNo) : Nat :=
  let f := flowFlds tx
  s.flowCh tx lv n * samplesPer (s.fa lv f.rate96 n) (s.fa lv f.pt125 n) * fmtBytes (s.fa lv f.fmt n)

/-- The flows of a table that its words list, live or shadow: every other one is disabled. -/
def State.flowListed (s : State) (tx : Bool) : List FlowNo :=
  let base := if tx then 0x02180000 else 0x02140000
  ((s.listed base (base + 0x40000)).filterMap (fun a => if a % 64 = 0 then idx? 4096 ((a - base) / 64) else none))

/-- Enabled. -/
def State.flowEn (s : State) (tx lv : Bool) (n : FlowNo) : Bool := s.fa lv (flowFlds tx).en n = 1

/-- An arm of a FLOWA page breaks R264, or R266's rule for a send range. -/
def State.flowaBad (s : State) (tx : Bool) (b : Fin 16) : Bool :=
  (s.flowListed tx).any (fun n => flowBay n = b && s.flowEn tx false n &&
    (s.fa false (flowFlds tx).fmt n = 3 || 1440 < s.flowBytes tx false n ||
      (tx && 0x4000 < s.fa false TBL.FLOWA_TX_BASE n + s.flowCh true false n * (s.fa false TBL.FLOWA_TX_RATE96 n + 1))))

/-- Tokens a flow holds (R267). -/
def State.flowTokens (s : State) (tx lv : Bool) (n : FlowNo) : Nat :=
  if !s.flowEn tx lv n then 0
  else if tx then 2
  else
    let unit := if s.fa lv TBL.FLOWA_RX_PT125 n = 1 then 6 else 48
    (min 960 (max 6 (s.fa lv TBL.FLOWA_RX_LINK_OFS n)) + unit - 1) / unit + 2

/-- The rate of one path of a send flow, kb/s (R279). -/
def State.audRate (s : State) (lv sec : Bool) (n : FlowNo) : Nat :=
  let w := s.flowBytes true lv n + 82 + (if sec then 32 else 0) - (if s.fa lv TBL.FLOWA_TX_VLAN_EN n = 1 then 0 else 4)
  (w * 8 * (if s.fa lv TBL.FLOWA_TX_PT125 n = 1 then 8000 else 1000) + 999) / 1000

/-! ### Receive flows -/

/-- Receive flow `n`. -/
def State.arx (s : State) (n : FlowNo) : AudRx := s.audRx.get n.val AudRx.init

/-- Set receive flow `n`. -/
def State.setArx (s : State) (n : FlowNo) (x : AudRx) : State := { s with audRx := s.audRx.set n.val x AudRx.init }

/-- The receive page of a flow. -/
def rxPage (n : FlowNo) : Page := .flowaRx (flowBay n)

/-- STATE of a receive flow: 0 OFF, 1 WAIT, 2 RUN, 3 LOST. -/
def State.arxState (s : State) (n : FlowNo) : Nat := s.tget (TBL.FLOWA_RX_STATE.at n.val)

/-- Enter a state, with LOST_MAP (R271). -/
def State.setArxState (s : State) (n : FlowNo) (st : Nat) : State :=
  (s.tput (TBL.FLOWA_RX_STATE.at n.val) st).put (rxPage n) ((FARX.LOST_MAP_LOST.at (n.val % 256 / 32)).bit (n.val % 32))
    (b2n (st = 3))

/-- Keep some stored packets and return the tokens of the others (pool class 0xA). -/
def State.arxRelease (s : State) (n : FlowNo) (keep : AudPkt → Bool) : State :=
  let x := s.arx n
  let l := x.pkts.filter keep
  (s.setArx n { x with pkts := l }).poolReturn 10 (n.val / 256) (x.pkts.length - l.length)

/-- FOREIGN of a flow (R274). -/
def State.setForeign (s : State) (n : FlowNo) (b : Bool) : State :=
  (s.tput (TBL.FLOWA_RX_FOREIGN.at n.val) (b2n b)).put (rxPage n)
    ((FARX.FOREIGN_MAP_FOREIGN.at (n.val % 256 / 32)).bit (n.val % 32)) (b2n b)

/-- Words 8 to 15 of a flow table entry are zeroed (R282). -/
def State.zeroFlow (s : State) (base : Nat) (n : FlowNo) (lo : Nat) : State :=
  (List.range (16 - lo)).foldl (fun s k => s.setWord (base + 64 * n.val + 4 * (lo + k)) 0) s

/-- A flow enters OFF or WAIT afresh (Table 10.5, R282). -/
def State.arxAfresh (s : State) (n : FlowNo) (st : Nat) : State :=
  let s := (((s.arxRelease n (fun _ => false)).setArx n { AudRx.init with heardA := s.now, heardB := s.now }).setForeign n false).setArxState n st
  let s := if st = 0 then s.zeroFlow 0x02140000 n 8 else s
  s.tput (TBL.FLOWA_RX_TOKENS.at n.val) (if st = 0 then 0 else s.flowTokens false true n)

/-- The live entry of receive flow `n` has changed from that of `old` (R271). -/
def State.arxFired (s old : State) (n : FlowNo) : State :=
  let changed := [0, 1, 2, 3].any (fun k =>
    s.lword (0x02140000 + 64 * n.val + 4 * k) != old.lword (0x02140000 + 64 * n.val + 4 * k))
  if !s.flowEn false true n then (if s.arxState n = 0 then s else s.arxAfresh n 0)
  else if s.arxState n = 0 || changed then s.arxAfresh n 1
  else s

/-- The sample rate of a flow. -/
def State.flowRate (s : State) (tx : Bool) (n : FlowNo) : Nat := if s.fa true (flowFlds tx).rate96 n = 1 then 96000 else 48000

/-- LINK_OFS of a flow, 6 to 960. -/
def State.linkOfs (s : State) (n : FlowNo) : Nat := min 960 (max 6 (s.fa true TBL.FLOWA_RX_LINK_OFS n))

/-- The play-out media time of sample count `c` of a flow (R268). -/
def State.playTime (s : State) (n : FlowNo) (c : Int) : Frac :=
  (Frac.add ⟨c * 1000000000, s.flowRate false n⟩ ⟨s.linkOfs n * 1000000000, 48000⟩)

/-- The slot word of an encoded sample (R252, Table 10.4): the low byte of an AM824 word is its own.
(PRESUMED, notes/assumptions/75.md) -/
def rxWord (fmt w n : Nat) : Nat :=
  match fmt with
  | 0 => w % 65536 * 65536 + lowByte n
  | 1 => w % 2 ^ 24 * 256 + lowByte n
  | _ =>
    let h := w / 2 ^ 24
    w % 2 ^ 24 * 256 + bitAt h 5 * 128 + bitAt h 2 * 64 + bitAt h 1 * 32 + bitAt h 0 * 16

/-- The mean of the slacks of the last second. -/
def slackMean (l : List (Nat × Int)) : Int := openDiv 19 (l.foldl (fun m e => m + e.2) 0) l.length

/-- The slack of a packet stored now, in 0.1 µs, enters SLACK_MIN and the mean over the last second (R272, R274). -/
def State.slackIn (s : State) (n : FlowNo) (first : Int) : State :=
  let d := (s.playTime n first).sub (Frac.ofTime s.mt)
  let x := s.arx n
  let l := (s.now, openDiv 10 d.n (100 * d.d)) :: x.slacks.filter (fun e => s.now < e.1 + cyclesPerSec)
  let least := l.foldl (fun m e => min m e.2) (openDiv 10 d.n (100 * d.d))
  let means := if x.means.head?.all (fun e => e.1 + cyclesPerSec ≤ s.now) then ((s.now, slackMean l) :: x.means).take 64
    else x.means
  (s.setArx n { x with slacks := l, means }).tput (TBL.FLOWA_RX_SLACK_MIN.at n.val) (wrap 32 least)

/-- A packet's arrival on a path: PATH_BACK and the skew (R272). -/
def State.arxArrive (s : State) (n : FlowNo) (b : Bool) (seq : Nat) : State :=
  let down := (if b then TBL.FLOWA_RX_PATH_B_DOWN else TBL.FLOWA_RX_PATH_A_DOWN).at n.val
  let s := if s.tget down = 1 then (s.tput down 0).raise (rxPage n) FARX.INT_STAT_PATH_BACK else s
  let s := s.setArx n (if b then { s.arx n with heardB := s.now } else { s.arx n with heardA := s.now })
  if s.fa true TBL.FLOWA_RX_PAIR n = 0 then s
  else
    let x := s.arx n
    match x.arrivals.find? (fun a => a.1 = seq && a.2.1 != b) with
    | some (_, _, at_) =>
      let d : Int := if b then (s.now : Int) - at_ else (at_ : Int) - s.now
      let l := (d :: x.skews).take 256
      (s.setArx n { x with skews := l, arrivals := x.arrivals.filter (fun a => a.1 != seq) }).tput
        (TBL.FLOWA_RX_SKEW_LIVE.at n.val)
        (wrap 32 (openDiv 11 (10 * l.foldl (· + ·) 0) (cyclesPerUs * l.length)))
    | none => s.setArx n { x with arrivals := ((seq, b, s.now) :: x.arrivals).take 8192 }

/-- A counter of the flow's entry adds one, saturating. -/
def State.flowCount (s : State) (f : Fld) (n : FlowNo) (k : Nat) : State :=
  s.tput (f.at n.val) (sat 32 (s.tget (f.at n.val) + k))

/-- A packet is stored in a token (R269). -/
def State.arxStore (s : State) (n : FlowNo) (p : AudPkt) : State :=
  let x := s.arx n
  ((s.setArx n { x with pkts := x.pkts ++ [p], lastFirst := some p.first }).poolIssue 10 (n.val / 256) 1).tput
    (TBL.FLOWA_RX_PKT_OK.at n.val) (s.tget (TBL.FLOWA_RX_PKT_OK.at n.val) + 1)

/-- A sample reaches its play-out: RUN, with FLOW_BACK from LOST (Table 10.5). -/
def State.arxRun (s : State) (n : FlowNo) : State :=
  let st := s.arxState n
  if st = 2 then s
  else
    let s := s.setArxState n 2
    if st = 3 then s.raise (rxPage n) FARX.INT_STAT_FLOW_BACK else s

/-- A packet of an ASRC flow that is neither stored nor played: gaps are filled or return the flow to WAIT (R273).
(DEDUCED, notes/assumptions/77.md) -/
def State.arxAsrc (s : State) (n : FlowNo) (p : RtpAudio) : State :=
  let x := s.arx n
  let last := match x.pkts.getLast? with | some q => some q.seq | none => x.done.head?
  let gap := match last with | some l => (p.seq + 65535 - l % 65536) % 65536 | none => 0
  let s := if gap = 0 || 32768 ≤ gap then s
    else if gap ≤ 8 then s.flowCount TBL.FLOWA_RX_PKT_LOSS n gap
    else (s.arxRelease n (fun _ => false)).setArxState n 1
  s.arxStore n ⟨p.seq, s.now, p.words⟩

/-- An audio packet arrives for a receive flow on path A or B (R269, R272). (DEDUCED, notes/assumptions/66.md) -/
def State.arxPacket (s : State) (n : FlowNo) (b : Bool) (p : RtpAudio) : State :=
  if b && s.fa true TBL.FLOWA_RX_PAIR n = 0 then s
  else
    let s := s.arxArrive n b p.seq
    let x := s.arx n
    if p.pt ≠ s.fa true TBL.FLOWA_RX_PT n || p.bytes ≠ s.flowBytes false true n then
      s.addSat (rxPage n) FARX.FMT_ERR_COUNT 1
    else if x.pkts.any (fun q => q.seq = p.seq) || x.done.contains p.seq then s.flowCount TBL.FLOWA_RX_PKT_DUP n 1
    else if s.fa true TBL.FLOWA_RX_ASRC_EN n = 1 then s.arxAsrc n p
    else
      let cnt := (Frac.ofTime s.mt).floorMul (s.flowRate false n) 1000000000
      let ahead := sgn 32 (wrap 32 ((p.ts : Int) - s.fa true TBL.FLOWA_RX_TS_OFS n - cnt))
      let first := cnt + ahead
      if ahead ≤ 0 && (s.playTime n first).le ⟨s.aud.gNum, s.aud.gDen⟩ then
        (s.flowCount TBL.FLOWA_RX_PKT_LATE n 1).raise (rxPage n) FARX.INT_STAT_LATE
      else if 0 < ahead then s.flowCount TBL.FLOWA_RX_PKT_EARLY n 1
      else (s.arxStore n ⟨p.seq, first, p.words⟩).slackIn n first

/-- The word of channel `c` of sample count `k` among the stored packets. -/
def State.arxSample (s : State) (n : FlowNo) (k : Int) (c : Nat) : Option Nat :=
  let per := samplesPer (s.fa true TBL.FLOWA_RX_RATE96 n) (s.fa true TBL.FLOWA_RX_PT125 n)
  let ch := s.flowCh false true n
  match (s.arx n).pkts.find? (fun p => p.first ≤ k && k < p.first + per) with
  | some p => some (nth p.words ((k - p.first).toNat * ch + c) 0)
  | none => none

/-- The packet whose sample `k` is due is missing: it is counted once (R270). (DEDUCED, notes/assumptions/76.md) -/
def State.arxLoss (s : State) (n : FlowNo) (k : Int) : State :=
  let x := s.arx n
  let per : Int := (samplesPer (s.fa true TBL.FLOWA_RX_RATE96 n) (s.fa true TBL.FLOWA_RX_PT125 n) : Nat)
  let which := (k - x.lastFirst.getD 0) / per * per + x.lastFirst.getD 0
  if s.arxState n ≠ 2 || x.lossAt = some which then s
  else (s.setArx n { x with lossAt := some which }).flowCount TBL.FLOWA_RX_PKT_LOSS n 1

/-- A receive flow at a T_SMP of grid media time `g`: what it writes, and the packets it has played (R268, R270).
(DEDUCED, notes/assumptions/76.md) -/
def State.arxSmp (s : State) (n : FlowNo) (g : Frac) : State × List (Nat × Nat) :=
  if !s.flowEn false true n then (s, [])
  else if s.fa true TBL.FLOWA_RX_ASRC_EN n = 1 then
    let old := fun (p : AudPkt) => p.first + (s.linkOfs n * 24750 : Nat) ≤ s.now
    let gone := (s.arx n).pkts.filter old
    if gone.isEmpty then (s, [])
    else
      let s := s.arxRelease n (fun p => !old p)
      ((s.setArx n { s.arx n with done := ((gone.map (·.seq)).reverse ++ (s.arx n).done).take 1024 }).arxRun n, [])
  else
    let two := s.fa true TBL.FLOWA_RX_RATE96 n = 1
    let per : Int := (samplesPer (s.fa true TBL.FLOWA_RX_RATE96 n) (s.fa true TBL.FLOWA_RX_PT125 n) : Nat)
    let k48 := (g.sub ⟨s.linkOfs n * 1000000000, 48000⟩).floorMul 48000 1000000000
    let ks := if two then [2 * k48, 2 * k48 + 1] else [k48]
    let chs := List.range (s.flowCh false true n)
    let count := gridCount g
    let fmt := s.fa true TBL.FLOWA_RX_FMT n
    let base := 0x8000 + s.fa true TBL.FLOWA_RX_SLOT n
    let r := ks.foldl (fun (acc : State × List (Nat × Nat) × Nat) k =>
      let s := acc.1
      let found := (s.arxSample n k 0).isSome
      let s := if found then s.arxRun n else s.arxLoss n k
      let ws := chs.map (fun c =>
        (base + (if two then 2 * c + acc.2.2 else c),
          match s.arxSample n k c with
          | some w => rxWord fmt w count
          | none => 0x10))
      (s, acc.2.1 ++ ws, acc.2.2 + 1)) (s, [], 0)
    let lastK := if two then 2 * k48 + 1 else k48
    let s := r.1
    let gone := ((s.arx n).pkts.filter (fun p => p.first + per ≤ lastK + 1)).map (·.seq)
    let s := s.arxRelease n (fun p => !(p.first + per ≤ lastK + 1))
    (s.setArx n { s.arx n with done := (gone.reverse ++ (s.arx n).done).take 1024 }, r.2.1)

/-- A flow has received no packet for 10 ms (Table 10.5). -/
def State.arxLost (s : State) (n : FlowNo) : State :=
  if s.arxState n = 2 && max (s.arx n).heardA (s.arx n).heardB + 10000 * cyclesPerUs ≤ s.now then
    (s.setArxState n 3).raise (rxPage n) FARX.INT_STAT_FLOW_LOST
  else s

/-- A path has delivered nothing for 10 ms (R272). -/
def State.arxPathLost (s : State) (n : FlowNo) (b : Bool) : State :=
  let down := (if b then TBL.FLOWA_RX_PATH_B_DOWN else TBL.FLOWA_RX_PATH_A_DOWN).at n.val
  if !s.flowEn false true n || (b && s.fa true TBL.FLOWA_RX_PAIR n = 0) || s.tget down = 1 ||
    s.now < (if b then (s.arx n).heardB else (s.arx n).heardA) + 10000 * cyclesPerUs then s
  else (s.tput down 1).raise (rxPage n) FARX.INT_STAT_PATH_LOST

/-- The 1 s mean of slack has moved by more than 100 µs within the last 10 s, or, with `settled`, by less than 20 µs over the last
60 s (R274). (DEDUCED, notes/assumptions/145.md) -/
def AudRx.meanMoved (x : AudRx) (now : Nat) (settled : Bool) : Bool :=
  let m := slackMean x.slacks
  let past := fun (sec : Nat) => x.means.filter (fun e => now ≤ e.1 + sec * cyclesPerSec)
  if x.slacks.isEmpty then false
  else if settled then
    x.means.any (fun e => e.1 + 59 * cyclesPerSec ≤ now) && (past 60).all (fun e => (m - e.2).natAbs < 200)
  else (past 10).any (fun e => 1000 < (m - e.2).natAbs)

/-- The mean slack has drifted beyond its limit, or has settled (R274). -/
def State.foreign (s : State) (n : FlowNo) (b : Bool) : State :=
  if !s.flowEn false true n || s.fa true TBL.FLOWA_RX_ASRC_EN n = 1 || !(s.arx n).meanMoved s.now (!b) then s
  else
    let s := s.setForeign n b
    if b then s.raise (rxPage n) FARX.INT_STAT_FOREIGN else s

/-! ### Send flows (R275, R276) -/

/-- Send flow `n`. -/
def State.atx (s : State) (n : FlowNo) : AudTx := s.audTx.get n.val AudTx.init

/-- Set send flow `n`. -/
def State.setAtx (s : State) (n : FlowNo) (x : AudTx) : State := { s with audTx := s.audTx.set n.val x AudTx.init }

/-- A send flow stops: its tokens are returned and its RO words zeroed (R280, R282). -/
def State.atxStop (s : State) (n : FlowNo) : State :=
  let x := s.atx n
  ((s.setAtx n AudTx.init).poolReturn 10 (n.val / 256) (x.ready.length + b2n x.run.isSome)).zeroFlow 0x02180000 n 12

/-- The live entry of send flow `n` has changed from that of `old`. -/
def State.atxFired (s old : State) (n : FlowNo) : State :=
  if !s.flowEn true true n then (if old.flowEn true true n then s.atxStop n else s)
  else
    let s := if old.flowEn true true n then s else s.setAtx n AudTx.init
    s.tput (TBL.FLOWA_TX_SENDING.at n.val) 1

/-- A sample of channel `c` as a send flow encodes it (Table 10.4): L16 its upper 16 bits, L24 all, AM824 with its block start, frame
start, parity made anew, C, U and V. (PRESUMED, notes/assumptions/75.md) -/
def txWord (fmt c w : Nat) : Nat :=
  let y := w / 256
  match fmt with
  | 0 => y / 256
  | 1 => y
  | _ =>
    let v := bitAt w 4 + 2 * bitAt w 5 + 4 * bitAt w 6
    let ones := ((List.range 24).map (bitAt y)).foldl (· + ·) 0 + bitAt w 4 + bitAt w 5 + bitAt w 6
    y + 2 ^ 24 * (v + 8 * (ones % 2) + 16 * ((c + 1) % 2) + 32 * bitAt w 7)

/-- The samples of a consumer's range at this T_SMP: channel by channel, twice each at 96 kHz.
(DEDUCED, notes/assumptions/74.md) -/
def State.atxWords (s : State) (n : FlowNo) : List Nat :=
  let base := 0x8000 + s.fa true TBL.FLOWA_TX_BASE n
  let chs := List.range (s.flowCh true true n)
  let word := fun (c i : Nat) => txWord (s.fa true TBL.FLOWA_TX_FMT n) c (s.aud.cons.get (base + i) 0)
  if s.fa true TBL.FLOWA_TX_RATE96 n = 1 then
    chs.map (fun c => word c (2 * c)) ++ chs.map (fun c => word c (2 * c + 1))
  else chs.map (fun c => word c c)

/-- A send flow takes the generation of the last T_SMP, whose grid media time was `g` (R275). -/
def State.atxSmp (s : State) (n : FlowNo) (g : Frac) : State :=
  let rate := s.flowRate true n
  let per := samplesPer (s.fa true TBL.FLOWA_TX_RATE96 n) (s.fa true TBL.FLOWA_TX_PT125 n)
  let cnt := g.floorMul rate 1000000000
  let x := s.atx n
  let start := (if rate = 96000 then cnt / 2 * 2 else cnt) % (per : Int) = 0
  let ws := s.atxWords n
  let (s, run) := if start then
      ((if x.run.isSome then s else s.poolIssue 10 (n.val / 256) 1),
        some (wrap 32 (cnt + s.fa true TBL.FLOWA_TX_TS_OFS n), ws))
    else (s, x.run.map (fun r => (r.1, r.2 ++ ws)))
  let at_ := s.now + min 24749 (s.fa true TBL.FLOWA_TX_TX_PHASE n)
  let ready := x.ready.map (fun e => (e.1, e.2.1, e.2.2.or (some at_)))
  match run with
  | some (ts, l) =>
    if per * s.flowCh true true n ≤ l.length then s.setAtx n { x with run := none, ready := ready ++ [(ts, l, none)] }
    else s.setAtx n { x with run := some (ts, l), ready }
  | none => s.setAtx n { x with ready }

/-- The headers of a packet of send flow `n` on path `p` of port `port` (R275, R279, Table 10.12). -/
def State.atxHead (s : State) (n : FlowNo) (p port seq ts : Nat) (marker : Bool) : MediaHead :=
  let g := fun f => s.fa true f n
  let at_ := fun (f : Fld) => s.tlive (f.at2 n.val p)
  { port, mac := autoMac (at_ TBL.FLOWA_TX_DST_IP) false,
    vlan := if g TBL.FLOWA_TX_VLAN_EN = 1 then some (g TBL.FLOWA_TX_PCP, g TBL.FLOWA_TX_VID) else none,
    ipv6 := false, src := at_ TBL.FLOWA_TX_SRC_IP, dst := at_ TBL.FLOWA_TX_DST_IP, ttl := g TBL.FLOWA_TX_TTL,
    dscp := g TBL.FLOWA_TX_DSCP, sport := at_ TBL.FLOWA_TX_SPORT, dport := at_ TBL.FLOWA_TX_DPORT, pt := g TBL.FLOWA_TX_PT,
    ssrc := g TBL.FLOWA_TX_SSRC, seq, ts, marker }

/-- The paths of send flow `n` and their ports: B only with DUAL (Table 10.12). -/
def State.atxPaths (s : State) (n : FlowNo) : List (Nat × Nat) :=
  (0, s.fa true TBL.FLOWA_TX_PORT_A n) ::
    (if s.fa true TBL.FLOWA_TX_DUAL n = 1 then [(1, s.fa true TBL.FLOWA_TX_PORT_B n)] else [])

/-- The oldest packet of a send flow, whose scheduled instant has come, goes out on its paths, and is late more than 5 µs
after that instant (R276, R162). The RTP marker bit is left open, and comes with the row. (PRESUMED, notes/assumptions/75.md) -/
def State.atxSend (s : State) (n : FlowNo) (marker : Bool) : State :=
  let x := s.atx n
  match x.ready with
  | (ts, words, some at_) :: rest =>
    if s.now < at_ then s
    else
      let s := (s.setAtx n { x with seq := (x.seq + 1) % 65536, ready := rest }).poolReturn 10 (n.val / 256) 1
      let vlan := s.fa true TBL.FLOWA_TX_VLAN_EN n = 1
      let r := (s.atxPaths n).foldl (fun (acc : State × Bool) e =>
        match idx? 48 e.2 with
        | none => acc
        | some p =>
          let head := s.atxHead n e.1 e.2 x.seq ts marker
          let frame : TxFrame :=
            { len := s.flowBytes true true n + 62 - (if vlan then 0 else 4), cls := 7, dest := macKind head.mac, vlan := vlan,
              flow := 0, eapol := false, ptp := none, bypass := false, host := false,
              media := some ⟨true, n.val, at_ + 5 * cyclesPerUs⟩ }
          let q := acc.1.mediaSend p frame
          if q.2 then (q.1.emit (.audioPacket n.val e.1 head words), true) else (q.1, acc.2)) (s, false)
      if r.2 then r.1.tput (TBL.FLOWA_TX_TX_PKT.at n.val) (r.1.tget (TBL.FLOWA_TX_TX_PKT.at n.val) + 1) else r.1
  | _ => s

/-! ### Embedding (R144) -/

/-- The line of destination `d` that begins now carries the next sample that no earlier line has carried, of a T_SMP at least
2 µs before (R145): none when there is none. -/
def State.embedNext (s : State) (d : Nat) : Option (Nat × Tab Nat) :=
  let ready := s.aud.past.filter (fun e => e.1 + 2376 ≤ s.now)
  match s.xwp.embAt.get d 0 with
  | 0 => ready.head?
  | k => (ready.filter (fun e => k ≤ e.1)).getLast?

/-- The embedder of destination `d` writes a sample into the line that begins now, in a tenon that carries the groups of the
mask `carried` (R144, R145). -/
def State.embedSample (s : State) (d carried : Nat) : State :=
  let g := s.embedGroups d carried
  if 2048 ≤ d || s.tlive (TBL.XWP_EMB_EN.at d) = 0 then s
  else match s.embedNext d with
    | none => s
    | some (t, cons) =>
      let words := (List.range 16).map (fun k => cons.get (16 * d + k) 0)
      let new := s.xwp.lineAt.get d 0 ≠ s.now + 1
      let s := if g.1 ≠ 0 && new then s.add .xwpRoute XWPR.EMB_LINES 1 else s
      let s : State := { s with xwp := { s.xwp with
        embAt := s.xwp.embAt.set d (t + 1) 0,
        lineAt := if g.1 = 0 then s.xwp.lineAt else s.xwp.lineAt.set d (s.now + 1) 0 } }
      s.emit (.embed d g.1 g.2 ((s.dstRate d).any (fun x => x.1 = 3)) words)

end Sys2Proof.Machine
end

