-- ==== Sys2Proof/Machine/Tdm.lean ====
section
/-! DEFINITION. TDM audio ports and the ASRC pool (chapter 11). -/

namespace Sys2Proof.Machine

/-- A TDM port. -/
abbrev TdmNo := Fin 16

/-- Port `b`. -/
def State.tdmPort (s : State) (b : TdmNo) : TdmPort := s.tdm.get b.val TdmPort.init

/-- Set port `b`. -/
def State.setTdm (s : State) (b : TdmNo) (x : TdmPort) : State := { s with tdm := s.tdm.set b.val x TdmPort.init }

/-- TDM_STAT.STATE: 0 OFF, 1 PRE, 2 RUN, 3 POST, 4 CLK_LOST, 5 HALTED. -/
def State.tdmState (s : State) (b : TdmNo) : Nat := s.get (.tdm b) TDM.TDM_STAT_STATE

/-- Enter a state. -/
def State.setTdmState (s : State) (b : TdmNo) (v : Nat) : State := s.put (.tdm b) TDM.TDM_STAT_STATE v

/-- What a port runs under: MASTER, ASRC_EN, R97 and the slots S of a frame. -/
def TdmPort.master (x : TdmPort) : Bool := bitAt x.ctl 1 = 1
def TdmPort.asrc (x : TdmPort) : Bool := bitAt x.ctl 5 = 1 && bitAt x.ctl 1 = 0
def TdmPort.r97 (x : TdmPort) : Bool := bitAt x.ctl 4 = 1 && !x.asrc
def TdmPort.slots (x : TdmPort) : Nat := 2 ^ bits x.ctl 8 3
def TdmPort.rxCh (x : TdmPort) : Nat := x.chs % 256
def TdmPort.txCh (x : TdmPort) : Nat := bits x.chs 8 8

/-- The enabled slots of a mask, ascending (R287). -/
def ranksOf (mask slots : Nat) : List Nat := (List.range slots).filter (fun i => mask.testBit i)

/-- The samples of the enabled slots of a frame, in rank order: the first 24 of the 32 bits of each slot, whose first bit stands
highest (R284, R287). -/
def compact (mask slots : Nat) (din : List Nat) : List Nat :=
  (ranksOf mask slots).map (fun i => bits (nth din i 0) 8 24)

/-- A frame whose enabled slots carry the samples given in rank order, MSB first and with 8 bits of 0 after them, the others 0
(R284, R287). -/
def spread (mask slots : Nat) (xs : List Nat) : List Nat :=
  (List.range slots).map (fun i =>
    if mask.testBit i then nth xs ((ranksOf mask slots).filter (· < i)).length 0 % 2 ^ 24 * 256 else 0)

/-! ### The pins (R284, R291, R292) -/

/-- FSYNC in bit period `k` from the frame start, of a frame of `slots` slots in format FMT (Table 11.1). -/
def fsyncAt (fmt slots k : Nat) : Bool :=
  match fmt with
  | 0 => k + 1 = slots * 32
  | 1 => slots * 16 ≤ (k + 1) % (slots * 32)
  | _ => k < slots * 16

/-- DOUT in bit period `k` from the frame start. -/
def doutAt (words : List Nat) (k : Nat) : Nat := bitAt (nth words (k / 32) 0) (31 - k % 32)

/-- The DIN slots that a frame of `slots` slots brings whose bits from its start are `l`. -/
def dinSlots (slots : Nat) (l : List Nat) : List Nat :=
  (List.range slots).map (fun i => (List.range 32).foldl (fun acc k => acc * 2 + nth l (32 * i + k) 0 % 2) 0)

/-- Port `b` drives BCLK and FSYNC: a master outside OFF, once it has started a frame; in OFF they are held low (R291, R292). -/
def State.tdmClocks (s : State) (b : TdmNo) : Bool := s.tdmState b ≠ 0 && (s.tdmPort b).master && (s.tdmPort b).start.isSome

/-- BCLK periods a second of a master port, and of a synchronous slave: at most 49.152 MHz (Table 11.2). -/
def TdmPort.bclk (x : TdmPort) : Nat := (if x.r97 then 96000 else 48000) * x.slots * 32

/-! ### The ASRC pool (R290, R299, R300) -/

/-- A range of ASRC channels: kind, owner, first channel and count. -/
structure AsrcRange where
  kind : Nat
  owner : Nat
  first : Nat
  count : Nat
  deriving DecidableEq, Repr

/-- The range of receive flow `n`, live or shadow. -/
def State.flowRange (s : State) (lv : Bool) (n : FlowNo) : List AsrcRange :=
  if s.flowEn false lv n && s.fa lv TBL.FLOWA_RX_ASRC_EN n = 1 then
    [⟨1, n.val, s.fa lv TBL.FLOWA_RX_ASRC_CH n, s.flowCh false lv n⟩]
  else []

/-- The ranges of port `b`, live or shadow: DIN, then DOUT. -/
def State.portRange (s : State) (lv : Bool) (b : TdmNo) : List AsrcRange :=
  let p := Page.tdm b
  if s.cfg lv p TDM.TDM_CTRL_EN = 1 && s.cfg lv p TDM.TDM_CTRL_ASRC_EN = 1 && s.cfg lv p TDM.TDM_CTRL_MASTER = 0 then
    let n := 2 ^ s.cfg lv p TDM.TDM_CTRL_SLOTS
    [⟨2, b.val, s.cfg lv p TDM.TDM_ASRC_RX_CH, (ranksOf (s.cfg lv p TDM.RX_MASK_MASK) n).length⟩,
     ⟨3, b.val, s.cfg lv p TDM.TDM_ASRC_TX_CH, (ranksOf (s.cfg lv p TDM.TX_MASK_MASK) n).length⟩]
  else []

/-- Every range, live, or in the view that takes the shadow of the pages of `v`. -/
def State.asrcRanges (s : State) (v : Page → Bool) : List AsrcRange :=
  ((s.flowListed false).map (fun n => s.flowRange (!v (rxPage n)) n)).flatten ++
    ((List.finRange 16).map (fun b => s.portRange (!v (.tdm b)) b)).flatten

/-- The live ranges. -/
def State.asrcLive (s : State) : List AsrcRange := s.asrcRanges (fun _ => false)

/-- Channel `a` lies in the range. -/
def AsrcRange.has (r : AsrcRange) (a : Nat) : Bool := r.first ≤ a && a < r.first + r.count

/-- The channels of a range, below 256. -/
def AsrcRange.chans (r : AsrcRange) : List Nat := ((List.range r.count).map (fun k => r.first + k)).filter (· < 256)

/-- STATE of channel `a`: 0 IDLE, 1 ACQUIRE, 2 TRACK, 3 HOLD. -/
def State.asrcState (s : State) (a : Nat) : Nat := s.get .asrc (ASRC.ASRC_CH_STAT_STATE.at a)

/-- Channel `a` enters a state; leaving TRACK other than for IDLE is counted and raised (Tables 11.8, 11.9). -/
def State.setAsrc (s : State) (a st : Nat) : State :=
  let lost := s.asrcState a = 2 && st ≠ 2 && st ≠ 0
  let s := s.put .asrc (ASRC.ASRC_CH_STAT_STATE.at a) st
  if lost then (s.addSat .asrc ASRC.TRACK_LOST_CNT 1).raise .asrc ASRC.INT_STAT_TRACK_LOST else s

/-- The channels that are not IDLE. -/
def State.asrcBusy (s : State) : List Nat :=
  s.sh.filterMap (fun e =>
    if 0x00201400 ≤ e.1 && e.1 < 0x00201C00 && e.1 % 8 = 0 && e.2 &&& 7#32 ≠ 0#32 then some ((e.1 - 0x00201400) / 8) else none)

/-- Channel `a` gets the owner its live ranges give it (R299, R300). (DEDUCED, notes/assumptions/84.md) -/
def State.asrcOwn (s : State) (rs : List AsrcRange) (a : Nat) : State :=
  let kind := s.get .asrc (ASRC.ASRC_CH_STAT_KIND.at a)
  let owner := s.get .asrc (ASRC.ASRC_CH_STAT_OWNER.at a)
  let set := fun (s : State) k o => s.puts .asrc [(ASRC.ASRC_CH_STAT_KIND.at a, k), (ASRC.ASRC_CH_STAT_OWNER.at a, o)]
  match rs.find? (fun r => r.has a) with
  | some r =>
    if kind = r.kind ∧ owner = r.owner then s
    else (set s r.kind r.owner).setAsrc a 1
  | none => if kind = 0 then s else (set s 0 0).setAsrc a 0

/-- The channels follow the live ranges. (DEDUCED, notes/assumptions/84.md) -/
def State.asrcSync (s : State) : State :=
  let rs := s.asrcLive
  let keys := (s.asrcBusy ++ (rs.map AsrcRange.chans).flatten).foldl insertNat []
  keys.foldl (fun s a => s.asrcOwn rs a) s

/-- The delay target of channel `a` in samples at 48 kHz: DLY of a TDM port, 16 to 96, LINK_OFS of a network flow (R301). -/
def State.asrcTarget (s : State) (a : Nat) : Nat :=
  let owner := s.get .asrc (ASRC.ASRC_CH_STAT_OWNER.at a)
  if s.get .asrc (ASRC.ASRC_CH_STAT_KIND.at a) = 1 then s.linkOfs ⟨owner % 4096, Nat.mod_lt _ (by decide)⟩
  else min 96 (max 16 (s.live (.tdm ⟨owner % 16, Nat.mod_lt _ (by decide)⟩) TDM.TDM_ASRC_DLY))

/-- TRACK_BW in 0.1 Hz, 1 to 100 (Table 11.8). -/
def State.trackBw (s : State) : Nat := min 100 (max 1 (s.live .asrc ASRC.ASRC_CTRL_TRACK_BW))

/-- The ratio has been steady to within 1 ppm for 10 ms, and the delay lies within half a sample of its target (R300). -/
def State.asrcSteady (s : State) (a : Nat) (k : AsrcLock) : Bool :=
  k.spread * 1000000 ≤ k.ratio && k.delay ≤ s.asrcTarget a * 256 + 128 && s.asrcTarget a * 256 ≤ k.delay + 128

/-- A channel's ratio has been steady and its delay at target: it enters TRACK (R300). In TRACK the loop's ratio is shown.
(DESIGN CHOICE, notes/assumptions/146.md) -/
def State.asrcTrack (s : State) (a : Nat) (k : AsrcLock) : State :=
  let st := s.asrcState a
  if st = 1 && s.asrcSteady a k then
    (((s.put .asrc (ASRC.ASRC_RATIO_RATIO.at a) k.ratio).setAsrc a 2).add .asrc ASRC.ACQ_CNT 1).raise .asrc
      ASRC.INT_STAT_ACQUIRED
  else if st = 1 || st = 2 then s.put .asrc (ASRC.ASRC_RATIO_RATIO.at a) k.ratio
  else s

/-- Every held channel re-enters ACQUIRE (R302). -/
def State.asrcInit (s : State) : State := s.asrcBusy.foldl (fun s a => s.setAsrc a 1) s

/-- The channels port `b` holds. -/
def State.portChans (s : State) (b : TdmNo) : List Nat := ((s.portRange true b).map AsrcRange.chans).flatten

/-! ### GDDR6 writes of capture (R295) -/

/-- Bytes written to GDDR6 from address `a` on. -/
def State.gddrWrite (s : State) (a : Nat) (bs : List Nat) : State :=
  { s with gddr := (bs.foldl (fun (acc : Tab Byte × Nat) b =>
      (acc.1.set (acc.2 % 2 ^ 35) (BitVec.ofNat 8 b) 0, acc.2 + 1)) (s.gddr, a)).1 }

/-- The GDDR6 channel of a byte (R321). -/
def gddrChan (a : Nat) : Nat := a / 256 % 24

/-- Bytes of a ring of port `b` from address `a` on, but for those in a channel that loses the burst (R324). -/
def State.ringWrite (s : State) (b : TdmNo) (a : Nat) (bs : List Nat) : State :=
  ((List.range bs.length).zip bs).foldl (fun s e =>
    if s.ringLost.contains (b.val, gddrChan (a + e.1)) then s else s.gddrWrite (a + e.1) [e.2]) s

/-- A write of port `b` to a ring has ended: the losses noted for it have taken effect. -/
def State.ringWritten (s : State) (b : TdmNo) (any : Bool) : State :=
  if any then { s with ringLost := s.ringLost.filter (fun e => e.1 ≠ b.val) } else s

/-- One write of a ring, whole. -/
def State.ringEntry (s : State) (b : TdmNo) (a : Nat) (bs : List Nat) : State := (s.ringWrite b a bs).ringWritten b true

/-- Bytes a sample takes in the capture ring (R295). -/
def capBytes (pack3 : Nat) : Nat := if pack3 = 1 then 3 else 4

/-- CAP_BASE and STAMP_BASE. -/
def State.capBase (s : State) (b : TdmNo) : Nat :=
  s.live (.tdm b) TDM.CAP_BASE_LO_BASE * 64 + s.live (.tdm b) TDM.CAP_BASE_HI_BASE * 2 ^ 32
def State.stampBase (s : State) (b : TdmNo) : Nat :=
  s.live (.tdm b) TDM.STAMP_BASE_LO_BASE * 64 + s.live (.tdm b) TDM.STAMP_BASE_HI_BASE * 2 ^ 32

/-- A DIN frame goes to the capture ring, byte by byte so that it wraps at CAP_SIZE (R295). -/
def State.capture (s : State) (b : TdmNo) (xs : List Nat) : State :=
  let size := s.live (.tdm b) TDM.CAP_SIZE_SIZE
  let st := s.tdmState b
  if s.live (.tdm b) TDM.TDM_CTRL_CAP_EN = 0 || size = 0 || !(st = 1 || st = 2 || st = 5) then s
  else
    let bs := (xs.map (fun x => if (s.tdmPort b).pack3 = 1 then leBytes x 3 else leBytes (x * 256) 4)).flatten
    let base := s.capBase b
    let r := bs.foldl (fun (acc : State × Nat) v => (acc.1.ringWrite b (base + acc.2) [v], (acc.2 + 1) % size))
      (s, s.get (.tdm b) TDM.CAP_WPTR_WPTR % size)
    let r := (r.1.ringWritten b (bs.length ≠ 0), r.2)
    r.1.put (.tdm b) TDM.CAP_WPTR_WPTR r.2

/-- Capture resumes at the next multiple of a block of the new frame (R296). -/
def State.capAlign (s : State) (b : TdmNo) : State :=
  let n := (ranksOf (s.live (.tdm b) TDM.RX_MASK_MASK) (2 ^ s.live (.tdm b) TDM.TDM_CTRL_SLOTS)).length
  let u := 48 * n * capBytes (s.live (.tdm b) TDM.TDM_CTRL_PACK3)
  let size := s.live (.tdm b) TDM.CAP_SIZE_SIZE
  if s.live (.tdm b) TDM.TDM_CTRL_CAP_EN = 0 || u = 0 || size = 0 then s
  else s.put (.tdm b) TDM.CAP_WPTR_WPTR ((s.get (.tdm b) TDM.CAP_WPTR_WPTR + u - 1) / u * u % size)

/-! ### States (R291, R294) -/

/-- The port enters PRE under its live settings, and counts frames that start from now on (Table 11.3). Capture is realigned after
HALTED, and where the frame's form changes (R296). (DEDUCED, notes/assumptions/83.md) -/
def State.tdmPre (s : State) (b : TdmNo) : State :=
  let x := s.tdmPort b
  let st := s.tdmState b
  let word := fun o => (s.lword (Page.base (.tdm b) + o)).toNat
  let rx := s.live (.tdm b) TDM.RX_MASK_MASK
  let pk := s.live (.tdm b) TDM.TDM_CTRL_PACK3
  let s := if st = 5 || (st ≠ 0 && (rx ≠ x.rxMask || pk ≠ x.pack3)) then s.capAlign b else s
  ((s.setTdm b { TdmPort.init with
    ctl := word 0x040, chs := word 0x058, seq := word 0x054, rxMask := rx, txMask := s.live (.tdm b) TDM.TX_MASK_MASK, pack3 := pk,
    since := s.now, start := if st = 0 || x.master ≠ (bitAt (word 0x040) 1 = 1) then none else x.start, smp := x.smp, nextIv := s.stc / stcTenth + 1 }).setTdmState b 1).puts
    (.tdm b) [(TDM.TDM_STAT_SWAP_RISK, 0), (TDM.TDM_STAT_CLK_LOST, 0), (TDM.TDM_STAT_RATE_RANGE, 0)]

/-- The port enters OFF; `stopped` when STOPPED is raised (Table 11.5). (DEDUCED, notes/assumptions/83.md) -/
def State.tdmOff (s : State) (b : TdmNo) (stopped : Bool) : State :=
  let s := ((s.setTdm b TdmPort.init).setTdmState b 0).puts (.tdm b)
    [(TDM.TDM_STAT_SWAP_RISK, 0), (TDM.TDM_STAT_CLK_LOST, 0), (TDM.TDM_STAT_RATE_RANGE, 0)]
  if stopped then s.raise (.tdm b) TDM.INT_STAT_STOPPED else s

/-- The port enters POST; `again` when PRE follows. A running port carries its samples until its next frame start. -/
def State.tdmPost (s : State) (b : TdmNo) (again : Bool) : State :=
  (s.setTdm b { s.tdmPort b with again := again, seen := 0, since := s.now, winding := s.tdmState b = 2 }).setTdmState b 3

/-- A FIFO under- or overrun of a running port (R294). -/
def State.tdmHalt (s : State) (b : TdmNo) (full : Bool) : State :=
  if s.tdmState b ≠ 2 then s
  else
    ((((s.setTdmState b 5).addSat (.tdm b) (if full then TDM.FIFO_OVER else TDM.FIFO_UNDER) 1).put (.tdm b)
      TDM.TDM_STAT_SWAP_RISK 1).raise (.tdm b) TDM.INT_STAT_SWAP_RISK).fault (.tdm b) .contained 0 b.val

/-- A FIFO of port `b` is full, or empty, so that the next frame overruns or underruns it: the elastic FIFOs of a synchronous slave.
A master's stand at fixed positions; those before the converter of an ASRC slave are not in State (R289, R290, R294).
(DEDUCED, notes/assumptions/83.md) -/
def State.tdmFifoEdge (s : State) (b : TdmNo) (full : Bool) : Bool :=
  let x := s.tdmPort b
  x.asrc || (!x.master && (if full then 8 ≤ x.din.length || 8 ≤ x.dout.length else (x.primed && x.din = []) || x.dout = []))

/-- TDM_FIFO_FAULT: a FIFO at its edge under- or overruns (R294). -/
def State.tdmFifoFault (s : State) (b : TdmNo) (full : Bool) : State := if s.tdmFifoEdge b full then s.tdmHalt b full else s

/-- The live settings that restart a port differ from those it runs under (Table 11.3). -/
def State.tdmMoved (s : State) (b : TdmNo) : Bool :=
  let x := s.tdmPort b
  let ctl := (s.lword (Page.base (.tdm b) + 0x040)).toNat
  let chs := (s.lword (Page.base (.tdm b) + 0x058)).toNat
  ctl &&& 0x73E != x.ctl &&& 0x73E || chs % 65536 != x.chs % 65536

/-- The live copy of a TDM page has changed from that of `old`, or the squelch has lifted (Table 11.3, R296). A stop or a restart
runs under the old PRE and POST when other settings change with them; the form of a captured frame changes as it reaches the
port (R288). -/
def State.tdmFired (s old : State) (b : TdmNo) : State :=
  let en := s.live (.tdm b) TDM.TDM_CTRL_EN = 1
  let st := s.tdmState b
  let seq := (s.lword (Page.base (.tdm b) + 0x054)).toNat
  if !s.ready then s
  else if st = 0 then
    let s := if s.live (.tdm b) TDM.RX_MASK_MASK ≠ old.live (.tdm b) TDM.RX_MASK_MASK ||
      s.live (.tdm b) TDM.TDM_CTRL_PACK3 ≠ old.live (.tdm b) TDM.TDM_CTRL_PACK3 then s.capAlign b else s
    if en then s.tdmPre b else s
  else if st = 3 then (if en then s.tdmPre b else s.setTdm b { s.tdmPort b with again := false, seq := seq })
  else if st = 4 then (if !en then s.tdmOff b true else if s.tdmMoved b then s.tdmPre b else s)
  else if !en then (s.setTdm b { s.tdmPort b with seq := seq }).tdmPost b false
  else if s.tdmMoved b then s.tdmPost b true
  else s.setTdm b { s.tdmPort b with seq := seq }

/-- PRE valid frames have been counted: data starts when every held channel tracks (Table 11.3). -/
def State.tdmPreDone (s : State) (b : TdmNo) : State :=
  let x := s.tdmPort b
  let held := if x.asrc then s.portChans b else []
  if s.tdmState b ≠ 1 || x.seen < bits x.seq 0 13 || !held.all (fun a => s.asrcState a = 2) then s
  else
    ((s.setTdm b { x with din := [], dout := if x.master || x.asrc then [] else List.replicate 4 [], primed := false,
                          frames := 0, ramp := none, reacq := false, runAt := s.now }).setTdmState b 2).raise (.tdm b)
      TDM.INT_STAT_DATA_ON

/-- POST frames have elapsed (Table 11.3). -/
def State.tdmPostDone (s : State) (b : TdmNo) : State :=
  let x := s.tdmPort b
  if s.tdmState b ≠ 3 || x.seen < bits x.seq 16 13 then s else if x.again then s.tdmPre b else s.tdmOff b true

/-- TDM_CMD.RESTART: HALTED goes to PRE; in PRE the count starts again from the next frame start (R291). -/
def State.tdmRestart (s : State) (b : TdmNo) : State :=
  if s.tdmState b = 5 then s.tdmPre b
  else if s.tdmState b = 1 then s.setTdm b { s.tdmPort b with seen := 0, since := s.now }
  else s

/-- A glitched frame (Table 11.4). -/
def State.tdmGlitch (s : State) (b : TdmNo) : State :=
  (s.addSat (.tdm b) TDM.GLITCH_CNT 1).raise (.tdm b) TDM.INT_STAT_GLITCH

/-- A frame that started at core cycle `began` has passed, `valid` when it had S × 32 bit periods: PRE and CLK_LOST count valid
frames, the latter consecutive ones, and POST every frame (Table 11.3). (DEDUCED, notes/assumptions/83.md) -/
def State.tdmPassed (s : State) (b : TdmNo) (began : Nat) (valid : Bool) : State :=
  let x := s.tdmPort b
  let st := s.tdmState b
  if began < x.since then s
  else if st = 4 then s.setTdm b { x with seen := if valid then x.seen + 1 else 0 }
  else if st = 3 || (st = 1 && valid) then s.setTdm b { x with seen := x.seen + 1 }
  else s

/-- A frame starts: it is counted in its interval of 100 ms of the STC, and a port in POST carries zero from here on (R291,
R297). -/
def State.tdmStarts (s : State) (b : TdmNo) : State :=
  let x := s.tdmPort b
  let k := s.stc / stcTenth
  let l := match x.starts with
    | (j, n) :: rest => if j = k then (j, n + 1) :: rest else (k, 1) :: (j, n) :: rest
    | [] => [(k, 1)]
  s.setTdm b { x with starts := l.take 3, winding := false }

/-- FRAME_RATE in 0.01 Hz holds for two frame periods without a frame start: the last measured rate, or the nominal rate of a
synchronous slave (Table 11.4). A clock that has not started since the port left OFF, or an ASRC slave's whose rate was never
measured, does not stop. (DEDUCED, notes/assumptions/83.md) -/
def State.tdmSilent (s : State) (b : TdmNo) : Bool :=
  let x := s.tdmPort b
  let rate := if x.asrc then s.get (.tdm b) TDM.FRAME_RATE_RATE else if x.r97 then 9600000 else 4800000
  rate ≠ 0 && x.start.any (fun c => 2 * 118800000000 ≤ (s.now - c) * rate)

/-- The external clock stops (Table 11.4); `cut` tells that it cut a frame. -/
def State.tdmStop (s : State) (b : TdmNo) (cut : Bool) : State :=
  let x := s.tdmPort b
  if x.master || !s.tdmSilent b || !(s.tdmState b = 1 || s.tdmState b = 2) then s
  else
    let s := if cut then s.tdmGlitch b else s
    let s := (((s.setTdm b { x with din := [], dout := [], ramp := some 0, seen := 0, since := s.now }).setTdmState b 4).put
      (.tdm b) TDM.TDM_STAT_CLK_LOST 1).raise (.tdm b) TDM.INT_STAT_CLK_LOST
    let s := s.addSat (.tdm b) TDM.CLK_LOST_CNT 1
    if x.asrc then (s.portChans b).foldl (fun s a => if s.asrcState a = 0 then s else s.setAsrc a 3) s else s

/-- Valid frames have come for two frame periods (Table 11.3); channels re-enter ACQUIRE from HOLD (R300). -/
def State.tdmBack (s : State) (b : TdmNo) : State :=
  if s.tdmState b ≠ 4 || (s.tdmPort b).seen < 2 then s
  else
    let s := (s.tdmPre b).raise (.tdm b) TDM.INT_STAT_CLK_BACK
    (s.portChans b).foldl (fun s a => if s.asrcState a = 3 then s.setAsrc a 1 else s) s

/-- The frame starts of 100 ms interval `k` of the STC give a rate in 0.01 Hz (R297). A port outside CLK_LOST runs.
(DEDUCED, notes/assumptions/83.md) -/
def State.tdmRate (s : State) (b : TdmNo) (k : Nat) : State :=
  let x := s.tdmPort b
  let p := Page.tdm b
  if s.tdmState b = 0 || k < x.nextIv || s.stc < (k + 1) * stcTenth then s
  else
    let rate := ((x.starts.find? (·.1 = k)).map (·.2)).getD 0 * 1000
    let x : TdmPort := { x with nextIv := k + 1 }
    let s := s.setTdm b x
    let last := s.get p TDM.FRAME_RATE_RATE
    let s := if !x.measured then (s.put p TDM.FRAME_RATE_RATE rate).setTdm b { x with measured := true }
      else if s.get p TDM.RATE_THR_THR < max rate last - min rate last then
        (s.put p TDM.FRAME_RATE_RATE rate).raise p TDM.INT_STAT_RATE_DRIFT
      else s
    if s.tdmState b = 4 then s
    else
      let wrong := x.asrc && (rate < 3200000 || 9600000 < rate || 5000000000 < rate * x.slots * 32)
      let s := if wrong && s.get p TDM.TDM_STAT_RATE_RANGE = 0 then
          (s.raise p TDM.INT_STAT_RATE_RANGE).setTdm b { s.tdmPort b with ramp := some 0 }
        else if !wrong && s.get p TDM.TDM_STAT_RATE_RANGE = 1 then
          s.setTdm b { s.tdmPort b with ramp := if (s.tdmPort b).reacq then (s.tdmPort b).ramp else none }
        else s
      s.put p TDM.TDM_STAT_RATE_RANGE (b2n wrong)

/-! ### Blocks (R293, R298) -/

/-- The mean rate of a block differs by more than 1 % from FRAME_RATE (Table 11.4). -/
def State.rateMoved (s : State) (b : TdmNo) (span : Nat) : Bool :=
  let x := s.tdmPort b
  let d := s.get (.tdm b) TDM.FRAME_RATE_RATE * span
  let k := 48 * 100 * 1000000000 * 65536
  !x.master && x.measured && span ≠ 0 && d < 100 * (max k d - min k d)

/-- The rate of the external clock has changed (Table 11.4). -/
def State.rateChange (s : State) (b : TdmNo) : State :=
  let s := (s.raise (.tdm b) TDM.INT_STAT_RATE_CHANGED).addSat (.tdm b) TDM.RATE_CHG_CNT 1
  if (s.tdmPort b).asrc then
    (s.portChans b).foldl (fun s a => if s.asrcState a = 0 then s else s.setAsrc a 1)
      (s.setTdm b { s.tdmPort b with reacq := true, ramp := some 0 })
  else s

/-- Two stamps `span` apart give the port's channels the ratio of the STC interval of 48 T_SMP to them, through their loops (R300).
(DESIGN CHOICE, notes/assumptions/146.md) -/
def State.asrcFeed (s : State) (b : TdmNo) (span : Nat) : State :=
  if !(s.tdmPort b).asrc || span = 0 then s
  else
    let measured := 1000000 * 65536 * 2 ^ 24 / span
    (s.portChans b).foldl (fun s a =>
      if s.asrcState a = 1 || s.asrcState a = 2 then
        s.put .asrc (ASRC.ASRC_RATIO_RATIO.at a)
          (Config.asrcLoop s.trackBw measured (s.get .asrc (ASRC.ASRC_RATIO_RATIO.at a))).toNat
      else s) s

/-- A frame that started at core cycle `c` is numbered; the first of a block is stamped (R293).
(DEDUCED, notes/assumptions/81.md) -/
def State.tdmNumber (s : State) (b : TdmNo) (c : Nat) : State :=
  let x := s.tdmPort b
  if s.tdmState b ≠ 2 || c < x.runAt then s
  else if x.frames % 48 ≠ 0 then s.setTdm b { x with frames := x.frames + 1 }
  else
    let blk := x.frames / 48
    let stc := s.stcAt c
    let span := (stc + 2 ^ 64 - x.blkStc) % 2 ^ 64
    let changed := blk ≠ 0 && s.rateMoved b span
    let s := if blk = 0 then s else s.asrcFeed b span
    let s := (s.setTdm b { x with frames := x.frames + 1, blkStc := stc, blkAt := c }).put (.tdm b) TDM.BLK_CNT_BLK blk
    let s := if s.live (.tdm b) TDM.TDM_CTRL_CAP_EN = 0 then s
      else s.ringEntry b (s.stampBase b + 16 * (blk % 2 ^ s.live (.tdm b) TDM.STAMP_N_N))
        (leBytes stc 8 ++ leBytes blk 4 ++ leBytes (s.get (.tdm b) TDM.CAP_WPTR_WPTR) 4)
    if changed then s.rateChange b else s

/-! ### Frames (R284 to R290) -/

/-- The masks and PACK3 of the page reach the port at the start of a frame, at R97 = 1 of an earlier one, and realign its capture
(R288, R296). -/
def State.tdmMasks (s : State) (b : TdmNo) (later : Bool) : State :=
  let x := s.tdmPort b
  let rx := s.live (.tdm b) TDM.RX_MASK_MASK
  let pk := s.live (.tdm b) TDM.TDM_CTRL_PACK3
  if x.r97 && later then s
  else
    let s := if rx ≠ x.rxMask || pk ≠ x.pack3 then s.capAlign b else s
    s.setTdm b { x with rxMask := rx, txMask := s.live (.tdm b) TDM.TX_MASK_MASK, pack3 := pk }

/-- The output of ASRC channel `a` outside the plane: a free value while it tracks, 0 otherwise. -/
def State.asrcOut (s : State) (a : Nat) : Nat × State :=
  if s.asrcState a = 2 then
    let r := s.fresh
    ((Config.freeValue r.1 24).toNat, r.2)
  else (0, s)

/-- The outputs of several channels. -/
def State.asrcOuts (s : State) (l : List Nat) : List Nat × State :=
  l.foldl (fun (acc : List Nat × State) a =>
    let r := acc.2.asrcOut a
    (acc.1 ++ [r.1], r.2)) ([], s)

/-- The consumer's samples that a frame of port `b` carries in rank order: at R97 = 1 the earlier or the later (R287). -/
def State.doutNow (s : State) (b : TdmNo) (r97 later : Bool) : List Nat :=
  (List.range (if r97 then 16 else 32)).map (fun r =>
    s.aud.cons.get (0xC000 + 32 * b.val + (if r97 then 2 * r + b2n later else r)) 0 / 256)

/-- The DOUT frame of a frame start (R286, R289, R290). A master's later frame sends what its earlier one found. -/
def State.tdmDout (s : State) (b : TdmNo) : State :=
  let x := s.tdmPort b
  let send := fun (s : State) xs => s.emit (.tdmFrame b.val (bits x.ctl 2 2) (spread x.txMask x.slots xs))
  if s.tdmState b ≠ 2 then send s []
  else if x.asrc then
    if x.reacq || x.ramp.isSome then send s []
    else
      let r := s.asrcOuts ((List.range (ranksOf x.txMask x.slots).length).map (fun r => x.txCh + r))
      send r.2 r.1
  else if x.master then
    if x.later then send s (nth x.dout 0 [])
    else send (s.setTdm b { x with dout := if x.r97 then [s.doutNow b true true] else [] }) (s.doutNow b x.r97 false)
  else match x.dout with
    | f :: rest => send (s.setTdm b { x with dout := rest }) f
    | [] => send (s.tdmHalt b false) []

/-- A received DIN frame enters the FIFO under key `k` (R289). -/
def State.tdmDin (s : State) (b : TdmNo) (k c : Nat) (xs : List Nat) : State :=
  let x := s.tdmPort b
  if s.tdmState b ≠ 2 || c < x.runAt || x.asrc then s
  else if 8 ≤ x.din.length then s.tdmHalt b true
  else s.setTdm b { x with din := x.din ++ [(k, xs)] }

/-- The later frame of a T_SMP period starts here: 12,375 core cycles after the earlier one, at R97 = 1 (R286). -/
def State.tdmLater (s : State) (b : TdmNo) : Bool :=
  let x := s.tdmPort b
  x.r97 && !x.later && x.start.any (fun c => c + 12375 = s.now)

/-- A frame of a master port starts here: the later one of its period, or FS_PHASE core cycles after the last T_SMP (R286). -/
def State.tdmDue (s : State) (b : TdmNo) : Bool :=
  s.tdmLater b || (s.dpll 2).last.any (fun c => c + s.live (.tdm b) TDM.TDM_PHASE_FS_PHASE = s.now)

/-- A master port starts a frame; `din` are the slots it brings (R286). -/
def State.tdmFrameStart (s : State) (b : TdmNo) (din : List Nat) : State :=
  if s.tdmState b = 0 || !(s.tdmPort b).master || !s.tdmDue b then s
  else
    let later := s.tdmLater b
    let x := s.tdmPort b
    let s := match x.start with
      | some c => s.tdmPassed b c true
      | none => s
    let smp := if later then x.smp else s.get .tick TICK.SMP_COUNT_COUNT
    let s := s.setTdm b { s.tdmPort b with later := later, start := some s.now, smp := smp }
    let s := ((s.tdmStarts b).tdmMasks b later).tdmNumber b s.now
    let x := s.tdmPort b
    let xs := compact x.rxMask x.slots din
    ((s.capture b xs).tdmDout b).tdmDin b smp s.now xs

/-- A slave port has received a frame that began at `began` with `n` bit periods (R289, R298). The next frame starts
here: the masks reach it, and the DOUT FIFO sends its oldest frame (R288, R289). In CLK_LOST it is discarded.
(DEDUCED, notes/assumptions/81.md) -/
def State.tdmFrameRx (s : State) (b : TdmNo) (began n : Nat) (din : List Nat) : State :=
  let st := s.tdmState b
  if st = 0 || (s.tdmPort b).master then s
  else
    let good := n = (s.tdmPort b).slots * 32
    let s := (s.tdmPassed b began good).tdmStarts b
    let s := s.setTdm b { s.tdmPort b with start := some s.now }
    if st = 4 then (if good then s else s.tdmGlitch b)
    else
      let s := s.tdmNumber b began
      let x := s.tdmPort b
      let s := if !good then s.tdmGlitch b
        else
          let xs := compact x.rxMask x.slots din
          (s.capture b xs).tdmDin b s.now began xs
      let s := (s.tdmMasks b (!x.later)).tdmDout b
      s.setTdm b { s.tdmPort b with later := x.r97 && !x.later }

/-! ### The T_SMP (R286 to R290, R298) -/

/-- The ramp word k of R298 for the word a slot carried. -/
def rampWord (k w : Nat) : Nat := slotWord (if 32 < k then 0 else sampleOf w * (32 - k : Int) / 32) 0x10

/-- What port `b` has for its slots this T_SMP: the words in slot order from its first one, none for a ramp. -/
def State.tdmTake (s : State) (b : TdmNo) (low : Nat) : State × List Nat :=
  let x := s.tdmPort b
  let pack := fun (fs : List (List Nat)) (i : Nat) =>
    if x.r97 then nth (nth fs (i % 2) []) (i / 2) 0 * 256 + (if i / 2 < (nth fs (i % 2) []).length then low else 0)
    else nth (nth fs 0 []) i 0 * 256 + (if i < (nth fs 0 []).length then low else 0)
  let smp := s.get .tick TICK.SMP_COUNT_COUNT
  if x.master then
    let due := fun (e : Nat × List Nat) => (e.1 + 2) % 2 ^ 32 = smp
    let fs := (x.din.filter due).map (·.2)
    (s.setTdm b { x with din := x.din.filter (fun e => (smp + 2 ^ 32 - e.1) % 2 ^ 32 < 2) }, (List.range 32).map (pack fs))
  else
    let need := if x.r97 then 2 else 1
    if !x.primed && x.din.length < 4 then (s, List.replicate 32 0)
    else
      let fs := (x.din.take need).filter (fun e => e.1 + 1188 ≤ s.now)
      if fs.length < need then (s.tdmHalt b false, List.replicate 32 0x10)
      else (s.setTdm b { x with din := x.din.drop need, primed := true }, (List.range 32).map (pack (fs.map (·.2))))

/-- Port `b` carries its samples: it runs, or has been stopped in RUN and no frame has started since (Table 11.3). -/
def State.tdmCarries (s : State) (b : TdmNo) : Bool := s.tdmState b = 2 || (s.tdmState b = 3 && (s.tdmPort b).winding)

/-- The consumer's samples enter the DOUT FIFO of a synchronous slave (R289). -/
def State.tdmPush (s : State) (b : TdmNo) : State :=
  let x := s.tdmPort b
  if !s.tdmCarries b || x.master || x.asrc then s
  else
    let fs := if x.r97 then [s.doutNow b true false, s.doutNow b true true] else [s.doutNow b false false]
    if 8 < x.dout.length + fs.length then s.tdmHalt b true else s.setTdm b { x with dout := x.dout ++ fs }

/-- What an ASRC slave's DIN channels write to their ASRC-out slots. (DEDUCED, notes/assumptions/82.md) -/
def State.tdmAsrcSmp (s : State) (b : TdmNo) (low : Nat) : State × List (Nat × Nat) :=
  let x := s.tdmPort b
  let n := (ranksOf x.rxMask x.slots).length
  let at_ := fun r => 0xC200 + (x.rxCh + r) % 256
  let st := s.tdmState b
  let s := if x.reacq && (s.portChans b).all (fun a => s.asrcState a = 2) then
      s.setTdm b { s.tdmPort b with reacq := false, ramp := if s.get (.tdm b) TDM.TDM_STAT_RATE_RANGE = 1 then x.ramp else none }
    else s
  match (s.tdmPort b).ramp with
  | some k =>
    (s.setTdm b { s.tdmPort b with ramp := some (min 33 (k + 1)) },
      (List.range n).map (fun r => (at_ r, rampWord (k + 1) (nth x.last r 0))))
  | none =>
    if st = 5 then (s, (List.range n).map (fun r => (at_ r, 0x10)))
    else if !s.tdmCarries b then (s, [])
    else
      let r := (List.range n).foldl (fun (acc : State × List Nat) i =>
        if acc.1.asrcState (x.rxCh + i) = 2 then
          let o := acc.1.asrcOut (x.rxCh + i)
          (o.2, acc.2 ++ [o.1 * 256 + low])
        else (acc.1, acc.2 ++ [0x10])) (s, [])
      (r.1.setTdm b { r.1.tdmPort b with last := r.2 ++ List.replicate (32 - n) 0 },
        (List.range n).map (fun i => (at_ i, nth r.2 i 0)))

/-- Port `b` at a T_SMP: the slot words it writes (R287, R289, R294, R298). (DEDUCED, notes/assumptions/82.md) -/
def State.tdmSmp (s : State) (b : TdmNo) (low : Nat) : State × List (Nat × Nat) :=
  let x := s.tdmPort b
  let own := fun (ws : List Nat) => (List.range 32).map (fun i => (0xC000 + 32 * b.val + i, nth ws i 0))
  if x.asrc then s.tdmAsrcSmp b low
  else
    let s := s.tdmPush b
    let st := s.tdmState b
    match (s.tdmPort b).ramp with
    | some k => (s.setTdm b { s.tdmPort b with ramp := some (min 33 (k + 1)) }, own (x.last.map (rampWord (k + 1))))
    | none =>
      if st = 5 then (s, own (List.replicate 32 0x10))
      else if !s.tdmCarries b then (s, [])
      else
        let r := s.tdmTake b low
        (r.1.setTdm b { r.1.tdmPort b with last := r.2 }, own r.2)

/-- The channels held by network flows at a T_SMP (R273, R300). (DEDUCED, notes/assumptions/77.md) -/
def State.asrcFlowSmp (s : State) (low : Nat) : State × List (Nat × Nat) :=
  let chans := s.asrcBusy.filter (fun a => s.get .asrc (ASRC.ASRC_CH_STAT_KIND.at a) = 1)
  chans.foldl (fun (acc : State × List (Nat × Nat)) a =>
    if acc.1.asrcState a = 2 then
      let o := acc.1.asrcOut a
      (o.2, acc.2 ++ [(0xC200 + a, o.1 * 256 + low)])
    else (acc.1, acc.2 ++ [(0xC200 + a, 0x10)])) (s, [])

/-- An arm of the TDM page breaks R285 or R295, whose capture settings are checked with capture off too. The page's registers hold
no address bits below 64 bytes. (DEDUCED, notes/assumptions/147.md) -/
def State.tdmBad (s : State) (b : TdmNo) : Bool :=
  let p := Page.tdm b
  let g := fun f => s.get p f
  let slots := g TDM.TDM_CTRL_SLOTS
  let ph := g TDM.TDM_PHASE_FS_PHASE
  let out := fun v lo hi => decide (v < lo ∨ hi < v)
  let n := (ranksOf (g TDM.RX_MASK_MASK) (2 ^ slots)).length
  let u := 48 * n * (if g TDM.TDM_CTRL_PACK3 = 1 then 3 else 4)
  g TDM.TDM_CTRL_FMT = 3 || slots = 0 || 6 ≤ slots || (g TDM.TDM_CTRL_R97 = 1 && slots = 5) ||
  (g TDM.TDM_CTRL_MASTER = 1 && g TDM.TDM_CTRL_ASRC_EN = 1) ||
  out ph 1188 (if g TDM.TDM_CTRL_R97 = 1 then 12374 else 23562) ||
  out (g TDM.TDM_SEQ_PRE) 16 4096 || out (g TDM.TDM_SEQ_POST) 16 4096 ||
  g TDM.CAP_SIZE_SIZE % u ≠ 0 || out (g TDM.STAMP_N_N) 4 16

/-- FUNC_INIT of a TDM page: the port is OFF at once (R302). -/
def State.tdmInit (s : State) (b : TdmNo) : State := s.tdmOff b false

end Sys2Proof.Machine
end

