-- ==== Sys2Proof/Machine/Engines.lean ====
section
/-! DEFINITION. Media engines: admission, frame memory, the frame tick, and the GDDR6 controller (chapters 12 and 13). -/

namespace Sys2Proof.Machine

/-- A media engine. -/
abbrev EngNo := Fin 64

/-- The words of a configuration, by BAR0 address. -/
abbrev Words := Nat → Word

/-- A field of page `p` in a configuration. -/
def Words.fld (c : Words) (p : Page) (f : Fld) : Nat := bits (c (p.base + f.off)).toNat f.lo f.w

/-- The words of the engines' pages in a view. -/
def State.engWords (s : State) (v : View) : Words := fun a =>
  match ownerOf a with
  | some p => if v p then s.word a else s.lword a
  | none => 0

/-- Engine `e` of the state. -/
def State.eng (s : State) (e : EngNo) : Eng := s.engs.get e.val Eng.init

/-- Set engine `e`. -/
def State.setEng (s : State) (e : EngNo) (x : Eng) : State := { s with engs := s.engs.set e.val x Eng.init }

/-- Layer `l` of an engine. -/
def Eng.layer (x : Eng) (l : Nat) : EngLayer := x.layers.get l EngLayer.init

/-- Set layer `l`. -/
def Eng.setLayer (x : Eng) (l : Nat) (y : EngLayer) : Eng := { x with layers := x.layers.set l y EngLayer.init }

/-- The sampled configuration of an engine. -/
def Eng.words (x : Eng) : Words := fun a => x.conf.get a (resetOf a)

/-! ### A layer's configuration (R308, R314 to R318, R330, R331) -/

/-- What rules R308 to R342 read of one layer. -/
structure LayerCfg where
  en : Bool
  kind : Nat
  fsOnly : Bool
  fmt : Nat
  gen : Nat
  cropW : Nat
  cropH : Nat
  cropX : Nat
  cropY : Nat
  outW : Nat
  outH : Nat
  winX : Int
  winY : Int
  coef : Nat
  taps : Nat
  surf : Nat
  wide : Bool
  pitch : Nat
  static : Bool
  key : Bool
  premul : Bool
  asrc : Nat
  keyLayer : Nat
  galpha : Nat
  keyInv : Bool
  keyHi : Nat
  keyLo : Nat
  deriving DecidableEq, Repr

/-- Active width and height of a format code; 0, 0 where it is none. -/
def fmtSize (c : Nat) : Nat × Nat :=
  match format? c with
  | some f => (f.width, f.height)
  | none => (0, 0)

/-- Layer `l` of engine `e`; a crop field of 0 takes the size of format `det`, or of SRC_FMT where `det` is none (R314). -/
def layerCfg (c : Words) (e : EngNo) (l : Nat) (det : Nat) : LayerCfg :=
  let i := fun (f : Fld) => c.fld (.eng e) (f.at l)
  let k := fun (f : Fld) => c.fld (.engComp e) (f.at l)
  let fmt := i ENGI.LAYER_SRC_SRC_FMT
  let size := fmtSize (if (format? det).isSome then det else fmt)
  let kind := i ENGI.LAYER_SRC_KIND
  let whole := fun v w => if v = 0 && kind = 0 then w else v
  let cw := whole (i ENGI.LAYER_CROP_CROP_W) size.1
  let ch := whole (i ENGI.LAYER_CROP_CROP_H) size.2
  let same := fun v w => if v = 0 && kind ≠ 2 then w else v
  { en := i ENGI.LAYER_SRC_EN = 1, kind := kind, fsOnly := i ENGI.LAYER_SRC_FS_ONLY = 1, fmt := fmt,
    gen := i ENGI.LAYER_SRC_GEN, cropW := cw, cropH := ch, cropX := k ENGC.COMP_CORG_CROP_X,
    cropY := k ENGC.COMP_CORG_CROP_Y, outW := same (i ENGI.LAYER_OUT_OUT_W) cw, outH := same (i ENGI.LAYER_OUT_OUT_H) ch,
    winX := sgn 13 (k ENGC.COMP_WIN_WIN_X), winY := sgn 13 (k ENGC.COMP_WIN_WIN_Y), coef := i ENGI.LAYER_SCL_COEF,
    taps := if i ENGI.LAYER_SCL_VTAPS8 = 1 then 8 else 4, surf := i ENGI.SURF_ADDR_ADDR,
    wide := i ENGI.SURF_FMT_FMT64 = 1, pitch := 64 * i ENGI.SURF_FMT_PITCH, static := k ENGC.COMP_ALPHA_STATIC = 1,
    key := k ENGC.COMP_ALPHA_ROLE = 1, premul := k ENGC.COMP_ALPHA_PREMUL = 1, asrc := k ENGC.COMP_ALPHA_ASRC,
    keyLayer := k ENGC.COMP_ALPHA_KEY_LAYER, galpha := min 1024 (k ENGC.COMP_ALPHA_GALPHA),
    keyInv := k ENGC.COMP_KEY_KEY_INV = 1, keyHi := k ENGC.COMP_KEY_KEY_HI, keyLo := k ENGC.COMP_KEY_KEY_LO }

/-- The sixteen layers by their declared formats. -/
def layerCfgs (c : Words) (e : EngNo) : List LayerCfg := (List.range 16).map (fun l => layerCfg c e l 0)

/-- A quotient rounded up. -/
def ceilDiv (n d : Nat) : Nat := (n + d - 1) / d

/-- The lines a layer's vertical kernel spans (R316). -/
def LayerCfg.span (x : LayerCfg) : Nat := if x.outH < x.cropH then ceilDiv (x.taps * x.cropH) x.outH else x.taps

/-- The line-pool need of a layer, in segment-lines (R318). -/
def LayerCfg.lines (x : LayerCfg) : Nat := if !x.en || x.kind = 2 then 0 else (x.span + 2) * ceilDiv x.outW 1024

/-- A size in bytes rounded up to a multiple of 64. -/
def pad64 (n : Nat) : Nat := ceilDiv n 64 * 64

/-- Bytes of a line of `w` pixels in 4:2:2 at 10 bits (R312). -/
def lineBytes (w : Nat) : Nat := pad64 (ceilDiv (5 * w) 2)

/-- Bytes of a frame-buffer slot of a format (R312). -/
def slotBytes (fmt : Nat) : Nat := lineBytes (fmtSize fmt).1 * (fmtSize fmt).2

/-- MiB of the frame buffer of a layer (Table 12.3). -/
def LayerCfg.fbMib (x : LayerCfg) : Nat := if x.en && x.kind = 0 then ceilDiv (4 * slotBytes x.fmt) (2 ^ 20) else 0

/-- Bytes of a surface pixel. -/
def LayerCfg.bpp (x : LayerCfg) : Nat := if x.wide then 8 else 4

/-! ### Canvas, order and static runs (R307, R332, R339, R342) -/

/-- Width and height of the canvas for OUT_MODE `mode` and the format `fmt` of OUT_VTG (R307). -/
def canvasOf (mode fmt : Nat) : Nat × Nat := if mode = 1 then (3840, 2160) else fmtSize fmt

/-- The layer at each of the sixteen positions, lowest first. -/
def orderOf (c : Words) (e : EngNo) : List Nat :=
  cutWords 4 (c.fld (.engComp e) ENGC.COMP_ORDER_LO + c.fld (.engComp e) ENGC.COMP_ORDER_HI * 2 ^ 32) 16

/-- A static run: positions of its lowest and highest member, and its members from the bottom up. -/
structure Run where
  first : Nat
  last : Nat
  members : List Nat
  deriving DecidableEq, Repr

/-- Cut a list of positions and layers, disabled and key layers left out, into maximal static sequences. -/
def cutRuns (cfgs : List LayerCfg) : List (Nat × Nat) → Option Run → List Run
  | [], acc => acc.toList
  | (j, l) :: rest, acc =>
    let st := (cfgs[l]?).any (fun x => x.static)
    match acc, st with
    | none, true => cutRuns cfgs rest (some ⟨j, j, [l]⟩)
    | none, false => cutRuns cfgs rest none
    | some r, true => cutRuns cfgs rest (some ⟨r.first, j, r.members ++ [l]⟩)
    | some r, false => r :: cutRuns cfgs rest none

/-- The static runs of a configuration, of two members or more (R339). -/
def runsOf (c : Words) (e : EngNo) : List Run :=
  let cfgs := layerCfgs c e
  let row := (((List.range 16).zip (orderOf c e)).filter (fun p => (cfgs[p.2]?).any (fun x => x.en && !x.key)))
  (cutRuns cfgs row none).filter (fun r => 2 ≤ r.members.length)

/-- The rectangle x0, y0, x1, y1 a run's cache covers: its members' windows, clipped to the canvas (R340). -/
def runRect (cfgs : List LayerCfg) (size : Nat × Nat) (r : Run) : Int × Int × Int × Int :=
  let ms := r.members.filterMap (fun l => cfgs[l]?)
  let x0 := ms.foldl (fun (m : Int) x => min m x.winX) (size.1 : Int)
  let y0 := ms.foldl (fun (m : Int) x => min m x.winY) (size.2 : Int)
  let x1 := ms.foldl (fun (m : Int) x => max m (x.winX + (x.outW : Int))) (0 : Int)
  let y1 := ms.foldl (fun (m : Int) x => max m (x.winY + (x.outH : Int))) (0 : Int)
  (max 0 x0, max 0 y0, min size.1 x1, min size.2 y1)

/-- Bytes of a run's cache (R342). -/
def runBytes (cfgs : List LayerCfg) (size : Nat × Nat) (r : Run) : Nat :=
  let q := runRect cfgs size r
  (q.2.2.2 - q.2.1).toNat * pad64 (8 * (q.2.2.1 - q.1).toNat)

/-! ### Needs of an engine (R309, R318, R325, R342) -/

/-- An engine's configuration as the checks of R310 see it. -/
structure EngCfg where
  en : Bool
  mode : Nat
  vtg : Nat
  vtgOn : Bool
  fmt : Nat
  base : Nat
  size : Nat
  layers : List LayerCfg
  runs : List Run

/-- The configuration of engine `e` in a view. -/
def State.engCfg (s : State) (v : View) (e : EngNo) : EngCfg :=
  let c := s.engWords v
  let vtg := c.fld (.eng e) ENGI.ENG_CTRL_OUT_VTG
  let q := s.vtgIn v vtg
  { en := c.fld (.eng e) ENGI.ENG_CTRL_EN = 1, mode := c.fld (.eng e) ENGI.ENG_CTRL_OUT_MODE, vtg := vtg, vtgOn := q.1,
    fmt := q.2, base := c.fld (.eng e) ENGI.ENG_MEM_BASE, size := c.fld (.eng e) ENGI.ENG_MEM_SIZE,
    layers := layerCfgs c e, runs := runsOf c e }

/-- The canvas of a configuration. -/
def EngCfg.canvas (x : EngCfg) : Nat × Nat := canvasOf x.mode x.fmt

/-- Segment-lines of the whole engine. -/
def EngCfg.lineNeed (x : EngCfg) : Nat := (x.layers.map LayerCfg.lines).foldl (· + ·) 0

/-- MiB of each cache. -/
def EngCfg.cacheMib (x : EngCfg) : List Nat := x.runs.map (fun r => ceilDiv (runBytes x.layers x.canvas r) (2 ^ 20))

/-- MiB of frame buffers and caches. -/
def EngCfg.mib (x : EngCfg) : Nat := ((x.layers.map LayerCfg.fbMib) ++ x.cacheMib).foldl (· + ·) 0

/-- Where the frame buffer of layer `l` and the cache of run `c` start in the region, in MiB. -/
def EngCfg.fbBase (x : EngCfg) (l : Nat) : Nat := ((x.layers.take l).map LayerCfg.fbMib).foldl (· + ·) 0
def EngCfg.cacheBase (x : EngCfg) (c : Nat) : Nat := x.fbBase 16 + (x.cacheMib.take c).foldl (· + ·) 0

/-- A frame rate in frames per 1,001 s. -/
def rate1001 (fmt : Nat) : Nat :=
  match format? fmt with
  | some f => f.num * (1001 / f.den)
  | none => 0

/-- The need of one layer, in bytes per 1,001 s (R325). -/
def LayerCfg.bw (x : LayerCfg) (out : Nat) : Nat :=
  if !x.en then 0
  else match x.kind with
    | 0 => slotBytes x.fmt * rate1001 x.fmt + lineBytes x.cropW * x.cropH * out
    | 1 => pad64 (x.bpp * x.cropW) * x.cropH * out
    | _ => 0

/-- The need of an engine in MB/s, rounded up once (R325). -/
def EngCfg.mbps (x : EngCfg) : Nat :=
  let out := rate1001 x.fmt
  let l := (x.layers.map (fun y => y.bw out)).foldl (· + ·) 0
  let c := (x.runs.map (fun r => runBytes x.layers x.canvas r * out)).foldl (· + ·) 0
  ceilDiv (l + c) (1001 * 1000000)

/-- The tenons of an engine's stream layers. -/
def LayerCfg.tenons (x : LayerCfg) : Nat := if x.en && x.kind = 0 then fmtTenons x.fmt else 0

/-- Engines whose configuration, live or shadow, is not that of reset: every other one needs nothing. -/
def State.engListed (s : State) : List EngNo :=
  let nos := ((s.sh ++ s.lv).filterMap (fun e =>
    if 0x01000000 ≤ e.1 && e.1 < 0x02000000 && 0x50 ≤ e.1 / 4096 % 256 && e.1 / 4096 % 256 < 0x60 then
      some ((e.1 / 0x100000 - 16) * 4 + (e.1 / 4096 % 256 - 0x50) / 4)
    else none)).foldl insertNat []
  nos.filterMap (idx? 64)

/-- The need of an engine at the larger of its live configuration and that of the view (R326). -/
def State.engHeld (s : State) (v : View) (e : EngNo) : Nat :=
  max (s.engCfg liveView e).mbps (s.engCfg v e).mbps

/-- GMC.BW_HELD in a view, and BW_LIVE. -/
def State.bwHeld (s : State) (v : View) : Nat := (s.engListed.map (s.engHeld v)).foldl (· + ·) 0
def State.bwLive (s : State) : Nat := (s.engListed.map (fun e => (s.engCfg liveView e).mbps)).foldl (· + ·) 0

/-- The bandwidth budget of R326. -/
def State.bwBudget (s : State) : Nat :=
  match s.get .gmc GMC.GMC_STAT_RATE with
  | 0 => 720000
  | 1 => 640000
  | _ => 560000

/-! ### Admission (Table 12.1) -/

/-- The first layer at which a running sum passes `limit`; 0x10 when none does. (DEDUCED, notes/assumptions/90.md) -/
def passesAt (l : List Nat) (limit : Nat) : Nat :=
  ((List.range 16).find? (fun k => limit < (l.take (k + 1)).foldl (· + ·) 0)).getD 0x10

/-- MiB of GDDR6 before the reserved audio region (R321). -/
def gddrMib : Nat := 0x5F4000000 / 2 ^ 20

/-- The regions other engines hold, live or in the view. -/
def State.regions (s : State) (v : View) (e : EngNo) : List (Nat × Nat) :=
  ((s.engListed.filter (· ≠ e)).map (fun k =>
    [liveView, v].map (fun w => ((s.engCfg w k).base, (s.engCfg w k).size)))).flatten

/-- A check of one layer that fails: its value. -/
def firstOf (checks : List (Bool × Nat)) : Option Nat := (checks.find? (·.1)).map (·.2)

/-- FORMAT for a layer: codes not used, R333 and R339. -/
def LayerCfg.badFormat (x : LayerCfg) : Option Nat :=
  if !x.en then none
  else firstOf
    [(x.kind = 0 && (format? x.fmt).isNone, x.fmt), (x.kind = 3, x.kind), (x.kind = 2 && 4 ≤ x.gen, x.gen),
     (x.coef = 3, x.coef), (x.asrc = 3, x.asrc), (x.asrc = 1 && !(x.kind = 1 && x.wide), x.asrc),
     (x.static && x.kind = 0, 1)]

/-- FORMAT for the engine: R307, R310, R332, R339, R351. -/
def EngCfg.badFormat (x : EngCfg) (c : Words) (e : EngNo) : Option Nat :=
  let f := format? x.fmt
  let tf : Fld → Bool × Nat := fun f => (c.fld (.engColour e) f = 3, 3)
  firstOf
    [(x.en && 2 ≤ x.mode, x.mode), (x.en && (!x.vtgOn || !f.any (fun f => !f.interlaced)), x.vtg),
     (x.en && x.mode = 1 && (fmtSize x.fmt).2 ≠ 1080, x.mode),
     (((orderOf c e).foldl insertNat []).length ≠ 16, c.fld (.engComp e) ENGC.COMP_ORDER_LO),
     (4 < x.runs.length, x.runs.length), tf ENGL.CLR_CTRL_DEPTH, tf ENGL.CLR_TF_L1_MODE, tf ENGL.CLR_TF_L2_MODE]

/-- Coefficient `t` of phase `p` of the user table H_COEF or V_COEF, signed. -/
def userCoef (c : Words) (e : EngNo) (vert : Bool) (p t : Nat) : Int :=
  let f := match vert, t % 2 with
    | false, 0 => ENGI.H_COEF_C0
    | false, _ => ENGI.H_COEF_C1
    | true, 0 => ENGI.V_COEF_C0
    | true, _ => ENGI.V_COEF_C1
  sgn 10 (c.fld (.eng e) (f.at2 p (t / 2)))

/-- Every phase of the user tables a layer uses sums to 512 (R310, R317). -/
def coefOk (c : Words) (e : EngNo) (taps : Nat) : Bool :=
  let vs := if taps = 8 then [0, 1, 2, 3, 4, 5, 6, 7] else [2, 3, 4, 5]
  (List.range 64).all (fun p =>
    ((List.range 8).map (userCoef c e false p)).foldl (· + ·) 0 = 512 && (vs.map (userCoef c e true p)).foldl (· + ·) 0 = 512)

/-- SCALE for layer `l`: R315, R316, R330, R331, R333. -/
def EngCfg.badScale (x : EngCfg) (c : Words) (e : EngNo) (l : Nat) (y : LayerCfg) : Bool :=
  let ratio := fun a b => a = 0 || b = 0 || 16 * b < a || 16 * a < b
  let k := x.layers[y.keyLayer]?
  y.en &&
    ((y.kind = 2 && (y.outW = 0 || y.outH = 0)) ||
     (y.kind ≠ 2 && (ratio y.cropW y.outW || ratio y.cropH y.outH || x.canvas.1 < y.outW || 3840 < y.cropW ||
       (y.coef = 2 && !coefOk c e y.taps))) ||
     (y.kind = 0 && ((fmtSize y.fmt).1 < y.cropX + y.cropW || (fmtSize y.fmt).2 < y.cropY + y.cropH)) ||
     (y.asrc = 2 && (y.keyLayer = l || y.keyHi ≤ y.keyLo ||
       k.all (fun k => !k.en || !k.key || k.cropW ≠ y.cropW || k.cropH ≠ y.cropH || k.outW ≠ y.outW || k.outH ≠ y.outH ||
         k.winX ≠ y.winX || k.winY ≠ y.winY))))

/-- The bytes of a surface, from its first to past its last. -/
def LayerCfg.surfBytes (y : LayerCfg) : Nat × Nat :=
  let start := y.surf * 64 + y.cropY * y.pitch + y.cropX * y.bpp
  (start, y.surf * 64 + (y.cropY + y.cropH - 1) * y.pitch + (y.cropX + y.cropW) * y.bpp)

/-- SURFACE for a layer (Table 12.1). -/
def LayerCfg.badSurface (y : LayerCfg) (regions : List (Nat × Nat)) : Bool :=
  let b := y.surfBytes
  y.en && y.kind = 1 && (gddrMib * 2 ^ 20 < b.2 || y.pitch < y.cropW * y.bpp ||
    regions.any (fun r => b.1 < (r.1 + r.2) * 2 ^ 20 && r.1 * 2 ^ 20 < b.2))

/-- The first check of Table 12.1 that engine `e` fails in a view: CODE, LAYER, ENG_ERR_VAL.
(DEDUCED, notes/assumptions/90.md) -/
def State.engRefuse (s : State) (v : View) (e : EngNo) : Option (Nat × Nat × Nat) :=
  let c := s.engWords v
  let x := s.engCfg v e
  let others := s.regions v e
  let mine := (s.engCfg liveView e).base
  let row := (List.range 16).zip x.layers
  let out := gddrMib < x.base + x.size || others.any (fun r => x.base < r.1 + r.2 && r.1 < x.base + x.size)
  if 256 < x.lineNeed then some (1, passesAt (x.layers.map LayerCfg.lines) 256, x.lineNeed)
  else if s.bwBudget < s.bwHeld v then some (2, 0x10, x.mbps)
  else if x.size < x.mib || (x.size ≠ 0 && out) then some (3, 0x10, x.mib)
  else
    let ten := (x.layers.map LayerCfg.tenons).foldl (· + ·) 0
    if 16 < ten then some (4, passesAt (x.layers.map LayerCfg.tenons) 16, ten)
    else
      let fl := row.findSome? (fun p => p.2.badFormat.map (fun val => (5, p.1, val)))
      let fe := (x.badFormat c e).map (fun val => (5, 0x10, val))
      let sc := (row.find? (fun p => x.badScale c e p.1 p.2)).map (fun p =>
        (6, p.1, (c ((Page.base (.eng e)) + 0x108 + 32 * p.1)).toNat))
      let all := others ++ [(x.base, x.size), (mine, (s.engCfg liveView e).size)]
      let su := (row.find? (fun p => p.2.badSurface all)).map (fun p => (7, p.1, p.2.surf))
      ((fl.or fe).or sc).or su

/-- A refusal is reported on the input page, and on the GMC page when it is about bandwidth (R310, R326). -/
def State.engReport (s : State) (v : View) (e : EngNo) (r : Nat × Nat × Nat) : State :=
  let s := s.raise (.eng e) ENGI.INT_STAT_REFUSED
  let s := if s.get (.eng e) ENGI.ENG_ERR_VALID = 1 then s
    else s.puts (.eng e) [(ENGI.ENG_ERR_VALID, 1), (ENGI.ENG_ERR_CODE, r.1), (ENGI.ENG_ERR_LAYER, r.2.1),
      (ENGI.ENG_ERR_VAL_VAL, r.2.2)]
  let held := s.bwHeld v
  if held ≤ s.bwBudget then s
  else
    let s := s.raise .gmc GMC.INT_STAT_BW_REFUSED
    if s.get .gmc GMC.BW_REFUSE_VALID = 1 then s
    else s.puts .gmc [(GMC.BW_REFUSE_VALID, 1), (GMC.BW_REFUSE_ENGINE, e.val), (GMC.BW_REQ_MBPS, held)]

/-- Descriptors of pool class 0xB that engine `e` holds in a view (R312). -/
def State.descHeld (s : State) (v : View) (e : EngNo) : Nat :=
  let on := fun (w : View) l =>
    s.vget w (.eng e) (ENGI.LAYER_SRC_EN.at l) = 1 && s.vget w (.eng e) (ENGI.LAYER_SRC_KIND.at l) = 0
  4 * ((List.range 16).filter (fun l => on liveView l || on v l)).length

/-! ### Frame buffers (R312, R313) -/

/-- LAYER_STAT.DET_FMT of a layer. -/
def State.detFmt (s : State) (e : EngNo) (l : Nat) : Nat := s.get (.eng e) (ENGI.LAYER_STAT_DET_FMT.at l)

/-- The newest complete frame: slot and number. -/
def EngLayer.newest (y : EngLayer) : Option (Nat × Nat) :=
  let best := y.seqs.foldl max 0
  if best = 0 then none else some (y.seqs.findIdx (· = best), best)

/-- The slot the writer takes (R313). (DEDUCED, notes/assumptions/86.md) -/
def EngLayer.slot (y : EngLayer) : Nat :=
  let busy := (y.sel.map (·.1)).toList ++ (y.newest.map (·.1)).toList
  let free := (List.range 4).filter (fun i => !busy.contains i)
  free.foldl (fun m i => if nth y.ages i 0 < nth y.ages m 0 then i else m) (free.headD 0)

/-- Address of slot `i` of the frame buffer of layer `l`. -/
def State.slotAddr (s : State) (e : EngNo) (l i : Nat) : Nat :=
  let x := s.engCfg liveView e
  (x.base + x.fbBase l) * 2 ^ 20 + i * slotBytes (nth x.layers l (layerCfg (fun _ => 0) e 0 0)).fmt

/-- A stream layer's writer ends a frame of detected format `det`, whose first active line had arrived at cycle `at_`. `broke` is the
first active row that did not come in order, with its signal and its line number; none where every row of a format of Table 9.7
came. `data` are the frame's bytes as packed (R311, R312, R337). (DEDUCED, notes/assumptions/86.md) -/
def State.frameWritten (s : State) (e : EngNo) (l det at_ : Nat) (broke : Option Nat) (data : List Nat) : State :=
  let c := s.engWords liveView
  let y0 := layerCfg c e l 0
  if 16 ≤ l || !y0.en || y0.kind ≠ 0 then s
  else
    let s := if s.detFmt e l = det then s
      else (s.put (.eng e) (ENGI.LAYER_STAT_DET_FMT.at l) det).raise (.eng e) ENGI.INT_STAT_FMT_CHG
    let complete := broke.isNone && (format? det).isSome
    let x := s.eng e
    let y := { x.layer l with arrived := some at_ }
    if slotBytes y0.fmt < slotBytes det then
      s.setEng e (x.setLayer l { y with broke := y.broke || !complete, cur := none, lost := false })
    else
      let ok := complete && !y.lost
      let i := y.slot
      let n := if ok then y.count + 1 else y.count
      let y' : EngLayer :=
        { y with seqs := setNth y.seqs i (if ok then n else 0), ages := setNth y.ages i (y.writes + 1), count := n,
                 writes := y.writes + 1, broke := y.broke || !complete, cur := some (i, broke.getD (fmtSize det).2), lost := false }
      (s.setEng e (x.setLayer l y')).gddrWrite (s.slotAddr e l i) (data.take (slotBytes y0.fmt))

/-! ### The frame tick (R306, R311, R313, R319, R336, R341) -/

/-- The phase positions of output row or column `x`: integer position and phase of 64, for a step in Q16.16 (R317). -/
def scalePos (step x : Nat) : Int × Nat :=
  let p : Int := (2 * x + 1 : Nat) * (step : Int) - 65536
  let ph := ((p % 131072).toNat + 1024) / 2048
  if ph = 64 then (p / 131072 + 1, 0) else (p / 131072, ph)

/-- The first output row whose vertical taps read source line `r` of the crop. -/
def firstRow (y : LayerCfg) (r : Nat) : Nat :=
  let step := y.cropH * 65536 / max 1 y.outH
  ((List.range y.outH).find? (fun j => (r : Int) ≤ (scalePos step j).1 + (y.span / 2 : Nat))).getD (y.outH - 1)

/-- The lags Λ(r) of a layer for the frame that starts next, over the crop's lines: numerators, and what one source line
period counts in them (R311). (DEDUCED, notes/assumptions/89.md) -/
def State.lags (s : State) (v : Nat) (out src : Format) (y : LayerCfg) (arrived : Nat) : List Int × Int :=
  let run := s.vtgRun v
  let f0 := run.start.getD s.now + out.cycles
  let row := fun (r : Nat) =>
    let j := (y.winY.toNat : Nat) + firstRow y r
    let d : Int := ((f0 : Int) - arrived) * (out.lines * src.lines : Nat) +
      ((out.firstActive.1 - 1 + j) * out.cycles * src.lines : Nat) - ((y.cropY + r) * src.cycles * out.lines : Nat)
    let p : Int := (out.cycles * out.lines * src.lines : Nat)
    let m := d % p
    if p < 2 * m then m - p else m
  ((List.range y.cropH).map row, (src.cycles * out.lines : Nat))

/-- A stream layer is direct for the frame that the tick starts (R311). (DEDUCED, notes/assumptions/89.md) -/
def State.isDirect (s : State) (v : Nat) (out : Format) (det : Nat) (y : LayerCfg) (l : EngLayer) : Bool × Option Int :=
  match format? det, l.arrived with
  | some src, some a =>
    let g := s.lags v out src y a
    let least := g.1.foldl min (g.1.headD 0)
    (!y.fsOnly && !src.interlaced && src.num * out.den = out.num * src.den &&
      g.1.all (fun x => 0 ≤ x && x ≤ 16 * g.2), some (openDiv 13 (16 * least) g.2))
  | _, _ => (false, none)

/-- A layer counts a miss, or a new frame, and its FILLED bit follows (R336); `fresh` tells that it draws a new frame. -/
def State.layerMiss (s : State) (e : EngNo) (l : Nat) (fresh none : Bool) : State :=
  let p := Page.engComp e
  let n := if fresh then 0 else min 255 (s.get p (ENGC.COMP_LSTAT_MISS.at l) + 1)
  let fill := none || s.live p (ENGC.COMP_MISS_MISS_LIM.at l) < n
  let s1 := s.puts p [(ENGC.COMP_LSTAT_MISS.at l, n), (ENGC.COMP_LSTAT_FILLED.at l, b2n fill)]
  if fill && s.get p (ENGC.COMP_LSTAT_FILLED.at l) = 0 then
    (s1.addSat p (ENGC.MISS_FILL_CNT.at l) 1).raise p ENGC.INT_STAT_MISS_FILL
  else s1

/-- A condition bit of LAYER_STAT, raised when it rises (R319). -/
def State.layerBit (s : State) (e : EngNo) (l : Nat) (f cause : Fld) (b : Bool) : State :=
  let rises := b && s.get (.eng e) (f.at l) = 0
  let s := s.put (.eng e) (f.at l) (b2n b)
  if rises then s.raise (.eng e) cause else s

/-- A stream layer at the frame tick of its engine. -/
def State.layerTick (s : State) (e : EngNo) (v : Nat) (out : Format) (c : Words) (l : Nat) : State :=
  let y0 := layerCfg c e l 0
  if !y0.en || y0.kind ≠ 0 then s
  else
    let det := s.detFmt e l
    let y := layerCfg c e l det
    let s := s.layerBit e l ENGI.LAYER_STAT_LB_SHORT ENGI.INT_STAT_LB_SHORT (y0.lines < y.lines)
    let s := s.layerBit e l ENGI.LAYER_STAT_FB_SHORT ENGI.INT_STAT_FB_SHORT (slotBytes y0.fmt < slotBytes det)
    let x := s.eng e
    let b := x.layer l
    let d := s.isDirect v out det y b
    let was := s.get (.eng e) (ENGI.LAYER_STAT_DIRECT.at l) = 1
    let s := s.put (.eng e) (ENGI.LAYER_STAT_DIRECT.at l) (b2n d.1)
    let s := if d.1 != was then s.raise (.eng e) ENGI.INT_STAT_PATH_CHG else s
    let s := match d.2 with
      | some g => s.put (.eng e) (ENGI.LAG_MIN.at l) (wrap 32 g)
      | none => s
    if d.1 then
      (s.setEng e (x.setLayer l { b with broke := false, sel := none })).layerMiss e l (!b.broke) b.newest.isNone
    else
      match b.newest with
      | none => (s.setEng e (x.setLayer l { b with broke := false })).layerMiss e l false true
      | some n =>
        let s := s.setEng e (x.setLayer l { b with broke := false, sel := some n })
        match b.sel with
        | none => s.layerMiss e l true false
        | some o =>
          if o.2 = n.2 then (s.addSat (.eng e) (ENGI.REPEAT_CNT.at l) 1).layerMiss e l false false
          else (s.addSat (.eng e) (ENGI.DROP_CNT.at l) (n.2 - o.2 - 1)).layerMiss e l true false

/-- The words of layer `l` on the input and the composition page. -/
def layerWords (c : Words) (e : EngNo) (l : Nat) : List Word :=
  ([0, 1, 2, 3, 4, 5].map (fun k => c (Page.base (.eng e) + 0x100 + 32 * l + 4 * k))) ++
    ([0, 1, 2, 3, 4, 5].map (fun k => c (Page.base (.engComp e) + 0x100 + 32 * l + 4 * k)))

/-- The caches redrawn when the configuration changes from `old` to `new` (R341). -/
def redrawn (old new : Words) (e : EngNo) (wasOn : Bool) : List Nat :=
  let runs := runsOf new e
  let before := if wasOn then runsOf old e else []
  (List.range runs.length).filter (fun k =>
    match runs[k]? with
    | none => false
    | some r => !before.any (fun q => q.members = r.members) ||
        r.members.any (fun l => layerWords old e l != layerWords new e l))

/-- Engine `e` at its frame tick. -/
def State.engTick (s : State) (e : EngNo) (v : Nat) (out : Format) : State :=
  let x := s.eng e
  let mine := fun a => match ownerOf a with
    | some (.eng k) | some (.engComp k) | some (.engColour k) => k = e
    | _ => false
  let conf := s.lv.filter (fun w => mine w.1)
  let x' : Eng := { x with on := true, conf := conf, lost := [], redraw := [] }
  let again := x.redraw.filter (· < (runsOf x'.words e).length)
  let draw := ((redrawn x.words x'.words e x.on) ++ again).foldl insertNat []
  let s := s.setEng e x'
  let s := draw.foldl (fun s c =>
    (s.add (.engComp e) (ENGC.CACHE_DRAW_CNT.at c) 1).raise (.engComp e) ENGC.INT_STAT_CACHE_DRAWN) s
  (List.range 16).foldl (fun s l => s.layerTick e v out x'.words l) s

/-- The engines at T_FRM of VTG `v`. -/
def State.engFrm (s : State) (v : Nat) : State :=
  match s.vtgFormat v with
  | none => s
  | some out =>
    (s.engListed.filter (fun e => s.live (.eng e) ENGI.ENG_CTRL_EN = 1 && s.live (.eng e) ENGI.ENG_CTRL_OUT_VTG = v &&
        s.running (.eng e))).foldl (fun s e => s.engTick e v out) s

/-- The live copy of an engine's input page has changed from that of `old`: layers enabled afresh, and a stop. -/
def State.engFired (s old : State) (e : EngNo) : State :=
  let on := fun (s : State) l => s.live (.eng e) (ENGI.LAYER_SRC_EN.at l) = 1 && s.live (.eng e) (ENGI.LAYER_SRC_KIND.at l) = 0
  let s := (List.range 16).foldl (fun s l =>
    if on s l && !on old l then
      (s.setEng e ((s.eng e).setLayer l EngLayer.init)).puts (.engComp e)
        [(ENGC.COMP_LSTAT_MISS.at l, 0), (ENGC.COMP_LSTAT_FILLED.at l, 0)]
    else if !on s l && on old l then
      ((s.setEng e ((s.eng e).setLayer l EngLayer.init)).puts (.eng e)
        [(ENGI.LAYER_STAT_DIRECT.at l, 0), (ENGI.LAYER_STAT_FB_SHORT.at l, 0), (ENGI.LAYER_STAT_LB_SHORT.at l, 0),
         (ENGI.LAYER_STAT_DET_FMT.at l, 0)]).puts (.engComp e)
        [(ENGC.COMP_LSTAT_MISS.at l, 0), (ENGC.COMP_LSTAT_FILLED.at l, 0)]
    else s) s
  if s.live (.eng e) ENGI.ENG_CTRL_EN = 0 then s.setEng e { s.eng e with on := false, conf := [], lost := [], redraw := [] } else s

/-- FUNC_INIT of an engine's input page (R327). -/
def State.engInit (s : State) (e : EngNo) : State := s.setEng e Eng.init

/-! ### The GDDR6 controller (R322 to R324) -/

/-- The eye widths of channel `c` as its training finds them: free values (R322, Table 12.6).
(DESIGN CHOICE, notes/assumptions/9.md) -/
def State.eyeWidths (s : State) (c : Nat) : State :=
  let a := s.fresh
  a.2.put .gmc (GMC.TRAIN_RESULT.at c) (Config.freeValue a.1 32).toNat

/-- Training of the channels ends; `ok` has a bit for each channel that passed (R322). -/
def State.gmcTrained (s : State) (ok : Nat) : State :=
  let all := ok % 2 ^ 24 = 2 ^ 24 - 1
  let s := (List.range 24).foldl State.eyeWidths s
  let s := s.puts .gmc [(GMC.GMC_STAT_CH_OK, ok), (GMC.GMC_STAT_READY, b2n all)]
  let bad := (List.range 24).filter (fun c => !ok.testBit c)
  bad.foldl (fun s c => (s.raise .gmc GMC.INT_STAT_TRAIN_FAIL).fault .gmc .fatal 0 c) s

/-- RETRAIN_CTRL.INTERVAL, 1 to 3,600 s (R323). -/
def State.retrainSecs (s : State) : Nat := min 3600 (max 1 (s.live .gmc GMC.RETRAIN_CTRL_INTERVAL))

/-- A retraining falls here: line LINE of an enabled VTG starts, and INTERVAL seconds have passed since the last one to within half
a frame (R323). (DESIGN CHOICE, notes/assumptions/148.md) -/
def State.retrainDue (s : State) : Bool :=
  let v := s.live .gmc GMC.RETRAIN_CTRL_VTG
  match idx? 32 v with
  | none => false
  | some v => s.vtgEn v.val && s.lineDue v (s.live .gmc GMC.RETRAIN_CTRL_LINE) &&
      s.retrainAt.all (fun c => c + s.retrainSecs * cyclesPerSec ≤ s.now + (s.vtgRun v.val).period / 2)

/-- One channel is retrained: the next one in ascending order (R323). -/
def State.gmcRetrain (s : State) : State :=
  if s.live .gmc GMC.RETRAIN_CTRL_EN = 0 || !s.retrainDue then s
  else
    let c := if s.retrainAt.isNone then 0 else (s.get .gmc GMC.RETRAIN_STAT_LAST_CH + 1) % 24
    let s := ({ s with retrainAt := some s.now } : State).eyeWidths c
    ((s.put .gmc GMC.RETRAIN_STAT_LAST_CH c).add .gmc GMC.RETRAIN_STAT_COUNT 1).raise .gmc GMC.INT_STAT_RETRAIN_DONE

/-- What a lost burst does to its requester (R324, R341). -/
def State.burstLost (s : State) (c : Nat) (r : Requester) : State :=
  let eng := fun (e : Nat) (f : EngNo → State) => match idx? 64 e with | some e => f e | none => s
  match r with
  | .frameWrite e l => eng e (fun e => s.setEng e ((s.eng e).setLayer l { (s.eng e).layer l with lost := true }))
  | .layerRead e l lines => eng e (fun e =>
      ((s.setEng e { s.eng e with lost := (s.eng e).lost ++ lines.map (fun y => (l, y)) }).addSat (.eng e) ENGI.EDC_LOSS_CNT
        lines.length).raise (.eng e) ENGI.INT_STAT_EDC_LOSS)
  | .cacheRead e c lines => eng e (fun e =>
      let x := s.eng e
      let rows := match (runsOf x.words e)[c]? with
        | some q => lines.flatMap (fun y => q.members.map (fun l => (l, y)))
        | none => []
      ((s.setEng e { x with lost := x.lost ++ rows, redraw := insertNat x.redraw c }).addSat (.eng e)
        ENGI.EDC_LOSS_CNT lines.length).raise (.eng e) ENGI.INT_STAT_EDC_LOSS)
  | .cacheWrite e c => eng e (fun e => s.setEng e { s.eng e with redraw := insertNat (s.eng e).redraw c })
  | .token f seq => match idx? 4096 f with
      | some n => s.arxRelease n (fun p => p.seq != seq)
      | none => s
  | .ring b => { s with ringLost := (b, c) :: s.ringLost.filter (· ≠ (b, c)) }

/-- A GDDR6 burst of channel `c` fails its check: after retries it succeeds, or it is lost (R324). -/
def State.edcError (s : State) (c : Nat) (lost : Option Requester) : State :=
  match lost with
  | none =>
    ((s.addSat .gmc (GMC.EDC_RETRY.at (c % 24)) 1).raise .gmc GMC.INT_STAT_EDC_RETRY).fault .gmc .corrected 0 (c % 24)
  | some r =>
    (((s.addSat .gmc (GMC.EDC_FAIL.at (c % 24)) 1).raise .gmc GMC.INT_STAT_EDC_LOSS).fault .gmc .contained 0
      (c % 24)).burstLost (c % 24) r

end Sys2Proof.Machine
end

