-- ==== Sys2Proof/Machine/Colour.lean ====
section
/-! DEFINITION. The picture a media engine draws: scaling, composition and colour, pixel by pixel (chapters 12, 13). -/

namespace Sys2Proof.Machine

/-! ### The scaler (R315 to R317) -/

/-- A component of a picture by column and row. -/
abbrev Img := Int → Int → Int

/-- The coefficients of a layer for one axis and phase: `n` taps (R315 to R317). -/
def scalerCoefs (c : Words) (e : EngNo) (y : LayerCfg) (vert : Bool) (phase n : Nat) : List Int :=
  let num := if vert then y.cropH else y.cropW
  let den := if vert then y.outH else y.outW
  let skip := if vert && y.taps = 4 then 2 else 0
  (List.range n).map (fun i =>
    if vert && den < num then
      Config.stretchedCoef y.coef
        (if y.coef = 2 then (List.range 512).map (fun k => userCoef c e true (k / 8) (k % 8)) else []) y.taps num den phase i
    else if y.coef = 2 then userCoef c e vert phase (i + skip)
    else Config.scalerCoef y.coef vert (if vert then y.taps else 8) num den phase i)

/-- The output of a kernel: the rounded sum, limited to 12 bits (R317). (DEDUCED, notes/assumptions/87.md) -/
def kernel (cs ss : List Int) : Int := clamp 0 4095 (((cs.zip ss).foldl (fun m p => m + p.1 * p.2) 0 + 256) / 512)

/-- The halvings before the horizontal filter (R315). -/
def preShift (y : LayerCfg) : Nat :=
  if y.cropW ≤ 2 * y.outW then 0 else if y.cropW ≤ 4 * y.outW then 1 else if y.cropW ≤ 8 * y.outW then 2 else 3

/-- Averages of groups of 2^k adjacent pixels, rounding half up (R315). -/
def averaged (k : Nat) (f : Img) : Img := fun x r =>
  if k = 0 then f x r
  else ((List.range (2 ^ k)).foldl (fun (m : Int) (j : Nat) => m + f (x * 2 ^ k + (j : Int)) r) 0 + 2 ^ (k - 1)) / 2 ^ k

/-- The horizontal scaler. (DEDUCED, notes/assumptions/87.md) -/
def hscale (c : Words) (e : EngNo) (y : LayerCfg) (f : Img) : Img := fun x r =>
  let k := preShift y
  let p := scalePos (y.cropW * 65536 / (max 1 y.outW * 2 ^ k)) x.toNat
  kernel (scalerCoefs c e y false p.2 8) ((List.range 8).map (fun i : Nat => averaged k f (p.1 + (i : Int) - 3) r))

/-- The vertical scaler. -/
def vscale (c : Words) (e : EngNo) (y : LayerCfg) (f : Img) : Img := fun x r =>
  let p := scalePos (y.cropH * 65536 / max 1 y.outH) r.toNat
  kernel (scalerCoefs c e y true p.2 y.span)
    ((List.range y.span).map (fun i : Nat => f x (p.1 + (i : Int) - (y.span / 2 - 1 : Nat))))

/-- A picture with its edge pixels repeated beyond the crop (R317). -/
def edged (w h : Nat) (f : Img) : Img := fun x r => f (clamp 0 (w - 1 : Nat) x) (clamp 0 (h - 1 : Nat) r)

/-- A layer scaled; the order of the axes is not given. -/
def scaled (c : Words) (e : EngNo) (y : LayerCfg) (f : Img) : Img :=
  let g := edged y.cropW y.cropH f
  if Config.pick 3 2 % 2 = 0 then vscale c e y (fun x r => hscale c e y g x r)
  else hscale c e y (edged y.cropW y.outH (vscale c e y g))

/-! ### Sources (R312, R320, R330, R343) -/

/-- `n` bytes of GDDR6 from address `a`, the first lowest (R6). (DESIGN CHOICE, notes/assumptions/19.md) -/
def State.gddrLe (s : State) (a : Nat) : Nat → Nat
  | 0 => 0
  | n + 1 => (Tab.get s.gddr a (0 : Byte)).toNat + 256 * s.gddrLe (a + 1) n

/-- The Y, Cb and Cr samples of a packed pair of pixels (R312): Cb, Y, Cr, Y in 40 bits, the first lowest as R6 has it.
(PRESUMED, notes/assumptions/85.md) -/
def pairSample (v comp odd : Nat) : Nat :=
  match comp with
  | 0 => if odd = 0 then bits v 10 10 else bits v 30 10
  | 1 => bits v 0 10
  | _ => bits v 20 10

/-- Component `comp` of a frame in 4:4:4 at 12 bits, from its packed 4:2:2 at `base` (R343). -/
def State.frameImg (s : State) (base w h comp : Nat) : Img := fun x r =>
  let x := (clamp 0 (w - 1 : Nat) x).toNat
  let r := (clamp 0 (h - 1 : Nat) r).toNat
  let at_ := fun (n : Int) => s.gddrLe (base + r * lineBytes w + 5 * (clamp 0 (w / 2 - 1 : Nat) n).toNat) 5
  if comp = 0 then 4 * pairSample (at_ (x / 2)) 0 (x % 2)
  else
    let c := fun (n : Int) => (4 * pairSample (at_ n) comp 0 : Int)
    let n : Int := (x / 2 : Nat)
    if x % 2 = 0 then c n else clamp 0 4095 ((-c (n - 1) + 9 * c n + 9 * c (n + 1) - c (n + 2) + 8) / 16)

/-- Component `comp` of a surface: 0 to 2 are Y, Cb and Cr at 12 bits, 3 is A (R320, R330). -/
def State.surfImg (s : State) (y : LayerCfg) (comp : Nat) : Img := fun x r =>
  let a := y.surf * 64 + r.toNat * y.pitch + x.toNat * y.bpp
  if y.wide then
    if comp = 3 then (min 1024 (s.gddrLe a 2 % 2048) : Nat) else (s.gddrLe (a + 2 * (comp + 1)) 2 % 4096 : Nat)
  else if comp = 3 then 1024
  else (4 * bits (s.gddrLe a 4) (10 * comp) 10 : Nat)

/-- Component `comp` of the source of layer `l`, in crop coordinates. A direct layer draws the frame that arrives, and from the row at
which its input broke the newest complete one (R337). -/
def State.sourceImg (s : State) (e : EngNo) (c : Words) (l : Nat) (y : LayerCfg) (comp : Nat) : Img :=
  if y.kind = 0 then
    let det := s.detFmt e l
    let fmt := if (format? det).isSome then det else y.fmt
    let b := (s.eng e).layer l
    let fb := (((layerCfgs c e).take l).map LayerCfg.fbMib).foldl (· + ·) 0
    let slot := fun (i : Nat) => s.frameImg ((c.fld (.eng e) ENGI.ENG_MEM_BASE + fb) * 2 ^ 20 + i * slotBytes y.fmt)
      (fmtSize fmt).1 (fmtSize fmt).2 comp
    let from_ : Option (Nat × Nat) → Img := fun o x r => match o with
      | none => 0
      | some q => slot q.1 x r
    let f : Img := if s.get (.eng e) (ENGI.LAYER_STAT_DIRECT.at l) = 1 then
        fun x r => match b.cur with
          | some q => if r < q.2 then slot q.1 x r else from_ b.newest x r
          | none => from_ b.newest x r
      else from_ b.sel
    if comp = 3 then fun _ _ => 1024 else fun x r => f (x + y.cropX) (r + y.cropY)
  else fun x r => s.surfImg y comp (x + y.cropX) (r + y.cropY)

/-! ### Layers on the canvas (R331 to R338) -/

/-- P of R335 for a component. -/
def black (comp : Nat) : Int := if comp = 0 then 256 else 2048

/-- The fill colour of a layer at 12 bits (R338). -/
def fillOf (c : Words) (e : EngNo) (l comp : Nat) : Int :=
  let f := match comp with
    | 0 => ENGC.COMP_FILL_Y
    | 1 => ENGC.COMP_FILL_CB
    | _ => ENGC.COMP_FILL_CR
  (4 * c.fld (.engComp e) (f.at l) : Nat)

/-- A generator's pattern at a pixel of its window (R331). -/
def genImg (y : LayerCfg) (comp : Nat) : Img := fun x r =>
  match y.gen with
  | 1 => ((Config.barColour (x.toNat * 8 / max 1 y.outW) comp).toNat : Int)
  | 2 => if comp = 0 then 256 + openDiv 12 (3504 * x) (y.outW - 1 : Nat) else 2048
  | _ => if comp = 0 then (if (x / 64 + r / 64) % 2 = 0 then 3760 else 256) else 2048

/-- Layer `l` is drawn in fill on canvas line `row` of the frame in progress (R319, R324, R336, R338). -/
def State.inFill (s : State) (e : EngNo) (l : Nat) (y : LayerCfg) (row : Nat) : Bool :=
  (y.kind = 2 && y.gen = 0) || (s.eng e).lost.contains (l, row) ||
    (y.kind = 0 && (s.get (.engComp e) (ENGC.COMP_LSTAT_FILLED.at l) = 1 ||
      s.get (.eng e) (ENGI.LAYER_STAT_LB_SHORT.at l) = 1 || s.get (.eng e) (ENGI.LAYER_STAT_FB_SHORT.at l) = 1))

/-- Component `comp` of the scaled layer at a canvas pixel, outside fill. -/
def State.layerPixel (s : State) (e : EngNo) (c : Words) (l : Nat) (y : LayerCfg) (comp : Nat) (x r : Int) : Int :=
  if y.kind = 2 then genImg y comp (x - y.winX) (r - y.winY)
  else scaled c e y (s.sourceImg e c l y comp) (x - y.winX) (r - y.winY)

/-- Key alpha from a key layer's luminance (R333). -/
def keyAlpha (y : LayerCfg) (lum : Int) : Int :=
  let span : Int := (y.keyHi : Int) - y.keyLo
  let a := clamp 0 1024 (((lum - y.keyLo) * 1024 + span / 2) / span)
  if y.keyInv then 1024 - a else a

/-- A layer at a canvas pixel: its three components less P, its pixel alpha applied, and whether it is premultiplied. -/
structure Drawn where
  fg : List Int
  alpha : Int
  premul : Bool
  deriving DecidableEq, Repr

/-- What layer `l` draws at a canvas pixel; none outside its window (R331 to R338). -/
def State.drawLayer (s : State) (e : EngNo) (c : Words) (l : Nat) (x r : Int) : Option Drawn :=
  let cfg := fun k => layerCfg c e k (s.detFmt e k)
  let y := cfg l
  if !y.en || x < y.winX || r < y.winY || y.winX + y.outW ≤ x || y.winY + y.outH ≤ r then none
  else
    let g : Int := (y.galpha : Int)
    if s.inFill e l y r.toNat then
      some ⟨[0, 1, 2].map (fun k => fillOf c e l k - black k), (g * 1024 + 512) / 1024, false⟩
    else
      let k := cfg y.keyLayer
      let ap : Int := match y.asrc with
        | 0 => 1024
        | 1 => min 1024 (s.layerPixel e c l y 3 x r)
        | _ => keyAlpha y (if s.inFill e y.keyLayer k r.toNat then fillOf c e y.keyLayer 0
            else s.layerPixel e c y.keyLayer k 0 x r)
      some ⟨[0, 1, 2].map (fun k => s.layerPixel e c l y k x r - black k), (g * ap + 512) / 1024, y.premul⟩

/-- F of R335 for component `k` of a drawn layer. -/
def Drawn.f (d : Drawn) (k : Nat) : Int := nth d.fg k 0 * (if d.premul then 1024 else d.alpha)

/-- A layer blended onto a background pixel (R335). -/
def blend (bg : List Int) (d : Drawn) : List Int :=
  (List.range 3).map (fun k =>
    let p := black k
    clamp 0 4095 ((d.f k + (nth bg k 0 - p) * (1024 - d.alpha) + 512) / 1024 + p))

/-- The flattened pixel of a static run, from its members bottom up, as one premultiplied layer (R340). -/
def flatten (ds : List Drawn) : Drawn :=
  ds.foldl (fun acc d =>
    { fg := (List.range 3).map (fun k => (d.f k + nth acc.fg k 0 * (1024 - d.alpha) + 512) / 1024),
      alpha := (d.alpha * 1024 + acc.alpha * (1024 - d.alpha) + 512) / 1024, premul := true }) ⟨[0, 0, 0], 0, true⟩

/-- The composed canvas at a pixel, 12-bit Y, Cb, Cr (R332). -/
def State.canvasPixel (s : State) (e : EngNo) (x r : Int) : List Int :=
  let c := (s.eng e).words
  let runs := runsOf c e
  let bg := [4 * c.fld (.engComp e) ENGC.COMP_BG_Y, 4 * c.fld (.engComp e) ENGC.COMP_BG_CB, 4 * c.fld (.engComp e) ENGC.COMP_BG_CR]
  ((List.range 16).zip (orderOf c e)).foldl (fun bg p =>
    if (layerCfg c e p.2 0).key then bg
    else
      match runs.find? (fun q => q.members.contains p.2) with
      | some q =>
        if q.last ≠ p.1 then bg
        else
          let top := (nth q.members (q.members.length - 1) 0)
          if (s.eng e).lost.contains (top, r.toNat) then
            match s.drawLayer e c top x r with
            | some d => blend bg d
            | none => bg
          else blend bg (flatten (q.members.filterMap (fun l => s.drawLayer e c l x r)))
      | none => match s.drawLayer e c p.2 x r with
        | some d => blend bg d
        | none => bg) (bg.map (fun n : Nat => (n : Int)))

/-! ### The transfer functions of R346 -/

/-- a × b and a / b in the fixed point of `fixOne`. -/
def fmul (a b : Int) : Int := a * b / fixOne
def fdiv (a b : Int) : Int := if b = 0 then 0 else a * fixOne / b
def fnum (n d : Nat) : Int := (n * fixOne / d : Nat)

/-- The artanh series: t, t^3 / 3 and so on. -/
def artanhTerms (t p : Int) (k : Nat) : Nat → Int
  | 0 => 0
  | n + 1 => p / (k : Int) + artanhTerms t (fmul (fmul p t) t) (k + 2) n

/-- ln 2. -/
def fixLn2 : Int := 2 * artanhTerms (fnum 1 3) (fnum 1 3) 1 60

/-- Doublings that bring a positive number to 1 or above. -/
def doublings (x : Int) : Nat → Nat
  | 0 => 0
  | n + 1 => if (fixOne : Int) ≤ x then 0 else 1 + doublings (2 * x) n

/-- ln x for x above 0 and below 2. (DEDUCED, notes/assumptions/91.md) -/
def flog (x : Int) : Int :=
  let k := doublings x 170
  let m := x * 2 ^ k
  let t := fdiv (m - fixOne) (m + fixOne)
  2 * artanhTerms t t 1 60 - k * fixLn2

/-- x squared eight times. -/
def square8 (x : Int) : Nat → Int
  | 0 => x
  | n + 1 => square8 (fmul x x) n

/-- exp x. -/
def fexp (x : Int) : Int :=
  let y : Nat := x.natAbs / 256
  let v := square8 (expTerms y fixOne 0 60 : Nat) 8
  if x < 0 then fdiv fixOne v else v

/-- x to the power y, for x of 0 or above. -/
def fpow (x y : Int) : Int := if x ≤ 0 then 0 else fexp (fmul y (flog x))

/-- The PQ EOTF and its inverse, the HLG inverse OETF and the HLG OETF, of R346. -/
def pqEotf (x : Int) : Int :=
  let q := fpow x (fnum 32 2523)
  fpow (fdiv (max 0 (q - fnum 3424 4096)) (fnum 2413 128 - fmul (fnum 2392 128) q)) (fnum 16384 2610)
def pqInverse (x : Int) : Int :=
  let q := fpow x (fnum 2610 16384)
  fpow (fdiv (fnum 3424 4096 + fmul (fnum 2413 128) q) (fixOne + fmul (fnum 2392 128) q)) (fnum 2523 32)
def hlgInverse (x : Int) : Int :=
  if 2 * x ≤ fixOne then fmul x x / 3
  else (fexp (fdiv (x - fnum 55991073 100000000) (fnum 17883277 100000000)) + fnum 28466892 100000000) / 12
def hlgOetf (x : Int) : Int :=
  if 12 * x ≤ fixOne then fpow (3 * x) (fnum 1 2)
  else
    let y := 12 * x - fnum 28466892 100000000
    fmul (fnum 17883277 100000000) (if y < 2 * fixOne then flog y else flog (y / 8) + 3 * fixLn2) + fnum 55991073 100000000

/-- Entry `k` of a built-in table: round half up of 65,535 × F(16k / 65,535) (R346).
(DEDUCED, notes/assumptions/91.md) -/
def builtin (lut mode k : Nat) : Nat :=
  let x := fnum (16 * k) 65535
  let v := match lut, mode with
    | 0, 1 => pqEotf x
    | 0, _ => hlgInverse x
    | _, 1 => pqInverse x
    | _, _ => hlgOetf x
  (clamp 0 65535 ((2 * 65535 * v + fixOne) / (2 * fixOne))).toNat

/-! ### The colour pipeline (R344 to R350) -/

/-- Matrix `m` (R344). -/
def matrix (c : Words) (e : EngNo) (m : Nat) (xs : List Int) : List Int :=
  let p := Page.engColour e
  let sh := c.fld p (ENGL.MAT_SH_SH.at m)
  (List.range 3).map (fun i =>
    let sum := (List.range 3).foldl (fun t j =>
      t + sgn 24 (c.fld p (ENGL.MAT_M_M.at2 m (3 * i + j))) * (nth xs j 0 - sgn 17 (c.fld p (ENGL.MAT_IOFF_IOFF.at2 m j)))) 0
    clamp 0 65535 ((sum + (if sh = 0 then 0 else 2 ^ (sh - 1))) / 2 ^ sh + sgn 17 (c.fld p (ENGL.MAT_OOFF_OOFF.at2 m i))))

/-- Entry `k` of 1D LUT `lut` for a channel (R345, Table 13.6). -/
def lut1 (c : Words) (e : EngNo) (lut ch k : Nat) : Nat :=
  bits (c (0x03A00000 + 0xC000 * e.val + 0x2000 * (3 * lut + ch) + 4 * (k / 2))).toNat (16 * (k % 2)) 16

/-- A 1D LUT (R345, R346). -/
def lut1d (c : Words) (e : EngNo) (lut : Nat) (xs : List Int) : List Int :=
  let mode := c.fld (.engColour e) (if lut = 0 then ENGL.CLR_TF_L1_MODE else ENGL.CLR_TF_L2_MODE)
  (List.range 3).map (fun ch =>
    let x := (nth xs ch 0).toNat
    let l := fun k => if mode = 0 then lut1 c e lut ch (min k 4095) else builtin lut mode (min k 4095)
    (((l (x / 16)) * (16 - x % 16) + l (x / 16 + 1) * (x % 16) + 8) / 16 : Nat))

/-- Channel `ch` of a node of the 3D LUT (Table 13.6). -/
def lut3 (c : Words) (e : EngNo) (r g b ch : Nat) : Nat :=
  let a := 0x02800000 + 0x48000 * e.val + 8 * (r + 33 * g + 1089 * b)
  match ch with
  | 0 => (c a).toNat % 65536
  | 1 => (c a).toNat / 65536
  | _ => (c (a + 4)).toNat % 65536

/-- The row of Table 13.2 that fractions satisfy: Cp and Cq as steps in r, g, b, and the weights. -/
def tetra (fr fg fb : Nat) : (Nat × Nat × Nat) × (Nat × Nat × Nat) × (Nat × Nat × Nat × Nat) :=
  if fg ≤ fr ∧ fb ≤ fg then ((1, 0, 0), (1, 1, 0), (2048 - fr, fr - fg, fg - fb, fb))
  else if fb ≤ fr ∧ fg < fb then ((1, 0, 0), (1, 0, 1), (2048 - fr, fr - fb, fb - fg, fg))
  else if fr < fb ∧ fg ≤ fr then ((0, 0, 1), (1, 0, 1), (2048 - fb, fb - fr, fr - fg, fg))
  else if fr < fg ∧ fb ≤ fr then ((0, 1, 0), (1, 1, 0), (2048 - fg, fg - fr, fr - fb, fb))
  else if fb ≤ fg ∧ fr < fb then ((0, 1, 0), (0, 1, 1), (2048 - fg, fg - fb, fb - fr, fr))
  else ((0, 0, 1), (0, 1, 1), (2048 - fb, fb - fg, fg - fr, fr))

/-- The 3D LUT (R347). -/
def lut3d (c : Words) (e : EngNo) (xs : List Int) : List Int :=
  let i := fun k => (nth xs k 0).toNat / 2048
  let f := fun k => (nth xs k 0).toNat % 2048
  let t := tetra (f 0) (f 1) (f 2)
  let node := fun (d : Nat × Nat × Nat) ch => lut3 c e (min 32 (i 0 + d.1)) (min 32 (i 1 + d.2.1)) (min 32 (i 2 + d.2.2)) ch
  (List.range 3).map (fun ch =>
    ((node (0, 0, 0) ch * t.2.2.1 + node t.1 ch * t.2.2.2.1 + node t.2.1 ch * t.2.2.2.2.1 + node (1, 1, 1) ch * t.2.2.2.2.2
      + 1024) / 2048 : Nat))

/-- The colour stages of Table 13.1 on a canvas pixel, 16 bits (R344 to R347). -/
def colour (c : Words) (e : EngNo) (xs : List Int) : List Int :=
  let by_ := fun (f : Fld) (g : List Int → List Int) (v : List Int) => if c.fld (.engColour e) f = 1 then v else g v
  by_ ENGL.CLR_CTRL_BYP_C (matrix c e 2)
    (by_ ENGL.CLR_CTRL_BYP_3D (lut3d c e)
      (by_ ENGL.CLR_CTRL_BYP_L2 (lut1d c e 1)
        (by_ ENGL.CLR_CTRL_BYP_B (matrix c e 1)
          (by_ ENGL.CLR_CTRL_BYP_L1 (lut1d c e 0)
            (by_ ENGL.CLR_CTRL_BYP_A (matrix c e 0) (xs.map (· * 16)))))))

/-- BAYER of R349. -/
def bayer (r x : Nat) : Nat :=
  nth (nth [[0, 8, 2, 10], [12, 4, 14, 6], [3, 11, 1, 9], [15, 7, 13, 5]] (r % 4) []) (x % 4) 0

/-- A sample dithered to `d` bits at position x, line y of frame n (R349). -/
def dither (d : Nat) (on : Bool) (v x y n : Nat) : Nat :=
  let b := bayer (y + n % 16 / 4) (x + n % 16 % 4)
  let t := if on then (2 * b + 1) * 2 ^ (16 - d) / 32 else 2 ^ (15 - d)
  min ((v + t) / 2 ^ (16 - d)) (2 ^ d - 1)

/-- The output word of a dithered sample (R350). -/
def outWord (depth d : Nat) : Nat :=
  (clamp 4 1019 ((match depth with | 0 => d * 4 | 1 => d | _ => d / 4 : Nat))).toNat

/-- Bits of a DEPTH code. -/
def depthBits (depth : Nat) : Nat := match depth with | 0 => 8 | 1 => 10 | _ => 12

/-- The luminance word and the chrominance word that engine `e` puts out for canvas pixel (x, y) of frame `n` of its
VTG (R306, R348 to R350). -/
def State.engPixel (s : State) (e : EngNo) (x y n : Nat) : Nat × Nat :=
  let c := (s.eng e).words
  let w := (canvasOf (c.fld (.eng e) ENGI.ENG_CTRL_OUT_MODE) (s.vtgCode (c.fld (.eng e) ENGI.ENG_CTRL_OUT_VTG))).1
  let depth := c.fld (.engColour e) ENGL.CLR_CTRL_DEPTH
  let on := c.fld (.engColour e) ENGL.CLR_CTRL_DITH_EN = 1
  let px := fun (x : Int) comp => (nth (colour c e (s.canvasPixel e (clamp 0 (w - 1 : Nat) x) y)) comp 0)
  let word := fun (v : Int) (x : Nat) => outWord depth (dither (depthBits depth) on v.toNat x y n)
  let m := x / 2 * 2
  let comp := if x % 2 = 0 then 1 else 2
  let chroma := (px ((m : Int) - 1) comp + 2 * px m comp + px (m + 1 : Nat) comp + 2) / 4
  (word (px x 0) x, word chroma m)

/-- The canvas pixel of column `x` of active row `r` of output tenon `q`: in OUT_MODE 1 quadrant q; else the whole picture, or a
sub-image of it (R307). (PRESUMED, notes/assumptions/133.md) -/
def tenonPixel (quad : Bool) (tenons q x r : Nat) : Nat × Nat :=
  if quad then (x + 1920 * (q % 2), r + 1080 * (q / 2))
  else if tenons = 4 then (x / 2 * 4 + q % 2 * 2 + x % 2, 2 * r + q / 2)
  else if tenons = 2 then (x, 2 * r + q)
  else (x, r)

/-- Line `n` that output tenon `q` of engine `e` carries in frame `i` of its VTG: timing references, line numbers, line CRC and payload
identifier as on every line, and the picture (R307). None while the engine is not running or its VTG is disabled. -/
def State.engLine (s : State) (e : EngNo) (q n i : Nat) : Option SdiLine :=
  let v := s.live (.eng e) ENGI.ENG_CTRL_OUT_VTG
  if s.live (.eng e) ENGI.ENG_CTRL_EN = 0 || !s.running (.eng e) || !s.vtgEn v then none
  else
    (s.vtgFormat v).map (fun f =>
      let quad := s.live (.eng e) ENGI.ENG_CTRL_OUT_MODE = 1
      let l := genLine f (s.vtgCode v) 0 n
      match f.activeRow n with
      | none => l
      | some r => { l with active := (List.range l.active.length).map (fun x =>
          let at_ := tenonPixel quad f.tenons q x r
          let p := s.engPixel e at_.1 at_.2 i
          tenonWord p.1 p.2) })

end Sys2Proof.Machine
end

