-- ==== Sys2Proof/Machine/Records.lean ====
section
/-! DEFINITION. The event recorder and the black box (chapter 17). -/

namespace Sys2Proof.Machine

/-! ### The black box (R441 to R444) -/

/-- BBX_HEAD, the number of the next entry. -/
def State.bbxHead (s : State) : Nat := (s.bbx.tail + s.bbx.log.length) % 2 ^ 32

/-- An entry is queued; with 256 queued it is lost and counted (R442). -/
def State.bbxPush (s : State) (e : BbxEntry) : State :=
  if s.bbx.queue.length < 256 then { s with bbx := { s.bbx with queue := s.bbx.queue ++ [e] } }
  else ({ s with bbx := { s.bbx with lost := s.bbx.lost + 1 } } : State).addSat .bbx BBX.LOST_ENT 1

/-- Bytes 0 to 27 of a record (Table 17.2). -/
def recBytes (r : Rec) : List Nat :=
  leBytes r.stc 8 ++ leBytes r.delta 4 ++ leBytes r.page 2 ++ leBytes r.code 2 ++ leBytes r.rep 2 ++ [r.cls, r.flags] ++
    leBytes r.p0 4 ++ leBytes r.p1 4

/-- The CRC of a record (R435). -/
def Rec.crc (r : Rec) : Nat := crc32 (packBytes (recBytes r)) 224

/-- The words of a record, as its window shows them. -/
def recWords (r : Rec) : List Nat := (chunks 4 8 (recBytes r ++ leBytes r.crc 4)).map packBytes

/-- The entry of type `type` for a record (Table 17.5); a tamper while unpowered is marked (R386). -/
def State.recEntry (s : State) (type : Nat) (r : Rec) : BbxEntry :=
  { type := type, cls := r.cls, flags := r.flags % 2 + (if r.code = 0x0020 && bitAt r.p0 8 = 1 then 4 else 0),
    boot := s.vbat.bootCnt, stc := r.stc, payload := recBytes r ++ List.replicate 8 0 }

/-- The 64 bytes of entry `seq` (Table 17.4). -/
def entryBytes (seq : Nat) (e : BbxEntry) : List Nat :=
  let b := leBytes seq 4 ++ leBytes e.type 2 ++ [e.cls, e.flags] ++ leBytes e.boot 4 ++ leBytes e.stc 8 ++
    (e.payload ++ List.replicate 36 0).take 36 ++ leBytes 0 4
  b ++ leBytes (crc32 (packBytes b) 480) 4

/-! ### Writing records (R436, R437) -/

/-- EVR_HEAD, the number of the next record. -/
def State.evrHead (s : State) : Nat := (s.evr.tail + s.evr.ring.length) % 2 ^ 32

/-- The newest record, when the ring holds one. (DEDUCED, notes/assumptions/110.md) -/
def State.newest (s : State) : Option Rec := s.evr.ring.getLast?

/-- Microseconds between two STC values, floor, saturating (R435). -/
def deltaUs (first last : Nat) : Nat := min 0xFFFFFFFF ((last + 2 ^ 64 - first) % 2 ^ 64 / 65536000)

/-- The newest record has gone to the black box and gained repeats: its summary is queued (Table 17.5). -/
def State.summary (s : State) : State :=
  match s.newest with
  | some r => if s.bbx.newestSent && 0 < r.rep then s.bbxPush (s.recEntry 0x0002 r) else s
  | none => s

/-- A new record is written at EVR_HEAD (R436). -/
def State.newRecord (s : State) (e : Ev) : State :=
  let s := s.summary
  let r : Rec := { stc := e.stc, delta := 0, page := e.page, code := e.code, rep := 0, cls := e.cls,
                   flags := b2n e.inj + 2 * b2n e.bbx, p0 := e.p0, p1 := e.p1 }
  let s := if s.evr.ring.length < 8192 then s
    else (({ s with evr := { s.evr with ring := s.evr.ring.drop 1, tail := (s.evr.tail + 1) % 2 ^ 32 } } : State).addSat .evr
      EVR.OVERWRITE_CNT 1).raise .evr EVR.INT_STAT_OVERWRITE
  let s : State := { s with evr := { s.evr with ring := s.evr.ring ++ [r], fresh := true },
                            bbx := { s.bbx with newestSent := e.bbx } }
  let s := (s.add .evr EVR.REC_CNT 1).raise .evr EVR.INT_STAT_RECORD
  if e.bbx then s.bbxPush (s.recEntry 0x0001 r) else s

/-- A record with one repeat more (R436). -/
def Rec.again (r : Rec) (stc : Nat) : Rec := { r with rep := min 65535 (r.rep + 1), delta := deltaUs r.stc stc }

/-- An event is written: as a repeat of the newest record when identical to it, else as a new record (R436).
(DEDUCED, notes/assumptions/110.md) -/
def State.writeEv (s : State) (e : Ev) : State :=
  match s.newest with
  | some r =>
    if s.evr.fresh && r.page = e.page && r.code = e.code && r.p0 = e.p0 && r.p1 = e.p1 then
      ((({ s with evr := { s.evr with ring := s.evr.ring.dropLast ++ [r.again e.stc] } } : State).add .evr EVR.REPEAT_CNT
        1).raise .evr EVR.INT_STAT_RECORD)
    else s.newRecord e
  | none => s.newRecord e

/-- The recorder takes the oldest queued event; lost events are reported once there is room (R436, R437). -/
def State.recordNext (s : State) : State :=
  match s.evr.queue with
  | [] => s
  | e :: rest =>
    let s := ({ s with evr := { s.evr with queue := rest, nextAt := s.now + 16 } } : State).writeEv e
    if s.evr.lost = 0 then s
    else ({ s with evr := { s.evr with lost := 0 } } : State).offer .evr 0x0006 s.evr.lost 0

/-- The recorder accepts an event, one in 16 core cycles (R437). -/
def State.recordDue (s : State) : State := if s.evr.nextAt ≤ s.now then s.recordNext else s

/-! ### Reading and clearing (R438, R440) -/

/-- A read of EVR_WIN[k][0] latches the cursor's record (R438). -/
def State.evrLatch (s : State) (k : Nat) : State :=
  let cur := s.get .evr (EVR.EVR_CURSOR_SEQ.at k)
  let skip := sgn 32 (wrap 32 ((cur : Int) - s.evr.tail)) < 0
  let s := if skip then s.puts .evr [(EVR.EVR_CURSOR_SEQ.at k, s.evr.tail), (EVR.EVR_CSTAT_SKIPPED.at k, 1)] else s
  let cur := if skip then s.evr.tail else cur
  let held := sgn 32 (wrap 32 ((cur : Int) - s.evrHead)) < 0
  let words := if held then
      match s.evr.ring[(cur + 2 ^ 32 - s.evr.tail) % 2 ^ 32]? with
      | some r => recWords r
      | none => List.replicate 8 0
    else List.replicate 8 0
  ((List.range 8).zip words).foldl (fun s e => s.put .evr (EVR.EVR_WIN_WORD.at2 k e.1) e.2)
    (s.put .evr (EVR.EVR_CSTAT_VALID.at k) (b2n held))

/-- A read of EVR_WIN[k][7] moves the cursor past a valid record (R438). -/
def State.evrStep (s : State) (k : Nat) : State :=
  if s.get .evr (EVR.EVR_CSTAT_VALID.at k) = 1 then s.add .evr (EVR.EVR_CURSOR_SEQ.at k) 1 else s

/-- Every cursor is set to EVR_TAIL. -/
def State.cursors (s : State) : State :=
  s.puts .evr [(EVR.EVR_CURSOR_SEQ.at 0, s.evr.tail), (EVR.EVR_CURSOR_SEQ.at 1, s.evr.tail)]

/-- A write of EVR_CLR is rejected (R440). -/
def State.clrReject (s : State) : State := (s.addSat .evr EVR.CLR_REJ_CNT 1).raise .evr EVR.INT_STAT_CLR_REJECT

/-- Core cycles in 100 ms. -/
def clearWindow : Nat := cyclesPerSec / 10

/-- A write of EVR_CLR by master `k`, 0 PCIe or 1 service SPI (R440). -/
def State.evrClr (s : State) (k : Nat) (arm clear : Bool) : State :=
  let armed := s.get .evr EVR.EVR_STAT_ARMED = 1
  if arm && clear then s.clrReject
  else if arm then
    ({ s with evr := { s.evr with armedAt := s.now } } : State).puts .evr
      [(EVR.EVR_STAT_ARMED, 1), (EVR.EVR_STAT_ARM_MASTER, k)]
  else if clear then
    if !armed || s.get .evr EVR.EVR_STAT_ARM_MASTER ≠ k || s.evr.armedAt + clearWindow < s.now then s.clrReject
    else
      let n := s.evr.ring.length
      let s := s.summary
      let s : State := { s with evr := { s.evr with ring := [], tail := s.evrHead }, bbx := { s.bbx with newestSent := false } }
      let s := ((s.cursors).put .evr EVR.EVR_STAT_ARMED 0).raise .evr EVR.INT_STAT_CLEARED
      s.writeEv { cycle := s.now, stc := s.stc, page := Page.num .evr, code := 0x0001, cls := 0, inj := false, bbx := true,
                  p0 := k, p1 := n }
  else s

/-- ARMED lapses once 100 ms have passed since the arm (R440). -/
def State.evrLapse (s : State) : State :=
  if s.evr.armedAt + clearWindow < s.now then s.put .evr EVR.EVR_STAT_ARMED 0 else s

/-- FUNC_INIT of the EVR page (R446). -/
def State.evrInit (s : State) : State :=
  s.cursors.puts .evr [(EVR.EVR_CSTAT_SKIPPED.at 0, 0), (EVR.EVR_CSTAT_SKIPPED.at 1, 0), (EVR.EVR_CSTAT_VALID.at 0, 0),
    (EVR.EVR_CSTAT_VALID.at 1, 0), (EVR.EVR_STAT_ARMED, 0)]

/-! ### Writing entries (R441, R442) -/

/-- Sectors of the log, entries of a sector. (DEDUCED, notes/assumptions/109.md) -/
def bbxSize : Nat := 65536
def bbxSector : Nat := 1024

/-- An entry is appended to the log; a full log first loses its oldest sector (R442).
(DEDUCED, notes/assumptions/109.md) -/
def State.bbxAppend (s : State) (e : BbxEntry) : State :=
  let s := if s.bbx.log.length < bbxSize then s
    else (({ s with bbx := { s.bbx with log := s.bbx.log.drop bbxSector, tail := (s.bbx.tail + bbxSector) % 2 ^ 32 } } :
      State).addSat .bbx BBX.WRAP_CNT 1).raise .bbx BBX.INT_STAT_WRAP
  ({ s with bbx := { s.bbx with log := s.bbx.log ++ [e] } } : State).add .bbx BBX.ENTRY_CNT 1

/-- A queued entry is written; `ok` tells that no sector had to be skipped (R442). -/
def State.bbxWrite (s : State) (ok : Bool) : State :=
  match s.bbx.queue with
  | [] => s
  | e :: rest =>
    let s : State := { s with bbx := { s.bbx with queue := rest } }
    let s := if s.bbx.lost = 0 then s
      else
        let l : BbxEntry := { type := 0x0021, cls := 0, flags := 0, boot := s.vbat.bootCnt, stc := s.stc,
                              payload := leBytes s.bbx.lost 4 }
        ({ s with bbx := { s.bbx with lost := 0 } } : State).bbxPush l
    let s := if ok then s
      else (((s.offer .bbx 0x0050 (s.bbxHead / bbxSector % 64) 0).raise .bbx BBX.INT_STAT_WRITE_FAIL).addSat .bbx
        BBX.SECT_FAIL 1).fault .bbx .contained 0 0
    s.bbxAppend e

/-- MT_STAT as it reads. -/
def State.mtStat (s : State) : Nat :=
  s.get .time TIME.MT_STAT_SRC_LIVE + 2 * b2n s.slewing + 4 * s.get .time TIME.MT_STAT_AUTO_SW

/-- A HEALTH entry is queued, after the summary of the newest record; the die temperatures are free values (R441). -/
def State.health (s : State) : State :=
  let s := s.summary
  let r := s.fresh
  let t := r.2.fresh
  let s := t.2
  let src := match s.fatalSrc with | some n => n % 0x4000 + 0x8000 | none => 0
  let e : BbxEntry :=
    { type := 0x0010, cls := 0, flags := 0, boot := s.vbat.bootCnt, stc := s.stc,
      payload := leBytes (Config.freeValue r.1 16).toNat 2 ++ leBytes (Config.freeValue t.1 16).toNat 2 ++
        leBytes ((s.now - s.boot.coreAt) / cyclesPerSec) 4 ++ leBytes s.bbx.contained 4 ++ leBytes s.bbx.corrected 4 ++
        leBytes s.evrHead 4 ++ (List.range 4).map s.dpllState ++ [s.linkState, s.mtStat] ++ leBytes src 2 }
  ({ s with bbx := { s.bbx with contained := 0, corrected := 0 } } : State).bbxPush e

/-- 3,600 s in the units of the STC. -/
def healthPeriod : Nat := 3600 * 1000000000 * 65536

/-- A HEALTH entry falls due every 3,600 s of the STC from READY (R441, Table 17.5). -/
def State.healthDue (s : State) : State :=
  match s.boot.healthAt with
  | none => s
  | some at_ =>
    if 0 ≤ sgn 64 (wrap 64 ((s.stc : Int) - at_)) then
      ({ s with boot := { s.boot with healthAt := some ((at_ + healthPeriod) % 2 ^ 64) } } : State).health
    else s

/-! ### Commands (R443, R444) -/

/-- Bytes of BBX_BUF[k]. -/
def State.bbxBuf (s : State) (k o n : Nat) : List Nat :=
  (List.range n).map (fun i => bits (s.get .bbx (BBX.BBX_BUF_DATA.at2 k ((o + i) / 4))) (8 * ((o + i) % 4)) 8)

/-- Write bytes to BBX_BUF[k] from word 0. -/
def State.setBbxBuf (s : State) (k : Nat) (l : List Nat) : State :=
  (List.zip (List.range 256) (chunks 4 256 l)).foldl (fun s e => s.put .bbx (BBX.BBX_BUF_DATA.at2 k e.1) (packBytes e.2)) s

/-- READ: STATUS, RSP0 and the state. -/
def State.bbxRead (s : State) (k arg0 arg1 : Nat) : Nat × Nat × State :=
  let off := (arg0 + 2 ^ 32 - s.bbx.tail) % 2 ^ 32
  if arg1 = 0 || 16 < arg1 then (0x0002, 0, s)
  else if s.bbx.log.length ≤ off then (0x0003, 0, s)
  else
    let es := (s.bbx.log.drop off).take arg1
    let bs := (List.range es.length).zip es |>.flatMap (fun e => entryBytes ((arg0 + e.1) % 2 ^ 32) e.2)
    (0, es.length, s.setBbxBuf k bs)

/-- ERASE_CHALLENGE: a new challenge voids the other master's (R444). -/
def State.bbxChallenge (s : State) (k : Nat) : Nat × Nat × State :=
  let r := s.random 32
  (0, 0, ({ r.2 with bbx := { r.2.bbx with challenge := if k = 0 then [some (beNat r.1), none] else [none, some (beNat r.1)] } } :
    State).setBbxBuf k r.1)

/-- ERASE; `ok` tells that the flash erases and programs (R444). -/
def State.bbxErase (s : State) (k : Nat) (ok : Bool) : Nat × Nat × State :=
  match nth s.bbx.challenge k none with
  | none => (0x0004, 0, s)
  | some c =>
    let s : State := { s with bbx := { s.bbx with challenge := setNth s.bbx.challenge k none } }
    let m := s.bbxBuf k 0 384
    match s.signerSlot m with
    | none => (0x0005, 0, s)
    | some slot =>
      if !pssVerify m (beBytes c 32 ++ s.uniqueBytes ++ [0x42, 0x42, 0x58, 0x45]) (s.bbxBuf k 384 384) then (0x0005, 0, s)
      else if !ok then (0x0006, 0, s)
      else
        let e : BbxEntry := { type := 0x0020, cls := 0, flags := 0, boot := s.vbat.bootCnt, stc := s.stc, payload := [k, slot] }
        let s : State := { s with bbx := { s.bbx with log := [], tail := s.bbxHead } }
        (0, 0, ((s.bbxAppend e).addSat .bbx BBX.ERASE_CNT 1).raise .bbx BBX.INT_STAT_ERASED)

/-- The outcome of black-box command `op`. -/
def State.bbxOp (s : State) (k op : Nat) (ok : Bool) : Nat × Nat × State :=
  let a0 := s.get .bbx (BBX.BBX_ARG0_ARG.at k)
  let a1 := s.get .bbx (BBX.BBX_ARG1_ARG.at k)
  match op with
  | 0x01 => s.bbxRead k a0 a1
  | 0x10 => s.bbxChallenge k
  | 0x11 => s.bbxErase k ok
  | 0x20 => (0, 0, s.health)
  | _ => (0x0001, 0, s)

/-- A GO of master `k` (R414, R443). -/
def State.bbxGo (s : State) (k op : Nat) (ok : Bool) : State :=
  if s.get .bbx (BBX.BBX_STAT_BUSY.at k) = 1 || s.get .bbx (BBX.BBX_STAT_DONE.at k) = 1 then
    (s.addSat .bbx (BBX.BBX_STAT_REJECTS.at k) 1).raise .bbx BBX.INT_STAT_REJECT
  else
    let r := (s.put .bbx (BBX.BBX_STAT_BUSY.at k) 1).bbxOp k op ok
    { r.2.2 with bbxRun := setNth r.2.2.bbxRun k (some (r.1, r.2.1)) }

/-- The command of master `k` ends. -/
def State.bbxFinish (s : State) (k status rsp : Nat) : State :=
  ({ s with bbxRun := setNth s.bbxRun k none } : State).puts .bbx
    [(BBX.BBX_STAT_BUSY.at k, 0), (BBX.BBX_STAT_DONE.at k, 1), (BBX.BBX_STAT_STATUS.at k, status),
     (BBX.BBX_RSP0_RSP.at k, rsp)] |>.raise .bbx BBX.INT_STAT_CMD_DONE

/-- The command of master `k` completes. -/
def State.bbxComplete (s : State) (k : Nat) : State :=
  match nth s.bbxRun k none with
  | some r => s.bbxFinish k r.1 r.2
  | none => s

/-- FUNC_INIT of the BBX page (R447). -/
def State.bbxInit (s : State) : State :=
  let s := if (nth s.bbxRun 0 none).isSome then s.bbxFinish 0 0x0007 0 else s
  let s := if (nth s.bbxRun 1 none).isSome then s.bbxFinish 1 0x0007 0 else s
  let s : State := { s with bbx := { s.bbx with challenge := [none, none] } }
  (s.setBbxBuf 0 (List.replicate 1024 0)).setBbxBuf 1 (List.replicate 1024 0)

end Sys2Proof.Machine
end

