-- ==== Sys2Proof/Machine/Boot.lean ====
section
/-! DEFINITION. Resets, start-up, images, the configuration store and the calibration record (chapters 16 and 18). -/

namespace Sys2Proof.Machine

/-! ### Images (R405, R411, R412) -/

/-- The little-endian word at byte `o` of `h`. -/
def le32 (h : List Nat) (o : Nat) : Nat := packBytes ((h.drop o).take 4)

/-- Fields of an image header (Table 16.4). -/
def hdrVersion (h : List Nat) : Nat := le32 h 8
def hdrSvn (h : List Nat) : Nat := le32 h 12
def hdrBodyLen (h : List Nat) : Nat := le32 h 16
def hdrHash (h : List Nat) : List Nat := (h.drop 20).take 32

/-- The largest body a slot of type `t` takes: the slot size less 4 KiB (R405). -/
def bodyLimit (t : Nat) : Nat := (match t with | 0 => 2 | 1 => 8 | 2 => 4 | _ => 8) * 2 ^ 20 - 4096

/-- The image slot of `bank` and type `t`. -/
def slotKey (bank t : Nat) : Nat := 4 * bank + t

/-- What a slot of the flash is known to hold. -/
def State.slotImg (s : State) (k : Nat) : ImgSlot := s.flash.slots.get k ⟨[], []⟩

/-- Set what a slot holds. -/
def State.setSlot (s : State) (k : Nat) (x : ImgSlot) : State :=
  { s with flash := { s.flash with slots := s.flash.slots.set k x ⟨[], []⟩ } }

/-- The header in slot `k`: as manufactured where nothing has been staged into it.
(DESIGN CHOICE, notes/assumptions/18.md) -/
def State.slotHdr (s : State) (k : Nat) : List Nat :=
  if (s.slotImg k).hdr = [] then Config.factoryHeader k else (s.slotImg k).hdr

/-- The header of the running image of type `t`. -/
def State.runHdr (s : State) (t : Nat) : List Nat := s.slotHdr (slotKey (bitAt s.flash.sel t) t)

/-- The signer's modulus `m`, named by key hash slot `i`, is accepted (R401, R412). -/
def State.signerOk (s : State) (i : Nat) (m : List Nat) : Bool :=
  i < 4 && bitAt s.otp.revoked i = 0 && nth s.otp.keyHash i none == some (sha256 m)

/-- The checks of R412 in their order: the STATUS of the first that fails, or 0. -/
def State.headerCheck (s : State) (h : List Nat) : Nat :=
  let t := nth h 4 0
  let m := (h.drop 128).take 384
  if le32 h 0 ≠ 0x4D495A54 || nth h 5 0 ≠ 1 || 4 ≤ t || nth h 84 0 + 256 * nth h 85 0 ≠ s.get .glb GLB.CHIP_ID_PART ||
      nth h 86 0 ≠ s.get .glb GLB.CHIP_ID_STEPPING || 64 < hdrSvn h || bodyLimit t < hdrBodyLen h then 0x0005
  else if !s.signerOk (nth h 6 0) m || !pssVerify m (h.take 512) ((h.drop 512).take 384) then 0x0006
  else if hdrSvn h < nth s.otp.rb t 0 then 0x0007
  else 0

/-- The boot checks of the image selected for type `t`; `ok` tells that the flash returned what was written to it (R412). -/
def State.bootCheck (s : State) (ok : Bool) (t : Nat) : Nat :=
  let x := s.slotImg (slotKey (bitAt s.flash.sel t) t)
  if x.hdr = [] then (if ok then 0 else 0x0008)
  else if s.headerCheck x.hdr ≠ 0 then s.headerCheck x.hdr
  else if nth x.hdr 4 0 ≠ t then 0x0005
  else if !ok || sha256 x.body ≠ hdrHash x.hdr then 0x0008
  else 0

/-- The measurements of the running images (Table 15.6). -/
def State.measures (s : State) : List Measure :=
  (List.range 4).map (fun t => ⟨hdrHash (s.runHdr t), hdrSvn (s.runHdr t)⟩)

/-- GLB.CHIP_ID, with GRADE from OTP (R448). -/
def State.chipId (s : State) : Nat :=
  s.get .glb GLB.CHIP_ID_PART * 65536 + s.get .glb GLB.CHIP_ID_STEPPING * 256 + s.otp.grade % 16 * 16

/-! ### Device resets (R434, R468) -/

/-- Every queued event is written, before a reset that the device itself performs.
(DEDUCED, notes/assumptions/107.md) -/
def State.drain (s : State) : State := (List.range 65).foldl (fun s _ => s.recordNext) s

/-- Everything restarts but what R434 keeps; `hold` is what holds the device in reset. GDDR6 loses its contents. A private
instruction of the test access port acts as BYPASS again, since the debug unlock ends (R403, R454). -/
def State.enterReset (s : State) (hold : Nat) : State :=
  { State.reset with
    now := s.now, resetCycle := s.now, fatal := s.fatal, fatalSrc := s.fatalSrc,
    evr := { s.evr with queue := [], lost := 0, fresh := false, armedAt := 0, nextAt := 0 },
    bbx := { s.bbx with queue := s.bbx.queue.map (fun e => { e with flags := e.flags ||| 2 }), challenge := [none, none],
                        contained := 0, corrected := 0 },
    otp := s.otp, vbat := s.vbat, identity := s.identity, flash := s.flash, powered := s.powered,
    keys := { State.reset.keys with tampActive := s.keys.tampActive },
    boot := { State.reset.boot with hold := hold, tap := if 5 ≤ s.boot.tap && s.otp.lc ≠ 0 then 0 else s.boot.tap },
    free := s.free, out := s.out, pending := s.pending }

/-- The restart of R407: ROM is entered and the boot is counted. (DESIGN CHOICE, notes/assumptions/17.md) -/
def State.restart (s : State) (cause : Nat) (tamp : Bool) : State :=
  let s : State := { s with
    resetCycle := s.now, boot := { s.boot with hold := 0, startAt := s.now },
    vbat := { s.vbat with bootCnt := (s.vbat.bootCnt + 1) % 2 ^ 32 } }
  ((s.put .upd UPD.BOOT_STAT_RESET_CAUSE cause).cursors).rootAtReset tamp

/-- A new boot record (R406). (DESIGN CHOICE, notes/assumptions/103.md) -/
def State.bootRecord (s : State) (sel next prev : Nat) (trial : Bool) : State :=
  { s with flash := { s.flash with sel, next, prev, trial, seq := (s.flash.seq + 1) % 2 ^ 32 } }

/-- A trial is missed: the selection returns to PREV, with a device reset (R420).
(DEDUCED, notes/assumptions/104.md) -/
def State.revert (s : State) (status : Nat) : State :=
  let f := s.flash
  let s := (s.bootRecord f.prev f.prev f.prev false).offer .upd 0x0040 0xFF status
  let s := (s.drain.enterReset 0).restart 3 s.keys.tampActive
  (s.puts .upd [(UPD.BOOT_STAT_REVERTED, 1), (UPD.REVERT_CNT, 1)]).raise .upd UPD.INT_STAT_REVERTED

/-- The device starts: a trial that was cut short is missed, and a new selection becomes one (R420). -/
def State.startUp (s : State) (cause : Nat) (tamp : Bool) : State :=
  let s := s.restart cause tamp
  if s.flash.trial then s.revert 0
  else if s.flash.next ≠ s.flash.sel then s.bootRecord s.flash.next s.flash.next s.flash.sel true
  else s

/-- The device resets and starts again at once. -/
def State.deviceReset (s : State) (cause : Nat) : State := (s.drain.enterReset 0).startUp cause s.keys.tampActive

/-- A write of GLB.SOFT_RESET by master `m` (R433).
(DEDUCED, notes/assumptions/107.md; PRESUMED, notes/assumptions/108.md) -/
def State.softReset (s : State) (m : Master) (v : Nat) : State :=
  if v = 0x7A520001 && (m = .pcie || m = .spi) && s.boot.soft.isNone then
    ({ s with boot := { s.boot with soft := some s.now } } : State).offer .glb 0x0004 m.num 0
  else s

/-- An accepted soft reset is performed once nothing is left to write to the black box, at most 100 ms after it (R433). -/
def State.softExecute (s : State) : State :=
  match s.boot.soft with
  | none => s
  | some at_ =>
    if (s.evr.queue.isEmpty && s.bbx.queue.isEmpty) || at_ + cyclesPerSec / 10 ≤ s.now then s.deviceReset 2 else s

/-- A real fatal fault on the GLB page, after which the device holds itself in reset (R460, R466). -/
def State.fatalHold (s : State) (hold : Nat) : State := ((s.fault .glb .fatal 0 0).drain).enterReset hold

/-- Power-good: the latches of the VBAT domain are reported, and start-up begins (R386, R458). -/
def State.powerGood (s : State) (tamp : Bool) : State :=
  (({ s with powered := true } : State).startUp 0 tamp).tamperReport

/-- The rails are removed and VDDIO held low (R429, R459, R468); `vbatLost` when VBAT is removed too. -/
def State.powerCycle (s : State) (vbatLost : Bool) : State :=
  let head := s.evrHead
  let s := s.enterReset 3
  let s : State := { s with
    powered := false, fatal := [], fatalSrc := none,
    evr := { s.evr with ring := [], tail := head },
    bbx := { s.bbx with queue := [], lost := 0, newestSent := false } }
  if vbatLost then
    { s with vbat := { State.reset.vbat with bootCnt := 0 }, identity := none, evr := { s.evr with tail := 0 } }
  else s

/-! ### Configuration store and calibration (R423 to R425) -/

/-- Version of the running CTL. -/
def State.ctl (s : State) : Nat := hdrVersion (s.runHdr 1)

/-- The tag of a record has its MIGRATION_DONE. -/
def State.tagDone (s : State) (r : CfgRec) : Bool :=
  r.tag.isNone || s.flash.cfg.any (fun x => x.key = 0x7FFF && x.tag == r.tag)

/-- The records of `key` that count. -/
def State.cfgRecs (s : State) (key : Nat) : List CfgRec := s.flash.cfg.filter (fun r => r.key = key && s.tagDone r)

/-- The newest of the records with the highest FMT_VER. -/
def newestRec (l : List CfgRec) : Option CfgRec :=
  l.foldl (fun (best : Option CfgRec) r =>
    match best with
    | none => some r
    | some b => if b.fmt ≤ r.fmt then some r else best) none

/-- The value of a key (R423); host records are held unread, so the newest one counts. -/
def State.cfgValue (s : State) (key : Nat) : Option (List Nat) :=
  (newestRec ((s.cfgRecs key).filter (fun r => 0x8000 ≤ key || Config.reads s.ctl key r.fmt))).map (·.body)

/-- A record is appended. -/
def State.cfgAppend (s : State) (key fmt : Nat) (body : List Nat) (tag : Option Nat) : State :=
  { s with flash := { s.flash with
      cfg := s.flash.cfg ++ [{ key, fmt, seq := s.flash.cfgSeq, retired := false, tag, body }], cfgSeq := s.flash.cfgSeq + 1 } }

/-- The format version new records of `key` have. -/
def State.cfgFmt (s : State) (key : Nat) : Nat := if 0x8000 ≤ key then 0 else Config.fmtTop s.ctl key

/-- Keys that the running CTL reads in a higher version than the store holds (R424). -/
def State.cfgOld (s : State) : List Nat :=
  [1, 2, 3].filter (fun k => match newestRec (s.cfgRecs k) with
    | some r => r.fmt < Config.fmtTop s.ctl k
    | none => false)

/-- The migration of R424: new records, MIGRATION_DONE, and RETIRED in the superseded ones. -/
def State.migrate (s : State) : State :=
  let keys := s.cfgOld
  if keys.isEmpty then s
  else
    let tag := some s.flash.seq
    let olds := s.flash.cfg
    let s' := keys.foldl (fun (x : State) k =>
      match newestRec (s.cfgRecs k) with
      | some r => x.cfgAppend k (Config.fmtTop s.ctl k) (Config.migrate s.ctl k r.body) tag
      | none => x) s
    let s' := s'.cfgAppend 0x7FFF 0 [] tag
    let s' : State := { s' with flash := { s'.flash with cfg := s'.flash.cfg.map (fun r =>
      if keys.contains r.key && olds.contains r then { r with retired := true } else r) } }
    s'.addSat .upd UPD.MIG_CNT 1

/-- CONFIRM erases retired records that no CTL of SEL or PREV reads (R424). -/
def State.cfgErase (s : State) : State :=
  let vers := [s.ctl, hdrVersion (s.slotHdr (slotKey (bitAt s.flash.prev 1) 1))]
  { s with flash := { s.flash with cfg := s.flash.cfg.filter (fun r =>
      !r.retired || vers.any (fun v => Config.reads v r.key r.fmt)) } }

/-- A calibration item exists (Table 16.8). -/
def calKnown (item : Nat) : Bool :=
  match item / 65536 with
  | 1 => item % 65536 < 1224
  | 2 => item % 65536 = 0
  | 3 => item % 65536 < 48
  | _ => false

/-- BOOT_WD in seconds (R420, Table 16.7). -/
def State.bootWd (s : State) : Nat :=
  match s.cfgValue 2 with
  | some b => packBytes (b.take 4)
  | none => 300

/-- Seconds left in the trial (BOOT_WD_LEFT). -/
def State.bootWdLeft (s : State) : Nat :=
  if s.flash.trial then s.bootWd - (s.now - s.boot.startAt) / cyclesPerSec else 0

/-! ### Start-up phases (Table 16.2) -/

/-- BOOT_STAT.PHASE. -/
def State.phase (s : State) : Nat := s.get .upd UPD.BOOT_STAT_PHASE

/-- An image check fails: a trial reverts, any other boot enters RECOVERY (R420, R421). -/
def State.bootFail (s : State) (status : Nat) : State :=
  if s.flash.trial then s.revert status
  else (s.puts .upd [(UPD.BOOT_STAT_PHASE, 0xF), (UPD.BOOT_STAT_RECOVERY, 1)]).offer .upd 0x0040 0xFE status

/-- OTP gives each port its MAC address. -/
def State.macsFromOtp (s : State) : State := (List.finRange 48).foldl State.macFromOtp s

/-- The control cores start, and firmware serves the mailboxes; the pin rate of GDDR6 is taken (Table 16.2, Table 16.7). -/
def State.coresStart (s : State) : State :=
  let rate := match s.cfgValue 1 with | some b => nth b 0 0 | none => 0
  (({ s with boot := { s.boot with coreAt := s.now } } : State).puts .hif
    [(HIF.MBX_STAT_FW_READY.at 0, 1), (HIF.MBX_STAT_FW_READY.at 1, 1)]).put .gmc GMC.GMC_STAT_RATE rate

/-- The start-up squelch lifts: an Ignada lane held in DETECT starts its attempt, or passes to UP where its receive half is
not Ignada, and a port held in DISABLED follows Table 6.2 under its committed mode (R84, R90, R155, R408). -/
def State.squelchLift (s : State) : State :=
  let held := (List.finRange 8).map braceLane ++ s.lanes.filterMap (fun e => idx? 1032 e.1)
  let s := held.eraseDups.foldl (fun s n => if s.ign n = 1 then s.detect n else s) s
  (List.finRange 48).foldl (fun s p =>
    if s.link p = 0 && s.ethMode p ≠ 0 && s.running (.eth p) then s.ethAfresh p else s) s

/-- The mode that PORT_BOOT gives port `p` becomes live, and the port follows Table 6.2 (R409, Table 16.7).
(DEDUCED, notes/assumptions/106.md) -/
def State.portBoot (s : State) (p : PortNo) (b : Nat) : State :=
  let l := [(ETH.ETH_MODE_MODE, b % 8), (ETH.ETH_MODE_FEC25, bits b 4 2), (ETH.ETH_MODE_AN_EN, bits b 6 1),
    (ETH.ETH_MODE_TRAIN_EN, bits b 7 1)]
  let s' := l.foldl (fun s e => (s.put (.eth p) e.1 e.2).putLive (.eth p) e.1 e.2) s
  s'.ethFired s p

/-- The work of SETTINGS (R409, R424, R425, Table 17.3); `calOk` tells that a copy of the calibration record is valid. -/
def State.settings (s : State) (calOk : Bool) : State :=
  let s := s.migrate
  let s : State := if calOk then s else { s with flash := { s.flash with cal := none } }
  let s := if s.flash.cal.isNone then (s.raise .upd UPD.INT_STAT_CAL_BAD).fault .upd .contained 0 0 else s
  let s := (List.range 48).foldl State.useLat s
  let s := match s.cfgValue 3 with
    | some b => (List.finRange 48).foldl (fun (s : State) (p : Fin 48) =>
      if p.val < b.length then s.portBoot p (nth b p.val 0) else s) s
    | none => s
  s.offer .upd 0x0002 (s.get .upd UPD.BOOT_STAT_RESET_CAUSE) s.vbat.bootCnt

/-- The training of GDDR6 has ended: every channel passed, or a fatal fault tells of one that did not (R322). -/
def State.gmcDone (s : State) : Bool := s.get .gmc GMC.GMC_STAT_READY = 1 || s.get .gmc HDR.FAULT_STAT_FATAL_REAL = 1

/-- The lane swing trims of the calibration record are applied, or nominal ones where no copy is valid (R425, Table 16.8). -/
def State.takeTrims (s : State) (calOk : Bool) : State :=
  let t := if calOk then (s.flash.cal.getD []).filter (fun e => e.1 / 65536 = 1) else []
  { s with boot := { s.boot with trims := t } }

/-- A start-up phase ends (Table 16.2): that of GDDR6 with its training. -/
def State.bootPhaseEnd (s : State) (ok calOk : Bool) : State :=
  let ph := s.phase
  let next := s.put .upd UPD.BOOT_STAT_PHASE (ph + 1)
  match ph with
  | 1 => next.macsFromOtp
  | 2 => if s.bootCheck ok 0 = 0 then next else s.bootFail (s.bootCheck ok 0)
  | 3 =>
    match ([1, 2, 3].map (s.bootCheck ok)).find? (· ≠ 0) with
    | some st => s.bootFail st
    | none => next.coresStart
  | 4 => if s.gmcDone then next else s
  | 5 => ((next.takeTrims calOk).squelchLift).settings calOk
  | _ => s

/-- READY rises (R407). -/
def State.readyRise (s : State) : State :=
  if s.phase ≠ 6 then s
  else
    let ms := (openDiv 14 ((s.now - s.boot.startAt : Nat) : Int) 1188000).toNat
    let s := s.puts .upd [(UPD.BOOT_STAT_PHASE, 7), (UPD.BOOT_TIME_MS, sat 16 ms)]
    let s : State := { s with boot := { s.boot with healthAt := some ((s.stc + healthPeriod) % 2 ^ 64) } }
    let s := (List.finRange 16).foldl (fun x b => x.tdmFired s b) s
    s.refoFollow.offer .upd 0x0003 (s.get .upd UPD.BOOT_TIME_MS) 0

/-- BOOT_WD has passed without CONFIRM (R420). -/
def State.bootWdOver (s : State) : State :=
  if s.flash.trial && s.boot.startAt + s.bootWd * cyclesPerSec ≤ s.now then s.revert 0 else s

/-- An instruction is loaded into the test access port (R454): without the debug unlock, a private one acts as BYPASS. -/
def State.tapLoad (s : State) (i : Nat) : State :=
  let i := if 5 ≤ i && !s.debugOpen then 0 else i
  let s : State := { s with boot := { s.boot with tap := i } }
  if 2 ≤ i then s.unusual else s

end Sys2Proof.Machine
end

