-- ==== Sys2Proof/Machine/Bus.lean ====
section
/-! DEFINITION. The PCIe endpoint, the mailboxes to firmware, and the bus matrix (chapter 14). -/

namespace Sys2Proof.Machine

/-! ### PCIe endpoint (R354, R357, R364) -/

/-- The MSI-X table returns to its reset values. (PRESUMED, notes/assumptions/93.md) -/
def State.msixReset (s : State) : State :=
  (List.range 1024).foldl (fun s i => s.setWord (0x4000 + 4 * i) (resetOf (0x4000 + 4 * i))) s

/-- A transaction of master `m` toward `target` is completed with `nulled` beats of strobes low (R380). -/
def State.mreset (s : State) (m target nulled : Nat) : State :=
  let s := (s.addSat .busm BUSM.MRESET_CNT 1).raise .busm BUSM.INT_STAT_MRESET
  if s.get .busm BUSM.MRESET_LOG_VALID = 1 then s
  else s.puts .busm [(BUSM.MRESET_LOG_VALID, 1), (BUSM.MRESET_LOG_MASTER, m), (BUSM.MRESET_LOG_NULLED, nulled),
    (BUSM.MRESET_LOG_TARGET, target)]

/-- The locks that master `m` holds are released, without the error of R375 (R380). -/
def State.unlockAll (s : State) (m : Nat) : State :=
  { s with bus := { s.bus with
      locks := s.bus.locks.map (fun l => match l with | some (h, _) => if h = m then none else l | none => none) } }

/-- A reset of master `m`: the transaction in flight, when there is one, is completed (R380). -/
def State.masterReset (s : State) (m : Nat) (flight : Option (Nat × Nat)) : State :=
  let s := s.unlockAll m
  match flight with
  | some (target, nulled) => s.mreset m target nulled
  | none => s

/-- PERST_N, a hot reset, link-down or FLR: the endpoint alone is reset (R357). -/
def State.pcieReset (s : State) (flight : Option (Nat × Nat)) : State :=
  let s : State := { s.msixReset with insvc := [], msixMask := false, pcieReady := false }
  (s.puts .hif [(HIF.HIF_STAT_DEGRADED, 0), (HIF.HIF_STAT_MSIX_EN, 0), (HIF.HIF_STAT_LINK_UP, 0), (HIF.HIF_STAT_WIDTH, 0),
    (HIF.HIF_STAT_SPEED, 0)]).masterReset 0 flight

/-- The endpoint becomes ready for configuration requests (R357). -/
def State.pcieIsReady (s : State) : State :=
  if s.pcieReady then s else ({ s with pcieReady := true } : State).raise .hif HIF.INT_STAT_PCIE_RESET

/-- Words of the configuration space that R354 and R355 give: the IDs, the revision and class, the BARs that read 0 and the
expansion ROM BAR, the subsystem IDs and the interrupt pin. -/
def State.pcieConfig (s : State) (o : Nat) : Option Word :=
  match o with
  | 0x00 => some 0x10241F2B
  | 0x08 => some (BitVec.ofNat 32 (0x04800000 + s.get .glb GLB.CHIP_ID_STEPPING))
  | 0x14 | 0x20 | 0x24 | 0x30 => some 0
  | 0x2C => some (BitVec.ofNat 32 s.otp.pcieSub)
  | 0x3C => some 0
  | _ => none

/-- The link reaches L0 with `width` lanes at speed code `speed` (R354). A return to L0 that no reset of the endpoint came before
is a recovery (Table 14.7). (DESIGN CHOICE, notes/assumptions/92.md) -/
def State.pcieUp (s : State) (width speed : Nat) : State :=
  let low := width < 4 || speed < 2
  let back := s.get .hif HIF.HIF_STAT_WIDTH ≠ 0 && s.get .hif HIF.HIF_STAT_LINK_UP = 0
  let s := if back then s.addSat .hif HIF.RETRAIN_CNT 1 else s
  let s := (s.puts .hif [(HIF.HIF_STAT_LINK_UP, 1), (HIF.HIF_STAT_WIDTH, width), (HIF.HIF_STAT_SPEED, speed),
    (HIF.HIF_STAT_DEGRADED, b2n low)]).raise .hif HIF.INT_STAT_PCIE_UP
  if low then s.raise .hif HIF.INT_STAT_PCIE_DEGRADED else s

/-- The link leaves L0. -/
def State.pcieDown (s : State) : State :=
  if s.get .hif HIF.HIF_STAT_LINK_UP = 0 then s else (s.put .hif HIF.HIF_STAT_LINK_UP 0).raise .hif HIF.INT_STAT_PCIE_DOWN

/-- MSI-X Enable and the function mask of the configuration space take these values, and vector `vec`, when one is given,
is unmasked (R364). (DESIGN CHOICE, notes/assumptions/92.md) -/
def State.msixSet (s : State) (enable fmask : Bool) (vec : Option Nat) : State :=
  let s := ({ s with msixMask := fmask } : State).put .hif HIF.HIF_STAT_MSIX_EN (b2n enable)
  match vec with
  | some v => s.tput (TBL.MSIX_CTRL_MASK.at v) 0
  | none => s

/-- A write of `v` to HIF_EOI (R364). -/
def State.eoi (s : State) (v : Nat) : State := { s with insvc := s.insvc.filter (· ≠ v) }

/-- FUNC_INIT of the HIF page (R381). -/
def State.hifInit (s : State) : State := { s with insvc := [] }

/-! ### Mailboxes (R369 to R371, Table 14.4) -/

/-- How a command ends: STATUS, response payload and the state. -/
abbrev MbxEnd := Nat × List Nat × State

/-- The command ends with `st` where one of the listed conditions fails; their order is left open. -/
def mbxChecks (l : List (Bool × Nat)) (s : State) (ok : MbxEnd) : MbxEnd :=
  let fails := (l.filter (·.1)).map (·.2)
  match fails[Config.pick 4 fails.length % fails.length]? with
  | some st => (st, [], s)
  | none => ok

/-- A configuration key the commands take (Table 16.7). -/
def cfgKey (k : Nat) : Bool := (1 ≤ k && k ≤ 3) || (0x8000 ≤ k && k ≤ 0x80FF)

/-- A record of `key` that Table 16.7 allows. (DEDUCED, notes/assumptions/95.md) -/
def cfgBody (key : Nat) (ws : List Nat) : Bool :=
  match key with
  | 1 => ws.length = 1 && nth ws 0 0 ≤ 2
  | 2 => ws.length = 1 && 10 ≤ nth ws 0 0 && nth ws 0 0 ≤ 3600
  | 3 => ws.length ≤ 12 && (ws.flatMap (fun w => leBytes w 4)).all (fun b => b % 8 < 6 && bits b 4 2 < 3)
  | _ => ws.length ≤ 62

/-- A value of a calibration item that Table 16.8 allows. (DEDUCED, notes/assumptions/95.md) -/
def calValue (kind : Nat) (ws : List Nat) : Bool :=
  match kind with
  | 1 => (sgn 32 (nth ws 0 0)).natAbs ≤ 20
  | 3 => ws.all (· < 65536)
  | _ => true

/-- GET_HEALTH: the die temperature is a free value of the sensor with its trim added (Table 16.8). -/
def State.mbxHealth (s : State) : MbxEnd :=
  let r := s.fresh
  (0, [((Config.freeValue r.1 32).toNat + nth (s.calItem 0x20000) 0 0) % 2 ^ 32, (r.2.now - r.2.boot.coreAt) / cyclesPerSec, 0xF], r.2)

/-- CFG_WRITE (R423); `ok` tells that the flash takes the record. -/
def State.mbxCfgWrite (s : State) (k : Nat) (ws : List Nat) (ok : Bool) : MbxEnd :=
  let key := nth ws 0 0
  let body := ws.drop 1
  mbxChecks [(k = 1, 0x0004), (ws.isEmpty, 0x0002), (s.get .upd UPD.UPD_SESS_OPEN = 1, 0x0005),
      (!ws.isEmpty && !(cfgKey key && cfgBody key body), 0x0003)] s
    (if !ok then (0x0007, [], s)
     else (0, [], s.cfgAppend key (s.cfgFmt key) (body.flatMap (fun w => leBytes w 4)) none))

/-- CAL_WRITE (R425). -/
def State.mbxCalWrite (s : State) (k : Nat) (ws : List Nat) (ok : Bool) : MbxEnd :=
  let item := nth ws 0 0
  let vs := ws.drop 1
  mbxChecks [(k = 1, 0x0004), (ws.isEmpty || (calKnown item && ws.length ≠ 1 + calLen (item / 65536)), 0x0002),
      (s.get .upd UPD.UPD_SESS_OPEN = 1, 0x0005),
      (!ws.isEmpty && (!calKnown item || (vs.length = calLen (item / 65536) && !calValue (item / 65536) vs)), 0x0003)] s
    (if !ok then (0x0007, [], s)
     else
       let t := s.flash.cal.getD []
       let s : State := { s with flash := { s.flash with
         cal := some (t.set item vs (List.replicate (calLen (item / 65536)) 0)) } }
       (0, [], if item / 65536 = 3 then s.useLat (item % 65536) else s))

/-- The outcome of mailbox command `cmd` in mailbox `k` with payload `ws`. -/
def State.mbxOp (s : State) (k cmd : Nat) (ws : List Nat) (ok : Bool) : MbxEnd :=
  match cmd with
  | 0x0001 => (0, ws, s)
  | 0x0002 =>
    mbxChecks [(ws ≠ [], 0x0002)] s
      (0, (List.range 4).map (fun t => hdrVersion (s.runHdr t)) ++ (List.range 4).map (fun t => hdrSvn (s.runHdr t)), s)
  | 0x0003 => mbxChecks [(ws ≠ [], 0x0002)] s s.mbxHealth
  | 0x0010 =>
    mbxChecks [(ws.length ≠ 1, 0x0002), (ws ≠ [] && !cfgKey (nth ws 0 0), 0x0003)] s
      (0, (chunks 4 63 ((s.cfgValue (nth ws 0 0)).getD [])).map packBytes, s)
  | 0x0011 => s.mbxCfgWrite k ws ok
  | 0x0020 =>
    mbxChecks [(ws.length ≠ 1, 0x0002), (ws ≠ [] && !calKnown (nth ws 0 0), 0x0003)] s (0, s.calItem (nth ws 0 0), s)
  | 0x0021 => s.mbxCalWrite k ws ok
  | _ => (0x0001, [], s)

/-- One more REJECTS, with MBX_REJECT when a GO is rejected (R370). -/
def State.mbxReject (s : State) (k : Nat) (go : Bool) : State :=
  let s := s.addSat .hif (HIF.MBX_STAT_REJECTS.at k) 1
  if go then s.raise .hif HIF.INT_STAT_MBX_REJECT else s

/-- A GO in mailbox `k` (R370): the request words are taken as they stand. (DEDUCED, notes/assumptions/6.md) -/
def State.mbxGo (s : State) (k : Nat) (ok : Bool) : State :=
  if s.get .hif (HIF.MBX_STAT_FW_READY.at k) = 0 || s.get .hif (HIF.MBX_STAT_BUSY.at k) = 1 ||
      s.get .hif (HIF.MBX_STAT_DONE.at k) = 1 then s.mbxReject k true
  else
    let w0 := s.get .hif (HIF.MBX_REQ_WORD.at2 k 0)
    let len := bits w0 8 8
    let ws := (List.range len).map (fun i => s.get .hif (HIF.MBX_REQ_WORD.at2 k (i + 1)))
    let s := s.puts .hif [(HIF.MBX_STAT_BUSY.at k, 1), (HIF.MBX_STAT_TAG.at k, w0 % 256)]
    let r := if 63 < len then (0x0002, [], s) else s.mbxOp k (w0 / 65536) ws ok
    { r.2.2 with mbx := setNth r.2.2.mbx k (some (r.1, r.2.1)), mbxAt := setNth r.2.2.mbxAt k s.now }

/-- ABORT in mailbox `k` while BUSY (R371). (DEDUCED, notes/assumptions/94.md) -/
def State.mbxAbort (s : State) (k : Nat) : State :=
  if s.get .hif (HIF.MBX_STAT_BUSY.at k) = 1 then { s with mbx := setNth s.mbx k (some (0x0006, [])) } else s

/-- A write of MBX_CTRL[k] with these bits. -/
def State.mbxCtrl (s : State) (k : Nat) (go abort ok : Bool) : State :=
  let s := if abort then s.mbxAbort k else s
  if go then s.mbxGo k ok else s

/-- The time of a mailbox command, in microseconds (Table 14.4); none for an unknown one. -/
def mbxTime (cmd : Nat) : Option Nat :=
  match cmd with
  | 0x0001 | 0x0002 | 0x0003 => some 1000
  | 0x0010 | 0x0020 => some 50000
  | 0x0011 | 0x0021 => some 200000
  | _ => none

/-- The firmware answers mailbox `k` (R370). A command that failed with 0x0007, or that exceeded its time without having been
aborted, is an event (Table 17.3), whose detail is left open. -/
def State.mbxRespond (s : State) (k : Nat) : State :=
  match nth s.mbx k none with
  | none => s
  | some (st, ws) =>
    let tag := s.get .hif (HIF.MBX_STAT_TAG.at k)
    let words := (st * 65536 + ws.length * 256 + tag) :: ws
    let s := (List.zip (List.range 64) words).foldl (fun s e => s.put .hif (HIF.MBX_RSP_WORD.at2 k e.1) e.2) s
    let s := (s.puts .hif [(HIF.MBX_STAT_BUSY.at k, 0), (HIF.MBX_STAT_DONE.at k, 1)]).raise .hif
      (if k = 0 then HIF.INT_STAT_MBX0_DONE else HIF.INT_STAT_MBX1_DONE)
    let s : State := { s with mbx := setNth s.mbx k none }
    let cmd := s.get .hif (HIF.MBX_REQ_WORD.at2 k 0) / 65536
    if st = 0x0007 || (st ≠ 0x0006 && s.overtime (nth s.mbxAt k 0) (mbxTime cmd)) then
      let r := s.fresh
      r.2.offer .hif 0x0030 cmd (Config.freeValue r.1 32).toNat
    else s

/-- 10 ms more have passed while the control cores run (R371). -/
def State.heartbeat (s : State) : State :=
  if 4 ≤ s.phase && s.phase ≤ 7 then s.add .hif HIF.FW_HEARTBEAT_COUNT 1 else s

/-! ### Bus matrix (R372 to R380) -/

/-- PRIO[t].PRIO_M[m]. -/
def State.prio (s : State) (t m : Nat) : Nat := bits (s.get .busm (BUSM.PRIO.at t)) (3 * m) 3

/-- The largest of a list. -/
def maxOf (l : List Nat) : Nat := l.foldl max 0

/-- The waiter granted at target `t`, and whether it was granted for its age (R373). Where two aged masters have waited
equally long, which comes first is left open. -/
def State.choose (s : State) (t : Nat) (ws : List Waiter) : Option (Waiter × Bool) :=
  let aged := ws.filter (fun w => max 1 (s.get .busm BUSM.AGE_LIM_CYC) < w.waited)
  if aged ≠ [] then
    let l := aged.filter (fun w => w.waited = maxOf (aged.map (·.waited)))
    (l[Config.pick 7 l.length % l.length]?).map (fun w => (w, true))
  else
    let l := ws.filter (fun w => s.prio t w.m = maxOf (ws.map (fun w => s.prio t w.m)))
    let order := (List.range 9).map (fun i => (nth s.bus.last t 0 + 1 + i) % 9)
    (order.findSome? (fun m => l.find? (fun w => w.m = m))).map (fun w => (w, false))

/-- WAIT_MAX: the longest wait, with its target in bits 26:24 (Table 14.9). -/
def State.waitMax (s : State) (t n : Nat) : State :=
  if s.get .busm BUSM.WAIT_MAX % 2 ^ 24 < n then s.put .busm BUSM.WAIT_MAX (sat 24 n + t * 2 ^ 24) else s

/-- The master with number `n`. -/
def masterOf (n : Nat) : Option Master :=
  match n with
  | 0 => some .pcie
  | 1 => some .spi
  | 6 => some .efner
  | 7 => some .dma
  | 8 => some .debug
  | k => (idx? 4 (k - 2)).map .core

/-- Master `m` may access target `t` (Table 14.5); the debug master only while it is unlocked. -/
def State.mayTarget (s : State) (m t : Nat) : Bool :=
  match m with
  | 0 => t = 0 || t = 4 || t = 5
  | 1 => t = 0
  | 6 => true
  | 7 => t = 1 || t = 4 || t = 5
  | 8 => t ≠ 2 && s.debugOpen
  | _ => t ≠ 2

/-- Target `t` grants one of the waiting masters, and its transaction runs to its last beat (R372 to R376). -/
def State.grant (s : State) (t : Nat) (ws : List Waiter) : State :=
  let s := if ws.any (fun w => w.m = 0 && w.kind = 1) then s.addSat .hif HIF.UR_CNT 1 else s
  let ws := ws.filter (fun w => w.m < 9 && s.mayTarget w.m t && !(w.m = 0 && w.kind = 1))
  let lock := nth s.bus.locks t none
  let ws := match lock with | some (h, _) => ws.filter (fun w => w.m = h) | none => ws
  match s.choose t ws with
  | none => s
  | some (w, aged) =>
    let s := (s.add .busm (BUSM.GRANT_CNT.at t) 1).poolUse 0xC t 1
    let s := if aged then (s.addSat .busm BUSM.AGED_CNT 1).raise .busm BUSM.INT_STAT_AGED else s
    let s := s.waitMax t w.waited
    let lock := if w.kind = 1 && w.m ≠ 1 then some (w.m, s.now) else if w.kind = 2 then none else lock
    let s : State := { s with bus := { s.bus with last := setNth s.bus.last t w.m, locks := setNth s.bus.locks t lock } }
    if s.bus.errNext.contains w.m then
      let s : State := { s with bus := { s.bus with errNext := s.bus.errNext.filter (· ≠ w.m) } }
      match masterOf w.m with
      | some m => s.emit (.accessErr m (w.kind = 2))
      | none => s
    else s

/-- A locked sequence has held target `t` for more than 4,096 cycles of 594 MHz (R375). (DEDUCED, notes/assumptions/96.md) -/
def State.lockBreak (s : State) (t : Nat) : State :=
  match nth s.bus.locks t none with
  | none => s
  | some (m, at_) =>
    if s.now ≤ at_ + 2 * 4096 then s
    else
    let s : State := { s with bus := { s.bus with
      locks := setNth s.bus.locks t none, errNext := insertNat s.bus.errNext m } }
    let s := if s.get .busm BUSM.LOCK_LOG_VALID = 1 then s
      else s.puts .busm [(BUSM.LOCK_LOG_VALID, 1), (BUSM.LOCK_LOG_MASTER, m), (BUSM.LOCK_LOG_TARGET, t)]
    ((s.addSat .busm BUSM.LOCK_BREAK_CNT 1).raise .busm BUSM.INT_STAT_LOCK_BREAK).fault .busm .contained 0 0

/-- The watchdog of control core `k` fires (R379, Table 17.3). -/
def State.coreDog (s : State) (k : Nat) (flight : Option (Nat × Nat)) : State :=
  (s.offer .busm 0x0031 k 0).masterReset (2 + k) flight

/-- FUNC_INIT of the BUSM page clears the logs (R382). -/
def State.busmInit (s : State) : State :=
  [BUSM.ERR_LOG_VALID, BUSM.ERR_ADDR_LO_ADDR, BUSM.ERR_ADDR_HI_ADDR, BUSM.LOCK_LOG_VALID, BUSM.MRESET_LOG_VALID].foldl
    (fun s f => s.setWord (Page.base .busm + f.off) 0) s

end Sys2Proof.Machine
end

