-- ==== Sys2Proof/Machine/Pools.lean ====
section
/-! DEFINITION. What pages hold of the audited pools: tenons, flow slots, audio flows, ASRC channels and frame-buffer
descriptors (R16 to R22, R52, R299, R312). -/

namespace Sys2Proof.Machine

/-- The pages that `sh` or `lv` lists and that lie in bay `b` or draw on its pools. -/
def State.bayPages (s : State) (b : Nat) : List Page :=
  let nums := ((s.sh ++ s.lv).filterMap (fun e => if e.1 < 0x02000000 then some (e.1 / 4096) else none)).foldl insertNat []
  let own := nums.filterMap (fun n =>
    match pageOf n with
    | some (.lane m) => if m.val < 1024 && m.val / 64 = b then some (Page.lane m) else none
    | some (.rxSlot m) => if m.val / 64 = b then some (Page.rxSlot m) else none
    | some (.txSlot m) => if m.val / 64 = b then some (Page.txSlot m) else none
    | some (.eng e) => if e.val / 4 = b then some (Page.eng e) else none
    | _ => none)
  match idx? 16 b with
  | some i => own ++ [Page.flowaRx i, Page.flowaTx i, Page.xwpMap]
  | none => own

/-- The enabled flows of a FLOWA page. -/
def State.flowCount' (s : State) (tx lv : Bool) (b : Fin 16) : Nat :=
  ((s.flowListed tx).filter (fun n => flowBay n = b && s.flowEn tx lv n)).length

/-- What page `p` uses of pool `pool` (codes of Table 2.7) of bay `b` in a view (R16 to R18). -/
def State.pageUse (s : State) (v : View) (pool b : Nat) (p : Page) : Nat :=
  match pool, p with
  | 0, .lane n => s.laneSrcTenons (!v p) n
  | 0, .rxSlot n =>
    if s.vget v (.rxSlot n) RXS.RX_CTRL_EN = 1 then tenCount (s.vget v (.rxSlot n) RXS.RX_CTRL_TEN) else 0
  | 0, .eng e => s.engOut v e
  | 0, .xwpMap => ((List.range 4).map (fun i => s.srcTenons v b (132 + i))).foldl (· + ·) 0
  | 1, .lane n => s.laneDstTenons (!v p) n
  | 1, .txSlot n =>
    if s.vget v (.txSlot n) TXS.TX_CTRL_EN = 1 then tenCount (s.vget v (.txSlot n) TXS.TX_CTRL_TEN) else 0
  | 1, .eng e => s.engIn v e
  | 2, .rxSlot n => s.vget v (.rxSlot n) RXS.RX_CTRL_EN
  | 3, .txSlot n => s.vget v (.txSlot n) TXS.TX_CTRL_EN
  | 4, .flowaRx i => s.flowCount' false (!v p) i
  | 5, .flowaTx i => s.flowCount' true (!v p) i
  | _, _ => 0

/-- The size of a pool (Tables 1.5 to 1.7). -/
def poolSize (pool : Nat) : Nat := match pool with | 0 | 1 => 128 | 2 | 3 => 64 | _ => 256

/-- Items of a pool held in bay `b`: every page at the larger of its live use and its use in the view (R20). -/
def State.held (s : State) (v : View) (pool b : Nat) : Nat :=
  ((s.bayPages b).map (fun p => max (s.pageUse liveView pool b p) (s.pageUse v pool b p))).foldl (· + ·) 0

/-- Items in live use. -/
def State.liveUse (s : State) (pool b : Nat) : Nat := s.held liveView pool b

/-- The bays whose pools an arm of a page can change. -/
def State.baysOf (s : State) (p : Page) : List Nat :=
  match p with
  | .lane n => if n.val < 1024 then [n.val / 64] else []
  | .rxSlot n | .txSlot n => [n.val / 64]
  | .eng e => [e.val / 4]
  | .flowaRx b | .flowaTx b => [b.val]
  | .xwpMap => List.range 16
  | .vtg _ => s.engListed.map (fun e => e.val / 4)
  | _ => []

/-- The bays of several pages, ascending. -/
def State.bays (s : State) (ps : List Page) : List Nat := (ps.flatMap s.baysOf).foldl insertNat []

/-- The pages with the lowest BAR0 offset first. -/
def lowest (ps : List Page) : Option Page :=
  ps.foldl (fun (m : Option Page) p =>
    match m with
    | none => some p
    | some q => if p.base < q.base then some p else some q) none

/-- The pool check of R20 over the pages `cand`, with the report of R21: `grp` is the group for a group arm. A VTG page whose
armed FORMAT alone raises what an engine uses is no adding member; where no member adds, the first is named.
(DESIGN CHOICE, notes/assumptions/117.md) -/
def State.poolCheck (s : State) (cand : List Page) (grp : Option Nat) : State × Bool :=
  let v := s.after cand
  let tooMany := (s.bays cand).findSome? (fun b =>
    ((List.range 6).find? (fun c => poolSize c < s.held v c b)).map (fun c => (b, c)))
  match tooMany with
  | none => (s, false)
  | some (b, c) =>
    let adds := cand.filter (fun p => s.pageUse liveView c b p < s.pageUse v c b p)
    let page := match lowest adds, cand with
      | some p, _ => p.num
      | none, p :: _ => p.num
      | none, [] => 0
    let s := s.raise .glb GLB.INT_STAT_POOL_REFUSED
    (if s.get .glb GLB.POOL_REFUSE_VALID = 1 then s
      else s.puts .glb [(GLB.POOL_REFUSE_VALID, 1), (GLB.POOL_REFUSE_GRP, b2n grp.isSome), (GLB.POOL_REFUSE_BAY, b),
        (GLB.POOL_REFUSE_POOL, c), (GLB.POOL_REFUSE_GROUP, grp.getD 0), (GLB.POOL_REFUSE_PAGE_NUM, page)], true)

/-- The ASRC channels that a live range or a range in the view includes (R299). -/
def State.asrcHeld (s : State) (v : View) : Nat :=
  (((s.asrcLive ++ s.asrcRanges v).flatMap AsrcRange.chans).foldl insertNat []).length

/-- A page's arm can change the ASRC channels held. -/
def asrcPage (p : Page) : Bool := match p with | .flowaRx _ | .tdm _ => true | _ => false

/-- `n` items were held and `m` are now. -/
def State.poolMove (s : State) (c i n m : Nat) : State :=
  if n < m then s.poolIssue c i (m - n) else if m < n then s.poolReturn c i (n - m) else s

/-- The counters of the pools that arms and fires of `pages` move, from what was held in `old` (R52). -/
def State.poolSync (s old : State) (pages : List Page) : State :=
  let v := s.after []
  let w := old.after []
  let t := (s.bays pages).foldl (fun t b =>
    (List.range 6).foldl (fun t c => t.poolMove c b (old.held w c b) (s.held v c b)) t) s
  let t := pages.foldl (fun t p =>
    match p with
    | .eng e => t.poolMove 0xB e.val (old.descHeld w e) (s.descHeld v e)
    | _ => t) t
  if pages.any asrcPage then t.poolMove 0xD 0 (old.asrcHeld w) (s.asrcHeld v) else t

end Sys2Proof.Machine
end

