-- ==== Sys2Proof/Machine/Receive.lean ====
section
/-! DEFINITION. The receive path of a MAC port: the order of checks, the pre-filter and flow classification
(R156 to R158, R164, R182 to R185, R217). -/

namespace Sys2Proof.Machine

/-- The broadcast address. -/
def broadcast : Nat := 2 ^ 48 - 1

/-- The address is a group address: the low bit of its first byte. -/
def isGroup (a : Nat) : Bool := bitAt a 40 = 1

/-- The MAC address of port `p`. (PRESUMED, notes/assumptions/20.md) -/
def State.macOf (s : State) (p : PortNo) : Nat :=
  s.live (.eth p) ETH.ETH_MAC_LO_MAC + s.live (.eth p) ETH.ETH_MAC_HI_MAC * 2 ^ 32

/-- A dropped frame leaves Table 6.3: its size bucket and the counter of the step.
(DEDUCED, notes/assumptions/60.md) -/
def State.rxDrop (s : State) (p : PortNo) (f : RxFrame) (c : Nat) : State := s.cntAdds p ((c, 1) :: bucketCnt 9 f.len)

/-- The traffic class of a received frame (R158). -/
def State.rxClass (s : State) (p : PortNo) (f : RxFrame) : Nat :=
  match f.vlan with
  | none => 0
  | some (q, _) => s.live (.eth p) (nth [ETH.ETH_TCMAP_RX_CLS0, ETH.ETH_TCMAP_RX_CLS1, ETH.ETH_TCMAP_RX_CLS2,
      ETH.ETH_TCMAP_RX_CLS3, ETH.ETH_TCMAP_RX_CLS4, ETH.ETH_TCMAP_RX_CLS5, ETH.ETH_TCMAP_RX_CLS6] q ETH.ETH_TCMAP_RX_CLS7)

/-- A frame takes a receive buffer, from the share of its class, and gives it back (R158, Table 2.7). -/
def State.rxBuffer (s : State) (p : PortNo) (f : RxFrame) : State :=
  (s.poolUse 6 p.val 1).emit (.rxBuffer p.val (s.rxClass p f))

/-- Bytes of a frame without its FCS as it is delivered: a SecTAG and an ICV have been stripped (R171, R173). -/
def stripped (f : RxFrame) : Nat := f.len - 4 - (if f.sec.isSome then 32 else 0)

/-- The frame as a port without MACsec sees it: under a SecTAG, only the EtherType 0x88E5 (R173). -/
def unsecured (f : RxFrame) : RxFrame :=
  if f.sec.isSome then { f with etherType := 0x88E5, sec := none, vlan := none, flow := 0, ip := 0, ptp := none } else f

/-- A frame that is consumed or delivered leaves Table 6.3: buckets and type counters. -/
def State.rxTaken (s : State) (p : PortNo) (f : RxFrame) : State :=
  s.cntAdds p ([(2, 1), (if f.dst = broadcast then 5 else if isGroup f.dst then 4 else 3, 1)] ++
    (if f.vlan.isSome then [(8, 1)] else []) ++ bucketCnt 9 f.len)

/-- A PAUSE or PFC frame is consumed, and acted on under RX_FC_MODE; another MAC control frame is consumed alone (R163, R164).
(DEDUCED, notes/assumptions/60.md) -/
def State.rxPause (s : State) (p : PortNo) (f : RxFrame) : State :=
  let s := s.rxTaken p f
  let s := if f.flow = 1 then s.cntAdd p 6 1 else if f.flow = 2 then s.cntAdd p 7 1 else s
  if f.flow = 0 || s.live (.eth p) ETH.ETH_FC_RX_FC_MODE ≠ f.flow then s
  else
    let l := if f.flow = 1 then (List.range 8).map (fun k => (k, nth (f.quanta.map (·.2)) 0 0)) else f.quanta
    l.foldl (fun s e => s.pauseClass p e.1 e.2) s

/-- The REASON of the pre-filter's rows for the host (Table 6.4). -/
def hostReason (f : RxFrame) : Option Nat :=
  if f.etherType = 0x88CC then some 0
  else if f.etherType = 0x888E then some 1
  else if f.ip = 4 && f.proto = 2 then some 2
  else if f.ip = 6 && f.upper = 58 && [130, 131, 132, 143].contains f.icmp then some 3
  else none

/-- The frame is for the firmware's PTP service (Table 6.4). -/
def isPtp (f : RxFrame) : Bool :=
  f.etherType = 0x88F7 || (f.ip ≠ 0 && f.upper = 17 && (f.udpDst = 319 || f.udpDst = 320))

/-- A frame for the host receive queue; `desc` is the ADDR and BUF_LEN of the descriptor at HEAD. -/
def State.rxHost (s : State) (p : PortNo) (f : RxFrame) (reason : Nat) (valid : Bool) (desc : Nat × Nat) : State :=
  if s.hqReady p false && (stripped f) ≤ desc.2 then
    ((s.rxTaken p f).rxBuffer p f).hqDeliver p (stripped f) reason f.vlan.isSome valid desc.1 desc.2
  else (s.rxDrop p f 26).raise (.eth p) ETH.INT_STAT_HQ_RX_EMPTY

/-- A PTP frame goes to the firmware: an event message is stamped, and an Announce is heard (R216, R217). -/
def State.rxPtp (s : State) (p : PortNo) (f : RxFrame) : State :=
  let s := (s.rxTaken p f).rxBuffer p f
  match f.ptp with
  | none => s
  | some m =>
    if m.event then (s.cntAdd p 31 1).stamp p true m
    else if m.kind = 11 then [(0 : Fin 2), 1].foldl (fun s d => if s.ptpDomain p m d then s.announce d p.val m else s) s
    else s

/-- A live field of classification entry `e`. -/
def State.cls (s : State) (f : Fld) (e : Nat) : Nat := s.tlive (f.at e)

/-- The step i of R183's address match, when entry `e` matches the frame. -/
def State.clsMatch (s : State) (p : PortNo) (f : RxFrame) (e : Nat) : Option Nat :=
  let v6 := s.cls TBL.CLS_IPV6 e = 1
  let words := (List.range 4).map (fun w => s.tlive (TBL.CLS_DST_IP.at2 e w))
  let a := if v6 then words.zip [0, 1, 2, 3] |>.foldl (fun a w => a + w.1 * 2 ^ (32 * w.2)) 0 else nth words 0 0
  let i := (f.ipDst + 256 - a % 256) % 256
  let ok := s.cls TBL.CLS_V e = 1 && f.ip = (if v6 then 6 else 4) && f.proto = 17 && (v6 || !f.fragment) &&
    f.ipDst / 256 = a / 256 && i ≤ s.cls TBL.CLS_SPAN e && f.udpDst = s.cls TBL.CLS_UDP_PORT e &&
    (s.cls TBL.CLS_VLAN_EN e = 0 || f.vlan.map (·.2) == some (s.cls TBL.CLS_VLAN e)) &&
    (s.cls TBL.CLS_PORT_ANY e = 1 || s.cls TBL.CLS_PORT e = p.val)
  if ok then some i else none

/-- Entries with live words, ascending. -/
def State.clsListed (s : State) : List Nat :=
  ((s.listed 0x02024000 0x02044000).map (fun a => (a - 0x02024000) / 32)).eraseDups

/-- The classification page of entry `e`. -/
def clsPage (e : Nat) : Page := .cls ⟨e / 256 % 16, Nat.mod_lt _ (by decide)⟩

/-- The entry that wins, and its step (R183). No entry of a page whose function has stopped matches. -/
def State.clsFind (s : State) (p : PortNo) (f : RxFrame) : Option (Nat × Nat) :=
  s.clsListed.findSome? (fun e => if s.running (clsPage e) then (s.clsMatch p f e).map (fun i => (e, i)) else none)

/-- The frame leaves for a target whose live EN is `en`: it is delivered by `put`, or dropped (R185). -/
def State.clsTarget (s : State) (p : PortNo) (f : RxFrame) (page : Page) (en : Bool) (put : State → State) : State :=
  if en then put ((s.rxTaken p f).rxBuffer p f)
  else (s.cntAdds p (bucketCnt 9 f.len)).addSat page CLS.CLS_NOTARGET 1

/-- A matched frame goes to the target of its entry (Table 7.2); a slot or flow whose page has stopped takes nothing. -/
def State.clsDeliver (s : State) (p : PortNo) (f : RxFrame) (valid : Bool) (desc : Nat × Nat) (e i : Nat) : State :=
  let s := s.add (clsPage e) (CLS.HIT.at (e % 256)) 1
  let kind := s.cls TBL.CLS_KIND e
  let target := s.cls TBL.CLS_TARGET e + i
  let b := kind % 2 = 1
  if kind = 6 then s.rxHost p f 5 valid desc
  else if kind = 7 then (s.cntAdds p (bucketCnt 9 f.len)).addSat (clsPage e) CLS.CLS_DROP 1
  else if kind < 4 then
    match idx? 1024 target with
    | some n =>
      s.clsTarget p f (.cls ⟨slotBay n % 16, Nat.mod_lt _ (by decide)⟩) (s.live (.rxSlot n) RXS.RX_CTRL_EN = 1)
        (fun s => if !s.running (.rxSlot n) then s else if kind < 2 then s.rxPacket n b f.video else s.rxAnc n b f.anc)
    | none => s
  else
    match idx? 4096 target with
    | some n => s.clsTarget p f (.cls (flowBay n)) (s.flowEn false true n)
        (fun s => if s.running (.flowaRx (flowBay n)) then s.arxPacket n b f.audio else s)
    | none => s

/-- The last rows of Table 6.3: classification, and what no entry matches. -/
def State.rxClassify (s : State) (p : PortNo) (f : RxFrame) (valid : Bool) (desc : Nat × Nat) : State :=
  if f.ip = 4 && !f.csumOk then
    (s.cntAdds p (bucketCnt 9 f.len)).addSat (.cls ⟨p.val / 3, by omega⟩) CLS.CLS_IPCSUM 1
  else match s.clsFind p f with
    | some (e, i) => s.clsDeliver p f valid desc e i
    | none =>
      if s.live (.eth p) ETH.ETH_CTRL_NOMATCH_HOST = 1 then s.rxHost p f 4 valid desc else s.rxDrop p f 28

/-- What the PCS and the FEC have counted since the last frame (Tables 6.6 and 6.12). Only a RS-FEC counts codewords: at 100
Gb/s, and at 25 Gb/s with FEC25 0b10 (R151). -/
def State.lineCount (s : State) (p : PortNo) (c : LineCount) : State :=
  let rs := modeLanes (s.ethMode p) = 4 || s.live (.eth p) ETH.ETH_MODE_FEC25 = 2
  let s := s.cntAdds p ((23, c.sym) :: if rs then [(24, c.corr), (25, c.uncorr)] else [])
  let s := (List.range 4).foldl (fun s k => s.addSat (.eth p) (ETH.FEC_SYM.at k) (nth c.lanes k 0)) s
  s.put (.eth p) ETH.PRE_BER c.ber

/-- A frame is received on port `p` (R156, Table 6.3). Until READY every frame is dropped in RX_DISCARD_DIS (R408).
(DEDUCED, notes/assumptions/60.md) -/
def State.ethRx (s : State) (p : PortNo) (f : RxFrame) (desc : Nat × Nat) : State :=
  let max := min 9216 (Max.max 1522 (s.live (.eth p) ETH.ETH_CTRL_MAX_LEN))
  let f := if s.secured p then f else (unsecured f)
  let s := (s.lineCount p f.line).cntAdds p ((0, f.len) :: if f.fcsOk && 64 ≤ f.len && f.len ≤ max then [(1, f.len)] else [])
  if f.len < 64 then s.rxDrop p f (if f.fcsOk then 18 else 19)
  else if max < f.len then s.rxDrop p f (if f.fcsOk then 20 else 21)
  else if !f.fcsOk then s.rxDrop p f 22
  else if s.live (.eth p) ETH.ETH_CTRL_RX_EN = 0 || !s.ready then s.rxDrop p f 27
  else
    let (s, pass, valid) := s.validate p (f.etherType = 0x888E) f.sec
    if !pass then s.cntAdds p (bucketCnt 9 f.len)
    else if f.etherType = 0x8808 then s.rxPause p f
    else if f.dst ≠ s.macOf p && !isGroup f.dst then s.rxDrop p f 29
    else if isPtp f then s.rxPtp p f
    else match hostReason f with
      | some r => s.rxHost p f r valid desc
      | none => s.rxClassify p f valid desc

end Sys2Proof.Machine
end

