-- ==== Sys2Proof/Machine/Checks.lean ====
section
/-! DEFINITION. The checks that are made when an arm latches (R20, R32 and the chapters it names), each with its own
report. -/

namespace Sys2Proof.Machine

/-- A check's outcome: the state with its report, and whether it refuses the arm. -/
abbrev Check := State → State × Bool

/-- Every check is made, even after one has failed (R32). -/
def runChecks (l : List Check) (s : State) : State × Bool :=
  l.foldl (fun r c => let x := c r.1; (x.1, r.2 || x.2)) (s, false)

/-- Refuse when `bad`, raising a cause of page `p`. -/
def badCfg (p : Page) (f : Fld) (bad : State → Bool) : Check :=
  fun s => if bad s then (s.raise p f, true) else (s, false)

/-! ### Buffers and bandwidth (R191, R204, R205, R267, R278) -/

/-- Buffers that the receive slots of bay `b` reserve, each at the larger of live and armed (R191). -/
def State.bufHeld (s : State) (v : View) (b : Nat) : Nat :=
  ((s.rxListed.filter (fun n => slotBay n = b)).map (fun n =>
    if s.live (.rxSlot n) RXS.RX_CTRL_EN = 1 || s.vget v (.rxSlot n) RXS.RX_CTRL_EN = 1 then
      max (s.rxBuf true n) (s.rxBuf (!v (.rxSlot n)) n)
    else 0)).foldl (· + ·) 0

/-- R191 for the receive slot pages of an arm. -/
def bufCheck (cand : List Page) : Check := fun s =>
  let v := s.after cand
  cand.foldl (fun r p =>
    match p with
    | .rxSlot n => if 4096 < r.1.bufHeld v (slotBay n) then (r.1.raise p RXS.INT_STAT_BUF_REFUSED, true) else r
    | _ => r) (s, false)

/-- The MSEC page of port `p` has live EN = 1, or armed EN = 1. -/
def State.secOn (s : State) (v : View) (p : PortNo) : Bool :=
  s.live (.msec p) MSEC.MSEC_CTRL_EN = 1 || s.vget v (.msec p) MSEC.MSEC_CTRL_EN = 1

/-- The rate of path `b` of send slot `n` on port `p`, live or armed (R204). (DEDUCED, notes/assumptions/38.md) -/
def State.slotLoad (s : State) (lv bayLv sec b : Bool) (n : Fin 1024) (p : PortNo) : Nat :=
  let g := fun f => s.cfg lv (.txSlot n) f
  let here := if b then g TXS.TX_CTRL_DUAL = 1 && g TXS.TX_PORT_PORT_B = p.val else g TXS.TX_PORT_PORT_A = p.val
  if g TXS.TX_CTRL_EN = 1 && here then s.txRate lv (s.txSel bayLv n).1 sec n else 0

/-- The rate of path `b` of audio send flow `n` on port `p`. -/
def State.flowLoad (s : State) (lv sec b : Bool) (n : FlowNo) (p : PortNo) : Nat :=
  let here := if b then s.fa lv TBL.FLOWA_TX_DUAL n = 1 && s.fa lv TBL.FLOWA_TX_PORT_B n = p.val
    else s.fa lv TBL.FLOWA_TX_PORT_A n = p.val
  if s.flowEn true lv n && here then s.audRate lv sec n else 0

/-- The bay page of a send slot. -/
def slotBayPage (n : Fin 1024) : Page := .flowv ⟨n.val / 64, by omega⟩

/-- The media load of port `p`: each path at the larger of its live rate and its rate in the view (R204). -/
def State.portLoad (s : State) (v : View) (p : PortNo) : Nat :=
  let sec := s.secOn v p
  let slots := s.txListed.flatMap (fun n => [false, true].map (fun b =>
    max (s.slotLoad true true sec b n p) (s.slotLoad (!v (.txSlot n)) (!v (slotBayPage n)) sec b n p)))
  let flows := (s.flowListed true).flatMap (fun n => [false, true].map (fun b =>
    max (s.flowLoad true sec b n p) (s.flowLoad (!v (.flowaTx (flowBay n))) sec b n p)))
  (slots ++ flows).foldl (· + ·) 0

/-- The load limit of a port in kb/s (R205). -/
def State.portLimit (s : State) (p : PortNo) : Nat :=
  match modeLanes (s.ethMode p) with
  | 0 => 0
  | 1 => 23750000
  | _ => 95000000

/-- The ports that the arm of a page concerns (R205): those that its live or shadow
paths name, or the port of an MSEC page. -/
def State.portsOf (s : State) (page : Page) : List Nat :=
  match page with
  | .txSlot n =>
    [true, false].flatMap (fun lv =>
      let g := fun f => s.cfg lv (.txSlot n) f
      if g TXS.TX_CTRL_EN = 0 then []
      else g TXS.TX_PORT_PORT_A :: (if g TXS.TX_CTRL_DUAL = 1 then [g TXS.TX_PORT_PORT_B] else []))
  | .flowaTx b =>
    ((s.flowListed true).filter (fun n => flowBay n = b)).flatMap (fun n =>
      [true, false].flatMap (fun lv =>
        if !s.flowEn true lv n then []
        else s.fa lv TBL.FLOWA_TX_PORT_A n :: (if s.fa lv TBL.FLOWA_TX_DUAL n = 1 then [s.fa lv TBL.FLOWA_TX_PORT_B n] else [])))
  | .msec p => [p.val]
  | _ => []

/-- R205 for an arm: the first port beyond its limit is reported in the bay page of its bay.
(DEDUCED, notes/assumptions/36.md) -/
def bwCheck (cand : List Page) : Check := fun s =>
  let v := s.after cand
  let sends := cand.filter (fun p => !(s.portsOf p).isEmpty)
  let ports := ((sends.flatMap s.portsOf).foldl insertNat []).filterMap (idx? 48)
  match ports.find? (fun p => s.portLimit p < s.portLoad v p) with
  | none => (s, false)
  | some p =>
    let bay : Page := .flowv ⟨p.val / 3, by omega⟩
    let page := match lowest cand with | some q => q.num | none => 0
    let load := s.portLoad v p
    let s := s.raise bay FVB.INT_STAT_BW_REFUSED
    (if s.get bay FVB.BW_REFUSE_VALID = 1 then s
      else s.puts bay [(FVB.BW_REFUSE_VALID, 1), (FVB.BW_REFUSE_PORT, p.val % 3), (FVB.BW_REFUSE_PAGE_NUM, page),
        (FVB.BW_REQ_KBPS, sat 32 load)], true)

/-- Tokens of bay `b`: each flow at the larger of its live and armed holding (R267). -/
def State.tokHeld (s : State) (v : View) (b : Fin 16) : Nat :=
  let one := fun tx (page : Page) => ((s.flowListed tx).filter (fun n => flowBay n = b)).map (fun n =>
    max (s.flowTokens tx true n) (s.flowTokens tx (!v page) n))
  (one false (.flowaRx b) ++ one true (.flowaTx b)).foldl (· + ·) 0

/-- R267 for the FLOWA pages of an arm. -/
def tokCheck (cand : List Page) : Check := fun s =>
  let v := s.after cand
  cand.foldl (fun r p =>
    match p with
    | .flowaRx b => if 8192 < r.1.tokHeld v b then (r.1.raise p FARX.INT_STAT_TOK_REFUSED, true) else r
    | .flowaTx b => if 8192 < r.1.tokHeld v b then (r.1.raise p FATX.INT_STAT_TOK_REFUSED, true) else r
    | _ => r) (s, false)

/-- The packets of audio send flows on port `p` in a view: phase and wire bits (R278, R279). -/
def State.burstPackets (s : State) (v : View) (p : PortNo) : List (Nat × Nat) :=
  let sec := s.secOn v p
  (s.flowListed true).flatMap (fun n =>
    let lv := !v (.flowaTx (flowBay n))
    let bits := 8 * (s.flowBytes true lv n + 82 + (if sec then 32 else 0) -
      (if s.fa lv TBL.FLOWA_TX_VLAN_EN n = 1 then 0 else 4))
    let here : List Bool := [decide (s.fa lv TBL.FLOWA_TX_PORT_A n = p.val),
      s.fa lv TBL.FLOWA_TX_DUAL n = 1 && s.fa lv TBL.FLOWA_TX_PORT_B n = p.val]
    if s.flowEn true lv n then
      (here.filter (·)).map (fun _ => (min 24749 (s.fa lv TBL.FLOWA_TX_TX_PHASE n), bits))
    else [])

/-- The wire bits in the worst window of 5,940 core cycles, modulo 24,750. -/
def worstWindow (l : List (Nat × Nat)) : Nat :=
  maxOf (l.map (fun a => ((l.filter (fun b => (b.1 + 24750 - a.1) % 24750 < 5940)).map (·.2)).foldl (· + ·) 0))
where
  /-- The largest of a list. -/
  maxOf (l : List Nat) : Nat := l.foldl max 0

/-- R278 for an arm: the lowest port whose worst window is too long. A refusal of an arm without a send page is reported
in the send pages whose flows use the port. (DEDUCED, notes/assumptions/36.md) -/
def burstCheck (cand : List Page) : Check := fun s =>
  if !cand.any (fun p => match p with | .flowaTx _ | .msec _ => true | _ => false) then (s, false)
  else
    let v := s.after cand
    let fast := fun p : PortNo => modeLanes (s.ethMode p) ≠ 1
    let ports := (List.finRange 48).filter (fun p =>
      (if fast p then 400000 else 50000) < worstWindow (s.burstPackets v p))
    match ports with
    | [] => (s, false)
    | p :: _ =>
      let ns := (openDiv 15 (worstWindow (s.burstPackets v p) : Int) (if fast p then 100 else 25)).toNat
      let sends := cand.filter (fun q => match q with | .flowaTx _ => true | _ => false)
      let users := (List.finRange 16).filter (fun b => (s.flowListed true).any (fun n => flowBay n = b &&
        (s.portsOf (.flowaTx b)).contains p.val))
      let pages := if sends.isEmpty then users.map Page.flowaTx else sends
      (pages.foldl (fun s q =>
        let s := s.raise q FATX.INT_STAT_BURST_REFUSED
        if s.get q FATX.BURST_INFO_VALID = 1 then s
        else s.puts q [(FATX.BURST_INFO_VALID, 1), (FATX.BURST_INFO_PORT, p.val), (FATX.BURST_INFO_NS, sat 16 ns)]) s, true)

/-! ### Slots and ASRC channels (R266, R299) -/

/-- Slot ranges of a receive flow without ASRC, at its live and its armed configuration (R266). -/
def State.slotRanges (s : State) (v : View) (n : FlowNo) : List (Nat × Nat) :=
  [true, !v (rxPage n)].eraseDups.flatMap (fun lv =>
    if s.flowEn false lv n && s.fa lv TBL.FLOWA_RX_ASRC_EN n = 0 then
      let lo := s.fa lv TBL.FLOWA_RX_SLOT n
      [(lo, lo + s.flowCh false lv n * (s.fa lv TBL.FLOWA_RX_RATE96 n + 1))]
    else [])

/-- ASRC channels that an ASRC-in destination entry feeds, in the live or the armed AUD table. -/
def State.asrcFed (s : State) (v : View) (a : Nat) : Bool :=
  let src := fun (w : Word) => w.toNat % 65536 ≠ 0xFFFF
  src (s.lword (0x02050000 + 8 * (0xC200 + a))) || (v .aud && src (s.word (0x02050000 + 8 * (0xC200 + a))))

/-- Every range at its live and its armed configuration (R266, R299). -/
def State.bothRanges (s : State) (v : View) : List AsrcRange := (s.asrcLive ++ s.asrcRanges v).eraseDups

/-- Two ranges of different owners share a channel. -/
def AsrcRange.meets (x y : AsrcRange) : Bool :=
  (x.kind, x.owner) ≠ (y.kind, y.owner) && x.first < y.first + y.count && y.first < x.first + x.count

/-- The conditions of R299 and of R266's last two lines: a range passes channel 255, two ranges share a channel, or a
range that feeds the plane shares one with an ASRC-in entry that has a source. -/
def State.asrcBad (s : State) (v : View) : Bool :=
  let rs := s.bothRanges v
  rs.any (fun r => 256 < r.first + r.count) || rs.any (fun r => rs.any r.meets) ||
    rs.any (fun r => r.kind ≠ 3 && r.chans.any (s.asrcFed v))

/-- The slot conditions of R266. -/
def State.slotBad (s : State) (v : View) : Bool :=
  let rs := (s.flowListed false).map (fun n => (n, s.slotRanges v n))
  rs.any (fun x => x.2.any (fun r => 0x4000 < r.2)) ||
    rs.any (fun x => rs.any (fun y => x.1 ≠ y.1 && x.2.any (fun r => y.2.any (rangesMeet r))))

/-- R266 and R299 for the pages of an arm. -/
def rangeCheck (cand : List Page) : Check := fun s =>
  let v := s.after cand
  if !cand.any (fun p => asrcPage p || p = .aud) then (s, false)
  else
    let asrc := s.asrcBad v
    let slot := s.slotBad v
    cand.foldl (fun r p =>
      match p with
      | .flowaRx _ => if asrc || slot then (r.1.raise p FARX.INT_STAT_SLOT_CONFLICT, true) else r
      | .tdm _ => if asrc then (r.1.raise p TDM.INT_STAT_ASRC_CONFLICT, true) else r
      | .aud => if asrc then (r.1.raise p AUD.INT_STAT_BAD_CFG, true) else r
      | _ => r) (s, false)

/-! ### All checks -/

/-- The checks of one page's own chapter. -/
def pageChecks (cand : List Page) (v : View) (sel delay : Nat) (p : Page) : List Check :=
  match p with
  | .lane n => [badCfg p LANE.INT_STAT_BAD_CFG (fun s => s.laneBad n)]
  | .xbp => [badCfg p XBP.INT_STAT_BAD_CFG State.xbpBad]
  | .xwpRoute =>
    [badCfg p XWPR.INT_STAT_BAD_CFG (fun s => s.routeBad cand sel delay), fun s => s.blockCheck sel delay]
  | .xwpMap => [badCfg p XWPM.INT_STAT_BAD_CFG State.genBad]
  | .eth n => [badCfg p ETH.INT_STAT_BAD_CFG (fun s => s.ethBad n)]
  | .msec n =>
    [badCfg p MSEC.INT_STAT_BAD_CFG (fun s => s.msecBad n), badCfg p MSEC.INT_STAT_BAD_KEY (fun s => s.msecBadKey n)]
  | .rxSlot n => [badCfg p RXS.INT_STAT_BAD_CFG (fun s => s.rxBad n)]
  | .txSlot n => [badCfg p TXS.INT_STAT_BAD_CFG (fun s => s.txBad v n)]
  | .flowv b => [badCfg p FVB.INT_STAT_BAD_CFG (fun s => s.flowvBad b)]
  | .cls b => [badCfg p CLS.INT_STAT_BAD_CFG (fun s => s.clsBad b)]
  | .time => [badCfg p TIME.INT_STAT_BAD_CFG State.timeBad]
  | .ref => [badCfg p REF.INT_STAT_BAD_CFG State.refBad]
  | .vtg n => [badCfg p VTG.INT_STAT_BAD_CFG (fun s => s.vtgBad n)]
  | .aud => [badCfg p AUD.INT_STAT_BAD_CFG State.genBadWave]
  | .flowaRx b => [badCfg p FARX.INT_STAT_BAD_CFG (fun s => s.flowaBad false b)]
  | .flowaTx b => [badCfg p FATX.INT_STAT_BAD_CFG (fun s => s.flowaBad true b)]
  | .tdm b => [badCfg p TDM.INT_STAT_BAD_CFG (fun s => s.tdmBad b)]
  | _ => []

/-- The engines whose pages an arm includes. -/
def engsOf (cand : List Page) : List EngNo :=
  (cand.filterMap (fun p => match p with | .eng e | .engComp e | .engColour e => some e | _ => none)).eraseDups

/-- The admission check of an engine (R310). -/
def engCheck (v : View) (e : EngNo) : Check := fun s =>
  match s.engRefuse v e with
  | some r => (s.engReport v e r, true)
  | none => (s, false)

/-- Every check of an arm of the pages `cand` against source `sel` with `delay` (R32, R41). -/
def State.armChecks (s : State) (cand : List Page) (grp : Option Nat) (sel delay : Nat) : State × Bool :=
  let v := s.after cand
  runChecks
    ([fun s => s.poolCheck cand grp] ++ cand.flatMap (pageChecks cand v sel delay) ++
      [fun s => s.tmapCheck cand, bufCheck cand, bwCheck cand, tokCheck cand, rangeCheck cand, burstCheck cand] ++
      (engsOf cand).map (engCheck v)) s

end Sys2Proof.Machine
end

