-- ==== Sys2Proof/Machine/Update.lean ====
section
/-! DEFINITION. Update sessions, staging, activation, manifests and confirmation (chapter 16). -/

namespace Sys2Proof.Machine

/-- A session is open; its owner (R413). -/
def State.sessOpen (s : State) : Bool := s.get .upd UPD.UPD_SESS_OPEN = 1
def State.sessOwner (s : State) : Nat := s.get .upd UPD.UPD_SESS_OWNER

/-- Bytes of UPD_BUF from `o`. -/
def State.updBuf (s : State) (o n : Nat) : List Nat :=
  (List.range n).map (fun i => bits (s.get .upd (UPD.UPD_BUF_DATA.at ((o + i) / 4))) (8 * ((o + i) % 4)) 8)

/-- The session ends: unfinished staging is discarded and an open manifest abandoned (R413). -/
def State.sessEnd (s : State) : State :=
  ({ s with upd := { s.upd with stage := none, manifest := [] } } : State).puts .upd
    [(UPD.UPD_SESS_OPEN, 0), (UPD.UPD_SESS_OWNER, 0), (UPD.UPD_SESS_MANIFEST, 0)]

/-- How a command ends: STATUS, UPD_RSP0 and the state. -/
abbrev UpdEnd := Nat × Nat × State

/-- The command ends with `st` where one of the listed conditions fails; where several fail and the spec gives no order,
which is given is left open. -/
def updChecks (l : List (Bool × Nat)) (s : State) (ok : UpdEnd) : UpdEnd :=
  let fails := (l.filter (·.1)).map (·.2)
  match fails[Config.pick 5 fails.length % fails.length]? with
  | some st => (st, 0, s)
  | none => ok

/-- A flash program or erase failed. -/
def State.flashFail (s : State) : UpdEnd := (0x000B, 0, s.addSat .upd UPD.FLASH_ERR 1)

/-- A command of master `k`: the session's 60 s begin again where `k` owns it (R413). -/
def State.ownerActs (s : State) (k : Nat) : State :=
  if s.sessOpen && s.sessOwner = k then { s with upd := { s.upd with cmdAt := s.now } } else s

/-- OPEN, as the Efner takes it (R413). -/
def State.updOpen (s : State) (k : Nat) : UpdEnd :=
  if s.sessOpen then (0x0004, s.sessOwner, s.raise .upd UPD.INT_STAT_SESSION_BUSY)
  else (0, 0, (s.puts .upd [(UPD.UPD_SESS_OPEN, 1), (UPD.UPD_SESS_OWNER, k)]).ownerActs k)

/-- The staging slot of type `t`: the bank other than NEXT (R415). -/
def State.stagingKey (s : State) (t : Nat) : Nat := slotKey (1 - bitAt s.flash.next t) t

/-- What an erased slot holds. -/
def erasedSlot : ImgSlot := ⟨[0xFF], []⟩

/-- Mark type `t` staged or not, with the version in its staging slot. -/
def State.setStaged (s : State) (t : Nat) (b : Bool) (ver : Nat) : State :=
  s.puts .upd [(UPD.UPD_SESS_STAGED, putBit (s.get .upd UPD.UPD_SESS_STAGED) t b), (UPD.STAGED_VER_VERSION.at t, ver)]

/-- Type `t` is staged and verified. -/
def State.staged (s : State) (t : Nat) : Bool := bitAt (s.get .upd UPD.UPD_SESS_STAGED) t = 1

/-- The manifest's entry of type `t`: VERSION, SVN, BODY_LEN and BODY_HASH as bytes (Table 16.5). -/
def manifestEntry (m : List Nat) (t : Nat) : List Nat :=
  match ([0, 1, 2, 3].map (fun i => (m.drop (16 + 48 * i)).take 48)).find? (fun e => nth e 0 4 = t) with
  | some e => e.drop 4
  | none => []

/-- A header agrees with an open manifest (R419): VERSION, SVN, BODY_LEN and BODY_HASH stand in the same order in both. -/
def State.manifestOk (s : State) (h : List Nat) : Bool :=
  s.upd.manifest = [] || manifestEntry s.upd.manifest (nth h 4 0) = (h.drop 8).take 44

/-- STAGE_BEGIN (R415); `ok` tells that the erasure succeeds. -/
def State.stageBegin (s : State) (ok : Bool) : UpdEnd :=
  let h := s.updBuf 0 896
  let t := nth h 4 0
  updChecks [(s.headerCheck h ≠ 0, s.headerCheck h), (s.flash.trial || bitAt s.flash.next t ≠ bitAt s.flash.sel t, 0x000C),
      (!s.manifestOk h, 0x000A)] s
    (if !ok then s.flashFail
     else
       let s := (s.setSlot (s.stagingKey t) erasedSlot).setStaged t false 0
       (0, 0, { s with upd := { s.upd with stage := some (t, h, []) } }))

/-- STAGE_DATA (R415). (DESIGN CHOICE, notes/assumptions/101.md) -/
def State.stageData (s : State) (off len : Nat) (ok : Bool) : UpdEnd :=
  match s.upd.stage with
  | none => (0x000D, 0, s)
  | some (t, h, body) =>
    updChecks [(len = 0 || 2048 < len, 0x0002), (off ≠ body.length, 0x000D),
        (off = body.length && 0 < len && len ≤ 2048 && hdrBodyLen h < off + len, 0x0002)] s
      (if !ok then s.flashFail
       else (0, 0, { s with upd := { s.upd with stage := some (t, h, body ++ s.updBuf 0 (min len 2048)) } }))

/-- STAGE_END (R415). -/
def State.stageEnd (s : State) (t : Nat) : UpdEnd :=
  match s.upd.stage with
  | none => (0x000D, 0, s)
  | some (t', h, body) =>
    if t ≠ t' then (0x000D, 0, s)
    else
      let s : State := { s with upd := { s.upd with stage := none } }
      if body.length ≠ hdrBodyLen h || sha256 body ≠ hdrHash h then (0x0008, 0, s)
      else (0, 0, (s.setSlot (s.stagingKey t) ⟨h, body⟩).setStaged t true (hdrVersion h))

/-- Image `x` accepts image `y` (R416). -/
def accepts (x y : List Nat) : Bool :=
  let o := 52 + 8 * nth y 4 0
  le32 x o ≤ hdrVersion y && hdrVersion y ≤ le32 x (o + 4)

/-- The pairs of R416 that fail between a new image of type `t` and others: UPD_RSP0 of each. -/
def pairFails (new : List Nat) (others : List (Nat × List Nat)) : List Nat :=
  others.flatMap (fun o =>
    (if accepts new o.2 then [] else [o.1]) ++ (if accepts o.2 new then [] else [o.1 + 256]))

/-- ACTIVATE (R416). (DESIGN CHOICE, notes/assumptions/101.md) -/
def State.activate (s : State) (t : Nat) (ok : Bool) : UpdEnd :=
  if s.upd.manifest ≠ [] || !s.staged t then (0x000D, 0, s)
  else
    let fails := pairFails (s.slotHdr (s.stagingKey t))
      (([0, 1, 2, 3].filter (· ≠ t)).map (fun u => (u, s.slotHdr (slotKey (bitAt s.flash.next u) u))))
    match fails[Config.pick 6 fails.length % fails.length]? with
    | some r => (0x0009, r, s)
    | none =>
      if !ok then s.flashFail
      else
        let f := s.flash
        (0, 0, (s.bootRecord f.sel (putBit f.next t (bitAt f.next t = 0)) f.prev f.trial).setStaged t false 0)

/-- REVERT_NEXT (R417). -/
def State.revertNext (s : State) (ok : Bool) : UpdEnd :=
  if !ok then s.flashFail else (0, 0, s.bootRecord s.flash.sel s.flash.sel s.flash.prev s.flash.trial)

/-- MANIFEST_BEGIN (R418, R419). -/
def State.manifestBegin (s : State) : UpdEnd :=
  let m := s.updBuf 0 1024
  let mod := (m.drop 256).take 384
  let entry := fun i => (m.drop (16 + 48 * i)).take 48
  let types := [0, 1, 2, 3].map (fun i => nth (entry i) 0 0)
  let low := [0, 1, 2, 3].any (fun i => le32 (entry i) 8 < nth s.otp.rb (nth (entry i) 0 0) 0)
  updChecks
    [(le32 m 0 ≠ 0x52544F57 || nth m 4 0 ≠ 1 || nth m 6 0 ≠ 4 || [0, 1, 2, 3].any (fun t => !types.contains t), 0x0005),
     (!s.signerOk (nth m 5 0) mod || !pssVerify mod (m.take 640) ((m.drop 640).take 384), 0x0006), (low, 0x0007),
     (s.flash.trial || s.flash.next ≠ s.flash.sel, 0x000C)] s
    (0, 0, ({ s with upd := { s.upd with manifest := m } } : State).put .upd UPD.UPD_SESS_MANIFEST 1)

/-- MANIFEST_ACTIVATE (R419): whole, or not at all. -/
def State.manifestActivate (s : State) (ok : Bool) : UpdEnd :=
  let ts := [0, 1, 2, 3]
  let hdr := fun t => s.slotHdr (s.stagingKey t)
  if s.upd.manifest = [] then (0x000D, 0, s)
  else
    let bad := ts.any (fun t => ts.any (fun u => t ≠ u && !accepts (hdr t) (hdr u)))
    updChecks [(ts.any (fun t => !s.staged t || !s.manifestOk (hdr t)), 0x000A), (bad, 0x0009)] s
      (if !ok then s.flashFail
       else
         let f := s.flash
         let s : State := { s with flash := { f with manifest := s.upd.manifest }, upd := { s.upd with manifest := [] } }
         let s := (s.bootRecord f.sel (ts.foldl (fun n t => putBit n t (bitAt f.next t = 0)) f.next) f.prev f.trial).put .upd
           UPD.UPD_SESS_MANIFEST 0
         (0, 0, ts.foldl (fun s t => s.setStaged t false 0) s))

/-- CONFIRM (R420, R422, R424); `ok` tells that the OTP writes succeed. -/
def State.confirm (s : State) (ok : Bool) : UpdEnd :=
  if !s.flash.trial || !s.ready then (0x000C, 0, s)
  else if !ok then (0x000B, 0, s.fault .upd .contained 0 0)
  else
    let rb := (List.range 4).map (fun t => max (nth s.otp.rb t 0) (hdrSvn (s.runHdr t)))
    let s : State := { s with otp := { s.otp with rb } }
    (0, 0, (s.bootRecord s.flash.sel s.flash.next s.flash.sel false).cfgErase)

/-- The outcome of update command `op` of master `k`, but OPEN (Table 16.6). -/
def State.updOp (s : State) (k op : Nat) (ok : Bool) : UpdEnd :=
  let a0 := s.get .upd (UPD.UPD_ARG0_ARG.at k)
  let a1 := s.get .upd (UPD.UPD_ARG1_ARG.at k)
  let owner := s.sessOpen && s.sessOwner = k
  let known := [0x02, 0x10, 0x11, 0x12, 0x13, 0x14, 0x20, 0x21, 0x30].contains op
  updChecks [(!owner, 0x0003), (!known, 0x0001)] s
    (match op with
     | 0x02 => (0, 0, s.sessEnd)
     | 0x10 => s.stageBegin ok
     | 0x11 => s.stageData a0 a1 ok
     | 0x12 => s.stageEnd (a0 % 4)
     | 0x13 => s.activate (a0 % 4) ok
     | 0x14 => s.revertNext ok
     | 0x20 => s.manifestBegin
     | 0x21 => s.manifestActivate ok
     | _ => s.confirm ok)

/-- What a command's outcome leaves behind: the count of R426 and the event of Table 17.3.
(PRESUMED, notes/assumptions/108.md) -/
def State.updNote (s : State) (op status : Nat) : State :=
  let s := if 5 ≤ status && status ≤ 0xA then s.addSat .upd UPD.STAGE_FAIL 1 else s
  if op = 0x13 || op = 0x21 || op = 0x30 then s.offer .upd 0x0040 op status else s

/-- A GO of master `k` (R414). An OPEN waits until the Efner takes it (R413). (DESIGN CHOICE, notes/assumptions/102.md) -/
def State.updGo (s : State) (k op : Nat) (ok : Bool) : State :=
  if s.get .upd (UPD.UPD_STAT_BUSY.at k) = 1 || s.get .upd (UPD.UPD_STAT_DONE.at k) = 1 then
    (s.addSat .upd (UPD.UPD_STAT_REJECTS.at k) 1).raise .upd UPD.INT_STAT_REJECT
  else
    let s := (s.puts .upd [(UPD.UPD_STAT_BUSY.at k, 1), (UPD.UPD_CMD_OP.at k, op)]).ownerActs k
    if op = 0x01 then
      { s with upd := { s.upd with run := setNth s.upd.run k (some (0, 0)), opens := insertNat s.upd.opens k } }
    else
      let r := s.updOp k op ok
      let s := r.2.2.updNote op r.1
      { s with upd := { s.upd with run := setNth s.upd.run k (some (r.1, r.2.1)) } }

/-- The command of master `k` ends. -/
def State.updFinish (s : State) (k status rsp : Nat) : State :=
  (({ s with upd := { s.upd with run := setNth s.upd.run k none } } : State).puts .upd
    [(UPD.UPD_STAT_BUSY.at k, 0), (UPD.UPD_STAT_DONE.at k, 1), (UPD.UPD_STAT_STATUS.at k, status),
     (UPD.UPD_RSP0_RSP.at k, rsp)]).raise .upd UPD.INT_STAT_CMD_DONE

/-- The Efner takes the OPENs that wait, that of PCIe first (R413). (DESIGN CHOICE, notes/assumptions/102.md) -/
def State.takeOpens (s : State) : State :=
  let t := (s.upd.opens.foldl insertNat []).foldl (fun (s : State) k =>
    let r := s.updOpen k
    { r.2.2 with upd := { r.2.2.upd with run := setNth r.2.2.upd.run k (some (r.1, r.2.1)) } }) s
  { t with upd := { t.upd with opens := [] } }

/-- The command of master `k` completes. -/
def State.updComplete (s : State) (k : Nat) : State :=
  let s := if s.upd.opens.contains k then s.takeOpens else s
  match nth s.upd.run k none with
  | some r => s.updFinish k r.1 r.2
  | none => s

/-- 60 s have passed without a command from the session's owner (R413). -/
def State.sessTimeout (s : State) : State :=
  if s.sessOpen && (nth s.upd.run s.sessOwner none).isNone && s.upd.cmdAt + 60 * cyclesPerSec ≤ s.now then s.sessEnd else s

/-- FUNC_INIT of the UPD page (R426). -/
def State.updInit (s : State) : State :=
  let s : State := { s with upd := { s.upd with opens := [] } }
  let s := if (nth s.upd.run 0 none).isSome then s.updFinish 0 0x000E 0 else s
  let s := if (nth s.upd.run 1 none).isSome then s.updFinish 1 0x000E 0 else s
  (List.range 512).foldl (fun s w => s.put .upd (UPD.UPD_BUF_DATA.at w) 0) s.sessEnd

end Sys2Proof.Machine
end

