-- ==== Sys2Proof/Machine/Commit.lean ====
section
/-! DEFINITION. Shadow, arm and fire; commit groups and salvos; FUNC_INIT (chapter 2, R24 to R57). -/

namespace Sys2Proof.Machine

/-! ### What a page holds that commits -/

/-- A route page (R39). -/
def routePage : Page → Bool
  | .xbp | .xwpRoute | .flowv _ | .aud => true
  | _ => false

/-- The address ranges of a page: the page itself beyond PAGE_ID, and its tables. -/
def pageRanges (p : Page) : List (Nat × Nat) :=
  (p.base, p.base + 0x1000) ::
    (match p with
    | .xbp => [(0x02000000, 0x02001000)]
    | .xwpRoute => [(0x02002000, 0x0200C000)]
    | .xwpMap => [(0x0200C000, 0x02016100)]
    | .flowv b => [(0x02020000 + 256 * b.val, 0x02020100 + 256 * b.val)]
    | .cls b => [(0x02024000 + 8192 * b.val, 0x02026000 + 8192 * b.val)]
    | .hif => [(0x02048000, 0x0204C000)]
    | .aud => [(0x02050000, 0x020B8000)]
    | .flowaRx b => [(0x02140000 + 16384 * b.val, 0x02144000 + 16384 * b.val)]
    | .flowaTx b => [(0x02180000 + 16384 * b.val, 0x02184000 + 16384 * b.val)]
    | .engColour e => [(0x02800000 + 0x48000 * e.val, 0x02848000 + 0x48000 * e.val),
        (0x03A00000 + 0xC000 * e.val, 0x03A0C000 + 0xC000 * e.val)]
    | _ => [])

/-- The address is part of a route entry, which applies at its own tick (R42, R145). -/
def entryAddr (a : Nat) : Bool :=
  (0x02000000 ≤ a && a < 0x02001000) || (0x02002000 ≤ a && a < 0x02004000) || (0x02008000 ≤ a && a < 0x0200A000) ||
    (0x02020000 ≤ a && a < 0x02021000)

/-- The listed addresses of page `p`. -/
def State.pageWords (s : State) (p : Page) : List Nat := (pageRanges p).flatMap (fun r => s.listed r.1 r.2)

/-- The live word at `a` takes the RWS bits of the shadow (R37). -/
def State.fireWord (s : State) (a : Nat) : State :=
  let m : Word := BitVec.ofNat 32 (rwsMask a)
  s.setLword a ((s.lword a &&& ~~~m) ||| (s.word a &&& m))

/-- The words of page `p` for which `q` holds become live. -/
def State.fireWords (s : State) (p : Page) (q : Nat → Bool) : State :=
  ((s.pageWords p).filter q).foldl State.fireWord s

/-- The addresses of a route entry other than the AUD table. -/
def entryWords : Entry → List Nat
  | .xbp n => [0x02000000 + 4 * n.val]
  | .xwp d => [0x02002000 + 4 * d.val, 0x02008000 + 4 * d.val]
  | .flowv n => [0x02020000 + 4 * n.val]
  | .aud => []

/-- The VTG an entry's shadow binds it to, and for AUD the aligned VTG; none for an AUD page that is not aligned. -/
def State.entryVtg (s : State) : Entry → Option Nat
  | .xbp n => some (s.tget (TBL.XBP_ROUTE_VTG.at n.val))
  | .xwp d => some (s.tget (TBL.XWP_ROUTE_VTG.at d.val))
  | .flowv n => some (s.tget (TBL.FLOWV_TXSEL_VTG.at n.val))
  | .aud => if s.get .aud AUD.AUD_CTRL_ALIGN_EN = 1 then some (s.get .aud AUD.AUD_CTRL_ALIGN_VTG) else none

/-- The entries of a route page that a fire has to apply: those that change in any field, and the AUD table always
(R42, R259). -/
def State.changedEntries (s : State) (p : Page) : List Entry :=
  match p with
  | .xbp =>
    (s.listed 0x02000000 0x02001000).filterMap (fun a =>
      if s.word a = s.lword a then none else (idx? 1024 ((a - 0x02000000) / 4)).map .xbp)
  | .xwpRoute => s.xwpChanged.map .xwp
  | .flowv b =>
    (s.listed (0x02020000 + 256 * b.val) (0x02020100 + 256 * b.val)).filterMap (fun a =>
      if s.word a = s.lword a then none else (idx? 1024 ((a - 0x02020000) / 4)).map .flowv)
  | .aud => [.aud]
  | _ => []

/-! ### After the live copy of a page has changed -/

/-- The enabled VTGs of `old` and `s` differ at `v`: its numbering on the brace link starts again (R119, R122). -/
def State.vtgEdge (s old : State) (v : Fin 32) : State :=
  if s.vtgEn v.val == old.vtgEn v.val then s else s.braceVtg v.val

/-- The flows of a FLOWA page whose entries are listed. -/
def State.bayFlows (s : State) (tx : Bool) (b : Fin 16) : List FlowNo := (s.flowListed tx).filter (fun n => flowBay n = b)

/-- What a page's function does when its live copy has changed from that of `old` (the chapter of each page). -/
def State.pageFired (s old : State) (p : Page) : State :=
  match p with
  | .lane n => let t := s.laneFired old n
               if isBrace n then t.linkUpdate else t
  | .time => s.timeFired old
  | .ref => s.refFired old
  | .vtg v => ((s.vtgFired old v).vtgEdge old v).flowFormat old v
  | .eth n => s.ethFired old n
  | .msec n => s.msecFired n
  | .rxSlot n => s.rxFired old n
  | .txSlot n => s.txFired n
  | .flowaRx b => (old.bayFlows false b ++ s.bayFlows false b).eraseDups.foldl (fun s n => s.arxFired old n) s
  | .flowaTx b => (old.bayFlows true b ++ s.bayFlows true b).eraseDups.foldl (fun s n => s.atxFired old n) s
  | .tdm b => s.tdmFired old b
  | .eng e => s.engFired old e
  | .xwpMap => s
  | _ => s

/-- SER_IDLE of the outputs whose lane pages are listed follows its condition (R103). -/
def State.serIdles (s : State) (ps : List Page) : State :=
  ps.foldl (fun (s : State) p => match p with
    | .lane n => (match idx? 1024 n.val with | some m => s.serIdle m | none => s)
    | _ => s) s

/-- What follows from a change of signals, routes, VTGs or lanes wherever it comes from (R137, R143, R147, R238, R248, R299). -/
def State.follow' (s : State) : State := s.regen.deembFollow.refFollow.refoFollow.asrcSync

/-! ### Ticks and arms -/

/-- A tick that falls: T_FRM[v], T_SMP, a T_SMP looked at once more in its own cycle, or STC tick k (R24, R26). -/
inductive Tick where
  | frm (v : Nat)
  | smp
  | smpAgain
  | stc (k : Nat)
  deriving DecidableEq, Repr

/-- Does TICK_SEL `sel` name this tick (Table 2.1)? -/
def Tick.named (k : Tick) (sel : Nat) : Bool :=
  match k with
  | .frm v => sel = v
  | .smp => sel = 0x20
  | .smpAgain => false
  | .stc k => sel = 0x28 + k

/-- Is it a T_SMP? -/
def Tick.isSmp : Tick → Bool
  | .smp | .smpAgain => true
  | _ => false

/-- TICK_SEL may be armed against: T_FRM of an enabled VTG, T_SMP or an STC tick (R26). -/
def State.selOk (s : State) (sel : Nat) : Bool :=
  (sel < 0x20 && s.vtgEn sel) || sel = 0x20 || (0x28 ≤ sel && sel < 0x30)

/-- A tick of `sel` has already fallen in this core cycle (R35: t_a ≤ t).
(DEDUCED, notes/assumptions/5.md; DEDUCED, notes/assumptions/32.md) -/
def State.tickNow (s : State) (sel : Nat) : Bool :=
  if sel = 0x20 then s.brace.smpAt.head?.any (fun x => x.2 = s.now && 0 < s.get .tick TICK.SMP_COUNT_COUNT)
  else sel < 0x20 && (s.brace.frmAt.get sel []).head?.any (fun x => x.2 = s.now)

/-- A late arm: COMMIT_LATE, and the end of normal service (R35, R36, R49). (DEDUCED, notes/assumptions/32.md) -/
def State.lateRaise (s : State) : State := (s.raise .glb GLB.INT_STAT_COMMIT_LATE).unusual

/-- LATE of a page. -/
def State.latePage (s : State) (p : Page) : State := s.put p HDR.COMMIT_STAT_LATE 1

/-- LATE of a group and of every member (R35, R41). -/
def State.lateGroup (s : State) (g : Nat) (members : List Page) : State :=
  (members.foldl State.latePage s).put .glb (GLB.CGRP_STAT_LATE.at g) 1

/-- Page `p` is PENDING (Table 2.4). -/
def State.pendingPage (s : State) (p : Page) : Bool := (s.armOf p).isSome

/-- Set the arm of a page. -/
def State.setArm (s : State) (a : Arm) : State := { s with arms := Tab.ins (Tab.del s.arms a.page.num) a.page.num a }

/-- An application has ended the lock of page `p` in this core cycle: how the page was armed (R33, R38).
(DEDUCED, notes/assumptions/31.md) -/
def State.justFreed (s : State) (p : Page) : Option Bool :=
  if s.freedAt = s.now then (s.freed.find? (fun e => e.1 = p)).map (·.2) else none

/-- Page `p` is locked: PENDING, or its lock ends in this core cycle (R33). (DEDUCED, notes/assumptions/31.md) -/
def State.locked (s : State) (p : Page) : Bool := s.pendingPage p || (s.justFreed p).isSome

/-- The application of this core cycle ends the lock of page `p`, armed through its group or by itself. -/
def State.noteFreed (s : State) (p : Page) (grp : Bool) : State :=
  { s with freed := (p, grp) :: (if s.freedAt = s.now then s.freed else []), freedAt := s.now }

/-- Remove the arm of a page: PENDING clears and the lock is released. -/
def State.dropArm (s : State) (p : Page) : State := { s with arms := Tab.del s.arms p.num }

/-- The group's arm or salvo. -/
def State.grpOf (s : State) (g : Nat) : Option Grp := (s.groups.find? (fun e => e.1 = g)).map (·.2)

/-- Set a group's arm. -/
def State.setGrp (s : State) (g : Nat) (x : Grp) : State := { s with groups := Tab.ins (Tab.del s.groups g) g x }

/-- One more write that the lock or the group ignores (R33, R40). -/
def State.lockedWrite (s : State) (p : Page) : State := s.addSat p HDR.COMMIT_STAT_LOCKED_WRITES 1

/-- The members of group `g`: pages with GRP_JOIN = 1 and GROUP = g whose FUNC_INIT does not run (R40, R41, R54). -/
def State.membersOf (s : State) (g : Nat) : List Page :=
  s.sh.filterMap (fun e =>
    if e.1 < 0x02000000 && e.1 % 4096 = 0x020 && e.2.getLsbD 29 && bits e.2.toNat 23 6 = g && !inMsix e.1 then
      (pageOf (e.1 / 4096)).filter (fun p => !s.busy.contains p)
    else none)

/-! ### Latching (R32, R36, R41) -/

/-- The arm of page `p` latches. -/
def State.latchArm (s : State) (p : Page) (sel delay seq : Nat) : State :=
  let late := s.stcLate sel
  let stc := decide (0x28 ≤ sel)
  let a : Arm :=
    { page := p, at_ := s.now, sel, left := if stc then 1 else delay + 1, smp := if late then some (s.now + 1188) else none,
      seq, grp := none, draining := false, waits := [] }
  let t := (s.setArm a).put p HDR.COMMIT_STAT_LOCKED_WRITES 0
  let t := if late || s.tickNow sel then (t.latePage p).lateRaise else t
  t.poolSync s [p]

/-- TICK_SEL and TICK_DELAY as they count for an arm of page `p` (R28). -/
def State.armSel (s : State) (p : Page) : Nat × Nat :=
  if p = .tick then (0x20, 0) else (s.get p HDR.COMMIT_TICK_SEL, s.get p HDR.COMMIT_TICK_DELAY)

/-- An ARM of page `p` that is not ignored: all checks are made, and it latches when all pass (R26, R32). -/
def State.pageArm (s : State) (p : Page) : State :=
  let (sel, delay) := s.armSel p
  let ok := s.selOk sel
  let s := if ok then s else s.put p HDR.COMMIT_STAT_BAD_SEL 1
  let r := s.armChecks [p] none sel delay
  if ok && !r.2 then r.1.latchArm p sel delay (r.1.get p HDR.COMMIT_SEQ) else r.1

/-- DISARM of a page armed by its own ARM, before its fire (R38). -/
def State.pageDisarm (s : State) (p : Page) : State := (s.dropArm p).poolSync s [p]

/-- Group `g` is PENDING or DRAINING. -/
def State.grpBusy (s : State) (g : Nat) : Bool := (s.grpOf g).isSome

/-- A write of `v` to COMMIT of page `p` (R31 to R33, R38, R40, R54). -/
def State.commitWrite (s : State) (p : Page) (v : Nat) : State :=
  let arm := bitAt v 31 = 1
  let disarm := bitAt v 30 = 1
  if s.busy.contains p then s
  else match s.armOf p with
    | some a =>
      if a.grp.isNone && disarm then
        let s := if arm then s.lockedWrite p else s
        if a.draining then s else s.pageDisarm p
      else s.lockedWrite p
    | none =>
      let join := s.get p HDR.COMMIT_GRP_JOIN
      let grp := s.get p HDR.COMMIT_GROUP
      let freed := s.justFreed p
      let moves := (join, grp) ≠ (bitAt v 29, bits v 23 6)
      if freed = some false && disarm then if arm then s.lockedWrite p else s
      else if freed.isSome then s.lockedWrite p
      else if moves && ((join = 1 && s.grpBusy grp) || (bitAt v 29 = 1 && s.grpBusy (bits v 23 6))) then s.lockedWrite p
      else
        let s := s.puts p [(HDR.COMMIT_GRP_JOIN, bitAt v 29), (HDR.COMMIT_GROUP, bits v 23 6),
          (HDR.COMMIT_TICK_SEL, bits v 16 6), (HDR.COMMIT_TICK_DELAY, bits v 12 4), (HDR.COMMIT_SEQ, bits v 0 12)]
        if !arm then s else if bitAt v 29 = 1 then s.lockedWrite p else s.pageArm p

/-- The arm of group `g` latches with its members (R41). A TICK page among them applies at the group's tick, not at a T_SMP of
its own. (DESIGN CHOICE, notes/assumptions/118.md) -/
def State.latchGroup (s : State) (g : Nat) (members : List Page) (sel delay seq : Nat) : State :=
  let late := s.stcLate sel
  let left := if 0x28 ≤ sel then 1 else delay + 1
  let smp := if late then some (s.now + 1188) else none
  let x : Grp := { at_ := s.now, sel, left, smp, seq, draining := false, members }
  let t := members.foldl (fun (t : State) p =>
    let a : Arm := { page := p, at_ := s.now, sel, left, smp, seq, grp := some g, draining := false, waits := [] }
    (t.setArm a).put p HDR.COMMIT_STAT_LOCKED_WRITES 0) (s.setGrp g x)
  let t := if late || s.tickNow sel then (t.lateGroup g members).lateRaise else t
  t.poolSync s members

/-- An ARM of group `g` that is neither PENDING nor DRAINING (R26, R41). -/
def State.grpArm (s : State) (g : Nat) : State :=
  let sel := s.get .glb (GLB.CGRP_CTRL_TICK_SEL.at g)
  let delay := s.get .glb (GLB.CGRP_CTRL_TICK_DELAY.at g)
  let members := s.membersOf g
  let ok := s.selOk sel
  let s := if ok then s
    else (s.put .glb (GLB.CGRP_STAT_BAD_SEL.at g) 1).raise .glb GLB.INT_STAT_CGRP_BAD_SEL
  let r := s.armChecks members (some g) sel delay
  if ok && !r.2 then r.1.latchGroup g members sel delay (r.1.get .glb (GLB.CGRP_CTRL_SEQ.at g)) else r.1

/-- DISARM of a PENDING group withdraws every member's arm (R44). -/
def State.grpDisarm (s : State) (g : Nat) (x : Grp) : State :=
  let t := x.members.foldl State.dropArm s
  ({ t with groups := Tab.del t.groups g } : State).poolSync s x.members

/-- A write of `v` to CGRP_CTRL[g] (R44). -/
def State.cgrpWrite (s : State) (g : Nat) (v : Nat) : State :=
  match s.grpOf g with
  | some x => if bitAt v 30 = 1 && !x.draining then s.grpDisarm g x else s
  | none =>
    let s := s.puts .glb [(GLB.CGRP_CTRL_TICK_SEL.at g, bits v 16 6), (GLB.CGRP_CTRL_TICK_DELAY.at g, bits v 12 4),
      (GLB.CGRP_CTRL_SEQ.at g, bits v 0 12)]
    if bitAt v 31 = 1 then s.grpArm g else s

/-! ### The fire (R37, R42, R43, R47, R49) -/

/-- A commit event: counted, and the first after READY begins normal service (R47, R49). -/
def State.commitEvent (s : State) : State :=
  let s := s.add .glb GLB.CMT_COUNT_COUNT 1
  if s.ready && !s.committed then { s with committed := true, normal := true } else s

/-- FIRED and SEQ_LIVE of a page (R37, R43). -/
def State.firedPage (s : State) (seq : Nat) (p : Page) : State :=
  s.puts p [(HDR.COMMIT_STAT_FIRED, 1), (HDR.COMMIT_STAT_SEQ_LIVE, seq)]

/-- The salvo of group `g` completes (R43). -/
def State.grpDone (s : State) (g : Nat) (x : Grp) : State :=
  let s := x.members.foldl (State.firedPage · x.seq) s
  let s := (s.puts .glb [(GLB.CGRP_STAT_DONE.at g, 1), (GLB.CGRP_STAT_SEQ_LIVE.at g, x.seq)]).raise .glb
    GLB.INT_STAT_CGRP_DONE
  { s with groups := Tab.del s.groups g }

/-- Arms whose parts have all applied are released, and salvos with no arm left complete (R37, R43). -/
def State.complete (s : State) : State :=
  let drained := s.arms.filter (fun e => e.2.draining && e.2.waits.isEmpty)
  let s := drained.foldl (fun s e =>
    let s := (s.dropArm e.2.page).noteFreed e.2.page e.2.grp.isSome
    if e.2.grp.isNone then s.firedPage e.2.seq e.2.page else s) s
  (s.groups.filter (fun e => e.2.draining && !s.arms.any (fun a => a.2.grp = some e.1))).foldl
    (fun s e => s.grpDone e.1 e.2) s

/-- The waiting entries of an arm at its fire: those of a disabled VTG, and an AUD page that is not aligned, are due at
the first T_SMP from now (R42, R259). -/
def State.entryWaits (s : State) (p : Page) : List (Entry × Option Nat) :=
  (s.changedEntries p).map (fun e =>
    (e, match s.entryVtg e with
      | some v => if s.vtgEn v then none else some s.now
      | none => some s.now))

/-- The arm of page `p` reaches F: a page that is no route page applies in full, a route page in its entries' time, and what
it holds beyond its entries, such as XWP_REGEN and XWP_PID, at F. (DESIGN CHOICE, notes/assumptions/127.md) -/
def State.reachF (s : State) (a : Arm) : State :=
  if routePage a.page then
    let s := if a.page = .aud then s else s.fireWords a.page (fun x => !entryAddr x)
    s.setArm { a with draining := true, waits := s.entryWaits a.page }
  else s.setArm { a with draining := true, waits := [] }

/-- A tick brings an arm to its fire (R34, R36). -/
def dueAt (k : Tick) (now : Nat) (sel left : Nat) (smp : Option Nat) : Bool :=
  match smp with
  | some c => k.isSmp && c ≤ now
  | none => k.named sel && left ≤ 1

/-- A tick counts for an arm: of its source, and before any turn to T_SMP. -/
def seenBy (k : Tick) (sel : Nat) (smp : Option Nat) : Bool := smp.isNone && k.named sel

/-- The eligible tick of an arm whose count is not yet over, or a late one (R34, R35). -/
def State.countArm (k : Tick) (s : State) (a : Arm) : State :=
  if !seenBy k a.sel a.smp then s
  else if s.now < a.at_ + guard a.sel then (s.latePage a.page).lateRaise
  else if a.left ≤ 1 then s
  else s.setArm { a with left := a.left - 1 }

/-- The same for a group. -/
def State.countGrp (k : Tick) (s : State) (e : Nat × Grp) : State :=
  if !seenBy k e.2.sel e.2.smp then s
  else if s.now < e.2.at_ + guard e.2.sel then (s.lateGroup e.1 e.2.members).lateRaise
  else if e.2.left ≤ 1 then s
  else s.setGrp e.1 { e.2 with left := e.2.left - 1 }

/-- An arm fires at this tick: due, and not within its guard. -/
def fires (k : Tick) (now at_ sel left : Nat) (smp : Option Nat) : Bool :=
  dueAt k now sel left smp && (smp.isSome || at_ + guard sel ≤ now)

/-- The T_FRM that entry `e` waits for falls in this core cycle, whichever tick of the cycle is looked at (R24, R42). -/
def State.frmFell (s : State) (e : Entry) : Bool := (s.entryVtg e).any (fun v => s.tickNow v)

/-- The waiting entries that a tick makes due (R24, R42, R259). -/
def State.entryDue (s : State) (k : Tick) (w : Entry × Option Nat) : Bool :=
  match w with
  | (.aud, none) => k.isSmp && s.frmFell .aud
  | (e, none) => s.frmFell e
  | (_, some c) => k.isSmp && c ≤ s.now

/-- An AUD swap whose VTG has ticked is due at the first T_SMP from now (R259). -/
def State.audTurn (s : State) (w : Entry × Option Nat) : Entry × Option Nat :=
  match w with
  | (.aud, none) => if s.frmFell .aud then (.aud, some s.now) else w
  | _ => w

/-- What waits for a VTG that has been disabled waits for the first T_SMP from now (R36, R42).
(DEDUCED, notes/assumptions/33.md) -/
def State.sweep (s : State) : State :=
  let off := fun (sel : Nat) (smp : Option Nat) => if sel < 0x20 && smp.isNone && !s.vtgEn sel then some s.now else smp
  let wait := fun (w : Entry × Option Nat) =>
    match w with
    | (e, none) => (match s.entryVtg e with
      | some v => if s.vtgEn v then w else (e, some s.now)
      | none => w)
    | _ => w
  { s with
    arms := s.arms.map (fun e => (e.1, { e.2 with
      smp := if e.2.draining then e.2.smp else off e.2.sel e.2.smp, waits := e.2.waits.map wait })),
    groups := s.groups.map (fun e => (e.1, { e.2 with smp := if e.2.draining then e.2.smp else off e.2.sel e.2.smp })) }

/-- What the application of entries does to the planes: outputs switch, paths are placed, the AUD table is swapped. -/
def State.entriesApplied (s old : State) (es : List Entry) (k : Tick) : State :=
  let s := es.foldl (fun (s : State) e => match e with | .xbp n => s.xbpApplied n | _ => s) s
  let xwp := es.any (fun e => match e with | .xwp _ => true | _ => false)
  let v := match k with | .frm v => v | _ => 32
  let s := if xwp || v < 32 then s.placePaths [if xwp then 32 else v] else s
  if es.contains .aud then s.audSwapped old else s

/-- The words of entry `e` become live; for AUD the whole page and its table. -/
def State.fireEntry (s : State) (e : Entry) : State :=
  match e with
  | .aud => s.fireWords .aud (fun _ => true)
  | _ => (entryWords e).foldl State.fireWord s

/-- The route page of an entry. -/
def entryPage : Entry → Page
  | .xbp _ => .xbp
  | .xwp _ => .xwpRoute
  | .flowv n => slotBayPage n
  | .aud => .aud

/-- What page `p` held before the application that led from `old` to `s`, for a FUNC_INIT of the same cycle (R54). -/
def State.noteUndo (old s : State) (p : Page) (lone first : Bool) : Undo :=
  let ws := (s.pageWords p ++ old.pageWords p).eraseDups.filter (fun a => s.lword a != old.lword a)
  { page := p, live := ws.map (fun a => (a, old.lword a)), fired := old.get p HDR.COMMIT_STAT_FIRED,
    seq := old.get p HDR.COMMIT_STAT_SEQ_LIVE, mtOff := old.clk.mtOff, lone, first }

/-- The application from `old` to `s` is kept for a FUNC_INIT of its cycle: `pages` have applied, `lone` of them by an arm of
their own, and `commits` commit events. -/
def State.noteUndos (s old : State) (pages lone : List Page) (commits : Nat) : State :=
  let first := commits = 1 && s.committed && !old.committed
  { s with undo := pages.map (fun p => State.noteUndo old s p (lone.contains p) first) ++
             (if s.undoAt = s.now then s.undo else []), undoAt := s.now }

/-- Everything that one tick makes due applies (R24, R34 to R37, R42, R43): first the pages that are no route pages, a VTG
disable among them, then every entry and swap that is due. `arm?` and `grp?` choose the arms and groups concerned. -/
def State.fireAt (s : State) (k : Tick) (arm? : Arm → Bool) (grp? : Nat → Bool) : State :=
  let old := s
  let lone := (s.arms.map (·.2)).filter (fun a => a.grp.isNone && !a.draining && arm? a)
  let grps := s.groups.filter (fun e => !e.2.draining && grp? e.1)
  let s := lone.foldl (State.countArm k) s
  let s := grps.foldl (State.countGrp k) s
  let goA := lone.filter (fun a => fires k s.now a.at_ a.sel a.left a.smp)
  let goG := grps.filter (fun e => fires k s.now e.2.at_ e.2.sel e.2.left e.2.smp)
  let members := (s.arms.map (·.2)).filter (fun a => !a.draining && goG.any (fun e => a.grp = some e.1))
  let pages := (goA ++ members).map (·.page)
  let plain := pages.filter (fun p => !routePage p)
  -- the live copies, all in one cycle
  let s := plain.foldl (fun (s : State) p => s.fireWords p (fun _ => true)) s
  let s := (goA ++ members).foldl State.reachF s
  let s := goG.foldl (fun (s : State) e => s.setGrp e.1 { e.2 with draining := true }) s
  let s := (List.range (goA.length + goG.length)).foldl (fun (s : State) _ => s.commitEvent) s
  let s := plain.foldl (fun (s : State) p => s.pageFired old p) s
  -- the entries and swaps that this tick makes due
  let here := fun a : Arm => a.draining && (match a.grp with | some g => grp? g | none => arm? a)
  let es := ((s.arms.map (·.2)).filter here).flatMap (fun a => (a.waits.filter (s.entryDue k)).map (·.1))
  let rest := s.arms.map (fun e =>
    if here e.2 then
      (e.1, { e.2 with waits := (e.2.waits.filter (fun w => !s.entryDue k w)).map s.audTurn })
    else e)
  let s : State := es.foldl State.fireEntry { s with arms := rest }
  let s := ((s.entriesApplied old es k).serIdles plain).sweep.complete
  if pages.isEmpty && es.isEmpty then if s.xwp.paths = old.xwp.paths then s else s.follow'
  else
    let s := s.noteUndos old (pages ++ (es.map entryPage).eraseDups.filter (fun p => !pages.contains p)) (goA.map (·.page))
      (goA.length + goG.length)
    (s.poolSync old pages).follow'

/-- STC tick k fires (R27): STC_FIRED is set and the live STC_EN clears. -/
def State.stcFire (s : State) (k : Nat) : State :=
  (s.put .tick (TICK.STC_FIRED_FIRED.bit k) 1).putLive .tick (TICK.STC_EN_EN.bit k) 0

/-- The STC ticks that a commit of the TICK page has made due in its own cycle (R27). -/
def State.stcNow (s old : State) : List Nat :=
  let moved := s.lword (Page.base .tick + 0x044) != old.lword (Page.base .tick + 0x044) ||
    (List.range 16).any (fun i => s.lword (Page.base .tick + 0x080 + 4 * i) != old.lword (Page.base .tick + 0x080 + 4 * i))
  if moved then (List.range 8).filter (fun k => s.stcLive k && 0 ≤ s.stcPast k) else []

/-- Something waits for a T_SMP that has come: after a disabling in its own cycle (R36, R42).
(DEDUCED, notes/assumptions/33.md) -/
def State.smpWaits (s : State) : Bool :=
  s.arms.any (fun e => (!e.2.draining && e.2.grp.isNone && e.2.smp.any (· ≤ s.now)) ||
    e.2.waits.any (fun w => w.2.any (· ≤ s.now))) ||
    s.groups.any (fun e => !e.2.draining && e.2.smp.any (· ≤ s.now))

/-- The ticks of one core cycle fall, with those that they bring about in the same cycle (R24, R27, R253 step 1).
(DEDUCED, notes/assumptions/5.md) -/
def State.instant (fuel : Nat) (ks : List Tick) (s : State) : State :=
  match fuel, ks with
  | 0, _ => s
  | _, [] => s
  | n + 1, k :: r =>
    let t := (match k with | .stc i => s.stcFire i | _ => s).fireAt k (fun _ => true) (fun _ => true)
    let again := if t.tickNow 0x20 && t.smpWaits && r.isEmpty then [Tick.smpAgain] else []
    State.instant n (r ++ (t.stcNow s).map Tick.stc ++ again) t

/-- A tick falls: every commit application due at it takes effect. -/
def State.tick (s : State) (k : Tick) : State :=
  State.instant (2 * (s.arms.length + s.groups.length) + 16) [k] s

/-! ### FUNC_INIT (R54) -/

/-- Configuration words that FUNC_INIT of a page leaves as they are, by offset in the page (R228, R381, R445). -/
def keptByInit (p : Page) (o : Nat) : Bool :=
  match p with
  | .glb => o ≠ 0x0F4 && o ≠ 0x640
  | .hif => o ≠ HIF.HIF_CTRL_PIN_EN.off && !(HIF.BAR2_WIN_BASE.off ≤ o && o < HIF.BAR2_WIN_BASE.off + 16)
  | .time => TIME.DOM_ADJ_ADJ.off = o || (TIME.DOM_ADJ_ADJ.at 1).off = o
  | _ => false

/-- A word returns to its reset value in its configuration fields, RWS and RW alike, live and shadow. -/
def State.resetWord (s : State) (a : Nat) : State :=
  let m : Word := BitVec.ofNat 32 (maskOf (fun t => t == .rw || t == .rws) a)
  (s.setWord a ((s.word a &&& ~~~m) ||| (resetOf a &&& m))).setLword a (resetOf a)

/-- The configuration of page `p` outside the common header, and its COMMIT fields, return to reset (R54 step 4). -/
def State.resetCfg (s : State) (p : Page) : State :=
  let ws := (s.pageWords p).filter (fun a =>
    a = p.base + 0x020 || 0x02000000 ≤ a || (0x040 ≤ a % 4096 && !keptByInit p (a % 4096)))
  ws.foldl State.resetWord s

/-- The state that a page's function enters when FUNC_INIT completes (the chapter of each page). -/
def State.pageInit (s : State) (p : Page) : State :=
  match p with
  | .lane n => let t := s.laneInit n
               if isBrace n then t.linkUpdate else t
  | .xbp => s.xbpInit
  | .brc => s.brcInit
  | .xwpRoute => s.routeInit
  | .xwpMap => s.mapStop
  | .eth n => (s.ethInit n).macFromOtp n
  | .msec n => s.msecInit n
  | .rxSlot n => s.rxAfresh n 0
  | .txSlot n => s.txStop n
  | .time => s.timeInit
  | .aud => s.audInit
  | .flowaRx b => (s.bayFlows false b).foldl (fun s n => s.arxAfresh n 0) s
  | .flowaTx b => (s.bayFlows true b).foldl (fun s n => s.atxStop n) s
  | .tdm b => s.tdmInit b
  | .asrc => s.asrcInit
  | .eng e => s.engInit e
  | .hif => s.hifInit
  | .busm => s.busmInit
  | .key => s.keyInit
  | .upd => s.updInit
  | .evr => s.evrInit
  | .bbx => s.bbxInit
  | _ => s

/-- A page's function stops at the write of FUNC_INIT, and returns what it holds (R54 steps 2 and 3): the bit plane's
outputs go idle, and its status follows at completion (R113); the others enter at once the state that they are in at
completion. -/
def State.pageStop (s : State) (p : Page) : State :=
  match p with
  | .xbp => s.xbpStop
  | .xwpMap => s.mapStop
  | .time => s.timeStop
  | .eth n => s.ethInit n
  | _ => s.pageInit p

/-- What held of a page before an application of this cycle holds again (R54). -/
def State.undone (s : State) (u : Undo) : State :=
  let s := u.live.foldl (fun (s : State) e => s.setLword e.1 e.2) s
  let s := s.puts u.page [(HDR.COMMIT_STAT_FIRED, u.fired), (HDR.COMMIT_STAT_SEQ_LIVE, u.seq)]
  let s : State := if u.page = .time then { s with clk := { s.clk with mtOff := u.mtOff } } else s
  let s := if u.lone then s.put .glb GLB.CMT_COUNT_COUNT (s.get .glb GLB.CMT_COUNT_COUNT + 2 ^ 32 - 1) else s
  if u.lone && u.first then { s with committed := false } else s

/-- The part that page `p` had in a fire of this very cycle is suppressed (R54). -/
def State.suppress (s : State) (p : Page) : State :=
  if s.undoAt = s.now then
    { (s.undo.filter (fun u => u.page = p)).foldl State.undone s with undo := s.undo.filter (fun u => u.page ≠ p) }
  else s

/-- Page `p` leaves its group (R43, R54 step 1). -/
def State.leaveGroup (s : State) (p : Page) : State :=
  let s := { s with groups := s.groups.map (fun (e : Nat × Grp) => (e.1, { e.2 with members := e.2.members.filter (· ≠ p) })) }
  State.complete s

/-- A write of FUNC_INIT = 1 to page `p` by `m` (R54 steps 1 and 2, event 0x0005). What the withdrawn arm alone held of the
pools of classes 0 to 5 is returned here. (DEDUCED, notes/assumptions/35.md; DESIGN CHOICE, notes/assumptions/119.md) -/
def State.funcInit (s : State) (p : Page) (m : Master) : State :=
  if s.busy.contains p then s
  else
    let t := (((s.suppress p).dropArm p).put p HDR.COMMIT_GRP_JOIN 0).leaveGroup p
    let t := (t.offer p 0x0005 m.num 0).unusual
    let t : State := { t with busy := t.busy ++ [p] }
    ((t.put p HDR.PAGE_CTRL_FUNC_INIT 1).pageStop p).poolSync s [p] |>.follow'

/-- FUNC_INIT of page `p` completes (R54 steps 3 and 4). (DEDUCED, notes/assumptions/35.md) -/
def State.funcInitDone (s : State) (p : Page) : State :=
  if !s.busy.contains p then s
  else
    let t := s.resetCfg p
    let t := match p with
      | .time => t
      | _ => t.pageFired s p
    let t := (t.pageInit p).serIdles [p]
    let t : State := { t with busy := t.busy.filter (· ≠ p) }
    ((t.put p HDR.PAGE_CTRL_FUNC_INIT 0).sweep.poolSync s [p]).follow'

end Sys2Proof.Machine
end

