-- ==== Sys2Proof/Machine/Read.lean ====
section
/-! DEFINITION. What a read of each address returns (R8, R9, R359, R360 and the register tables), and the effects of the
reads that have one. -/

namespace Sys2Proof.Machine

/-! ### Fields that the part computes -/

/-- A field set to a value, as part of what a word shows. -/
abbrev Shown := List (Fld × Nat)

/-- The computed fields of the common header at offset `o` (Tables 2.4 and 14.2). -/
def State.shownHdr (s : State) (p : Page) (o : Nat) : Shown :=
  if o = 0x008 then
    let fault := s.word (p.base + 0x018) != 0 || s.fatal.contains p.num
    [(HDR.PAGE_STATUS_FAULT_ANY, b2n fault), (HDR.PAGE_STATUS_REQ, b2n (s.requests.contains p.num)),
     (HDR.PAGE_STATUS_INIT_BUSY, b2n (s.busy.contains p)), (HDR.PAGE_STATUS_ENABLE_LIVE, s.live p HDR.PAGE_CTRL_ENABLE)]
  else if o = 0x018 then [(HDR.FAULT_STAT_FATAL_REAL, b2n (s.fatal.contains p.num))]
  else if o = 0x024 then
    [(HDR.COMMIT_STAT_PENDING, b2n (s.pendingPage p)),
     (HDR.COMMIT_STAT_GRP_PENDING, b2n ((s.armOf p).any (fun a => a.grp.isSome)))]
  else []

/-- The computed fields of the GLB page (Tables 1.5 to 1.7, 2.6, 17.7). -/
def State.shownGlb (s : State) (o : Nat) : Shown :=
  let v := s.after []
  if o = 0x040 then [(GLB.CHIP_ID_GRADE, s.otp.grade)]
  else if o = 0x0F8 then [(GLB.FATAL_SRC_VALID, b2n s.fatalSrc.isSome), (GLB.FATAL_SRC_PAGE_NUM, s.fatalSrc.getD 0)]
  else if 0x200 ≤ o && o < 0x240 then
    let b := (o - 0x200) / 4
    [(GLB.POOL_TEN_DST_HELD, s.held v 1 b), (GLB.POOL_TEN_DST_LIVE, s.liveUse 1 b), (GLB.POOL_TEN_SRC_HELD, s.held v 0 b),
     (GLB.POOL_TEN_SRC_LIVE, s.liveUse 0 b)]
  else if 0x240 ≤ o && o < 0x280 then
    let b := (o - 0x240) / 4
    [(GLB.POOL_VFLOW_TX_HELD, s.held v 3 b), (GLB.POOL_VFLOW_TX_LIVE, s.liveUse 3 b),
     (GLB.POOL_VFLOW_RX_HELD, s.held v 2 b), (GLB.POOL_VFLOW_RX_LIVE, s.liveUse 2 b)]
  else if 0x280 ≤ o && o < 0x2C0 then
    let b := (o - 0x280) / 4
    [(GLB.POOL_AFLOW_TX_HELD, s.held v 5 b), (GLB.POOL_AFLOW_RX_HELD, s.held v 4 b)]
  else if 0x500 ≤ o && o < 0x600 then
    let g := (o - 0x500) / 4
    [(GLB.CGRP_STAT_PENDING, b2n ((s.grpOf g).any (fun x => !x.draining))),
     (GLB.CGRP_STAT_DRAINING, b2n ((s.grpOf g).any (fun x => x.draining))),
     (GLB.CGRP_STAT_MEMBERS, (s.membersOf g).length)]
  else []

/-- 32 numbers' membership as a word: bit `i` tells that `base + i` is in the list. -/
def bitWord (l : List Nat) (base : Nat) : Nat :=
  l.foldl (fun m n => if base ≤ n && n < base + 32 then m + 2 ^ (n - base) else m) 0

/-- The whole of a word, for a register of one field. -/
def whole (o : Nat) : Fld := fld o 0 32 .ro 0

/-- The computed fields of the HIF page (Table 14.6). -/
def State.shownHif (s : State) (o : Nat) : Shown :=
  if o = 0x04C then [(HIF.HIF_REQ_ANY_ANY, b2n (!s.requests.isEmpty))]
  else if 0x080 ≤ o && o < 0x0A0 then [(whole o, bitWord s.vecReq (32 * ((o - 0x080) / 4)))]
  else if 0x0A0 ≤ o && o < 0x0C0 then [(whole o, bitWord s.insvc (32 * ((o - 0x0A0) / 4)))]
  else if 0x800 ≤ o then [(whole o, bitWord s.requests (32 * ((o - 0x800) / 4)))]
  else []

/-- The computed fields of the KEY page (Table 15.9). -/
def State.shownKey (s : State) (o : Nat) : Shown :=
  if o = 0x060 then
    [(KEY.ROOT_STAT_TAMP_ACTIVE, b2n s.keys.tampActive), (KEY.ROOT_STAT_TEST, b2n s.debugOpen),
     (KEY.ROOT_STAT_VALID, b2n s.rootKey.isSome)]
  else if o = 0x064 then [(whole o, packBytes s.rootIdBytes)]
  else if o = 0x068 then [(KEY.TAMP_STAT_COUNT, s.vbat.tampCount)]
  else if o = 0x06C then [(KEY.TAMP_CFG, s.vbat.tampCfg)]
  else if o = 0x070 then
    [(KEY.LC_STAT_ID_EPOCH, s.otp.idEpoch), (KEY.LC_STAT_ID_PRESENT, b2n s.identity.isSome),
     (KEY.LC_STAT_DBG_OPEN, b2n s.debugOpen), (KEY.LC_STAT_LC, s.otp.lc)]
  else if o = 0x080 then [(whole o, s.otp.uniqueId)]
  else if o = 0x084 then [(whole o, s.otp.uniqueId / 2 ^ 32)]
  else if o = 0x088 then
    let written := ((List.range 4).map (fun i => if (nth s.otp.keyHash i none).isSome then 2 ^ i else 0)).foldl (· + ·) 0
    [(KEY.KEYHASH_STAT_REVOKED, s.otp.revoked), (KEY.KEYHASH_STAT_WRITTEN, written)]
  else if 0x090 ≤ o && o < 0x0A0 then [(KEY.RB_CNT_CNT, nth s.otp.rb ((o - 0x090) / 4) 0)]
  else if 0x100 ≤ o && o < 0x200 then
    let x := s.node ((o - 0x100) / 4)
    [(KEY.NODE_STAT_DEFINED, b2n x.defined), (KEY.NODE_STAT_ATTR, x.attr), (KEY.NODE_STAT_PARENT, x.parent),
     (KEY.NODE_STAT_GEN, x.gen)]
  else if 0xC00 ≤ o && s.get .key KEY.KEY_STAT_BUSY = 1 then [(whole o, 0)]
  else []

/-- The computed fields of the UPD page (Tables 16.9 and 16.10). -/
def State.shownUpd (s : State) (o : Nat) : Shown :=
  if o = 0x084 then [(UPD.BOOT_STAT_TRIAL, b2n s.flash.trial)]
  else if o = 0x088 then
    [(UPD.BOOT_SEL_PREV, s.flash.prev), (UPD.BOOT_SEL_NEXT, s.flash.next), (UPD.BOOT_SEL_SEL, s.flash.sel)]
  else if o = 0x090 then [(UPD.BOOT_WD_LEFT_S, s.bootWdLeft)]
  else if 0x0A0 ≤ o && o < 0x0B0 then [(whole o, hdrVersion (s.runHdr ((o - 0x0A0) / 4)))]
  else if 0x0B0 ≤ o && o < 0x0C0 then [(UPD.RUN_SVN_SVN, hdrSvn (s.runHdr ((o - 0x0B0) / 4)))]
  else if o = 0x300 then [(whole o, s.vbat.bootCnt)]
  else []

/-- The computed fields of an engine's page (R318, R325, Table 12.8). (DEDUCED, notes/assumptions/111.md) -/
def State.shownEng (s : State) (e : EngNo) (o : Nat) : Shown :=
  let v := s.after []
  let a := s.engCfg liveView e
  let x := s.engCfg v e
  if o = 0x044 then [(whole o, (s.lword ((Page.eng e).base + 0x040)).toNat)]
  else if o = 0x054 then
    [(ENGI.ENG_STAT_IN_TEN, max (s.engIn liveView e) (s.engIn v e)),
     (ENGI.ENG_STAT_OUT_TEN, max (s.engOut liveView e) (s.engOut v e)), (ENGI.ENG_STAT_LB_HELD, max a.lineNeed x.lineNeed)]
  else if o = 0x058 then [(whole o, s.engHeld v e)]
  else if o = 0x05C then [(ENGI.ENG_MEM_USE_MIB, max a.mib x.mib)]
  else if 0x100 ≤ o && o < 0x300 && o % 32 = 24 then
    [(ENGI.LAYER_STAT_LB_ALLOC, match a.layers[(o - 0x100) / 32]? with | some y => y.lines | none => 0)]
  else if 0x100 ≤ o && o < 0x300 && o % 32 = 28 then [(ENGI.LAYER_FB_FB_BASE, a.fbBase ((o - 0x100) / 32))]
  else []

/-- The computed fields of an engine's composition page (Table 13.3). (DEDUCED, notes/assumptions/111.md) -/
def State.shownComp (s : State) (e : EngNo) (o : Nat) : Shown :=
  let a := s.engCfg liveView e
  if 0x050 ≤ o && o < 0x060 then
    let c := (o - 0x050) / 4
    match a.runs[c]? with
    | some r => [(ENGC.CACHE_STAT_VALID, 1), (ENGC.CACHE_STAT_BASE, a.cacheBase c), (ENGC.CACHE_STAT_LAST, r.last),
        (ENGC.CACHE_STAT_FIRST, r.first)]
    | none => []
  else if 0x100 ≤ o && o < 0x300 && o % 32 = 24 then
    let l := (o - 0x100) / 32
    let c := (List.range 4).find? (fun c => (a.runs[c]?).any (fun r => r.members.contains l))
    [(ENGC.COMP_LSTAT_CACHE, match c with | some c => c + 1 | none => 0)]
  else []

/-- MACsec counts in the rate of a path on port `n` (R204). -/
def State.secAt (s : State) (n : Nat) : Bool :=
  match idx? 48 n with
  | some p => s.secOn liveView p
  | none => false

/-- TX_BW of a send slot: the live rate of its path A, 0 while it is not enabled (R204). -/
def State.slotRate (s : State) (n : Fin 1024) : Nat :=
  if s.live (.txSlot n) TXS.TX_CTRL_EN = 0 then 0
  else s.txRate true (s.txSel true n).1 (s.secAt (s.live (.txSlot n) TXS.TX_PORT_PORT_A)) n

/-- TX_BW of a send flow: the live rate of its path A, 0 while it is not enabled (R279). -/
def State.audBw (s : State) (n : FlowNo) : Nat :=
  if s.flowEn true true n then s.audRate true (s.secAt (s.fa true TBL.FLOWA_TX_PORT_A n)) n else 0

/-- The computed fields of page `p` at offset `o` beyond its header. -/
def State.shownPage (s : State) (p : Page) (o : Nat) : Shown :=
  match p with
  | .glb => s.shownGlb o
  | .hif => s.shownHif o
  | .key => s.shownKey o
  | .upd => s.shownUpd o
  | .eng e => s.shownEng e o
  | .engComp e => s.shownComp e o
  | .lane n =>
    if o = 0x114 then [(whole o, (s.lane n).bitCnt)]
    else if o = 0x18C then [(whole o, (s.lane n).tally)]
    else if 1024 ≤ n.val && o = LANE.LANE_IGN_CTRL_TXTAG.off then
      [(LANE.LANE_IGN_CTRL_TXTAG, 0xB000 + 0x100 * s.role + (n.val - 1024))]
    else []
  | .xwpRoute =>
    if 0x080 ≤ o && o < 0x180 then
      [(XWPR.ING_PATHS_LIVE, (s.xwp.paths.filter (fun q => q.1 % 64 = (o - 0x080) / 4)).length)]
    else if o = 0x308 then [(whole o, s.xwp.paths.length)]
    else []
  | .eth n => if 0x720 ≤ o && o < 0x740 then [(whole o, s.pauseLeft n ((o - 0x720) / 4))] else []
  | .rxSlot n =>
    if o = 0x044 then [(whole o, (s.lword (p.base + 0x040)).toNat)]
    else if o = 0x06C then [(RXS.RX_BUF_USE_USE, (s.rxs.get n.val RxSlot.init).pkts.length)]
    else []
  | .txSlot n =>
    if o = 0x044 then [(whole o, (s.lword (p.base + 0x040)).toNat)]
    else if o = 0x064 then [(whole o, s.slotRate n)]
    else []
  | .tdm b =>
    if o = 0x044 then [(whole o, (s.lword (p.base + 0x040)).toNat)]
    else if o = 0x070 then [(whole o, (s.tdmPort b).blkStc)]
    else if o = 0x314 then [(whole o, (s.tdmPort b).din.length + (s.tdmPort b).dout.length * 65536)]
    else []
  | .aud =>
    if o = 0x044 then [(whole o, (s.lword (p.base + 0x040)).toNat)]
    else if o = 0x048 then [(AUD.AUD_STAT_SCARFING, s.aud.scarf.length)]
    else if o = 0x04C then [(AUD.AUD_ENTRIES_E, s.audEntries.length)]
    else []
  | .vtg n =>
    if o = 0x048 || o = 0x04C then [(whole o, (s.lword (p.base + (if o = 0x048 then 0x040 else 0x044))).toNat)]
    else if o = 0x050 then [(whole o, s.vtgStat n.val)]
    else if o = 0x100 then [(whole o, (s.vtgs.get n.val Vtg.init).tfrm)]
    else []
  | .flowv b =>
    if 0x040 ≤ o && o < 0x058 then
      match idx? 48 (3 * b.val + (o - 0x040) / 8) with
      | some n => [(whole o, if o % 8 = 0 then s.portLoad (s.after []) n else s.portLoad liveView n)]
      | none => []
    else []
  | .flowaRx b =>
    if o = 0x040 then [(FARX.TOK_USE_HELD, s.tokHeld (s.after []) b), (FARX.TOK_USE_LIVE, s.tokHeld liveView b)] else []
  | .asrc =>
    if o = 0x044 then [(ASRC.ASRC_USE_LIVE, s.asrcHeld liveView), (ASRC.ASRC_USE_HELD, s.asrcHeld (s.after []))] else []
  | .gmc =>
    if o = 0x044 then [(whole o, s.bwBudget)]
    else if o = 0x048 then [(whole o, s.bwHeld (s.after []))]
    else if o = 0x04C then [(whole o, s.bwLive)]
    else []
  | .time =>
    if o = 0x080 then [(whole o, s.stc)]
    else if o = 0x208 then [(whole o, s.mtStat)]
    else if o = 0x20C then [(whole o, s.mtOffShown)]
    else []
  | .ref =>
    if 0x200 ≤ o && o < 0x2D8 && o % 8 = 0 then [(REF.CAND_STAT_WTR_LEFT, s.wtrLeft ((o - 0x200) / 8))] else []
  | .evr => if o = 0x040 then [(whole o, s.evrHead)] else if o = 0x044 then [(whole o, s.evr.tail)] else []
  | .bbx =>
    if o = 0x0A0 then [(whole o, s.bbxHead)] else if o = 0x0A4 then [(whole o, s.bbx.tail)]
    else if o = 0x0A8 then [(BBX.BBX_PEND_N, s.bbx.queue.length)] else []
  | _ => []

/-- The offset in the page whose live word a read of offset `o` returns, when it is a mirror (R9). -/
def mirrorOf (p : Page) (o : Nat) : Option Nat :=
  p.fields.findSome? (fun f => match f.ty with | .live src => if f.hits o then some (src + (o - f.off)) else none | _ => none)

/-- Fields put over a word. -/
def overlay (w : Word) (l : Shown) : Word := l.foldl (fun (w : Word) e => e.1.into w e.2) w

/-- The address is that of HIT[59] of a classification page, where DIAG_CLR is written (Table 7.10).
(DEDUCED, notes/assumptions/24.md) -/
def isHit59 (a : Nat) : Bool :=
  a % 4096 = 0x3FC && (match pageOf (a / 4096) with | some (.cls _) => true | _ => false)

/-- The bits of a write-only field read 0 (Table 0.3). -/
def woMask (a : Nat) : Nat := if isHit59 a then 0 else maskOf (· == .wo) a

/-- The word at a table address (R9, R131, R279, R355). -/
def State.readTable (s : State) (a : Nat) : Word :=
  if 0x02001000 ≤ a && a < 0x02002000 then s.lword (a - 0x1000)
  else if 0x02004000 ≤ a && a < 0x02006000 then s.lword (a - 0x2000)
  else if 0x02006000 ≤ a && a < 0x02008000 then
    match s.pathMid ((a - 0x02006000) / 4) with
    | some m => BitVec.ofNat 32 (0x80000000 + m)
    | none => 0
  else if 0x02021000 ≤ a && a < 0x02022000 then s.lword (a - 0x1000)
  else if 0x020C0000 ≤ a && a < 0x02128000 then s.lword (a - 0x70000)
  else if 0x02180000 ≤ a && a < 0x021C0000 && a % 64 = 0x34 then
    match idx? 4096 ((a - 0x02180000) / 64) with
    | some n => BitVec.ofNat 32 (s.audBw n)
    | none => 0
  else s.word a

/-- A counter of what no command of the table brings about, which wraps: GDDR6 traffic and reseeds (Tables 12.6, 15.10). -/
def counted (p : Page) (o : Nat) : Option Fld :=
  match p with
  | .gmc => if o = 0x220 || o = 0x224 then some (whole o) else none
  | .key => if o = 0x310 then some (whole o) else none
  | _ => none

/-- What a read of address `a` returns. Reads return the shadow of an RWS field, and 0 where nothing is listed (R8, R9,
R360). -/
def State.readWord (s : State) (a : Nat) : Word :=
  if inMsix a then
    if 0x5000 ≤ a && a < 0x5020 then
      BitVec.ofNat 32 (bitWord ((List.range 256).filter s.vecPend) (32 * ((a - 0x5000) / 4)))
    else s.word a
  else if 0x02000000 ≤ a then s.readTable a
  else
    match pageOf (a / 4096) with
    | none => 0
    | some p =>
      let o := a % 4096
      match mirrorOf p o with
      | some src => s.lword (p.base + src)
      | none =>
        let w := s.word a &&& ~~~(BitVec.ofNat 32 (woMask a))
        overlay w (if o < 0x040 then s.shownHdr p o else s.shownPage p o)

/-! ### Reads with an effect (R359) -/

/-- A read of a lane's measurement first takes what the line has brought since the last: error counts, and the equaliser's
adaptation (R81, R92, Table 3.19). -/
def State.laneRead (s : State) (n : LaneNo) (o : Nat) : State :=
  match o with
  | 0x060 => s.sdiErrors n LANE.SDI_TRS_ERR
  | 0x064 => s.sdiErrors n LANE.SDI_CRC_ERR
  | 0x0D4 =>
    let s := s.adapt s n
    s.put (.lane n) LANE.RXEQ_STAT (Config.rxeqWord (s.lane n).ctle (s.lane n).dfe).toNat
  | 0x110 =>
    let a := s.fresh
    let x := (Config.freeValue a.1 64).toNat
    a.2.chkCount n (x % 2 ^ 32) (x / 2 ^ 32 % (x % 2 ^ 32 + 1))
  | _ => s

/-- A read of such a counter first takes what has come since the last read: a free value.
(DESIGN CHOICE, notes/assumptions/9.md) -/
def State.countRead (s : State) (p : Page) (c : Fld) : State :=
  let a := s.fresh
  a.2.add p c (Config.freeValue a.1 32).toNat

/-- The reads that return what their own effect brings: a lane's measurements, counters that no command moves, and the first word
of an event record. -/
def readsAfter (a : Nat) : Bool :=
  if a < 0x02000000 && !inMsix a then
    match pageOf (a / 4096), a % 4096 with
    | some (.lane _), o => o = 0x060 || o = 0x064 || o = 0x0D4 || o = 0x110
    | some .evr, o => o = 0x060 || o = 0x0A0
    | some p, o => (counted p o).isSome
    | _, _ => false
  else false

/-- The effect of a read of `a`: a LO word captures its HI word (R93, R97, R210, R228, R246, R293), and a read of the
event window latches a record or moves the cursor on (R438). -/
def State.readEffect (s : State) (a : Nat) : State :=
  if 0x02000000 ≤ a || inMsix a then s
  else
    match pageOf (a / 4096), a % 4096 with
    | some (.lane n), 0x114 => s.put (.lane n) LANE.LANE_BIT_CNT_HI_BITS ((s.lane n).bitCnt / 2 ^ 32)
    | some (.lane n), 0x060 => s.laneRead n 0x060
    | some (.lane n), 0x064 => s.laneRead n 0x064
    | some (.lane n), 0x0D4 => s.laneRead n 0x0D4
    | some (.lane n), 0x110 => s.laneRead n 0x110
    | some (.lane n), 0x18C => s.put (.lane n) LANE.LANE_IGN_TALLY_RX_HI_TALLY ((s.lane n).tally / 2 ^ 32)
    | some .time, 0x080 => s.put .time TIME.STC_LIVE_HI_STC (s.stc / 2 ^ 32)
    | some .time, 0x20C => s.put .time TIME.MT_OFF_HI_OFF (s.mtOffShown / 2 ^ 32)
    | some (.vtg v), 0x100 => s.put (.vtg v) VTG.TFRM_STC_HI ((s.vtgs.get v.val Vtg.init).tfrm / 2 ^ 32)
    | some (.tdm b), 0x070 => s.put (.tdm b) TDM.BLK_STC_HI_STC ((s.tdmPort b).blkStc / 2 ^ 32)
    | some .evr, 0x060 => s.evrLatch 0
    | some .evr, 0x07C => s.evrStep 0
    | some .evr, 0x0A0 => s.evrLatch 1
    | some .evr, 0x0BC => s.evrStep 1
    | some p, o => match counted p o with
      | some c => s.countRead p c
      | none => s
    | none, _ => s

/-- A read of the word at `a`: its value and the state after it. A record latched by the first window read is what that
read returns (R438), and a lane's measurement what the read has brought. -/
def State.readAt (s : State) (a : Nat) : Word × State :=
  let t := s.readEffect a
  if readsAfter a then (t.readWord a, t) else (s.readWord a, t)

end Sys2Proof.Machine
end

