-- ==== Sys2Proof/Machine/Access.lean ====
section
/-! DEFINITION. Accesses to BAR0: who may make them, what a write does to each field and which actions it starts
(R8, R33, R54, R359, R360, R368, R369, R372, R376 to R378, R397, R409, R414, R431, R438, R443). -/

namespace Sys2Proof.Machine

/-! ### Who may access what -/

/-- Offsets 0x000 to 0x03C of a page. -/
def inHeader (a : Nat) : Bool := a < 0x02000000 && !inMsix a && a % 4096 < 0x040

/-- The words of mailbox 1 in the HIF page. -/
def mailbox1 (o : Nat) : Bool := (0x110 ≤ o && o < 0x120) || (0x400 ≤ o && o < 0x600)

/-- The accesses the service SPI master may make (R368). -/
def spiMay (write : Bool) (a : Nat) : Bool :=
  if 0x02000000 ≤ a || inMsix a then false
  else
    match pageOf (a / 4096) with
    | none => false
    | some p =>
      let o := a % 4096
      p = .upd || p = .evr || p = .bbx || (p = .hif && mailbox1 o) ||
        (if write then o = 0x004 || (p = .glb && o = 0x0F0)
         else o < 0x040 || p = .glb || (p = .hif && o = 0x044))

/-- The pages that the PCIe and SPI masters reach before READY rises (R409). -/
def earlyPage (a : Nat) : Bool :=
  match ownerOf a with
  | some p => p = .glb || p = .hif || p = .busm || p = .upd || p = .evr || p = .bbx
  | none => false

/-- The number of the host master: 0 PCIe, 1 service SPI. -/
def hostNum (m : Master) : Option Nat :=
  match m with
  | .pcie => some 0
  | .spi => some 1
  | _ => none

/-- The host master to which a register answers alone, for a write (R369, R414, R443) or for any access (R438).
(DEDUCED, notes/assumptions/28.md) -/
def State.ownerAt (s : State) (write : Bool) (p : Page) (o : Nat) : Option (Option Nat) :=
  match p with
  | .hif =>
    if !write then none
    else if 0x100 ≤ o && o < 0x120 then some (some ((o - 0x100) / 16))
    else if 0x200 ≤ o && o < 0x300 then some (some 0)
    else if 0x400 ≤ o && o < 0x500 then some (some 1)
    else none
  | .upd =>
    if !write then none
    else if 0x040 ≤ o && o < 0x080 && o % 32 < 16 then some (some ((o - 0x040) / 32))
    else if 0x800 ≤ o then some (if s.sessOpen then some s.sessOwner else none)
    else none
  | .bbx =>
    if !write then none
    else if 0x040 ≤ o && o < 0x080 && o % 32 < 16 then some (some ((o - 0x040) / 32))
    else if 0x400 ≤ o && o < 0xC00 then some (some ((o - 0x400) / 1024))
    else none
  | .evr =>
    if 0x050 ≤ o && o < 0x0D0 then
      let q := (o - 0x050) % 64
      if q = 0 || (16 ≤ q && q < 48) then some (some ((o - 0x050) / 64)) else none
    else none
  | _ => none

/-- Master `m` may make this access (R368, R369, R372, R397, R408, R409, R414, R438, R443).
(DEDUCED, notes/assumptions/28.md) -/
def State.may (s : State) (m : Master) (write : Bool) (a : Nat) : Bool :=
  let early := match hostNum m with
    | none => true
    | some k => s.phase = 7 || (earlyPage a && (k = 0 || 3 ≤ s.phase))
  let mine := if 0x02000000 ≤ a || inMsix a then true
    else match pageOf (a / 4096) with
      | none => true
      | some p =>
        (match s.ownerAt write p (a % 4096) with | some k => k.isSome && hostNum m = k | none => true) &&
          (p ≠ .key || !write || m = .pcie || m = .efner || (m = .spi && a % 4096 = 0x004))
  let kind := match m with
    | .spi => spiMay write a
    | .dma => 0x02000000 ≤ a
    | _ => true
  early && mine && kind

/-- The target an address of BAR0 reaches: the register fabric or the table windows (Table 14.5). -/
def targetOf (a : Nat) : Nat := if 0x02000000 ≤ a then 5 else 0

/-- Why an access is answered with an error, and the target it would reach (R376 to R378).
(DEDUCED, notes/assumptions/26.md) -/
def State.denied (s : State) (m : Master) (write : Bool) (a strobes : Nat) : Option (Nat × Nat) :=
  if m = .debug && !s.debugOpen then some (2, targetOf a)
  else if !mapped a then some (0, 7)
  else if !s.may m write a then some (1, targetOf a)
  else if write && (strobes ≠ 15 || a % 4 ≠ 0) then some (3, targetOf a)
  else none

/-- ERR_LOG.SPACE of an access to BAR0 by `m` (Table 14.8). (DEDUCED, notes/assumptions/26.md) -/
def spaceOf (m : Master) : Nat := match m with | .pcie | .spi => 0 | _ => 2

/-! ### Storing a write (R8) -/

/-- The pages whose ENABLE reads 1 and ignores writes (R363). -/
def alwaysOn (p : Page) : Bool :=
  p = .glb || p = .tick || p = .hif || p = .busm || p = .key || p = .upd || p = .evr || p = .bbx

/-- The bits of a word that a rule of the function makes a write ignore: fixed fields (R59, R363), FUNC_INIT, which is an
action, key words while a command runs (R397), mailbox requests while BUSY (R370), a host queue's ring while it runs
(R165), and the registers that DOM_ADJ, DOM_STEP, COMMIT and CGRP_CTRL writes change by their own rules.
(DEDUCED, notes/assumptions/44.md) -/
def State.ignored (s : State) (p : Page) (o : Nat) : Nat :=
  if o = 0x004 then if alwaysOn p then 3 else 2
  else if o = 0x020 then 0xFFFFFFFF
  else
    match p with
    | .lane n => if 1024 ≤ n.val && o = 0x040 then 0x00FF00FF else 0
    | .glb => if 0x400 ≤ o && o < 0x500 then 0xFFFFFFFF else 0
    | .key =>
      if s.get .key KEY.KEY_STAT_BUSY = 1 && ((0x044 ≤ o && o < 0x050) || 0xC00 ≤ o) then 0xFFFFFFFF else 0
    | .hif =>
      if (0x200 ≤ o && o < 0x300 && s.get .hif (HIF.MBX_STAT_BUSY.at 0) = 1) ||
          (0x400 ≤ o && o < 0x500 && s.get .hif (HIF.MBX_STAT_BUSY.at 1) = 1) then 0xFFFFFFFF else 0
    | .eth q =>
      if (s.get (.eth q) ETH.HQ_RX_CTRL_EN = 1 && 0x204 ≤ o && o < 0x210) ||
          (s.get (.eth q) ETH.HQ_TX_CTRL_EN = 1 && 0x224 ≤ o && o < 0x230) then 0xFFFFFFFF else 0
    | .time =>
      if o = TIME.DOM_ADJ_ADJ.off || o = (TIME.DOM_ADJ_ADJ.at 1).off || o = TIME.DOM_STEP_WHEN.off ||
          o = (TIME.DOM_STEP_WHEN.at 1).off then 0xFFFFFFFF else 0
    | _ => 0

/-- The address holds configuration that FUNC_INIT sets to reset, and that cannot be written while it runs (R54). -/
def initKeeps (a : Nat) : Bool := 0x02000000 ≤ a || 0x040 ≤ a % 4096

/-- The bits of the word at `a` that a write sets: RW and RWS bits, less the ignored ones; none while FUNC_INIT of the page
runs, and no RWS bit while the page is locked (R8, R33, R54). -/
def State.writable (s : State) (p : Page) (a : Nat) : Word :=
  let free := BitVec.ofNat 32 (maskOf (fun t => t == .rw || (t == .rws && !s.locked p)) a)
  if s.busy.contains p && initKeeps a then 0
  else free &&& ~~~(BitVec.ofNat 32 (if 0x02000000 ≤ a then 0 else s.ignored p (a % 4096)))

/-- A write of `v` to the word at `a` of page `p`: each field as its type states, and LOCKED_WRITES for a write that the
lock ignores (R8, R33). -/
def State.store (s : State) (p : Page) (a : Nat) (v : Word) : State :=
  let m := s.writable p a
  let clears : Word := BitVec.ofNat 32 (maskOf (· == .w1c) a) &&& v
  let locked := s.locked p && rwsMask a != 0 && !(s.busy.contains p && initKeeps a)
  let t := s.setWord a (((s.word a &&& ~~~m) ||| (v &&& m)) &&& ~~~clears)
  if locked then t.lockedWrite p else t

/-! ### Counters (DIAG_CLR) -/

/-- Where DIAG_CLR of a page lies, and the counters it zeroes, as ranges of offsets (the diagnostic tables).
(DESIGN CHOICE, notes/assumptions/15.md) -/
def diagOf (p : Page) : Option (Nat × List (Nat × Nat)) :=
  match p with
  | .lane _ => some (0x1FC, [(0x060, 0x068), (0x1A0, 0x1B8)])
  | .xbp => some (0x3FC, [(0x300, 0x30C)])
  | .brc => some (0x1FC, [(0x1C0, 0x1D0)])
  | .xwpRoute => some (0x3FC, [(0x300, 0x308), (0x30C, 0x314)])
  | .xwpMap => some (0x3FC, [(0x300, 0x30C)])
  | .eth _ => some (0x7FC, [(0x710, 0x720), (0x740, 0x744)])
  | .msec _ => some (0xCFC, [(0xC00, 0xC18)])
  | .rxSlot _ => some (0x3FC, [(0x300, 0x334)])
  | .txSlot _ => some (0x3FC, [(0x300, 0x314)])
  | .cls _ => some (0x3FC, [(0x300, 0x30C), (0x310, 0x710)])
  | .time => some (0x6FC, [(0x600, 0x624)])
  | .ref => some (0x5FC, [(0x500, 0x56C), (0x580, 0x590)])
  | .vtg _ => some (0x1FC, [(0x10C, 0x110)])
  | .aud => some (0x3FC, [(0x300, 0x310)])
  | .flowaRx _ | .flowaTx _ => some (0x3FC, [(0x300, 0x304)])
  | .tdm _ => some (0x3FC, [(0x300, 0x314)])
  | .asrc => some (0x3FC, [(0x300, 0x308)])
  | .eng _ => some (0x4FC, [(0x400, 0x480), (0x4C0, 0x4C4)])
  | .engComp _ => some (0x4FC, [(0x400, 0x450)])
  | .gmc => some (0x2FC, [(0x100, 0x1C0), (0x220, 0x228)])
  | .hif => some (0x6FC, [(0x600, 0x614)])
  | .busm => some (0x1FC, [(0x100, 0x118), (0x120, 0x144), (0x150, 0x160)])
  | .key | .upd | .evr | .bbx => some (0x3FC, [(0x300, 0x314)])
  | _ => none

/-- The addresses of the counters that page `p`'s DIAG_CLR zeroes, HIT[59] of a CLS page among them, which shares the
address of DIAG_CLR; with a FLOWA page those of its flow entries. (DEDUCED, notes/assumptions/24.md) -/
def State.counters (s : State) (p : Page) : List Nat :=
  let here := match diagOf p with
    | some d => d.2.flatMap (fun r => s.listed (p.base + r.1) (p.base + r.2))
    | none => []
  let flows := match p with
    | .flowaRx b => (s.listed (0x02140000 + 16384 * b.val) (0x02144000 + 16384 * b.val)).filter (fun a => 0x2C ≤ a % 64)
    | .flowaTx b => (s.listed (0x02180000 + 16384 * b.val) (0x02184000 + 16384 * b.val)).filter (fun a => 0x38 ≤ a % 64)
    | _ => []
  here ++ flows

/-- A write of 1 to DIAG_CLR of page `p`: what is the highest since the last clear begins with the value that stands.
(DEDUCED, notes/assumptions/24.md) -/
def State.diagClear (s : State) (p : Page) : State :=
  let t := (s.counters p).foldl (fun (s : State) a => s.setWord a 0) s
  match p with
  | .upd => { t with vbat := { t.vbat with bootCnt := 0 } }
  | .xwpRoute => (List.range 64).foldl State.ingPeak t
  | .rxSlot n => t.put p RXS.RX_BUF_USE_PEAK (t.rx n).pkts.length
  | _ => t

/-! ### Actions that a write starts -/

/-- FAULT_INJ with FIRE (R431, R432, R49). -/
def State.inject (s : State) (p : Page) (site cls : Nat) : State :=
  match cls with
  | 1 => (((s.put p HDR.FAULT_STAT_CORR_INJ 1).add .glb GLB.INJ_CNT_COUNT 1).offer p 0x0019 site 0).unusual
  | 2 => (((s.put p HDR.FAULT_STAT_CONT_INJ 1).add .glb GLB.INJ_CNT_COUNT 1).offer p 0x001A site 0).unusual
  | 3 => (((s.put p HDR.FAULT_STAT_FATAL_INJ 1).add .glb GLB.INJ_CNT_COUNT 1).offer p 0x001B site 0).unusual
  | _ => s

/-- The header's actions: FUNC_INIT, INT_TEST, COMMIT and FAULT_INJ (Table 14.2). -/
def State.hdrAction (s : State) (m : Master) (p : Page) (o v : Nat) : State :=
  if o = 0x004 then if bitAt v 1 = 1 then s.funcInit p m else s
  else if o = 0x014 then
    let w : Word := BitVec.ofNat 32 (v &&& p.causes)
    if w = 0 then s else (s.setWord (p.base + 0x00C) (s.word (p.base + 0x00C) ||| w)).unusual
  else if o = 0x020 then s.commitWrite p v
  else if o = 0x028 then if bitAt v 31 = 1 then s.inject p (bits v 8 8) (bits v 0 2) else s
  else s

/-- The words that writing 1 to a VALID bit clears, beyond the bit, by the offset of the register.
(DEDUCED, notes/assumptions/25.md) -/
def logWords (p : Page) (o : Nat) : List Nat :=
  match p, o with
  | .glb, 0x2C0 => [0x2C0]
  | .brc, 0x180 => [0x180, 0x184, 0x188, 0x18C, 0x190, 0x194]
  | .xwpRoute, 0x040 => [0x040]
  | .xwpMap, 0x040 => [0x040]
  | .flowv _, 0x060 => [0x060]
  | .flowaTx _, 0x040 => [0x040]
  | .eng _, 0x04C => [0x04C, 0x050]
  | .gmc, 0x050 => [0x050, 0x054]
  | .busm, 0x080 => [0x080, 0x084, 0x088]
  | _, _ => []

/-- Writing 1 to VALID clears the record of the log at `o`. (DEDUCED, notes/assumptions/25.md) -/
def State.logClear (s : State) (p : Page) (o v : Nat) : State :=
  if bitAt v 31 = 1 then (logWords p o).foldl (fun (s : State) w => s.setWord (p.base + w) 0) s else s

/-- TIME_CAP.CAP: the STC and the times of A, B and MT are captured (Table 8.3). -/
def State.timeCap (s : State) : State :=
  let put := fun (s : State) (i x : Nat) => s.puts .time
    [(TIME.CAP_SEC_LO_SEC.at i, secOf x), (TIME.CAP_SEC_HI_SEC.at i, secOf x / 2 ^ 32), (TIME.CAP_SEC_HI_FRAC.at i, fracOf x),
     (TIME.CAP_NS_NS.at i, nsOf x)]
  let s := s.puts .time [(TIME.CAP_STC_LO_STC, s.stc), (TIME.CAP_STC_HI_STC, s.stc / 2 ^ 32)]
  put (put (put s 0 s.clk.domA) 1 s.clk.domB) 2 s.mt

/-- A write of MBX_CTRL, MBX_STAT or MBX_REQ, and of HIF_EOI. `ok` tells whether what a command needs of the flash
succeeds. -/
def State.hifAction (s : State) (o v : Nat) (ok : Bool) : State :=
  let done := fun (k : Nat) => if bitAt v 31 = 1 then s.put .hif (HIF.MBX_STAT_REJECTS.at k) 0 else s
  let req := fun (k : Nat) => if s.get .hif (HIF.MBX_STAT_BUSY.at k) = 1 then s.mbxReject k false else s
  match o with
  | 0x048 => s.eoi (bits v 0 8)
  | 0x100 => s.mbxCtrl 0 (bitAt v 31 = 1) (bitAt v 30 = 1) ok
  | 0x110 => s.mbxCtrl 1 (bitAt v 31 = 1) (bitAt v 30 = 1) ok
  | 0x104 => done 0
  | 0x114 => done 1
  | _ => if 0x200 ≤ o && o < 0x300 then req 0 else if 0x400 ≤ o && o < 0x500 then req 1 else s

/-- A write of KEY_CMD or KEY_STAT. `w` tells whether entropy and OTP serve the command.
(DEDUCED, notes/assumptions/23.md) -/
def State.keyAction (s : State) (o v : Nat) (w : Served) : State :=
  if o = 0x040 then if bitAt v 31 = 1 then s.keyGo (bits v 0 8) w.entropy w.store s.measures s.chipId else s
  else if o = 0x050 && bitAt v 31 = 1 then s.put .key KEY.KEY_STAT_REJECTS 0
  else s

/-- A write of UPD_CMD or UPD_STAT. (DEDUCED, notes/assumptions/23.md) -/
def State.updAction (s : State) (o v : Nat) (ok : Bool) : State :=
  let k := (o - 0x040) / 32
  if 0x040 ≤ o && o < 0x080 then
    if o % 32 = 0 then if bitAt v 31 = 1 then s.updGo k (bits v 0 8) ok else s
    else if o % 32 = 12 && bitAt v 31 = 1 then s.put .upd (UPD.UPD_STAT_REJECTS.at k) 0
    else s
  else s

/-- A write of BBX_CMD or BBX_STAT. -/
def State.bbxAction (s : State) (o v : Nat) (ok : Bool) : State :=
  let k := (o - 0x040) / 32
  if 0x040 ≤ o && o < 0x080 then
    if o % 32 = 0 then if bitAt v 31 = 1 then s.bbxGo k (bits v 0 8) ok else s
    else if o % 32 = 12 && bitAt v 31 = 1 then s.put .bbx (BBX.BBX_STAT_REJECTS.at k) 0
    else s
  else s

/-- A write of a LANE register with an action; `old` is the state before the write (R83, R89, R91, R92, R94, R95). -/
def State.laneAction (s old : State) (n : LaneNo) (o v : Nat) : State :=
  if o = LANE.LANE_RXEQ_DFE_HOLD.off then s.rxeqWritten old n
  else if o = LANE.LANE_PRBS_GEN_EN.off then s.genWritten old n
  else if o = LANE.LANE_PRBS_CHK_EN.off then s.chkWritten old n (bitAt v 5 = 1)
  else if o = LANE.LANE_ERR_INJ_SHOT.off then if bitAt v 31 = 1 then s.injectBit n else s
  else if o = LANE.LANE_EYE_CTRL_START.off then if bitAt v 31 = 1 then s.eyeStart n else s
  else if o = LANE.LANE_IGN_CTRL_RESTART.off then if bitAt v 31 = 1 then (s.ignRestart n).linkUpdate.follow' else s
  else s

/-- A write of an ETH register with an action (R153, R165, R169). -/
def State.ethAction (s old : State) (p : PortNo) (o v : Nat) : State :=
  if o = 0x04C then
    let s := if bitAt v 31 = 1 then s.ethAfresh p else s
    if bitAt v 30 = 1 then s.cntSnap p else s
  else if o = 0x200 then s.hqEnWritten old p false
  else if o = 0x220 then s.hqEnWritten old p true
  else s

/-- Master `m` is the firmware that runs the servos (R213). -/
def isFirmware (m : Master) : Bool := match m with | .core _ => true | _ => false

/-- A write of a TIME register with an action (R211, R213, R214, R228). -/
def State.timeAction (s : State) (m : Master) (o v : Nat) : State :=
  if o = 0x040 then if bitAt v 31 = 1 then s.timeCap else s
  else if o = TIME.DOM_ADJ_ADJ.off then s.domAdj 0 (isFirmware m) v
  else if o = (TIME.DOM_ADJ_ADJ.at 1).off then s.domAdj 1 (isFirmware m) v
  else if o = TIME.DOM_STEP_WHEN.off then s.domStep 0 (isFirmware m) v
  else if o = (TIME.DOM_STEP_WHEN.at 1).off then s.domStep 1 (isFirmware m) v
  else s

/-- A write of BRC_CTRL: the link follows EN and REALIGN (Table 4.9). -/
def State.brcAction (s : State) (v : Nat) : State :=
  let s := s.linkUpdate
  (if bitAt v 31 = 1 then s.linkRealign else s).follow'

/-- A write of an MSEC register of an SA record: the SA counts as written since the last fire (Table 6.13). -/
def State.msecAction (s : State) (p : PortNo) (o : Nat) : State :=
  let sa := if o % 32 = 28 then none
    else if 0x200 ≤ o && o < 0x300 then some ((o - 0x200) / 32)
    else if 0x400 ≤ o && o < 0xC00 then some (16 + (o - 0x400) / 32)
    else none
  match sa with
  | some x => { s with saWritten := insertNat s.saWritten (128 * p.val + x) }
  | none => s

/-- A write of an EVR register with an action (R440). -/
def State.evrAction (s : State) (m : Master) (o v : Nat) : State :=
  match hostNum m with
  | some k => if o = 0x048 then s.evrClr k (bitAt v 31 = 1) (bitAt v 30 = 1) else s
  | none => s

/-- The action of a write of `v` to offset `o` of page `p`, after its fields have been stored over those of `old`. -/
def State.pageAction (s old : State) (m : Master) (p : Page) (o v : Nat) (ok : Served) : State :=
  match p with
  | .glb =>
    if o = 0x0F0 then s.softReset m v
    else if 0x400 ≤ o && o < 0x500 then s.cgrpWrite ((o - 0x400) / 4) v
    else if o = 0x640 && bitAt v 31 = 1 then s.auditSnap
    else s
  | .hif => s.hifAction o v ok.store
  | .time => s.timeAction m o v
  | .lane n => s.laneAction old n o v
  | .xbp => if XBP.XBP_PGEN_PAT.hits o then s.pgenTaken ((o - XBP.XBP_PGEN_PAT.off) / XBP.XBP_PGEN_PAT.s1) else s
  | .brc => if o = 0x040 then s.brcAction v else s
  | .eth q => s.ethAction old q o v
  | .msec q => if old.writable p (p.base + o) = 0 then s else s.msecAction q o
  | .aud => if o = 0x054 && bitAt v 31 = 1 then { s with aud := { s.aud with snap := true } } else s
  | .tdm b => if o = 0x060 && bitAt v 31 = 1 then s.tdmRestart b else s
  | .key => s.keyAction o v ok
  | .upd => s.updAction o v ok.store
  | .evr => s.evrAction m o v
  | .ref => if REF.DPLL_HIST_HIST.hits o then allDplls.foldl State.disagreeSet s else s
  | .bbx => s.bbxAction o v ok.store
  | _ => s

/-- A whole aligned write of `v` to address `a`, in a page or a table, by a master that may make it (R8). -/
def State.write (s : State) (m : Master) (a : Nat) (w : Word) (ok : Served) : State :=
  if inMsix a then
    s.setWord a ((s.word a &&& ~~~(BitVec.ofNat 32 (maskOf (· == .rw) a))) ||| (w &&& BitVec.ofNat 32 (maskOf (· == .rw) a)))
  else
    match ownerOf a with
    | none => s
    | some p =>
      let t := s.store p a w
      if 0x02000000 ≤ a then t
      else
        let o := a % 4096
        let v := w.toNat
        if o < 0x040 then t.hdrAction m p o v
        else
          let t := if (diagOf p).any (fun d => d.1 = o) && bitAt v 0 = 1 then t.diagClear p else t
          (t.logClear p o v).pageAction s m p o v ok

/-! ### An access at the bus -/

/-- Master `m`'s next access after a broken lock is answered with an error (R375).
(DEDUCED, notes/assumptions/27.md) -/
def State.owesError (s : State) (m : Master) : Bool := s.bus.errNext.contains m.num

/-- That error is given. (DEDUCED, notes/assumptions/27.md) -/
def State.giveError (s : State) (m : Master) (write : Bool) : State :=
  ({ s with bus := { s.bus with errNext := s.bus.errNext.filter (· ≠ m.num) } } : State).emit (.accessErr m write)

/-- A request of the PCIe master is received (Table 14.7). -/
def State.received (s : State) (m : Master) : State := if m = .pcie then s.add .hif HIF.TLP_RX 1 else s

/-- Master `m` writes `v` to BAR0 address `a` with byte strobes (R359, R372, R376). -/
def State.busWrite (s : State) (m : Master) (a strobes : Nat) (v : Word) (ok : Served) : State :=
  let s := s.received m
  if s.owesError m then s.giveError m true
  else
    match s.denied m true a strobes with
    | some (reason, target) => s.refuse m true a reason (spaceOf m) target
    | none => s.write m a v ok

/-- Master `m` reads BAR0 address `a` (R359, R372, R376). -/
def State.busRead (s : State) (m : Master) (a : Nat) : State :=
  let s := s.received m
  let a := a / 4 * 4
  if s.owesError m then s.giveError m false
  else
    match s.denied m false a 15 with
    | some (reason, target) => s.refuse m false a reason (spaceOf m) target
    | none => let r := s.readAt a; r.2.emit (.readData m r.1)

/-- A write of a whole word by `m` to offset `o` of page `p`. -/
def State.pageWrite (s : State) (m : Master) (p : Page) (o : Nat) (v : Word) (ok : Served) : State :=
  s.busWrite m (p.base + o) 15 v ok

/-! ### The service SPI port (R367, R368) -/

/-- The status byte of STATUS (Table 14.3). -/
def State.spiByte (s : State) : Nat :=
  b2n (!s.spi.queue.isEmpty) + 2 * b2n s.spi.err + 4 * b2n s.spi.ovf + 8 * b2n s.ready + 16 * b2n s.fatalN

/-- The service port answers: the end of ROM has passed (Table 16.3). -/
def State.spiServed (s : State) : Bool := s.phase ≠ 1

/-- The bytes with which a READ answers a dword: the marker 0xA5 and the data, least significant byte first; or 0xE1 for an access
that failed. Wait bytes 0x00 come before (R367). -/
def spiBytes (e : Emit) : List Nat :=
  match e with
  | .readData .spi v => 0xA5 :: leBytes v.toNat 4
  | .accessErr .spi false => [0xE1]
  | _ => []

/-- The four lines SV_IO[3:0], line 0 lowest, that carry a byte: its high nibble first (R367). -/
def spiNibbles (b : Nat) : List Nat := [bits b 4 4, b % 16]

/-- READ: `count` dwords from address `a`. -/
def State.spiRead (s : State) (a count : Nat) : State :=
  if !s.spiServed then s else
  (List.range count).foldl (fun (s : State) i => s.busRead .spi (a / 4 * 4 + 4 * i))
    { s with spi := { s.spi with reading := true } }

/-- The oldest queued write is performed. (DEDUCED, notes/assumptions/97.md) -/
def State.spiStep (s : State) (ok : Served) : State :=
  match s.spi.queue with
  | [] => s
  | e :: rest =>
    let bad := (s.denied .spi true e.1 15).isSome || s.owesError .spi
    let s : State := { s with spi := { s.spi with queue := rest, err := s.spi.err || bad } }
    s.busWrite .spi e.1 15 (BitVec.ofNat 32 e.2) ok

/-- A dword of WRITE arrives for address `a`: queued, or dropped with 64 queued. -/
def State.spiQueue (s : State) (a v : Nat) : State :=
  if s.spi.queue.length < 64 then { s with spi := { s.spi with queue := s.spi.queue ++ [(a, v)] } }
  else { s with spi := { s.spi with ovf := true } }

/-- WRITE: the dwords that arrive for address `a` on; each comes with how many queued writes are performed just after it,
and `ok` as for their commands. -/
def State.spiWrite (s : State) (a : Nat) (dwords : List (Word × Nat)) (ok : Served) : State :=
  if !s.spiServed then s else
  let s : State := { s with spi := { s.spi with err := false, ovf := false } }
  ((dwords.zip (List.range dwords.length)).foldl (fun (s : State) d =>
    (List.range d.1.2).foldl (fun (s : State) _ => s.spiStep ok) (s.spiQueue (a / 4 * 4 + 4 * d.2) d.1.1.toNat)) s)

/-- STATUS. -/
def State.spiStatus (s : State) : State :=
  if !s.spiServed then s else s.emit (.readData .spi (BitVec.ofNat 32 s.spiByte))

/-- SV_CS_N rises: during a READ, or with writes queued, the service SPI master is reset, and the queued dwords are still
written. `flight` names the beats nulled of a transaction in progress (R368, R380).
(DEDUCED, notes/assumptions/97.md) -/
def State.spiRise (s : State) (flight : Option Nat) (ok : Served) : State :=
  let resets := s.spi.reading || !s.spi.queue.isEmpty
  let s : State := { s with spi := { s.spi with reading := false } }
  let s := if resets then s.masterReset 1 (flight.map (fun n => (0, n))) else s
  (List.range s.spi.queue.length).foldl (fun (s : State) _ => s.spiStep ok) s

/-! ### BAR2 (R356) -/

/-- The bytes of a dword whose enables are set, with their addresses. -/
def enabled (a be : Nat) (v : Word) : List (Nat × Nat) :=
  (List.range 4).filterMap (fun i => if bitAt be i = 1 then some (a + i, bits v.toNat (8 * i) 8) else none)

/-- One dword of an access at offset `x` of BAR2: a write with byte enables and a value, or a read. -/
def State.bar2Dword (s : State) (x : Nat) (write : Bool) (be : Nat) (v : Word) : State :=
  let w := x / 2 ^ 28
  let o := x % 2 ^ 28
  if s.owesError .pcie then s.giveError .pcie write
  else if s.get .hif (HIF.BAR2_WIN_TGT.at w) = 0 then
    let a := s.get .hif (HIF.BAR2_WIN_BASE.at w) * 2 ^ 20 + o
    if 0x5F4000000 ≤ a then s.refuse .pcie write x 4 1 4
    else if write then (enabled a be v).foldl (fun (s : State) e => s.gddrWrite e.1 [e.2]) s
    else s.emit (.readData .pcie (BitVec.ofNat 32 (s.gddrLe a 4)))
  else
    let a := 0x02000000 + o
    if 0x02000000 ≤ o || !mapped a then s.refuse .pcie write x 0 1 7
    else
      match s.denied .pcie write (if write then a else a / 4 * 4) be with
      | some (reason, target) => s.refuse .pcie write x reason 1 target
      | none =>
        if write then s.write .pcie a v ⟨true, true⟩
        else let r := s.readAt (a / 4 * 4); r.2.emit (.readData .pcie r.1)

/-- A request at BAR2 offset `x`: its dwords in ascending order (R356, R359). -/
def State.bar2 (s : State) (x : Nat) (write : Bool) (dwords : List (Nat × Word)) : State :=
  (dwords.zip (List.range dwords.length)).foldl (fun (s : State) d => s.bar2Dword (x + 4 * d.2) write d.1.1 d.1.2)
    (s.received .pcie)

end Sys2Proof.Machine
end

