-- ==== Sys2Proof/Machine/Ticks.lean ====
section
/-! DEFINITION. The common frame of every command, and what a T_SMP and a T_FRM do to the planes (R24, R49, R245, R253). -/

namespace Sys2Proof.Machine

/-- A command of a running device: its core cycle is reached, it acts, and interrupt messages that are due go out. While
the device holds itself in reset it does nothing (R407, R458 to R461). (DEDUCED, notes/assumptions/12.md) -/
def State.run (s : State) (t : Nat) (f : State → State) : State :=
  let s := s.begin t
  if s.boot.hold = 0 then (f s).settle else s

/-- A command that also acts while the device is held in reset: power, reset pins, tamper and the test access port.
(DEDUCED, notes/assumptions/12.md) -/
def State.always (s : State) (t : Nat) (f : State → State) : State := (f (s.begin t)).settle

/-- Slot words put into a generation; a later source of one slot, which no valid configuration has, overwrites.
(DEDUCED, notes/assumptions/80.md) -/
def putSlots (slots : Tab Nat) (l : List (Nat × Nat)) : Tab Nat := l.foldl (fun (t : Tab Nat) e => t.set e.1 e.2 0) slots

/-- A source writes its part of the new generation. (DEDUCED, notes/assumptions/80.md) -/
def withSlots (acc : State × Tab Nat) (r : State × List (Nat × Nat)) : State × Tab Nat := (r.1, putSlots acc.2 r.2)

/-- Every source writes generation n: de-embedders, receive flows, TDM ports, ASRC channels of flows and generators
(R253 step 2). `g` is the grid media time of the T_SMP. -/
def State.sources (s : State) (g : Frac) : State × Tab Nat :=
  let low := lowByte (gridCount g)
  let acc : State × Tab Nat := (s, [])
  let acc := if acc.1.running .xwpMap then withSlots acc acc.1.deembSmp else acc
  let acc := (acc.1.flowListed false).foldl (fun (acc : State × Tab Nat) n =>
    if acc.1.running (.flowaRx (flowBay n)) then withSlots acc (acc.1.arxSmp n g) else acc) acc
  let acc := (List.finRange 16).foldl (fun (acc : State × Tab Nat) b =>
    if acc.1.running (.tdm b) then withSlots acc (acc.1.tdmSmp b low) else acc) acc
  let acc := if acc.1.running .asrc then withSlots acc (acc.1.asrcFlowSmp low) else acc
  if acc.1.running .aud then withSlots acc (acc.1, acc.1.genSlots (gridCount g)) else acc

/-- Every send flow takes its sample of the last T_SMP (R253 step 3, R275). -/
def State.flowsSample (s : State) (g : Frac) : State :=
  (s.flowListed true).foldl (fun (s : State) n => if s.running (.flowaTx (flowBay n)) then s.atxSmp n g else s) s

/-- A T_SMP (R253). What it applies comes first; consumers take the outputs of the last generation; then the sources
write the new one and every entry computes its output. -/
def State.tickSmp (s : State) : State :=
  let s := (s.smpFell.refCatch.timeSmp.auditCheck.add .tick TICK.SMP_COUNT_COUNT 1).meterSnap
  let s := s.braceSmp.tick .smp
  let s := if s.running .brc then s.makeFull else s
  let s : State := { s with aud := { s.aud with
    cons := s.aud.outs, past := ((s.now, s.aud.outs) :: s.aud.past).take 8 } }
  let s := s.flowsSample ⟨s.aud.gNum, s.aud.gDen⟩
  let r := s.smpTime
  let q := r.1.sources r.2
  let s : State := { q.1 with aud := { q.1.aud with slots := q.2, gNum := r.2.n, gDen := r.2.d } }
  let s := if s.running .aud then s.audCompute else { s with aud := { s.aud with outs := [] } }
  if s.running .ref then s.ptpEvent 2 r.2 else s

/-- A T_FRM of VTG `v`, when it is enabled and the tick falls here: its STC, its number, what it makes due, the evaluation of the bit plane and
the engines that run on it (R110, R132, R245, R306). -/
def State.tickFrm (s : State) (v : Fin 32) : State :=
  if !s.vtgEn v.val || !s.running (.vtg v) || !s.frmDue v then s
  else
    let x := s.vtgs.get v.val Vtg.init
    let s : State := { s with vtgs := s.vtgs.set v.val { x with tfrm := s.stc, ticked := true } Vtg.init }
    let s := (s.braceFrm v.val).tick (.frm v.val)
    let s := if s.running .brc && s.vtgEn v.val then s.makeFrame v.val else s
    (if s.running .xbp then s.xbpEvaluate v.val else s).engFrm v.val

/-- STC tick k falls: it is armed live and the STC has reached STC_AT (R27). -/
def State.tickStc (s : State) (k : Fin 8) : State :=
  if s.stcLive k.val && 0 ≤ s.stcPast k.val then s.tick (.stc k.val) else s

end Sys2Proof.Machine
end

