-- ==== Sys2Proof/Machine/Events.lean ====
section
/-! DEFINITION. Events that reach the block from its pins, links, timers and firmware and that no other file holds: lane
energy and lock, SDI lock, port timers, servo measurements, the PPS pins and the DPLL timers (chapters 3, 6, 8, 9). -/

namespace Sys2Proof.Machine

/-! ### Lanes (R63, R66, R67, R82, R87 to R95, R101) -/

/-- An event of lane `n`, when its page's function runs; the brace link follows its lanes, and the planes their
signals. (DEDUCED, notes/assumptions/4.md; DEDUCED, notes/assumptions/13.md) -/
def State.laneEvent (s : State) (n : LaneNo) (f : State → State) : State :=
  if s.running (.lane n) then
    let t := f s
    (if isBrace n then t.linkUpdate else t).follow'
  else s

/-- SIG_DET rises (Table 3.11). -/
def State.sigFound (s : State) (n : LaneNo) : State :=
  if s.rxMode true n = 0 || s.get (.lane n) LANE.LANE_STAT_SIG_DET = 1 then s
  else (s.put (.lane n) LANE.LANE_STAT_SIG_DET 1).raise (.lane n) LANE.INT_STAT_SIG_FOUND

/-- SIG_DET falls. -/
def State.sigLost (s : State) (n : LaneNo) : State :=
  if s.get (.lane n) LANE.LANE_STAT_SIG_DET = 0 then s
  else (s.put (.lane n) LANE.LANE_STAT_SIG_DET 0).raise (.lane n) LANE.INT_STAT_SIG_LOST

/-- The CDR locks (R101). -/
def State.cdrGained (s : State) (n : LaneNo) : State :=
  if s.rxMode true n = 0 then s else s.put (.lane n) LANE.LANE_STAT_CDR_LOCK 1

/-- The CDR loses lock, and with it an SDI lane its word lock (R67, R101). -/
def State.cdrLost (s : State) (n : LaneNo) : State := (s.put (.lane n) LANE.LANE_STAT_CDR_LOCK 0).sdiLost n

/-- The receiver hunts: SDI word mode with a hunt code, without word lock (R66). -/
def State.hunts (s : State) (n : LaneNo) : Bool :=
  s.rxMode true n = 2 && s.live (.lane n) LANE.LANE_MODE_RX_SDI < 3 && s.get (.lane n) LANE.LANE_STAT_WORD_LOCK = 0

/-- The dwell on one candidate is over: CDR_LOCK falls while the receiver retunes to the next (R66, R101).
(DEDUCED, notes/assumptions/40.md) -/
def State.huntDwell (s : State) (n : LaneNo) : State :=
  if s.hunts n then
    (s.put (.lane n) LANE.LANE_STAT_CDR_LOCK 0).modLane n
      (fun l => { l with hunt := huntNext (s.live (.lane n) LANE.LANE_MODE_RX_SDI) l.hunt })
  else s

/-- An SDI lane accepts `rate`, which is the candidate it tries or its fixed rate: word lock, DET_SDI and LEVEL_B; a hunting
lane that locks at a rate other than its last raises RATE_CHANGED; tenons beyond the detected stream carry fill (R66 to
R68). `video` gives the format code and the core
cycle of the start of one of its switch lines. (DEDUCED, notes/assumptions/41.md) -/
def State.sdiLocked (s : State) (n : LaneNo) (rate : Nat) (levelB : Bool) (video : Option (Nat × Nat)) : State :=
  if s.rxMode true n ≠ 2 || s.get (.lane n) LANE.LANE_STAT_WORD_LOCK = 1 ||
      s.get (.lane n) LANE.LANE_STAT_CDR_LOCK = 0 || rate ≠ (s.lane n).hunt || rate < 3 || 0xB < rate then s
  else
    let last := (s.lane n).lastRate
    let s := if s.hunts n && last ≠ 0 && last ≠ rate then s.raise (.lane n) LANE.INT_STAT_RATE_CHANGED else s
    let s := (s.setWordLock n true).puts (.lane n)
      [(LANE.LANE_STAT_DET_SDI, rate), (LANE.LANE_STAT_LEVEL_B, b2n levelB)]
    s.modLane n (fun l => { l with
      lastRate := rate, hunt := rate, fill := 0xFF / 2 ^ sdiTenons rate * 2 ^ sdiTenons rate, video := video })

/-- An elastic buffer of a word path overflows or underflows: a contained fault, and fill until word lock is regained (R62,
R63). -/
def State.elasticFault (s : State) (n : LaneNo) : State :=
  if s.live (.lane n) LANE.LANE_MODE_WORD_EN = 0 || s.rxMode true n < 2 || isBrace n then s
  else (s.modLane n (fun l => { l with fill := 0xFF, starved := true })).fault (.lane n) .contained 0 0

/-- BACKOFF has elapsed (Table 3.8). -/
def State.ignBackoffOver (s : State) (n : LaneNo) : State :=
  if s.ign n = 5 && (s.lane n).ignAt + backoffMs (s.get (.lane n) LANE.LANE_STAT_ATTEMPT) * cyclesPerMs ≤ s.now then s.detect n
  else s

/-- LISTEN is left for DETECT, after 1 ms at the earliest (Table 3.8). -/
def State.ignListenOver (s : State) (n : LaneNo) : State :=
  if s.ign n = 6 && (s.lane n).ignAt + cyclesPerMs ≤ s.now then s.detectAfresh n else s

/-- 10 ms in RESYNC without superframe lock (Table 3.8). -/
def State.ignResyncOver (s : State) (n : LaneNo) : State :=
  if s.ign n = 7 && (s.lane n).ignAt + 10 * cyclesPerMs ≤ s.now then (s.put (.lane n) LANE.LANE_STAT_ATTEMPT 0).detect n else s

/-- The own receiver has converged (R87). -/
def State.rxConverged (s : State) (n : LaneNo) : State :=
  if s.ign n = 2 then s.modLane n (fun l => { l with rxReady := true }) else s

/-- The checker is locked when the received bits `line`, in line order, match for 64 bits the pattern it expects: seeded
from them, at one of the 64 alignments of the user pattern, or as descrambled SDI (R92). -/
def State.prbsLocked (s : State) (n : LaneNo) (line : List Bool) : State :=
  let g := fun f => s.get (.lane n) f
  if g LANE.LANE_PRBS_CHK_EN = 1 && s.rxMode true n ≠ 0 &&
      followsPattern (g LANE.LANE_PRBS_CHK_PAT) (s.lane n).userChk (g LANE.LANE_PRBS_CHK_INV = 1) line then
    s.put (.lane n) LANE.LANE_PRBS_CHK_LOCKED 1
  else s

/-- 16 errors within 64 bits: the checker has compared `nbits` more bits with `errs` errors, and reseeds (R92). -/
def State.prbsLost (s : State) (n : LaneNo) (nbits errs : Nat) : State :=
  if s.get (.lane n) LANE.LANE_PRBS_CHK_LOCKED = 0 || errs < 16 then s
  else ((s.chkCount n nbits errs).put (.lane n) LANE.LANE_PRBS_CHK_LOCKED 0).raise (.lane n) LANE.INT_STAT_PRBS_LOCK_LOST

/-- The periodic count of 2^K bits expires; K below 4 injects nothing (R94). -/
def State.injectPeriodic (s : State) (n : LaneNo) : State :=
  if s.get (.lane n) LANE.LANE_ERR_INJ_K < 4 then s else s.injectBit n

/-- An eye point completes with `errs` disagreements (R95). (DEDUCED, notes/assumptions/42.md)
(DESIGN CHOICE, notes/assumptions/113.md) -/
def State.eyeDone (s : State) (n : LaneNo) (errs : Nat) : State :=
  if s.get (.lane n) LANE.LANE_EYE_STAT_BUSY = 0 then s
  else (s.puts (.lane n) [(LANE.LANE_EYE_ERR_ERR, sat 32 errs), (LANE.LANE_EYE_STAT_BUSY, 0), (LANE.LANE_EYE_STAT_DONE, 1)]).raise
    (.lane n) LANE.INT_STAT_EYE_DONE

/-! ### MAC ports (R153, Table 6.2) -/

/-- An event of MAC port `p`, when its page's function runs. (DEDUCED, notes/assumptions/4.md) -/
def State.portEvent (s : State) (p : PortNo) (f : State → State) : State := if s.running (.eth p) then f s else s

/-- 500 ms in TRAIN without completion. -/
def State.ethTrainOver (s : State) (p : PortNo) : State :=
  if s.link p = 2 && (s.port p).linkAt + 500 * cyclesPerMs ≤ s.now then s.ethFail p ETH.INT_STAT_TRAIN_FAIL else s

/-- 50 ms in ALIGN without lock. -/
def State.ethAlignOver (s : State) (p : PortNo) : State :=
  if s.link p = 3 && (s.port p).linkAt + 50 * cyclesPerMs ≤ s.now then s.ethFail p ETH.INT_STAT_ALIGN_FAIL else s

/-- Loss of alignment or hi_ber in UP. -/
def State.ethLinkLost (s : State) (p : PortNo) : State := if s.link p = 4 then s.setLink p (s.ethEntry p) else s

/-- BACKOFF has elapsed. -/
def State.ethBackoffOver (s : State) (p : PortNo) : State :=
  if s.link p = 5 && (s.port p).linkAt + backoffMs (s.get (.eth p) ETH.ETH_STAT_FAIL_CNT) * cyclesPerMs ≤ s.now then
    s.setLink p (s.ethEntry p)
  else s

/-! ### Servos (R215) -/

/-- DOM_ADJ of domain `d` since it entered LOCKED, newest first. (DESIGN CHOICE, notes/assumptions/72.md) -/
def Clocks.hist (c : Clocks) (d : Fin 2) : List (Nat × Int) := if d = 0 then c.histA else c.histB

/-- Consecutive measurements of domain `d` within 1 µs. -/
def Clocks.runOf (c : Clocks) (d : Fin 2) : Nat := if d = 0 then c.runA else c.runB

/-- Set that count. -/
def Clocks.setRun (c : Clocks) (d : Fin 2) (n : Nat) : Clocks := if d = 0 then { c with runA := n } else { c with runB := n }

/-- Set the history. -/
def Clocks.setHist (c : Clocks) (d : Fin 2) (h : List (Nat × Int)) : Clocks :=
  if d = 0 then { c with histA := h } else { c with histB := h }

/-- HOLDOVER: the firmware that owns the servo holds DOM_ADJ at its mean over the last 64 s of LOCKED (R213, R215). -/
def State.servoHold (s : State) (d : Fin 2) : State :=
  let was := s.servo d
  let m := meanSince (s.now - 64 * cyclesPerSec) s.now (s.clk.hist d)
  let t := s.setServo d 3
  if was = 2 && m.2 ≠ 0 && t.ownsServo d true then t.steer d (wrap 32 (openDiv 16 m.1 m.2)) else t

/-- LOCKED is entered. -/
def State.servoLock (s : State) (d : Fin 2) : State :=
  ({ s with clk := s.clk.setHist d [(s.now, s.clk.adj d)] } : State).setServo d 2

/-- The state after a measurement that is within 1 µs or not (R215). (DEDUCED, notes/assumptions/71.md) -/
def State.servoNext (s : State) (d : Fin 2) (near : Bool) : State :=
  let st := s.servo d
  let n := if near then (if st = 1 then s.clk.runOf d else 0) + 1 else 0
  let s : State := { s with clk := s.clk.setRun d (if st = 2 && near then 16 else n) }
  if st = 2 then if near then s else s.setServo d 1
  else if 16 ≤ n then s.servoLock d
  else s.setServo d 1

/-- The stamp of Sync `seq` of domain `d` on MAC port `port`, among those that wait (R217). -/
def State.syncStamp (s : State) (d : Fin 2) (port seq : Nat) : Option Stamp :=
  (s.clk.stamps.get port []).find? (fun x =>
    x.rx && x.kind = 0 && x.seq = seq && x.dom = s.live .time (TIME.DOM_CFG_DOM_NUM.at d.val))

/-- The firmware completes a measurement of domain `d` from the selected master's Sync `seq`: the offset and the delay in 2^-8
ns (R215 to R217, Table 8.4). It needs READY, the master's port, and the Sync's stamp; the stamps of the domain's ports are
taken. (DEDUCED, notes/assumptions/71.md) -/
def State.servoMeasured (s : State) (d : Fin 2) (port : Nat) (offset delay : Word) (seq : Nat) : State :=
  if !s.ready || !s.domEn d || (s.clk.master d).isNone || port ≠ s.get .time (TIME.DOM_STAT_PORT.at d.val) ||
      (s.syncStamp d port seq).isNone then s
  else
    let ports := s.domPorts true d.val
    let s : State := { s with clk := { s.clk with stamps := s.clk.stamps.filter (fun e => bitAt ports e.1 = 0) } }
    let s := (s.puts .time [(TIME.DOM_OFFSET_OFS.at d.val, offset.toNat), (TIME.DOM_DELAY_DLY.at d.val, delay.toNat)]).add
      .time (TIME.SYNC_RX.at d.val) 1
    s.servoNext d ((sgn 32 offset.toNat).natAbs ≤ 256000)

/-- No Sync for 3 intervals after LOCKED (R215). (DEDUCED, notes/assumptions/71.md) -/
def State.servoSilent (s : State) (d : Fin 2) : State := if s.domEn d && s.servo d = 2 then s.servoHold d else s

/-- The announce receipt timeout: the selected master is lost, and the best of the others is selected (R215, R216). -/
def State.announceLost (s : State) (d : Fin 2) : State :=
  if !s.domEn d then s
  else
    let s := s.addSat .time (TIME.ANN_TIMEOUT.at d.val) 1
    let l := (s.clk.heard d).filter (fun h => some h.source != s.clk.master d)
    let s := if s.servo d = 1 || s.servo d = 2 then s.servoHold d else s
    ({ s with clk := (s.clk.setHeard d l).setMaster d none } : State).selectMaster d

/-! ### PPS pins (R226, R227) -/

/-- The time that PPS_OUT_CTRL.SRC names, with what it gains in a core cycle. -/
def State.ppsTime (s : State) : Nat × Int :=
  let dom := fun (d : Fin 2) => (s.clk.dom d, nomStep + s.clk.adj d)
  match s.live .time TIME.PPS_OUT_CTRL_SRC with
  | 0 => dom 0
  | 1 => dom 1
  | _ =>
    let r := dom s.mtSrc
    (s.mt, r.2 + slew s.clk.mtOff s.mtTarget s.slewStep 1 - s.clk.mtOff)

/-- The named time less PPS_OUT_OFS passes a whole second in this core cycle (R226). -/
def State.ppsPasses (s : State) : Bool :=
  let r := s.ppsTime
  (r.1 - sgn 32 (s.live .time TIME.PPS_OUT_OFS_OFS) * nsUnit) % (1000000000 * nsUnit : Nat) < r.2

/-- PPS_OUT rises, in the core cycle in which its time passes a whole second (R226). -/
def State.ppsRise (s : State) : State :=
  if s.live .time TIME.PPS_OUT_CTRL_EN = 1 && s.running .time && s.ready && s.ppsPasses then
    { s with clk := { s.clk with ppsOut := true, ppsAt := s.now } }
  else s

/-- WIDTH in core cycles: 1 to 200 ms (R226). -/
def State.ppsWidth (s : State) : Nat := max 1 (min 200 (s.live .time TIME.PPS_OUT_CTRL_WIDTH)) * (1000 * cyclesPerUs)

/-- PPS_OUT falls, once it has been high for WIDTH (R226). -/
def State.ppsFall (s : State) : State := if s.now < s.clk.ppsAt + s.ppsWidth then s else s.ppsLow

/-- An edge of PPS_IN (R227). -/
def State.ppsIn (s : State) (falling : Bool) : State :=
  if s.get .time TIME.PPS_IN_CTRL_EN = 0 || (s.get .time TIME.PPS_IN_CTRL_FALL = 1) != falling || !s.running .time then s
  else if s.get .time TIME.PPSI_VALID_VALID = 1 then s.addSat .time TIME.PPSI_MISS 1
  else
    (s.puts .time [(TIME.PPSI_STC_LO_STC, s.stc), (TIME.PPSI_STC_HI_STC, s.stc / 2 ^ 32),
      (TIME.PPSI_NS_NS.at 0, nsOf s.clk.domA), (TIME.PPSI_NS_NS.at 1, nsOf s.clk.domB), (TIME.PPSI_NS_NS.at 2, nsOf s.mt),
      (TIME.PPSI_VALID_VALID, 1)]).raise .time TIME.INT_STAT_PPS_IN

/-! ### DPLL timers (R237 to R239) -/

/-- HOLD_MIN, 100 ms, has passed: DPLL `k` may select again (R238). -/
def State.holdMinOver (s : State) (k : Fin 4) : State :=
  if (s.dpll k.val).held.any (fun c => c + 100000 * cyclesPerUs ≤ s.now) then
    (s.modDpll k.val (fun x => { x with held := none })).refSettle
  else s

/-- |e| has stayed within LOCK_TOL for 1 s, or the frequency of the network DPLL within 0.01 ppm (R239, R241). -/
def State.dpllLocked (s : State) (k : Fin 4) : State :=
  if s.dpllState k.val = 1 && (s.dpll k.val).within.any (fun c => c + cyclesPerSec ≤ s.now) then
    (s.setDpll k.val 2).follow k.val
  else s

/-- |e| has exceeded 4 × LOCK_TOL for 100 ms (R239). -/
def State.dpllUnlocked (s : State) (k : Fin 4) : State :=
  if s.dpllState k.val = 2 && (s.dpll k.val).beyond.any (fun c => c + 100000 * cyclesPerUs ≤ s.now) then
    (s.setDpll k.val 1).follow k.val
  else s

/-- No pair of candidates has disagreed for 10 s (R237). -/
def State.disagreeOver (s : State) (k : Fin 4) : State :=
  if s.anyDisagree k.val || s.now < (s.dpll k.val).disAt + 10 * cyclesPerSec then s
  else s.put .ref (REF.DPLL_STAT_DIS_LIVE.at k.val) 0

/-! ### Temperature (R466) -/

/-- The die sensor reads `temp`, in 0.1 °C: 110 °C is a contained fault, 125 °C a fatal one with a reset hold. -/
def State.tooHot (s : State) (temp : Nat) : State :=
  if 1250 ≤ temp then s.fatalHold 5 else if 1100 ≤ temp then s.fault .glb .contained 0 0 else s

end Sys2Proof.Machine
end

