-- ==== Sys2Proof/Machine/Commands.lean ====
section
/-! DEFINITION. Commands made of several accesses, and the parts of a tick that have a row of their own (R37, R42, R116,
R259, R369, R397, R414, R443). -/

namespace Sys2Proof.Machine

/-! ### Parts of a tick -/

/-- The tick that an arm waits for. -/
def tickFor (sel : Nat) (smp : Option Nat) : Tick :=
  if smp.isSome || sel = 0x20 then .smp else if sel < 0x20 then .frm sel else .stc (sel - 0x28)

/-- The tick of the arm of page `p` falls, for that arm alone (R34, R37). (DEDUCED, notes/assumptions/30.md) -/
def State.commitFire (s : State) (p : Page) : State :=
  match s.armOf p with
  | some a => if a.grp.isNone && !a.draining then s.fireAt (tickFor a.sel a.smp) (fun x => x.page = p) (fun _ => false) else s
  | none => s

/-- The tick of group `g` falls, for that group alone (R42). (DEDUCED, notes/assumptions/30.md) -/
def State.groupFire (s : State) (g : Nat) : State :=
  match s.grpOf g with
  | some x => if x.draining then s else s.fireAt (tickFor x.sel x.smp) (fun _ => false) (fun y => y = g)
  | none => s

/-- An arm that has reached F waits for entry `e`, and `due` holds of what it waits for. -/
def State.waitsFor (s : State) (e : Entry) (due : Option Nat → Bool) : Bool :=
  s.arms.any (fun a => a.2.draining && a.2.waits.any (fun w => w.1 = e && due w.2))

/-- Waiting entries apply together (R42). -/
def State.applyWaiting (s : State) (es : List Entry) : State :=
  let rest := s.arms.map (fun (a : Nat × Arm) => (a.1, { a.2 with waits := a.2.waits.filter (fun w => !es.contains w.1) }))
  let t := es.foldl State.fireEntry ({ s with arms := rest } : State)
  (((t.entriesApplied s es .smp).sweep.complete).poolSync s []).follow'

/-- The tick of route entry `e` falls, and every route entry that waits for the same tick applies in its cycle, so that the
entries of one destination group change together (R42, R138). (DEDUCED, notes/assumptions/30.md) -/
def State.entryApply (s : State) (e : Entry) : State :=
  match (s.arms.flatMap (fun a => if a.2.draining then a.2.waits else [])).find? (fun w => w.1 = e) with
  | none => s
  | some w =>
    let same := fun (x : Entry × Option Nat) => x.1 ≠ .aud &&
      match w.2, x.2 with
      | none, none => s.entryVtg x.1 = s.entryVtg e
      | some _, some _ => true
      | _, _ => false
    s.applyWaiting ((s.arms.flatMap (fun a => if a.2.draining then a.2.waits.filter same else [])).map (·.1))

/-- The T_SMP of the AUD swap falls (R259): its aligned VTG has ticked, or F has been reached. -/
def State.audSwapDue (s : State) : State :=
  if (s.smpDue || s.tickNow 0x20) && s.waitsFor .aud (fun c => c.any (· ≤ s.now)) then s.applyWaiting [.aud] else s

/-! ### The brace link -/

/-- A brace message block arrives on brace lane `k`; `p` is its payload after descrambling, `kerfs` the kerf bits received
in it (R70, R73, R75, R116). A block that its lane does not allow now, and one that a paused BRC page finds, is no
message; its lane goes on. -/
def State.braceArrives (s : State) (k : Fin 8) (p : Nat) (kerfs : List Bool) : State :=
  s.laneEvent (braceLane k) (fun s =>
    let n := braceLane k
    let t := s.block n 11 0xBB (p ^^^ (scrBits (s.lane n).scr 256).1) kerfs none
    if t.running .brc && s.blockType n 0xBB = some 11 then t.braceMessage k p else t)

/-! ### Commands of a host master -/

/-- Host master `k`: 0 the PCIe master, 1 the service SPI master (R369, R414, R438, R443). -/
def hostMaster (k : Fin 2) : Master := if k = 0 then .pcie else .spi

/-- Words written one after the other by one master to one page. -/
def State.pageWrites (s : State) (m : Master) (p : Page) (l : List (Nat × Word)) (w : Served) : State :=
  l.foldl (fun (s : State) e => s.pageWrite m p e.1 e.2 w) s

/-- The register word that starts command `op`: OP with GO. -/
def goWord (op : Nat) : Word := BitVec.ofNat 32 (2 ^ 31 + op)

/-- A mailbox command: its request words, then GO (R369, R370). -/
def State.mbxSend (s : State) (k : Fin 2) (cmd tag : Nat) (words : List Word) (w : Served) : State :=
  let req := BitVec.ofNat 32 (cmd * 65536 + words.length * 256 + tag) :: words
  s.pageWrites (hostMaster k) .hif
    ((List.range req.length).zip req |>.map (fun e => (0x200 + 0x200 * k.val + 4 * e.1, e.2)) |>.append
      [(0x100 + 0x10 * k.val, 0x80000000)]) w

/-- A key command: its three arguments, then OP with GO (R397). -/
def State.keySend (s : State) (m : Master) (op : Nat) (a0 a1 a2 : Word) (w : Served) : State :=
  s.pageWrites m .key [(0x044, a0), (0x048, a1), (0x04C, a2), (0x040, goWord op)] w

/-- An update command of host master `k` (R414). -/
def State.updSend (s : State) (k : Fin 2) (op : Nat) (a0 a1 : Word) (w : Served) : State :=
  s.pageWrites (hostMaster k) .upd
    [(0x044 + 0x20 * k.val, a0), (0x048 + 0x20 * k.val, a1), (0x040 + 0x20 * k.val, goWord op)] w

/-- A black-box command of host master `k` (R443). -/
def State.bbxSend (s : State) (k : Fin 2) (op : Nat) (a0 a1 : Word) (w : Served) : State :=
  s.pageWrites (hostMaster k) .bbx
    [(0x044 + 0x20 * k.val, a0), (0x048 + 0x20 * k.val, a1), (0x040 + 0x20 * k.val, goWord op)] w

end Sys2Proof.Machine
end

