-- ==== Sys2Proof/Machine/AudioRows.lean ====
section
/-! DEFINITION. The meanings of the commands of the sample plane, audio flows, TDM ports and ASRC channels (chapters 10 and 11). -/

namespace Sys2Proof.Machine

/-- AUD_TABLE_SWAP: The AUD page is swapped whole at the first T_SMP after its aligned T_FRM, or after F (R259). -/
def execAudTableSwap (t : Nat) (s : State) : Res :=
  .next (s.run t (fun s => s.audSwapDue))

/-- METER_SNAP_WRITE: A write of METER_CMD.SNAP requests a meter snapshot at the next T_SMP (R263). -/
def execMeterSnapWrite (t : Nat) (m : Master) (s : State) : Res :=
  .next (s.run t (fun s => s.pageWrite m .aud 0x054 (0x80000000) ⟨true, true⟩))

/-- METER_SNAP: At the T_SMP after the request every meter is copied and restarted, and METER_DONE is raised (R263). -/
def execMeterSnap (t : Nat) (s : State) : Res :=
  .next (s.run t (fun s => if s.smpDue then s.meterSnap else s))

/-- AUDIO_FLOW_TIMEOUT: An audio receive flow gets no packet for 10 ms and enters LOST (R271). -/
def execAudioFlowTimeout (t : Nat) (n : Fin 4096) (s : State) : Res :=
  .next (s.run t (fun s => if s.running (.flowaRx (flowBay n)) then s.arxLost n else s))

/-- AUDIO_PATH_TIMEOUT: An audio path delivers nothing for 10 ms, so its PATH_DOWN bit is set and PATH_LOST is raised
(R272). -/
def execAudioPathTimeout (t : Nat) (n : Fin 4096) (pathB : Bool) (s : State) : Res :=
  .next (s.run t (fun s => if s.running (.flowaRx (flowBay n)) then s.arxPathLost n pathB else s))

/-- FOREIGN_DETECT: The 1 s mean slack of a flow drifts beyond its limit, which sets FOREIGN, or settles, which clears
it (R274). -/
def execForeignDetect (t : Nat) (n : Fin 4096) (foreign : Bool) (s : State) : Res :=
  .next (s.run t (fun s => if s.running (.flowaRx (flowBay n)) then s.foreign n foreign else s))

/-- AUDIO_PACKET_TX: An audio send flow's packet is sent at T_SMP n0 + N + 1 plus TX_PHASE (R276). -/
def execAudioPacketTx (t : Nat) (n : Fin 4096) (marker : Bool) (s : State) : Res :=
  .next (s.run t (fun s => if s.running (.flowaTx (flowBay n)) then s.atxSend n marker else s))

/-- TDM_FRAME_START: A master TDM port starts a frame at T_SMP + FS_PHASE (R286). -/
def execTdmFrameStart (t : Nat) (b : Fin 16) (din : List Nat) (s : State) : Res :=
  .next (s.run t (fun s => if s.running (.tdm b) then s.tdmFrameStart b din else s))

/-- TDM_FRAME_RX: A slave TDM port receives a frame into its FIFO (R289). -/
def execTdmFrameRx (t : Nat) (b : Fin 16) (began : Nat) (nbits : Nat) (din : List Nat) (s : State) : Res :=
  .next (s.run t (fun s => if s.running (.tdm b) then s.tdmFrameRx b began nbits din else s))

/-- TDM_PRE_DONE: The PRE frames have been counted and the port enters RUN (R291). -/
def execTdmPreDone (t : Nat) (b : Fin 16) (s : State) : Res :=
  .next (s.run t (fun s => if s.running (.tdm b) then s.tdmPreDone b else s))

/-- TDM_POST_DONE: The POST frames have elapsed and the port enters OFF (R291). -/
def execTdmPostDone (t : Nat) (b : Fin 16) (s : State) : Res :=
  .next (s.run t (fun s => if s.running (.tdm b) then s.tdmPostDone b else s))

/-- TDM_RESTART: A write of TDM_CMD.RESTART restarts a HALTED port or the PRE count (R291). -/
def execTdmRestart (t : Nat) (m : Master) (b : Fin 16) (s : State) : Res :=
  .next (s.run t (fun s => s.pageWrite m (.tdm b) 0x060 (0x80000000) ⟨true, true⟩))

/-- TDM_FIFO_FAULT: A FIFO underrun or overrun halts the port and sets SWAP_RISK (R294). -/
def execTdmFifoFault (t : Nat) (b : Fin 16) (full : Bool) (s : State) : Res :=
  .next (s.run t (fun s => if s.running (.tdm b) then s.tdmFifoFault b full else s))

/-- TDM_CLOCK_STOP: No frame start within 2 frame periods sends a slave port to CLK_LOST and ramps its slots (R298). -/
def execTdmClockStop (t : Nat) (b : Fin 16) (cut : Bool) (s : State) : Res :=
  .next (s.run t (fun s => if s.running (.tdm b) then s.tdmStop b cut else s))

/-- TDM_CLOCK_BACK: Valid frames for 2 frame periods return a port from CLK_LOST to PRE (R291). -/
def execTdmClockBack (t : Nat) (b : Fin 16) (s : State) : Res :=
  .next (s.run t (fun s => if s.running (.tdm b) then s.tdmBack b else s))

/-- TDM_RATE_MEASURE: A 100 ms interval ends, FRAME_RATE is updated and RATE_DRIFT may be raised (R297). -/
def execTdmRateMeasure (t : Nat) (b : Fin 16) (interval : Nat) (s : State) : Res :=
  .next (s.run t (fun s => if s.running (.tdm b) then s.tdmRate b interval else s))

/-- ASRC_TRACK: An ASRC channel's ratio and delay settle and it enters TRACK (R300). -/
def execAsrcTrack (t : Nat) (a : Nat) (lock : AsrcLock) (s : State) : Res :=
  .next (s.run t (fun s => if s.running .asrc then s.asrcTrack a lock else s))

end Sys2Proof.Machine
end

