-- ==== Sys2Proof/Machine/BootRows.lean ====
section
/-! DEFINITION. The meanings of the commands of start-up, update commands, power and reset (chapters 16 and 18). -/

namespace Sys2Proof.Machine

/-- POWER_GOOD: Every rail, SYSCLK and RESET_N have been good for 2 ms, and start-up begins (R458). -/
def execPowerGood (t : Nat) (tamp : Bool) (s : State) : Res :=
  .next (s.always t (fun s => if s.boot.hold = 2 || s.boot.hold = 3 || s.boot.hold = 4 then s.powerGood tamp else s))

/-- RESET_N_ASSERT: A low pulse on RESET_N of at least 10 µs begins a device reset (R461). -/
def execResetNAssert (t : Nat) (s : State) : Res :=
  .next (s.always t (fun s => if s.boot.hold = 0 then s.enterReset 1 else s))

/-- RESET_N_RELEASE: RESET_N rises and the device restarts its start-up phases (R461). -/
def execResetNRelease (t : Nat) (tamp : Bool) (s : State) : Res :=
  .next (s.always t (fun s => if s.boot.hold = 1 then s.startUp 1 tamp else s))

/-- BOOT_PHASE_END: A start-up phase completes and the next phase begins (R407). -/
def execBootPhaseEnd (t : Nat) (ok : Bool) (calOk : Bool) (s : State) : Res :=
  .next (s.run t (fun s => s.bootPhaseEnd ok calOk))

/-- READY_RISE: Start-up reaches RUN and READY rises (R407). -/
def execReadyRise (t : Nat) (s : State) : Res :=
  .next (s.run t (fun s => s.readyRise))

/-- BOOT_WD_EXPIRY: BOOT_WD passes without CONFIRM, and the trial reverts with a device reset (R420). -/
def execBootWdExpiry (t : Nat) (s : State) : Res :=
  .next (s.run t (fun s => s.bootWdOver))

/-- OPEN: An update command opens a session for its master, or reports the owner (R413). -/
def execOpen (t : Nat) (k : Fin 2) (a0 : Word) (a1 : Word) (w : Served) (s : State) : Res :=
  .next (s.run t (fun s => s.updSend k 0x01 a0 a1 w))

/-- CLOSE: An update command closes the session (R413). -/
def execClose (t : Nat) (k : Fin 2) (a0 : Word) (a1 : Word) (w : Served) (s : State) : Res :=
  .next (s.run t (fun s => s.updSend k 0x02 a0 a1 w))

/-- STAGE_BEGIN: An update command checks an image header and erases its staging slot (R415). -/
def execStageBegin (t : Nat) (k : Fin 2) (a0 : Word) (a1 : Word) (w : Served) (s : State) : Res :=
  .next (s.run t (fun s => s.updSend k 0x10 a0 a1 w))

/-- STAGE_DATA: An update command writes body bytes at the next offset (R415). -/
def execStageData (t : Nat) (k : Fin 2) (a0 : Word) (a1 : Word) (w : Served) (s : State) : Res :=
  .next (s.run t (fun s => s.updSend k 0x11 a0 a1 w))

/-- STAGE_END: An update command checks the body length and hash, and marks the type staged (R415). -/
def execStageEnd (t : Nat) (k : Fin 2) (a0 : Word) (a1 : Word) (w : Served) (s : State) : Res :=
  .next (s.run t (fun s => s.updSend k 0x12 a0 a1 w))

/-- ACTIVATE: An update command checks compatibility and sets NEXT of a staged type (R416). -/
def execActivate (t : Nat) (k : Fin 2) (a0 : Word) (a1 : Word) (w : Served) (s : State) : Res :=
  .next (s.run t (fun s => s.updSend k 0x13 a0 a1 w))

/-- REVERT_NEXT: An update command sets NEXT = SEL for every type (R417). -/
def execRevertNext (t : Nat) (k : Fin 2) (a0 : Word) (a1 : Word) (w : Served) (s : State) : Res :=
  .next (s.run t (fun s => s.updSend k 0x14 a0 a1 w))

/-- MANIFEST_BEGIN: An update command checks and opens a Wotar manifest (R419). -/
def execManifestBegin (t : Nat) (k : Fin 2) (a0 : Word) (a1 : Word) (w : Served) (s : State) : Res :=
  .next (s.run t (fun s => s.updSend k 0x20 a0 a1 w))

/-- MANIFEST_ACTIVATE: An update command activates all four staged images of a manifest together (R419). -/
def execManifestActivate (t : Nat) (k : Fin 2) (a0 : Word) (a1 : Word) (w : Served) (s : State) : Res :=
  .next (s.run t (fun s => s.updSend k 0x21 a0 a1 w))

/-- CONFIRM: An update command confirms a trial, raises the anti-rollback counters and clears TRIAL (R422). -/
def execConfirm (t : Nat) (k : Fin 2) (a0 : Word) (a1 : Word) (w : Served) (s : State) : Res :=
  .next (s.run t (fun s => s.updSend k 0x30 a0 a1 w))

/-- UPD_COMMAND_COMPLETE: An update command completes, STATUS is set, DONE is set and CMD_DONE is raised (R414). -/
def execUpdCommandComplete (t : Nat) (k : Fin 2) (s : State) : Res :=
  .next (s.run t (fun s => s.updComplete k.val))

/-- UPD_SESSION_TIMEOUT: 60 s without a command from the owner ends the update session (R413). -/
def execUpdSessionTimeout (t : Nat) (s : State) : Res :=
  .next (s.run t (fun s => s.sessTimeout))

/-- POWER_CYCLE: The rails are removed and VDDIO held low, which clears the fatal latches and the retained SRAM
(R459). -/
def execPowerCycle (t : Nat) (vbatLost : Bool) (s : State) : Res :=
  .next (s.always t (fun s => s.powerCycle vbatLost))

/-- RAIL_FAULT: A core or lane rail leaves its tolerance for 10 µs, which is a fatal fault, and the device holds
itself in reset (R460). -/
def execRailFault (t : Nat) (s : State) : Res :=
  .next (s.always t (fun s => if s.boot.hold ≤ 1 then s.fatalHold 2 else s))

/-- VDDIO_LOW: VDDIO falls below 1.62 V and the device holds itself in reset until it returns (R460). -/
def execVddioLow (t : Nat) (s : State) : Res :=
  .next (s.always t (fun s => if s.boot.hold = 3 then s else s.enterReset 4))

/-- SYSCLK_STOP: SYSCLK stops while the device runs, which is reported as a fatal fault within 10 µs (R461). -/
def execSysclkStop (t : Nat) (s : State) : Res :=
  .next (s.always t (fun s => if s.boot.hold = 0 then s.fault .glb .fatal 0 0 else s))

/-- OVER_TEMPERATURE: The die sensor reaches 110 °C, a contained fault, or 125 °C, a fatal fault with a reset hold
(R466). -/
def execOverTemperature (t : Nat) (temp : Nat) (s : State) : Res :=
  .next (s.run t (fun s => s.tooHot temp))

/-- OVER_TEMPERATURE_CLEAR: The die sensor falls below 100 °C after a 125 °C hold, and the device restarts from a new
power-good (R466). -/
def execOverTemperatureClear (t : Nat) (tamp : Bool) (s : State) : Res :=
  .next (s.always t (fun s => if s.boot.hold = 5 then s.powerGood tamp else s))

/-- TAP_INSTRUCTION_LOAD: An instruction is loaded into the IEEE 1149.1 test access port, which acts as BYPASS without
debug unlock and otherwise can end normal service (R454). -/
def execTapInstructionLoad (t : Nat) (instr : Nat) (s : State) : Res :=
  .next (s.always t (fun s => s.tapLoad instr))

end Sys2Proof.Machine
end

