-- ==== Sys2Proof/Machine/CommitRows.lean ====
section
/-! DEFINITION. The meanings of the commands of ticks, arms, commit groups, route entries, FUNC_INIT and the pool audit (chapter 2). -/

namespace Sys2Proof.Machine

/-- TICK_SMP: At a T_SMP the due commits and swaps apply, sources write generation n, and destination entries compute
their outputs for the next tick (R253). -/
def execTickSmp (t : Nat) (s : State) : Res :=
  .next (s.run t (fun s => if s.smpDue then s.tickSmp else s))

/-- TICK_FRM: T_FRM of a VTG falls on the first switch line of its frame (R245). -/
def execTickFrm (t : Nat) (v : Fin 32) (s : State) : Res :=
  .next (s.run t (fun s => s.tickFrm v))

/-- STC_TICK: STC tick k fires when the STC reaches STC_AT[k], sets STC_FIRED and clears the live STC_EN (R27). -/
def execStcTick (t : Nat) (k : Fin 8) (s : State) : Res :=
  .next (s.run t (fun s => s.tickStc k))

/-- COMMIT_ARM: A write of COMMIT.ARM latches a page arm after all of its checks pass, locks the page and sets PENDING
(R32). -/
def execCommitArm (t : Nat) (m : Master) (page : Page) (value : Word) (s : State) : Res :=
  .next (s.run t (fun s => s.pageWrite m page 0x020 (value ||| 0x80000000) ⟨true, true⟩))

/-- COMMIT_DISARM: A write of DISARM withdraws a page arm that has not fired and releases the lock (R38). -/
def execCommitDisarm (t : Nat) (m : Master) (page : Page) (value : Word) (s : State) : Res :=
  .next (s.run t (fun s => s.pageWrite m page 0x020 (value &&& 0x7FFFFFFF ||| 0x40000000) ⟨true, true⟩))

/-- COMMIT_FIRE: At the (TICK_DELAY + 1)th eligible tick the latched shadow becomes live, FIRED is set and SEQ is
copied to SEQ_LIVE (R37). -/
def execCommitFire (t : Nat) (page : Page) (s : State) : Res :=
  .next (s.run t (fun s => s.commitFire page))

/-- GROUP_MEMBERSHIP_WRITE: A write that changes GRP_JOIN or GROUP moves the page between commit groups, unless a page
or group concerned is pending or draining (R40). -/
def execGroupMembershipWrite (t : Nat) (m : Master) (page : Page) (value : Word) (s : State) : Res :=
  .next (s.run t (fun s => s.pageWrite m page 0x020 (value &&& 0x3FFFFFFF) ⟨true, true⟩))

/-- CGRP_ARM: A write of CGRP_CTRL.ARM latches every member page together after the checks are made over all members
(R41). -/
def execCgrpArm (t : Nat) (m : Master) (g : Fin 64) (value : Word) (s : State) : Res :=
  .next (s.run t (fun s => s.pageWrite m .glb (0x400 + 4 * g.val) (value ||| 0x80000000) ⟨true, true⟩))

/-- CGRP_DISARM: A write of CGRP_CTRL.DISARM withdraws the arm of every member of a pending group (R44). -/
def execCgrpDisarm (t : Nat) (m : Master) (g : Fin 64) (value : Word) (s : State) : Res :=
  .next (s.run t (fun s => s.pageWrite m .glb (0x400 + 4 * g.val) (value &&& 0x7FFFFFFF ||| 0x40000000) ⟨true, true⟩))

/-- CGRP_FIRE: A commit group reaches F, its non-route pages apply in full and the group becomes DRAINING (R42). -/
def execCgrpFire (t : Nat) (g : Fin 64) (s : State) : Res :=
  .next (s.run t (fun s => s.groupFire g.val))

/-- ROUTE_ENTRY_APPLY: A changed route entry bound to VTG v applies at the first T_FRM[v] at or after F (R42). -/
def execRouteEntryApply (t : Nat) (entry : Entry) (s : State) : Res :=
  .next (s.run t (fun s => if entry = .aud then s else s.entryApply entry))

/-- FUNC_INIT: A write of PAGE_CTRL.FUNC_INIT withdraws the page's arms, stops its function and starts returning its
items (R54). -/
def execFuncInit (t : Nat) (m : Master) (page : Page) (s : State) : Res :=
  .next (s.run t (fun s => s.pageWrite m page 0x004 (2 ||| (s.word (page.base + 4) &&& 1)) ⟨true, true⟩))

/-- FUNC_INIT_COMPLETE: FUNC_INIT completes, configuration fields are at reset, pool items are released and FUNC_INIT
reads 0 (R54). -/
def execFuncInitComplete (t : Nat) (page : Page) (s : State) : Res :=
  .next (s.run t (fun s => s.funcInitDone page))

/-- AUDIT_SNAP: A write of AUDIT_SEL.SNAP captures the three counters of the selected pool in one cycle (R53). -/
def execAuditSnap (t : Nat) (m : Master) (cls : Fin 16) (inst : Fin 256) (s : State) : Res :=
  .next (s.run t (fun s =>
    s.pageWrite m .glb 0x640 (BitVec.ofNat 32 (2 ^ 31 + cls.val * 256 + inst.val)) ⟨true, true⟩))

end Sys2Proof.Machine
end

