-- ==== Sys2Proof/Machine/EngineRows.lean ====
section
/-! DEFINITION. The meanings of the commands of media engines and GDDR6 (chapters 12 and 13). -/

namespace Sys2Proof.Machine

/-- FRAME_BUFFER_COMPLETE: A stream layer's writer ends a frame, complete or incomplete, in a frame-buffer slot
(R312). -/
def execFrameBufferComplete (t : Nat) (e : Fin 64) (l : Fin 16) (det : Nat) (arrived : Nat) (broke : Option Nat) (data : List Nat) (s : State) : Res :=
  .next (s.run t (fun s => if s.running (.eng e) then s.frameWritten e l.val det arrived broke data else s))

/-- GDDR6_TRAINING_DONE: GDDR6 channel training, in the start-up phase of Table 16.2 that it makes up, ends: it sets READY or reports
TRAIN_FAIL as a fatal fault (R322). -/
def execGddr6TrainingDone (t : Nat) (channels : BitVec 24) (s : State) : Res :=
  .next (s.run t (fun s => if s.get .upd UPD.BOOT_STAT_PHASE = 4 then s.gmcTrained channels.toNat else s))

/-- GDDR6_RETRAIN: Periodic retraining of the next channel runs at the chosen line of the chosen VTG (R323). -/
def execGddr6Retrain (t : Nat) (s : State) : Res :=
  .next (s.run t (fun s => if s.running .gmc then s.gmcRetrain else s))

/-- EDC_ERROR: A GDDR6 burst fails its EDC check and is retried or lost (R324). -/
def execEdcError (t : Nat) (ch : Fin 24) (lost : Option Requester) (s : State) : Res :=
  .next (s.run t (fun s => if s.running .gmc then s.edcError ch.val lost else s))

end Sys2Proof.Machine
end

