-- ==== Sys2Proof/Machine/EthRows.lean ====
section
/-! DEFINITION. The meanings of the commands of MAC ports (chapter 6). -/

namespace Sys2Proof.Machine

/-- ETH_RESTART: A write of ETH_CMD.RESTART returns the port to its entry state with FAIL_CNT = 0 (R153). -/
def execEthRestart (t : Nat) (m : Master) (p : Fin 48) (value : Word) (s : State) : Res :=
  .next (s.run t (fun s => s.pageWrite m (.eth p) 0x04C (value ||| 0x80000000) ⟨true, true⟩))

/-- AN_COMPLETE: Clause 73 auto-negotiation completes, and the port goes on to TRAIN or ALIGN or fails with AN_FAIL
(R153). -/
def execAnComplete (t : Nat) (p : Fin 48) (high : BitVec 16) (low : Word) (s : State) : Res :=
  .next (s.run t (fun s => s.portEvent p (fun s => s.ethAn p (low.toNat + high.toNat * 2 ^ 32))))

/-- ETH_TRAIN_COMPLETE: Every used lane reports its receiver trained and the port enters ALIGN (R153). -/
def execEthTrainComplete (t : Nat) (p : Fin 48) (taps : List (Nat × Nat × Nat)) (s : State) : Res :=
  .next (s.run t (fun s => s.portEvent p (fun s => s.ethTrained p taps)))

/-- ETH_TRAIN_TIMEOUT: 500 ms without training completion is a failure with TRAIN_FAIL (R153). -/
def execEthTrainTimeout (t : Nat) (p : Fin 48) (s : State) : Res :=
  .next (s.run t (fun s => s.portEvent p (fun s => s.ethTrainOver p)))

/-- ETH_ENERGY_LOST: Energy absent for 100 µs on a used lane fails TRAIN or ALIGN, or takes UP down (R153). -/
def execEthEnergyLost (t : Nat) (p : PortEnergy) (s : State) : Res :=
  .next (s.run t (fun s => s.portEvent p.port (fun s => s.ethEnergyLost p.port p.lanes.toNat)))

/-- ETH_ALIGN_LOCK: Block, alignment-marker and FEC lock on every used lane bring the port UP (R153). -/
def execEthAlignLock (t : Nat) (p : Fin 48) (s : State) : Res :=
  .next (s.run t (fun s => s.portEvent p (fun s => s.ethLocked p)))

/-- ETH_ALIGN_TIMEOUT: 50 ms without lock in ALIGN is a failure with ALIGN_FAIL (R153). -/
def execEthAlignTimeout (t : Nat) (p : Fin 48) (s : State) : Res :=
  .next (s.run t (fun s => s.portEvent p (fun s => s.ethAlignOver p)))

/-- ETH_LINK_LOSS: Loss of alignment or hi_ber in UP returns the port to its entry state with LINK_DOWN (R153). -/
def execEthLinkLoss (t : Nat) (p : Fin 48) (s : State) : Res :=
  .next (s.run t (fun s => s.portEvent p (fun s => s.ethLinkLost p)))

/-- ETH_BACKOFF_EXPIRY: The port's backoff time elapses and it returns to its entry state (R153). -/
def execEthBackoffExpiry (t : Nat) (p : Fin 48) (s : State) : Res :=
  .next (s.run t (fun s => s.portEvent p (fun s => s.ethBackoffOver p)))

/-- REMOTE_FAULT: Remote fault received in UP sets RF_RX, and the port sends idle and discards its frames (R153). -/
def execRemoteFault (t : Nat) (p : Fin 48) (s : State) : Res :=
  .next (s.run t (fun s => s.portEvent p (fun s => s.remoteFault p true)))

/-- ETH_FRAME_RX: A received frame passes the checks of the receive order and is dropped, consumed or delivered
(R156). -/
def execEthFrameRx (t : Nat) (p : Fin 48) (frame : RxFrame) (desc : Nat × Nat) (s : State) : Res :=
  .next (s.run t (fun s => s.portEvent p (fun s => if s.link p = 4 then s.ethRx p frame desc else s)))

/-- PAUSE_EXPIRY: The pause time of a class runs out and its frames may start again (R164). -/
def execPauseExpiry (t : Nat) (p : Fin 48) (cls : Fin 8) (s : State) : Res :=
  .next (s.run t (fun s => s.portEvent p (fun s => s.pauseOver p cls.val)))

/-- ETH_FRAME_TX: The transmit scheduler starts a frame by strict priority once its start threshold is met (R159). -/
def execEthFrameTx (t : Nat) (p : Fin 48) (slack : Nat) (held : List Nat) (own : Option TxFrame) (whole : Bool) (s : State) : Res :=
  .next (s.run t (fun s => s.portEvent p (fun s => s.txStart p slack held own whole)))

/-- TX_UNDERRUN: A started frame runs out of data, ends with an inverted FCS and raises its class threshold (R161). -/
def execTxUnderrun (t : Nat) (p : Fin 48) (cls : Fin 8) (s : State) : Res :=
  .next (s.run t (fun s => s.portEvent p (fun s => s.underrun p cls.val)))

/-- HQ_ENABLE: A write of HQ EN = 1 starts a host queue, which takes BASE and SIZE in that cycle (R165). -/
def execHqEnable (t : Nat) (m : Master) (p : Fin 48) (tx : Bool) (s : State) : Res :=
  .next (s.run t (fun s => s.pageWrite m (.eth p) (if tx then 0x220 else 0x200) (1) ⟨true, true⟩))

/-- HQ_DISABLE: A write of HQ EN = 0 stops a host queue at the next frame boundary and returns its descriptors (R165). -/
def execHqDisable (t : Nat) (m : Master) (p : Fin 48) (tx : Bool) (s : State) : Res :=
  .next (s.run t (fun s => s.pageWrite m (.eth p) (if tx then 0x220 else 0x200) (0) ⟨true, true⟩))

/-- HQ_TX_DESCRIPTOR: The TZ1024 takes a host transmit descriptor, sends or discards its frame and writes the
descriptor back (R167). -/
def execHqTxDescriptor (t : Nat) (p : Fin 48) (frame : TxFrame) (s : State) : Res :=
  .next (s.run t (fun s => s.portEvent p (fun s => s.hqSend p frame)))

/-- CNT_SNAP: A write of ETH_CMD.CNT_SNAP copies all counters and the half map, and clears the map (R169). -/
def execCntSnap (t : Nat) (m : Master) (p : Fin 48) (s : State) : Res :=
  .next (s.run t (fun s => s.pageWrite m (.eth p) 0x04C (0x40000000) ⟨true, true⟩))

/-- REMOTE_FAULT_CLEARED: The reconciliation sublayer stops receiving remote fault, RF_RX clears, and frame and media
sending resumes (R153). -/
def execRemoteFaultCleared (t : Nat) (p : Fin 48) (s : State) : Res :=
  .next (s.run t (fun s => s.portEvent p (fun s => s.remoteFault p false)))

end Sys2Proof.Machine
end

