-- ==== Sys2Proof/Machine/FlowRows.lean ====
section
/-! DEFINITION. The meanings of the commands of video flows (chapter 7). -/

namespace Sys2Proof.Machine

/-- VTG_FRAME_START: A VTG reaches the start of line 1 of a frame (R245). -/
def execVtgFrameStart (t : Nat) (v : Fin 32) (second : Bool) (s : State) : Res :=
  .next (s.run t (fun s => (s.frameStart v second).follow'))

/-- RX_LINE_PLAY: A line of the selected frame starts to play, with black for pixels whose packet is missing (R187). -/
def execRxLinePlay (t : Nat) (n : Fin 1024) (line : Nat) (need : List Nat) (last : List Nat) (s : State) : Res :=
  .next (s.run t (fun s => if s.running (.rxSlot n) then s.rxLine n line need last else s))

/-- VIDEO_PATH_TIMEOUT: A receive path delivers no packet for 10 ms, so PATH_x_DOWN is set and PATH_LOST is raised
(R195). -/
def execVideoPathTimeout (t : Nat) (n : Fin 1024) (pathB : Bool) (s : State) : Res :=
  .next (s.run t (fun s => if s.running (.rxSlot n) then s.rxPathLost n pathB else s))

/-- SKEW_OVER_CLEAR: The skew has stayed within its limit less 100 µs for 1 s and SKEW_OVER clears (R194). -/
def execSkewOverClear (t : Nat) (n : Fin 1024) (s : State) : Res :=
  .next (s.run t (fun s => if s.running (.rxSlot n) then s.rxSkewOk n else s))

/-- VIDEO_PACKET_TX: A video packet reaches its scheduled instant and is sent on each path (R200). -/
def execVideoPacketTx (t : Nat) (n : Fin 1024) (payload : List Nat) (s : State) : Res :=
  .next (s.run t (fun s => if s.running (.txSlot n) then s.txVideo n payload else s))

/-- ANC_PACKET_TX: Ancillary packets of a frame are sent as ST 2110-40 after their lines end (R201). -/
def execAncPacketTx (t : Nat) (n : Fin 1024) (rtp : List (List AncPkt)) (s : State) : Res :=
  .next (s.run t (fun s => if s.running (.txSlot n) then s.txAnc n rtp else s))

end Sys2Proof.Machine
end

