-- ==== Sys2Proof/Machine/HostRows.lean ====
section
/-! DEFINITION. The meanings of the commands of PCIe, service SPI, mailboxes and the bus matrix (chapter 14). -/

namespace Sys2Proof.Machine

/-- PCIE_RESET: PERST_N, a hot reset, link down or FLR resets only the PCIe endpoint (R357). -/
def execPcieReset (t : Nat) (flight : Option (Nat × Nat)) (s : State) : Res :=
  .next (s.run t (fun s => s.pcieReset flight))

/-- PCIE_READY: The endpoint becomes ready for configuration requests and PCIE_RESET is raised (R357). -/
def execPcieReady (t : Nat) (s : State) : Res :=
  .next (s.run t (fun s => s.pcieIsReady))

/-- PCIE_UP: The PCIe link reaches L0, and DEGRADED is set if it is below x4 or below 5.0 GT/s (R354). -/
def execPcieUp (t : Nat) (width : Nat) (speed : Nat) (s : State) : Res :=
  .next (s.run t (fun s => s.pcieUp width speed))

/-- PCIE_DOWN: The PCIe link leaves L0 (R354). -/
def execPcieDown (t : Nat) (s : State) : Res :=
  .next (s.run t (fun s => s.pcieDown))

/-- BAR2_ACCESS: An access through a BAR2 window is routed to GDDR6 or to the table windows (R356). -/
def execBar2Access (t : Nat) (off : BitVec 30) (write : Bool) (dwords : List (Nat × Word)) (s : State) : Res :=
  .next (s.run t (fun s => s.bar2 (off.toNat / 4 * 4) write dwords))

/-- HIF_EOI: A write of HIF_EOI clears a vector's in-service bit and resends its message if the request stands (R364). -/
def execHifEoi (t : Nat) (m : Master) (value : Word) (s : State) : Res :=
  .next (s.run t (fun s => s.pageWrite m .hif 0x048 (value) ⟨true, true⟩))

/-- MSIX_UNMASK: MSI-X is enabled or a vector unmasked, which sends the pending messages (R364). -/
def execMsixUnmask (t : Nat) (enable : Bool) (fmask : Bool) (vec : Option (Fin 256)) (s : State) : Res :=
  .next (s.run t (fun s => s.msixSet enable fmask (vec.map (·.val))))

/-- SPI_READ: A service SPI READ command returns dwords from ascending addresses (R367). -/
def execSpiRead (t : Nat) (addr : Nat) (count : Nat) (s : State) : Res :=
  .next (s.run t (fun s => s.spiRead addr count))

/-- SPI_WRITE: A service SPI WRITE command queues dwords as writes (R367). -/
def execSpiWrite (t : Nat) (addr : Nat) (dwords : List (Word × Nat)) (w : Served) (s : State) : Res :=
  .next (s.run t (fun s => s.spiWrite addr dwords w))

/-- SPI_STATUS: A service SPI STATUS command returns the status byte (R367). -/
def execSpiStatus (t : Nat) (s : State) : Res :=
  .next (s.run t (fun s => s.spiStatus))

/-- SPI_CS_RISE: SV_CS_N rises during a READ or with queued writes, which resets the service SPI master (R368). -/
def execSpiCsRise (t : Nat) (flight : Option Nat) (w : Served) (s : State) : Res :=
  .next (s.run t (fun s => s.spiRise flight w))

/-- ECHO: A mailbox ECHO command returns its request words (R371). -/
def execEcho (t : Nat) (k : Fin 2) (tag : Byte) (words : List Word) (w : Served) (s : State) : Res :=
  .next (s.run t (fun s => s.mbxSend k 0x0001 tag.toNat words w))

/-- GET_VERSIONS: A mailbox command returns the versions and security versions of the images (R371). -/
def execGetVersions (t : Nat) (k : Fin 2) (tag : Byte) (words : List Word) (w : Served) (s : State) : Res :=
  .next (s.run t (fun s => s.mbxSend k 0x0002 tag.toNat words w))

/-- GET_HEALTH: A mailbox command returns the die temperature, the uptime and the running images (R371). -/
def execGetHealth (t : Nat) (k : Fin 2) (tag : Byte) (words : List Word) (w : Served) (s : State) : Res :=
  .next (s.run t (fun s => s.mbxSend k 0x0003 tag.toNat words w))

/-- CFG_READ: A mailbox command reads a configuration-store record (R423). -/
def execCfgRead (t : Nat) (k : Fin 2) (tag : Byte) (words : List Word) (w : Served) (s : State) : Res :=
  .next (s.run t (fun s => s.mbxSend k 0x0010 tag.toNat words w))

/-- CFG_WRITE: A mailbox command appends a configuration-store record, which takes effect at the next reset (R423). -/
def execCfgWrite (t : Nat) (k : Fin 2) (tag : Byte) (words : List Word) (w : Served) (s : State) : Res :=
  .next (s.run t (fun s => s.mbxSend k 0x0011 tag.toNat words w))

/-- CAL_READ: A mailbox command reads a calibration item (R425). -/
def execCalRead (t : Nat) (k : Fin 2) (tag : Byte) (words : List Word) (w : Served) (s : State) : Res :=
  .next (s.run t (fun s => s.mbxSend k 0x0020 tag.toNat words w))

/-- CAL_WRITE: A mailbox command rewrites the calibration record with one item changed (R425). -/
def execCalWrite (t : Nat) (k : Fin 2) (tag : Byte) (words : List Word) (w : Served) (s : State) : Res :=
  .next (s.run t (fun s => s.mbxSend k 0x0021 tag.toNat words w))

/-- MBX_ABORT: A write of ABORT while BUSY ends the mailbox command with STATUS 0x0006 (R371). -/
def execMbxAbort (t : Nat) (k : Fin 2) (s : State) : Res :=
  .next (s.run t (fun s => s.pageWrite (hostMaster k) .hif (0x100 + 0x10 * k.val) 0x40000000 ⟨true, true⟩))

/-- MBX_RESPONSE: The firmware writes a mailbox response, clears BUSY, sets DONE and raises MBXk_DONE (R370). -/
def execMbxResponse (t : Nat) (k : Fin 2) (s : State) : Res :=
  .next (s.run t (fun s => s.mbxRespond k.val))

/-- FW_HEARTBEAT: FW_HEARTBEAT adds one every 10 ms while the control cores run (R371). -/
def execFwHeartbeat (t : Nat) (s : State) : Res :=
  .next (s.run t (fun s => s.heartbeat))

/-- BUS_GRANT: A bus-matrix target grants its next transaction by age, priority and round robin (R373). -/
def execBusGrant (t : Nat) (target : Fin 6) (waiting : List Waiter) (s : State) : Res :=
  .next (s.run t (fun s => s.grant target.val waiting))

/-- LOCK_BREAK: A locked sequence holds a target for more than 4,096 cycles and the lock is broken (R375). -/
def execLockBreak (t : Nat) (target : Fin 6) (s : State) : Res :=
  .next (s.run t (fun s => s.lockBreak target.val))

/-- MRESET: A master is reset mid-transaction, and its remaining beats complete with strobes low (R380). -/
def execMreset (t : Nat) (master : Fin 9) (target : Fin 6) (nulled : Nat) (s : State) : Res :=
  .next (s.run t (fun s => (s.unlockAll master.val).mreset master.val target.val nulled))

/-- CORE_WATCHDOG: A control core's watchdog fires and resets that master (R379). -/
def execCoreWatchdog (t : Nat) (core : Fin 4) (flight : Option (Nat × Nat)) (s : State) : Res :=
  .next (s.run t (fun s => s.coreDog core.val flight))

end Sys2Proof.Machine
end

