-- ==== Sys2Proof/Machine/KeyRows.lean ====
section
/-! DEFINITION. The meanings of the commands of tamper detectors and key commands (chapter 15). -/

namespace Sys2Proof.Machine

/-- TAMPER_TRIP: A tamper detector trips and the root, check value and node table are zeroed (R384). -/
def execTamperTrip (t : Nat) (bit : Fin 8) (s : State) : Res :=
  .next (s.always t (fun s => s.tamper bit.val))

/-- NODE_DEFINE: A key command defines a coppice node with its parent and attribute (R388). -/
def execNodeDefine (t : Nat) (m : Master) (a0 : Word) (a1 : Word) (a2 : Word) (w : Served) (s : State) : Res :=
  .next (s.run t (fun s => s.keySend m 0x01 a0 a1 a2 w))

/-- NODE_INVALIDATE: A key command bumps the GEN of a node and of its subtree, and unloads their slots (R391). -/
def execNodeInvalidate (t : Nat) (m : Master) (a0 : Word) (a1 : Word) (a2 : Word) (w : Served) (s : State) : Res :=
  .next (s.run t (fun s => s.keySend m 0x02 a0 a1 a2 w))

/-- NODE_DELETE: A key command invalidates a node and marks it undefined (R391). -/
def execNodeDelete (t : Nat) (m : Master) (a0 : Word) (a1 : Word) (a2 : Word) (w : Served) (s : State) : Res :=
  .next (s.run t (fun s => s.keySend m 0x03 a0 a1 a2 w))

/-- GENERATE: A key command loads a slot with a random key (R395). -/
def execGenerate (t : Nat) (m : Master) (a0 : Word) (a1 : Word) (a2 : Word) (w : Served) (s : State) : Res :=
  .next (s.run t (fun s => s.keySend m 0x10 a0 a1 a2 w))

/-- EXPORT: A key command writes a wrapped blob of a slot to KEY_BUF (R393). -/
def execExport (t : Nat) (m : Master) (a0 : Word) (a1 : Word) (a2 : Word) (w : Served) (s : State) : Res :=
  .next (s.run t (fun s => s.keySend m 0x11 a0 a1 a2 w))

/-- LOAD: A key command checks a blob and loads its key into a slot (R394). -/
def execLoad (t : Nat) (m : Master) (a0 : Word) (a1 : Word) (a2 : Word) (w : Served) (s : State) : Res :=
  .next (s.run t (fun s => s.keySend m 0x12 a0 a1 a2 w))

/-- DERIVE: A key command derives a working key under a DERIVE_ONLY node into a slot (R389). -/
def execDerive (t : Nat) (m : Master) (a0 : Word) (a1 : Word) (a2 : Word) (w : Served) (s : State) : Res :=
  .next (s.run t (fun s => s.keySend m 0x13 a0 a1 a2 w))

/-- IMPORT: A key command loads a clear key from KEY_BUF into a slot (R395). -/
def execImport (t : Nat) (m : Master) (a0 : Word) (a1 : Word) (a2 : Word) (w : Served) (s : State) : Res :=
  .next (s.run t (fun s => s.keySend m 0x14 a0 a1 a2 w))

/-- UNWRAP_KW: A key command unwraps a key with the key of slot WSLOT into a slot (R395). -/
def execUnwrapKw (t : Nat) (m : Master) (a0 : Word) (a1 : Word) (a2 : Word) (w : Served) (s : State) : Res :=
  .next (s.run t (fun s => s.keySend m 0x15 a0 a1 a2 w))

/-- UNLOAD: A key command empties a slot and adds one to its LGEN (R392). -/
def execUnload (t : Nat) (m : Master) (a0 : Word) (a1 : Word) (a2 : Word) (w : Served) (s : State) : Res :=
  .next (s.run t (fun s => s.keySend m 0x16 a0 a1 a2 w))

/-- GET_IDENTITY: A key command returns the identity public modulus (R398). -/
def execGetIdentity (t : Nat) (m : Master) (a0 : Word) (a1 : Word) (a2 : Word) (w : Served) (s : State) : Res :=
  .next (s.run t (fun s => s.keySend m 0x20 a0 a1 a2 w))

/-- ATTEST: A key command writes a signed attestation statement to KEY_BUF (R399). -/
def execAttest (t : Nat) (m : Master) (a0 : Word) (a1 : Word) (a2 : Word) (w : Served) (s : State) : Res :=
  .next (s.run t (fun s => s.keySend m 0x21 a0 a1 a2 w))

/-- GEN_IDENTITY: A key command generates an RSA-3072 identity and advances the identity epoch (R398). -/
def execGenIdentity (t : Nat) (m : Master) (a0 : Word) (a1 : Word) (a2 : Word) (w : Served) (s : State) : Res :=
  .next (s.run t (fun s => s.keySend m 0x22 a0 a1 a2 w))

/-- LC_ADVANCE: A key command advances the lifecycle by one state and blows its fuses (R402). -/
def execLcAdvance (t : Nat) (m : Master) (a0 : Word) (a1 : Word) (a2 : Word) (w : Served) (s : State) : Res :=
  .next (s.run t (fun s => s.keySend m 0x30 a0 a1 a2 w))

/-- CUSTKEY_SET: A key command writes a customer key hash slot in OTP (R401). -/
def execCustkeySet (t : Nat) (m : Master) (a0 : Word) (a1 : Word) (a2 : Word) (w : Served) (s : State) : Res :=
  .next (s.run t (fun s => s.keySend m 0x31 a0 a1 a2 w))

/-- REVOKE: A key command revokes a key hash slot under a valid signature (R401). -/
def execRevoke (t : Nat) (m : Master) (a0 : Word) (a1 : Word) (a2 : Word) (w : Served) (s : State) : Res :=
  .next (s.run t (fun s => s.keySend m 0x32 a0 a1 a2 w))

/-- TAMPER_CONFIG: A key command sets the modes of the TAMP inputs (R384). -/
def execTamperConfig (t : Nat) (m : Master) (a0 : Word) (a1 : Word) (a2 : Word) (w : Served) (s : State) : Res :=
  .next (s.run t (fun s => s.keySend m 0x33 a0 a1 a2 w))

/-- DBG_CHALLENGE: A key command issues a 32-byte debug challenge (R403). -/
def execDbgChallenge (t : Nat) (m : Master) (a0 : Word) (a1 : Word) (a2 : Word) (w : Served) (s : State) : Res :=
  .next (s.run t (fun s => s.keySend m 0x40 a0 a1 a2 w))

/-- DBG_UNLOCK: A key command checks a signature over the challenge and opens debug (R403). -/
def execDbgUnlock (t : Nat) (m : Master) (a0 : Word) (a1 : Word) (a2 : Word) (w : Served) (s : State) : Res :=
  .next (s.run t (fun s => s.keySend m 0x41 a0 a1 a2 w))

/-- KEY_COMMAND_COMPLETE: A key command completes, STATUS and the outputs are set, DONE is set and CMD_DONE is raised
(R397). -/
def execKeyCommandComplete (t : Nat) (s : State) : Res :=
  .next (s.run t (fun s => s.keyComplete))

end Sys2Proof.Machine
end

