-- ==== Sys2Proof/Machine/LaneRows.lean ====
section
/-! DEFINITION. The meanings of the commands of lanes, Ignada links and lane tests (chapter 3). -/

namespace Sys2Proof.Machine

/-- SIG_FOUND: Energy appears on a lane's receive input and SIG_DET rises (R89). -/
def execSigFound (t : Nat) (n : Fin 1032) (s : State) : Res :=
  .next (s.run t (fun s => s.laneEvent n (fun s => s.sigFound n)))

/-- SIG_LOST: Energy has been absent on a lane's receive input for 100 µs and SIG_DET falls (R89). -/
def execSigLost (t : Nat) (n : Fin 1032) (s : State) : Res :=
  .next (s.run t (fun s => s.laneEvent n (fun s => s.sigLost n)))

/-- CDR_LOCK_GAINED: A lane's CDR locks to the incoming line rate and CDR_LOCK rises (R101). -/
def execCdrLockGained (t : Nat) (n : Fin 1032) (s : State) : Res :=
  .next (s.run t (fun s => s.laneEvent n (fun s => s.cdrGained n)))

/-- CDR_LOCK_LOST: A lane's CDR loses lock, CDR_LOCK falls and the bit-plane outputs fed from the lane go to
electrical idle (R101). -/
def execCdrLockLost (t : Nat) (n : Fin 1032) (s : State) : Res :=
  .next (s.run t (fun s => s.laneEvent n (fun s => s.cdrLost n)))

/-- SDI_HUNT_DWELL_EXPIRY: The dwell on one hunt candidate expires and the receiver moves to the next candidate rate
(R66). -/
def execSdiHuntDwellExpiry (t : Nat) (n : Fin 1032) (s : State) : Res :=
  .next (s.run t (fun s => s.laneEvent n (fun s => s.huntDwell n)))

/-- LOCK_GAINED: An SDI lane accepts a rate on CDR lock and consistent TRS, reaches word lock and sets DET_SDI (R66). -/
def execLockGained (t : Nat) (n : Fin 1032) (rate : Fin 16) (levelB : Bool) (video : Option (Nat × Nat)) (s : State) : Res :=
  .next (s.run t (fun s => s.laneEvent n (fun s => s.sdiLocked n rate.val levelB video)))

/-- LOCK_LOST: An SDI lane loses word lock on CDR loss or after 8 lines without a valid TRS, and resumes its hunt
(R67). -/
def execLockLost (t : Nat) (n : Fin 1032) (s : State) : Res :=
  .next (s.run t (fun s => s.laneEvent n (fun s => s.sdiLost n)))

/-- ELASTIC_BUFFER_FAULT: A lane's elastic buffer overflows or underflows, which is a contained fault, and its tenons
carry fill (R63). -/
def execElasticBufferFault (t : Nat) (n : Fin 1032) (s : State) : Res :=
  .next (s.run t (fun s => s.laneEvent n (fun s => s.elasticFault n)))

/-- IGNADA_TENON_BLOCK: A tenon data block arrives and its words are handed to the lane's source tenon (R71). -/
def execIgnadaTenonBlock (t : Nat) (n : Fin 1032) (ten : Fin 8) (hdr : Byte) (payload : LineBlock)
    (s : State) : Res :=
  .next (s.run t (fun s =>
    (s.laneEvent n (fun s => s.block n ten.val hdr.toNat payload.bits.toNat payload.kerfs none)).carryOver))

/-- SUPERFRAME_HEADER: A superframe header block arrives and loads the scrambler seed, the tenon presence and the
partner tag (R72). -/
def execSuperframeHeader (t : Nat) (n : Fin 1032) (hdr : Byte) (payload : LineBlock) (s : State) : Res :=
  .next (s.run t (fun s => s.laneEvent n (fun s => s.block n 10 hdr.toNat payload.bits.toNat payload.kerfs none)))

/-- SUPERFRAME_LOCK_LOST: 32 header errors in 256 blocks, or 4 missing headers, lose superframe lock and the lane
enters RESYNC (R88). -/
def execSuperframeLockLost (t : Nat) (n : Fin 1032) (s : State) : Res :=
  .next (s.run t (fun s => s.laneEvent n (fun s => s.sfLost n)))

/-- SIDEBAND_BLOCK: A sideband block arrives and its far-end state, tally and TMARK are taken, or it is discarded on a
CRC failure (R74). -/
def execSidebandBlock (t : Nat) (n : Fin 1032) (hdr : Byte) (payload : SideBlock) (s : State) : Res :=
  .next (s.run t (fun s => s.laneEvent n (fun s => s.block n 8 hdr.toNat payload.bits.toNat payload.kerfs payload.video)))

/-- TRAINING_BLOCK: A training block arrives with the partner's tap requests, its status and RX_READY (R85). -/
def execTrainingBlock (t : Nat) (n : Fin 1032) (hdr : Byte) (payload : LineBlock) (s : State) : Res :=
  .next (s.run t (fun s => s.laneEvent n (fun s => s.block n 12 hdr.toNat payload.bits.toNat payload.kerfs none)))

/-- IGN_TRAIN_COMPLETE: Training completes after the RX_READY exchange and its 64 further blocks, and the lane enters
SYNC (R87). -/
def execIgnTrainComplete (t : Nat) (n : Fin 1032) (s : State) : Res :=
  .next (s.run t (fun s => s.laneEvent n (fun s => s.ignTrained n)))

/-- IGN_ENERGY_PRESENT: Energy has been present for 1 ms in DETECT, and the lane enters TRAIN or SYNC (R89). -/
def execIgnEnergyPresent (t : Nat) (n : Fin 1032) (s : State) : Res :=
  .next (s.run t (fun s => s.laneEvent n (fun s => s.ignEnergy n)))

/-- IGN_ENERGY_LOST: Energy is lost in TRAIN, SYNC, UP or RESYNC, which gives a failure or a return to DETECT (R89). -/
def execIgnEnergyLost (t : Nat) (n : Fin 1032) (s : State) : Res :=
  .next (s.run t (fun s => s.laneEvent n (fun s => s.ignEnergyLost n)))

/-- IGN_ATTEMPT_TIMEOUT: The 100 ms attempt timer expires, which is a failure that leads to BACKOFF or LISTEN (R89). -/
def execIgnAttemptTimeout (t : Nat) (n : Fin 1032) (s : State) : Res :=
  .next (s.run t (fun s => s.laneEvent n (fun s => s.ignAttemptOver n)))

/-- IGN_TRAINING_TIMEOUT: The 60 ms training timer expires before completion, which is a failure (R89). -/
def execIgnTrainingTimeout (t : Nat) (n : Fin 1032) (s : State) : Res :=
  .next (s.run t (fun s => s.laneEvent n (fun s => s.ignTrainOver n)))

/-- IGN_BACKOFF_EXPIRY: The backoff time elapses and the lane returns to DETECT (R89). -/
def execIgnBackoffExpiry (t : Nat) (n : Fin 1032) (s : State) : Res :=
  .next (s.run t (fun s => s.laneEvent n (fun s => s.ignBackoffOver n)))

/-- IGN_LISTEN_EXIT: In LISTEN, energy absent then present for 1 ms, or partner DETECT blocks for 1 ms, return the
lane to DETECT (R89). -/
def execIgnListenExit (t : Nat) (n : Fin 1032) (s : State) : Res :=
  .next (s.run t (fun s => s.laneEvent n (fun s => s.ignListenOver n)))

/-- IGN_RESYNC_TIMEOUT: 10 ms in RESYNC without superframe lock returns the lane to DETECT (R89). -/
def execIgnResyncTimeout (t : Nat) (n : Fin 1032) (s : State) : Res :=
  .next (s.run t (fun s => s.laneEvent n (fun s => s.ignResyncOver n)))

/-- LANE_IGN_RESTART: A write of LANE_IGN_CTRL.RESTART restarts Ignada bring-up from DETECT (R89). -/
def execLaneIgnRestart (t : Nat) (m : Master) (n : Fin 1032) (value : Word) (s : State) : Res :=
  .next (s.run t (fun s => s.pageWrite m (.lane n) 0x180 (value ||| 0x80000000) ⟨true, true⟩))

/-- ADAPT_WINDOW: A 1 µs transition-density window ends and may freeze or release receive adaptation (R82). -/
def execAdaptWindow (t : Nat) (n : Fin 1032) (density : Nat) (s : State) : Res :=
  .next (s.run t (fun s => s.laneEvent n (fun s => s.density n density)))

/-- LANE_PRBS_GEN_WRITE: A write of LANE_PRBS_GEN starts or stops the generator, which takes the user pattern when EN
rises (R91). -/
def execLanePrbsGenWrite (t : Nat) (m : Master) (n : Fin 1032) (value : Word) (s : State) : Res :=
  .next (s.run t (fun s => s.pageWrite m (.lane n) 0x100 (value) ⟨true, true⟩))

/-- LANE_PRBS_CHK_WRITE: A write of LANE_PRBS_CHK enables the checker and zeroes its counters, or clears them with CLR
(R92). -/
def execLanePrbsChkWrite (t : Nat) (m : Master) (n : Fin 1032) (value : Word) (s : State) : Res :=
  .next (s.run t (fun s => s.pageWrite m (.lane n) 0x104 (value) ⟨true, true⟩))

/-- PRBS_LOCKED: The checker matches 64 consecutive bits and sets LOCKED (R92). -/
def execPrbsLocked (t : Nat) (n : LaneLine) (s : State) : Res :=
  .next (s.run t (fun s => s.laneEvent n.lane (fun s => s.prbsLocked n.lane n.line)))

/-- PRBS_LOCK_LOST: 16 errors within 64 bits drop LOCKED, and the checker raises PRBS_LOCK_LOST and reseeds (R92). -/
def execPrbsLockLost (t : Nat) (n : Fin 1032) (nbits : Nat) (errs : Nat) (s : State) : Res :=
  .next (s.run t (fun s => s.laneEvent n (fun s => s.prbsLost n nbits errs)))

/-- LANE_BIT_CNT_LO_READ: A read of LANE_BIT_CNT_LO captures LANE_BIT_CNT_HI (R93). -/
def execLaneBitCntLoRead (t : Nat) (m : Master) (n : Fin 1032) (nbits : Nat) (errs : Nat) (s : State) : Res :=
  .next (s.run t (fun s =>
    (if s.running (.lane n) then s.chkCount n nbits errs else s).busRead m (Page.base (.lane n) + 0x114)))

/-- TALLY_RX_LO_READ: A read of LANE_IGN_TALLY_RX_LO captures the high word of the same sideband tally (R97). -/
def execTallyRxLoRead (t : Nat) (m : Master) (n : Fin 1032) (s : State) : Res :=
  .next (s.run t (fun s => s.busRead m (Page.base (.lane n) + 0x18C)))

/-- ERR_INJ_SHOT: A write of LANE_ERR_INJ.SHOT inverts the next transmitted line bit (R94). -/
def execErrInjShot (t : Nat) (m : Master) (n : Fin 1032) (value : Word) (s : State) : Res :=
  .next (s.run t (fun s => s.pageWrite m (.lane n) 0x11C (value ||| 0x80000000) ⟨true, true⟩))

/-- ERR_INJ_PERIODIC: The periodic injection count of 2^K bits expires and one bit is inverted (R94). -/
def execErrInjPeriodic (t : Nat) (n : Fin 1032) (s : State) : Res :=
  .next (s.run t (fun s => s.laneEvent n (fun s => s.injectPeriodic n)))

/-- EYE_SCAN_START: A write of LANE_EYE_CTRL.START begins measuring an eye point, or ends at once with NO_LOCK (R95). -/
def execEyeScanStart (t : Nat) (m : Master) (n : Fin 1032) (value : Word) (s : State) : Res :=
  .next (s.run t (fun s => s.pageWrite m (.lane n) 0x140 (value ||| 0x80000000) ⟨true, true⟩))

/-- EYE_SCAN_DONE: An eye-scan point completes, and DONE and EYE_DONE are set (R95). -/
def execEyeScanDone (t : Nat) (n : Fin 1032) (errs : Nat) (s : State) : Res :=
  .next (s.run t (fun s => s.laneEvent n (fun s => s.eyeDone n errs)))

/-- FILL_BLOCK: An Ignada fill block arrives, counts toward block lock and is counted in IGN_FILL_RX (R70). -/
def execFillBlock (t : Nat) (n : Fin 1032) (hdr : Byte) (payload : LineBlock) (s : State) : Res :=
  .next (s.run t (fun s => s.laneEvent n (fun s => s.block n 9 hdr.toNat payload.bits.toNat payload.kerfs none)))

/-- RX_READY: The local receiver's adaptation converges and its eye check shows no errors over 10^6 bits, so RX_READY
is set in the training blocks it sends (R87). -/
def execRxReady (t : Nat) (n : Fin 1032) (s : State) : Res :=
  .next (s.run t (fun s => s.laneEvent n (fun s => s.rxConverged n)))

end Sys2Proof.Machine
end

