-- ==== Sys2Proof/Machine/PlaneRows.lean ====
section
/-! DEFINITION. The meanings of the commands of the bit plane, the brace link and audio at the edges of the word plane (chapters 4 and 5). -/

namespace Sys2Proof.Machine

/-- XBP_SUPERFRAME_SWITCH: An Ignada output changes source at the superframe boundary of the new source after its
switch line (R107). -/
def execXbpSuperframeSwitch (t : Nat) (out : Fin 1024) (s : State) : Res :=
  .next (s.run t (fun s => if s.running .xbp then (s.xbpBoundary out).follow' else s))

/-- XBP_PGEN_WRITE: A write of XBP_PGEN[k] sets a pattern source and takes its user pattern (R111). -/
def execXbpPgenWrite (t : Nat) (m : Master) (k : Fin 8) (value : Word) (s : State) : Res :=
  .next (s.run t (fun s => s.pageWrite m .xbp (0x280 + 12 * k.val) (value) ⟨true, true⟩))

/-- BRACE_TICK_SEND: A tick message is sent on every usable brace lane in a message slot not taken by a record (R116). -/
def execBraceTickSend (t : Nat) (s : State) : Res :=
  .next (s.run t (fun s => if s.running .brc then s.sendTicks else s))

/-- BRACE_TICK_MESSAGE: A valid tick message updates the round trip, BRC_DELAY and SKEW_SMP, and drives alignment
toward UP (R117). -/
def execBraceTickMessage (t : Nat) (k : Fin 8) (payload : LineBlock) (s : State) : Res :=
  .next (s.run t (fun s => s.braceArrives k payload.bits.toNat payload.kerfs))

/-- BRACE_RECORD_SEND: A frame record, or a full record at every 48,000th T_SMP, is computed and sent within 50 µs of
its tick (R121). -/
def execBraceRecordSend (t : Nat) (full : Bool) (v : Fin 32) (s : State) : Res :=
  .next (s.run t (fun s => if s.running .brc then s.sendRecord full v.val else s))

/-- BRACE_FRAME_RECORD: A partner frame record is matched with the own record of the same VTG and tick number, and
compared (R122). -/
def execBraceFrameRecord (t : Nat) (k : Fin 8) (payload : LineBlock) (s : State) : Res :=
  .next (s.run t (fun s => s.braceArrives k payload.bits.toNat payload.kerfs))

/-- BRACE_FULL_RECORD: A partner full record is matched with the own full record and compared (R122). -/
def execBraceFullRecord (t : Nat) (k : Fin 8) (payload : LineBlock) (s : State) : Res :=
  .next (s.run t (fun s => s.braceArrives k payload.bits.toNat payload.kerfs))

/-- BRACE_RECORD_TIMEOUT: An own record still unmatched 2 ms after its tick is a MISSING mismatch (R122). -/
def execBraceRecordTimeout (t : Nat) (full : Bool) (v : Fin 32) (tnum : Word) (s : State) : Res :=
  .next (s.run t (fun s => if s.running .brc then s.recordTimeout full v.val tnum.toNat else s))

/-- BRC_REALIGN: A write of BRC_CTRL.REALIGN returns the link to ALIGN, or restarts alignment (R120). -/
def execBrcRealign (t : Nat) (m : Master) (value : Word) (s : State) : Res :=
  .next (s.run t (fun s => s.pageWrite m .brc 0x040 (value ||| 0x80000000) ⟨true, true⟩))

/-- DEEMB_AUDIO_PACKET: An audio data packet in a de-embedded tenon is taken, and its samples enter the channel FIFOs
(R142). -/
def execDeembAudioPacket (t : Nat) (tenon : Fin 2048) (grp : Fin 8) (samples : List (Nat × Nat)) (ok : Bool) (s : State) : Res :=
  .next (s.run t (fun s => if s.running .xwpMap then s.deembPacket tenon.val grp.val samples ok else s))

/-- EMBED_SAMPLE: The embedder writes the sample of a T_SMP into the first tenon line that begins at or after t + 2 µs
(R145). -/
def execEmbedSample (t : Nat) (dest : Fin 2048) (carried : Byte) (s : State) : Res :=
  .next (s.run t (fun s => if s.running .xwpRoute then s.embedSample dest.val carried.toNat else s))

end Sys2Proof.Machine
end

