-- ==== Sys2Proof/Machine/RecordRows.lean ====
section
/-! DEFINITION. The meanings of the commands of faults, events, soft reset and the black box (chapter 17). -/

namespace Sys2Proof.Machine

/-- FAULT_INJ_FIRE: A write of FAULT_INJ.FIRE injects a fault of CLASS and sets its INJ bit (R431). -/
def execFaultInjFire (t : Nat) (m : Master) (page : Page) (value : Word) (s : State) : Res :=
  .next (s.run t (fun s => s.pageWrite m page 0x028 (value ||| 0x80000000) ⟨true, true⟩))

/-- SOFT_RESET: A write of the soft-reset key to GLB.SOFT_RESET is accepted and event 0x0004 is written (R433). -/
def execSoftReset (t : Nat) (m : Master) (value : Word) (s : State) : Res :=
  .next (s.run t (fun s => s.pageWrite m .glb 0x0F0 (value) ⟨true, true⟩))

/-- SOFT_RESET_EXECUTE: Once the black-box queue is empty the device reset is performed (R433). -/
def execSoftResetExecute (t : Nat) (s : State) : Res :=
  .next (s.run t (fun s => s.softExecute))

/-- EVENT_RECORD_WRITE: The recorder takes a queued event and writes a new record or merges a repeat (R436). -/
def execEventRecordWrite (t : Nat) (s : State) : Res :=
  .next (s.run t (fun s => s.recordDue))

/-- EVR_WIN_READ: A read of EVR_WIN[k][0] latches the cursor's record into the window (R438). -/
def execEvrWinRead (t : Nat) (k : Fin 2) (s : State) : Res :=
  .next (s.run t (fun s => s.busRead (hostMaster k) (Page.base .evr + 0x060 + 0x40 * k.val)))

/-- EVR_WIN_LAST_READ: A read of EVR_WIN[k][7] with VALID advances the cursor (R438). -/
def execEvrWinLastRead (t : Nat) (k : Fin 2) (s : State) : Res :=
  .next (s.run t (fun s => s.busRead (hostMaster k) (Page.base .evr + 0x07C + 0x40 * k.val)))

/-- EVR_CLR_ARM: A write of EVR_CLR.ARM sets ARMED for the writing master (R440). -/
def execEvrClrArm (t : Nat) (m : Master) (s : State) : Res :=
  .next (s.run t (fun s => s.pageWrite m .evr 0x048 (0x80000000) ⟨true, true⟩))

/-- EVR_CLR_CLEAR: A write of EVR_CLR.CLEAR while armed clears the ring, or is rejected (R440). -/
def execEvrClrClear (t : Nat) (m : Master) (s : State) : Res :=
  .next (s.run t (fun s => s.pageWrite m .evr 0x048 (0x40000000) ⟨true, true⟩))

/-- EVR_ARM_LAPSE: ARMED lapses 100 ms after the arm (R440). -/
def execEvrArmLapse (t : Nat) (s : State) : Res :=
  .next (s.run t (fun s => s.evrLapse))

/-- BBX_ENTRY_WRITE: A queued black-box entry is written to flash, erasing the tail sector when the log is full
(R442). -/
def execBbxEntryWrite (t : Nat) (ok : Bool) (s : State) : Res :=
  .next (s.run t (fun s => s.bbxWrite ok))

/-- BBX_HEALTH: Every 3,600 s of the STC a HEALTH entry is queued (R441). -/
def execBbxHealth (t : Nat) (s : State) : Res :=
  .next (s.run t (fun s => s.healthDue))

/-- BBX_READ: A black-box command copies entries into BBX_BUF (R443). -/
def execBbxRead (t : Nat) (k : Fin 2) (a0 : Word) (a1 : Word) (w : Served) (s : State) : Res :=
  .next (s.run t (fun s => s.bbxSend k 0x01 a0 a1 w))

/-- ERASE_CHALLENGE: A black-box command issues an erase challenge (R444). -/
def execEraseChallenge (t : Nat) (k : Fin 2) (a0 : Word) (a1 : Word) (w : Served) (s : State) : Res :=
  .next (s.run t (fun s => s.bbxSend k 0x10 a0 a1 w))

/-- ERASE: A black-box command checks a signature and erases the whole log (R444). -/
def execErase (t : Nat) (k : Fin 2) (a0 : Word) (a1 : Word) (w : Served) (s : State) : Res :=
  .next (s.run t (fun s => s.bbxSend k 0x11 a0 a1 w))

/-- SNAPSHOT: A black-box command queues a HEALTH entry (R443). -/
def execSnapshot (t : Nat) (k : Fin 2) (a0 : Word) (a1 : Word) (w : Served) (s : State) : Res :=
  .next (s.run t (fun s => s.bbxSend k 0x20 a0 a1 w))

/-- BBX_COMMAND_COMPLETE: A black-box command completes, STATUS is set, DONE is set and CMD_DONE is raised (R443). -/
def execBbxCommandComplete (t : Nat) (k : Fin 2) (s : State) : Res :=
  .next (s.run t (fun s => s.bbxComplete k.val))

end Sys2Proof.Machine
end

