-- ==== Sys2Proof/Machine/RefRows.lean ====
section
/-! DEFINITION. The meanings of the commands of references and DPLLs (chapter 9). -/

namespace Sys2Proof.Machine

/-- REFP_IN_EDGE: An edge on a REFP_IN pin is offered as the candidate's phase event and resets its flywheel (R232). -/
def execRefpInEdge (t : Nat) (r : Fin 8) (falling : Bool) (s : State) : Res :=
  .next (s.run t (fun s => if s.running .ref then (s.refEdge r.val falling).follow' else s))

/-- REF_ACTIVITY_TIMEOUT: No edge within 1.5 nominal periods disqualifies a REFP_IN candidate (R233). -/
def execRefActivityTimeout (t : Nat) (r : Fin 8) (s : State) : Res :=
  .next (s.run t (fun s => if s.running .ref then (s.refTimeout r.val).follow' else s))

/-- CAND_FREQ_UPDATE: At each whole STC second a candidate's averaged frequency is updated and checked against its
window (R234). -/
def execCandFreqUpdate (t : Nat) (c : Fin 27) (freq : Int) (s : State) : Res :=
  .next (s.run t (fun s => if s.running .ref then (s.freqUpdate c.val freq).follow' else s))

/-- WTR_EXPIRY: A returning candidate completes its wait-to-restore and becomes eligible (R235). -/
def execWtrExpiry (t : Nat) (c : Fin 27) (s : State) : Res :=
  .next (s.run t (fun s => if s.running .ref then (s.wtrOver c.val).follow' else s))

/-- HOLD_MIN_EXPIRY: HOLD_MIN has passed after a loss of selection and the DPLL selects afresh (R238). -/
def execHoldMinExpiry (t : Nat) (k : Fin 4) (s : State) : Res :=
  .next (s.run t (fun s => if s.running .ref then (s.holdMinOver k).follow' else s))

/-- DPLL_LOCK_TIMER: |e| has stayed within LOCK_TOL for 1 s and the DPLL enters LOCKED (R239). -/
def execDpllLockTimer (t : Nat) (k : Fin 4) (s : State) : Res :=
  .next (s.run t (fun s => if s.running .ref then (s.dpllLocked k).follow' else s))

/-- DPLL_UNLOCK_TIMER: |e| has exceeded 4 × LOCK_TOL for 100 ms and the DPLL returns to ACQUIRING (R239). -/
def execDpllUnlockTimer (t : Nat) (k : Fin 4) (s : State) : Res :=
  .next (s.run t (fun s => if s.running .ref then (s.dpllUnlocked k).follow' else s))

/-- DISAGREE_CLEAR: No candidate pair has disagreed for 10 s and DIS_LIVE clears (R237). -/
def execDisagreeClear (t : Nat) (k : Fin 4) (s : State) : Res :=
  .next (s.run t (fun s => if s.running .ref then (s.disagreeOver k).follow' else s))

/-- REFP_OUT_PULSE: A REFP_OUT pin sends its pulse at the source event plus REFO_OFS (R248). -/
def execRefpOutPulse (t : Nat) (j : Fin 8) (s : State) : Res :=
  .next (s.run t (fun s => if s.running .ref then s.refoRise j.val else s))

/-- REFO_FLY: No REFP_IN edge within 1.5 periods of the prediction puts the flywheel on its own period (R249). -/
def execRefoFly (t : Nat) (r : Fin 8) (s : State) : Res :=
  .next (s.run t (fun s => if s.running .ref then s.refFly r.val else s))

/-- REFP_OUT_PULSE_END: WIDTH µs after its start the REFP_OUT pulse ends and the pin returns to inactive (R248). -/
def execRefpOutPulseEnd (t : Nat) (j : Fin 8) (s : State) : Res :=
  .next (s.run t (fun s => s.refoFall j.val))

end Sys2Proof.Machine
end

