-- ==== Sys2Proof/Machine/RegisterRows.lean ====
section
/-! DEFINITION. The meanings of the commands of writes of registers that have no row of their own, and DIAG_CLR (R8, R96). -/

namespace Sys2Proof.Machine

/-- REGISTER_WRITE: A host or internal master writes a register that has no row of its own, and each field acts as its
type states (R8). -/
def execRegisterWrite (t : Nat) (m : Master) (addr : Nat) (strobes : Nat) (value : Word) (w : Served) (s : State) : Res :=
  .next (s.run t (fun s => s.busWrite m addr strobes value w))

/-- DIAG_CLR: A write of 1 to a page's DIAG_CLR zeroes the diagnostic counters of that page (R96). -/
def execDiagClr (t : Nat) (m : Master) (page : Page) (s : State) : Res :=
  .next (s.run t (fun s => match diagOf page with | some d => s.pageWrite m page d.1 (1) ⟨true, true⟩ | none => s))

end Sys2Proof.Machine
end

