-- ==== Sys2Proof/Machine/TimeRows.lean ====
section
/-! DEFINITION. The meanings of the commands of network time (chapter 8). -/

namespace Sys2Proof.Machine

/-- DOM_ADJ_WRITE: A write of DOM_ADJ steers a domain's rate, or is ignored under the servo owner (R213). -/
def execDomAdjWrite (t : Nat) (m : Master) (d : Fin 2) (value : Word) (s : State) : Res :=
  .next (s.run t (fun s => s.pageWrite m .time (0x10C + 0x40 * d.val) (value) ⟨true, true⟩))

/-- DOM_STEP_WRITE: A write of DOM_STEP requests a domain step, which sets STEP_PEND, or is refused for a bad WHEN
(R214). -/
def execDomStepWrite (t : Nat) (m : Master) (d : Fin 2) (value : Word) (s : State) : Res :=
  .next (s.run t (fun s => s.pageWrite m .time (0x110 + 0x40 * d.val) (value) ⟨true, true⟩))

/-- DOM_STEP_APPLY: A waiting domain step is applied, MT_OFF absorbs it and STEP_DONE is raised (R214): a step that waits for a
rollover in the course of `State.advance` to core cycle `t`, and one that waits for a T_SMP in the core cycle of one. -/
def execDomStepApply (t : Nat) (d : Fin 2) (s : State) : Res :=
  .next (s.run t (fun s =>
    if s.running .time && s.smpDue && s.get .time (TIME.DOM_STEP_WHEN.at d.val) = 0 then s.applyStep d else s))

/-- SERVO_MEASUREMENT: The firmware completes a PTP measurement, posts offset and delay and updates the servo state
(R215). -/
def execServoMeasurement (t : Nat) (d : Fin 2) (port : Fin 64) (offset : Word) (delay : Word) (seq : BitVec 16) (s : State) : Res :=
  .next (s.run t (fun s =>
    if s.running .time then (s.servoMeasured d port.val offset delay seq.toNat).follow' else s))

/-- SERVO_SYNC_TIMEOUT: No Sync for 3 intervals after LOCKED puts the servo in HOLDOVER (R215). -/
def execServoSyncTimeout (t : Nat) (d : Fin 2) (s : State) : Res :=
  .next (s.run t (fun s => if s.running .time then (s.servoSilent d).follow' else s))

/-- MT_SLEW_DONE: MT_OFF reaches MT_TARGET, SLEWING clears and SLEW_DONE is raised (R223), in the course of `State.advance` to
core cycle `t`, once its steps have brought it there. -/
def execMtSlewDone (t : Nat) (s : State) : Res :=
  .next (s.run t (fun s => s))

/-- PPS_OUT_EDGE: The selected time less PPS_OUT_OFS passes a whole second and PPS_OUT rises (R226). -/
def execPpsOutEdge (t : Nat) (s : State) : Res :=
  .next (s.run t (fun s => s.ppsRise))

/-- PPS_IN_EDGE: A PPS_IN edge captures the STC and the three times, or counts PPSI_MISS (R227). -/
def execPpsInEdge (t : Nat) (falling : Bool) (s : State) : Res :=
  .next (s.run t (fun s => s.ppsIn falling))

/-- TIME_CAP: A write of TIME_CAP.CAP captures the STC, both domains and MT in one cycle (R228). -/
def execTimeCap (t : Nat) (m : Master) (s : State) : Res :=
  .next (s.run t (fun s => s.pageWrite m .time 0x040 (0x80000000) ⟨true, true⟩))

/-- STC_LIVE_LO_READ: A read of STC_LIVE_LO captures STC_LIVE_HI (R210). -/
def execStcLiveLoRead (t : Nat) (m : Master) (s : State) : Res :=
  .next (s.run t (fun s => s.busRead m (Page.base .time + 0x080)))

/-- MT_OFF_LO_READ: A read of MT_OFF_LO captures MT_OFF_HI (R228). -/
def execMtOffLoRead (t : Nat) (m : Master) (s : State) : Res :=
  .next (s.run t (fun s => s.busRead m (Page.base .time + 0x20C)))

/-- ANNOUNCE_RECEIPT_TIMEOUT: The announce receipt timeout expires, the selected master is lost, ANN_TIMEOUT counts
and the servo goes to HOLDOVER (R215). -/
def execAnnounceReceiptTimeout (t : Nat) (d : Fin 2) (s : State) : Res :=
  .next (s.run t (fun s => if s.running .time then (s.announceLost d).follow' else s))

/-- PPS_OUT_PULSE_END: WIDTH ms after its rising edge PPS_OUT falls (R226). -/
def execPpsOutPulseEnd (t : Nat) (s : State) : Res :=
  .next (s.run t (fun s => s.ppsFall))

end Sys2Proof.Machine
end

