-- ==== Sys2Proof/Machine/Dispatch.lean ====
section
/-! DEFINITION. One arm per command, each one direct call of its meaning. -/

namespace Sys2Proof.Machine

/-- The effect of a command on everything but the queue. -/
def exec (i : Instr) (s : State) : Host.Outcome State Fault Refusal :=
  match i with
  | .registerWrite t m addr strobes value w => Sys2Proof.Machine.execRegisterWrite t m addr strobes value w s
  | .diagClr t m page => Sys2Proof.Machine.execDiagClr t m page s
  | .tickSmp t => Sys2Proof.Machine.execTickSmp t s
  | .tickFrm t v => Sys2Proof.Machine.execTickFrm t v s
  | .stcTick t k => Sys2Proof.Machine.execStcTick t k s
  | .commitArm t m page value => Sys2Proof.Machine.execCommitArm t m page value s
  | .commitDisarm t m page value => Sys2Proof.Machine.execCommitDisarm t m page value s
  | .commitFire t page => Sys2Proof.Machine.execCommitFire t page s
  | .groupMembershipWrite t m page value => Sys2Proof.Machine.execGroupMembershipWrite t m page value s
  | .cgrpArm t m g value => Sys2Proof.Machine.execCgrpArm t m g value s
  | .cgrpDisarm t m g value => Sys2Proof.Machine.execCgrpDisarm t m g value s
  | .cgrpFire t g => Sys2Proof.Machine.execCgrpFire t g s
  | .routeEntryApply t entry => Sys2Proof.Machine.execRouteEntryApply t entry s
  | .funcInit t m page => Sys2Proof.Machine.execFuncInit t m page s
  | .funcInitComplete t page => Sys2Proof.Machine.execFuncInitComplete t page s
  | .auditSnap t m cls inst => Sys2Proof.Machine.execAuditSnap t m cls inst s
  | .sigFound t n => Sys2Proof.Machine.execSigFound t n s
  | .sigLost t n => Sys2Proof.Machine.execSigLost t n s
  | .cdrLockGained t n => Sys2Proof.Machine.execCdrLockGained t n s
  | .cdrLockLost t n => Sys2Proof.Machine.execCdrLockLost t n s
  | .sdiHuntDwellExpiry t n => Sys2Proof.Machine.execSdiHuntDwellExpiry t n s
  | .lockGained t n rate levelB video => Sys2Proof.Machine.execLockGained t n rate levelB video s
  | .lockLost t n => Sys2Proof.Machine.execLockLost t n s
  | .elasticBufferFault t n => Sys2Proof.Machine.execElasticBufferFault t n s
  | .ignadaTenonBlock t n ten hdr payload => Sys2Proof.Machine.execIgnadaTenonBlock t n ten hdr payload s
  | .superframeHeader t n hdr payload => Sys2Proof.Machine.execSuperframeHeader t n hdr payload s
  | .superframeLockLost t n => Sys2Proof.Machine.execSuperframeLockLost t n s
  | .sidebandBlock t n hdr payload => Sys2Proof.Machine.execSidebandBlock t n hdr payload s
  | .trainingBlock t n hdr payload => Sys2Proof.Machine.execTrainingBlock t n hdr payload s
  | .ignTrainComplete t n => Sys2Proof.Machine.execIgnTrainComplete t n s
  | .ignEnergyPresent t n => Sys2Proof.Machine.execIgnEnergyPresent t n s
  | .ignEnergyLost t n => Sys2Proof.Machine.execIgnEnergyLost t n s
  | .ignAttemptTimeout t n => Sys2Proof.Machine.execIgnAttemptTimeout t n s
  | .ignTrainingTimeout t n => Sys2Proof.Machine.execIgnTrainingTimeout t n s
  | .ignBackoffExpiry t n => Sys2Proof.Machine.execIgnBackoffExpiry t n s
  | .ignListenExit t n => Sys2Proof.Machine.execIgnListenExit t n s
  | .ignResyncTimeout t n => Sys2Proof.Machine.execIgnResyncTimeout t n s
  | .laneIgnRestart t m n value => Sys2Proof.Machine.execLaneIgnRestart t m n value s
  | .adaptWindow t n density => Sys2Proof.Machine.execAdaptWindow t n density s
  | .lanePrbsGenWrite t m n value => Sys2Proof.Machine.execLanePrbsGenWrite t m n value s
  | .lanePrbsChkWrite t m n value => Sys2Proof.Machine.execLanePrbsChkWrite t m n value s
  | .prbsLocked t n => Sys2Proof.Machine.execPrbsLocked t n s
  | .prbsLockLost t n nbits errs => Sys2Proof.Machine.execPrbsLockLost t n nbits errs s
  | .laneBitCntLoRead t m n nbits errs => Sys2Proof.Machine.execLaneBitCntLoRead t m n nbits errs s
  | .tallyRxLoRead t m n => Sys2Proof.Machine.execTallyRxLoRead t m n s
  | .errInjShot t m n value => Sys2Proof.Machine.execErrInjShot t m n value s
  | .errInjPeriodic t n => Sys2Proof.Machine.execErrInjPeriodic t n s
  | .eyeScanStart t m n value => Sys2Proof.Machine.execEyeScanStart t m n value s
  | .eyeScanDone t n errs => Sys2Proof.Machine.execEyeScanDone t n errs s
  | .xbpSuperframeSwitch t out => Sys2Proof.Machine.execXbpSuperframeSwitch t out s
  | .xbpPgenWrite t m k value => Sys2Proof.Machine.execXbpPgenWrite t m k value s
  | .braceTickSend t => Sys2Proof.Machine.execBraceTickSend t s
  | .braceTickMessage t k payload => Sys2Proof.Machine.execBraceTickMessage t k payload s
  | .braceRecordSend t full v => Sys2Proof.Machine.execBraceRecordSend t full v s
  | .braceFrameRecord t k payload => Sys2Proof.Machine.execBraceFrameRecord t k payload s
  | .braceFullRecord t k payload => Sys2Proof.Machine.execBraceFullRecord t k payload s
  | .braceRecordTimeout t full v tnum => Sys2Proof.Machine.execBraceRecordTimeout t full v tnum s
  | .brcRealign t m value => Sys2Proof.Machine.execBrcRealign t m value s
  | .deembAudioPacket t tenon grp samples ok => Sys2Proof.Machine.execDeembAudioPacket t tenon grp samples ok s
  | .embedSample t dest carried => Sys2Proof.Machine.execEmbedSample t dest carried s
  | .ethRestart t m p value => Sys2Proof.Machine.execEthRestart t m p value s
  | .anComplete t p ok page => Sys2Proof.Machine.execAnComplete t p ok page s
  | .ethTrainComplete t p taps => Sys2Proof.Machine.execEthTrainComplete t p taps s
  | .ethTrainTimeout t p => Sys2Proof.Machine.execEthTrainTimeout t p s
  | .ethEnergyLost t p => Sys2Proof.Machine.execEthEnergyLost t p s
  | .ethAlignLock t p => Sys2Proof.Machine.execEthAlignLock t p s
  | .ethAlignTimeout t p => Sys2Proof.Machine.execEthAlignTimeout t p s
  | .ethLinkLoss t p => Sys2Proof.Machine.execEthLinkLoss t p s
  | .ethBackoffExpiry t p => Sys2Proof.Machine.execEthBackoffExpiry t p s
  | .remoteFault t p => Sys2Proof.Machine.execRemoteFault t p s
  | .ethFrameRx t p frame desc => Sys2Proof.Machine.execEthFrameRx t p frame desc s
  | .pauseExpiry t p cls => Sys2Proof.Machine.execPauseExpiry t p cls s
  | .ethFrameTx t p slack held own whole => Sys2Proof.Machine.execEthFrameTx t p slack held own whole s
  | .txUnderrun t p cls => Sys2Proof.Machine.execTxUnderrun t p cls s
  | .hqEnable t m p tx => Sys2Proof.Machine.execHqEnable t m p tx s
  | .hqDisable t m p tx => Sys2Proof.Machine.execHqDisable t m p tx s
  | .hqTxDescriptor t p frame => Sys2Proof.Machine.execHqTxDescriptor t p frame s
  | .cntSnap t m p => Sys2Proof.Machine.execCntSnap t m p s
  | .vtgFrameStart t v second => Sys2Proof.Machine.execVtgFrameStart t v second s
  | .rxLinePlay t n line need last => Sys2Proof.Machine.execRxLinePlay t n line need last s
  | .videoPathTimeout t n pathB => Sys2Proof.Machine.execVideoPathTimeout t n pathB s
  | .skewOverClear t n => Sys2Proof.Machine.execSkewOverClear t n s
  | .videoPacketTx t n payload => Sys2Proof.Machine.execVideoPacketTx t n payload s
  | .ancPacketTx t n rtp => Sys2Proof.Machine.execAncPacketTx t n rtp s
  | .domAdjWrite t m d value => Sys2Proof.Machine.execDomAdjWrite t m d value s
  | .domStepWrite t m d value => Sys2Proof.Machine.execDomStepWrite t m d value s
  | .domStepApply t d => Sys2Proof.Machine.execDomStepApply t d s
  | .servoMeasurement t d port offset delay utc => Sys2Proof.Machine.execServoMeasurement t d port offset delay utc s
  | .servoSyncTimeout t d => Sys2Proof.Machine.execServoSyncTimeout t d s
  | .mtSlewDone t => Sys2Proof.Machine.execMtSlewDone t s
  | .ppsOutEdge t => Sys2Proof.Machine.execPpsOutEdge t s
  | .ppsInEdge t falling => Sys2Proof.Machine.execPpsInEdge t falling s
  | .timeCap t m => Sys2Proof.Machine.execTimeCap t m s
  | .stcLiveLoRead t m => Sys2Proof.Machine.execStcLiveLoRead t m s
  | .mtOffLoRead t m => Sys2Proof.Machine.execMtOffLoRead t m s
  | .refpInEdge t r falling => Sys2Proof.Machine.execRefpInEdge t r falling s
  | .refActivityTimeout t r => Sys2Proof.Machine.execRefActivityTimeout t r s
  | .candFreqUpdate t c freq => Sys2Proof.Machine.execCandFreqUpdate t c freq s
  | .wtrExpiry t c => Sys2Proof.Machine.execWtrExpiry t c s
  | .holdMinExpiry t k => Sys2Proof.Machine.execHoldMinExpiry t k s
  | .dpllLockTimer t k => Sys2Proof.Machine.execDpllLockTimer t k s
  | .dpllUnlockTimer t k => Sys2Proof.Machine.execDpllUnlockTimer t k s
  | .disagreeClear t k => Sys2Proof.Machine.execDisagreeClear t k s
  | .refpOutPulse t j => Sys2Proof.Machine.execRefpOutPulse t j s
  | .refoFly t r => Sys2Proof.Machine.execRefoFly t r s
  | .audTableSwap t => Sys2Proof.Machine.execAudTableSwap t s
  | .meterSnapWrite t m => Sys2Proof.Machine.execMeterSnapWrite t m s
  | .meterSnap t => Sys2Proof.Machine.execMeterSnap t s
  | .audioFlowTimeout t n => Sys2Proof.Machine.execAudioFlowTimeout t n s
  | .audioPathTimeout t n pathB => Sys2Proof.Machine.execAudioPathTimeout t n pathB s
  | .foreignDetect t n foreign => Sys2Proof.Machine.execForeignDetect t n foreign s
  | .audioPacketTx t n marker => Sys2Proof.Machine.execAudioPacketTx t n marker s
  | .tdmFrameStart t b din => Sys2Proof.Machine.execTdmFrameStart t b din s
  | .tdmFrameRx t b began nbits din => Sys2Proof.Machine.execTdmFrameRx t b began nbits din s
  | .tdmPreDone t b => Sys2Proof.Machine.execTdmPreDone t b s
  | .tdmPostDone t b => Sys2Proof.Machine.execTdmPostDone t b s
  | .tdmRestart t m b => Sys2Proof.Machine.execTdmRestart t m b s
  | .tdmFifoFault t b full => Sys2Proof.Machine.execTdmFifoFault t b full s
  | .tdmClockStop t b cut => Sys2Proof.Machine.execTdmClockStop t b cut s
  | .tdmClockBack t b => Sys2Proof.Machine.execTdmClockBack t b s
  | .tdmRateMeasure t b interval => Sys2Proof.Machine.execTdmRateMeasure t b interval s
  | .asrcTrack t a lock => Sys2Proof.Machine.execAsrcTrack t a lock s
  | .frameBufferComplete t e l det arrived broke data => Sys2Proof.Machine.execFrameBufferComplete t e l det arrived broke data s
  | .gddr6TrainingDone t channels => Sys2Proof.Machine.execGddr6TrainingDone t channels s
  | .gddr6Retrain t => Sys2Proof.Machine.execGddr6Retrain t s
  | .edcError t ch lost => Sys2Proof.Machine.execEdcError t ch lost s
  | .pcieReset t flight => Sys2Proof.Machine.execPcieReset t flight s
  | .pcieReady t => Sys2Proof.Machine.execPcieReady t s
  | .pcieUp t width speed => Sys2Proof.Machine.execPcieUp t width speed s
  | .pcieDown t => Sys2Proof.Machine.execPcieDown t s
  | .bar2Access t off write dwords => Sys2Proof.Machine.execBar2Access t off write dwords s
  | .hifEoi t m value => Sys2Proof.Machine.execHifEoi t m value s
  | .msixUnmask t enable fmask vec => Sys2Proof.Machine.execMsixUnmask t enable fmask vec s
  | .spiRead t addr count => Sys2Proof.Machine.execSpiRead t addr count s
  | .spiWrite t addr dwords w => Sys2Proof.Machine.execSpiWrite t addr dwords w s
  | .spiStatus t => Sys2Proof.Machine.execSpiStatus t s
  | .spiCsRise t flight w => Sys2Proof.Machine.execSpiCsRise t flight w s
  | .echo t k tag words w => Sys2Proof.Machine.execEcho t k tag words w s
  | .getVersions t k tag words w => Sys2Proof.Machine.execGetVersions t k tag words w s
  | .getHealth t k tag words w => Sys2Proof.Machine.execGetHealth t k tag words w s
  | .cfgRead t k tag words w => Sys2Proof.Machine.execCfgRead t k tag words w s
  | .cfgWrite t k tag words w => Sys2Proof.Machine.execCfgWrite t k tag words w s
  | .calRead t k tag words w => Sys2Proof.Machine.execCalRead t k tag words w s
  | .calWrite t k tag words w => Sys2Proof.Machine.execCalWrite t k tag words w s
  | .mbxAbort t k => Sys2Proof.Machine.execMbxAbort t k s
  | .mbxResponse t k => Sys2Proof.Machine.execMbxResponse t k s
  | .fwHeartbeat t => Sys2Proof.Machine.execFwHeartbeat t s
  | .busGrant t target waiting => Sys2Proof.Machine.execBusGrant t target waiting s
  | .lockBreak t target => Sys2Proof.Machine.execLockBreak t target s
  | .mreset t master target nulled => Sys2Proof.Machine.execMreset t master target nulled s
  | .coreWatchdog t core flight => Sys2Proof.Machine.execCoreWatchdog t core flight s
  | .tamperTrip t bit => Sys2Proof.Machine.execTamperTrip t bit s
  | .nodeDefine t m a0 a1 a2 w => Sys2Proof.Machine.execNodeDefine t m a0 a1 a2 w s
  | .nodeInvalidate t m a0 a1 a2 w => Sys2Proof.Machine.execNodeInvalidate t m a0 a1 a2 w s
  | .nodeDelete t m a0 a1 a2 w => Sys2Proof.Machine.execNodeDelete t m a0 a1 a2 w s
  | .generate t m a0 a1 a2 w => Sys2Proof.Machine.execGenerate t m a0 a1 a2 w s
  | .exportKey t m a0 a1 a2 w => Sys2Proof.Machine.execExport t m a0 a1 a2 w s
  | .load t m a0 a1 a2 w => Sys2Proof.Machine.execLoad t m a0 a1 a2 w s
  | .derive t m a0 a1 a2 w => Sys2Proof.Machine.execDerive t m a0 a1 a2 w s
  | .importKey t m a0 a1 a2 w => Sys2Proof.Machine.execImport t m a0 a1 a2 w s
  | .unwrapKw t m a0 a1 a2 w => Sys2Proof.Machine.execUnwrapKw t m a0 a1 a2 w s
  | .unload t m a0 a1 a2 w => Sys2Proof.Machine.execUnload t m a0 a1 a2 w s
  | .getIdentity t m a0 a1 a2 w => Sys2Proof.Machine.execGetIdentity t m a0 a1 a2 w s
  | .attest t m a0 a1 a2 w => Sys2Proof.Machine.execAttest t m a0 a1 a2 w s
  | .genIdentity t m a0 a1 a2 w => Sys2Proof.Machine.execGenIdentity t m a0 a1 a2 w s
  | .lcAdvance t m a0 a1 a2 w => Sys2Proof.Machine.execLcAdvance t m a0 a1 a2 w s
  | .custkeySet t m a0 a1 a2 w => Sys2Proof.Machine.execCustkeySet t m a0 a1 a2 w s
  | .revoke t m a0 a1 a2 w => Sys2Proof.Machine.execRevoke t m a0 a1 a2 w s
  | .tamperConfig t m a0 a1 a2 w => Sys2Proof.Machine.execTamperConfig t m a0 a1 a2 w s
  | .dbgChallenge t m a0 a1 a2 w => Sys2Proof.Machine.execDbgChallenge t m a0 a1 a2 w s
  | .dbgUnlock t m a0 a1 a2 w => Sys2Proof.Machine.execDbgUnlock t m a0 a1 a2 w s
  | .keyCommandComplete t => Sys2Proof.Machine.execKeyCommandComplete t s
  | .powerGood t tamp => Sys2Proof.Machine.execPowerGood t tamp s
  | .resetNAssert t => Sys2Proof.Machine.execResetNAssert t s
  | .resetNRelease t tamp => Sys2Proof.Machine.execResetNRelease t tamp s
  | .bootPhaseEnd t ok calOk => Sys2Proof.Machine.execBootPhaseEnd t ok calOk s
  | .readyRise t => Sys2Proof.Machine.execReadyRise t s
  | .bootWdExpiry t => Sys2Proof.Machine.execBootWdExpiry t s
  | .openSession t k a0 a1 w => Sys2Proof.Machine.execOpen t k a0 a1 w s
  | .close t k a0 a1 w => Sys2Proof.Machine.execClose t k a0 a1 w s
  | .stageBegin t k a0 a1 w => Sys2Proof.Machine.execStageBegin t k a0 a1 w s
  | .stageData t k a0 a1 w => Sys2Proof.Machine.execStageData t k a0 a1 w s
  | .stageEnd t k a0 a1 w => Sys2Proof.Machine.execStageEnd t k a0 a1 w s
  | .activate t k a0 a1 w => Sys2Proof.Machine.execActivate t k a0 a1 w s
  | .revertNext t k a0 a1 w => Sys2Proof.Machine.execRevertNext t k a0 a1 w s
  | .manifestBegin t k a0 a1 w => Sys2Proof.Machine.execManifestBegin t k a0 a1 w s
  | .manifestActivate t k a0 a1 w => Sys2Proof.Machine.execManifestActivate t k a0 a1 w s
  | .confirm t k a0 a1 w => Sys2Proof.Machine.execConfirm t k a0 a1 w s
  | .updCommandComplete t k => Sys2Proof.Machine.execUpdCommandComplete t k s
  | .updSessionTimeout t => Sys2Proof.Machine.execUpdSessionTimeout t s
  | .faultInjFire t m page value => Sys2Proof.Machine.execFaultInjFire t m page value s
  | .softReset t m value => Sys2Proof.Machine.execSoftReset t m value s
  | .softResetExecute t => Sys2Proof.Machine.execSoftResetExecute t s
  | .eventRecordWrite t => Sys2Proof.Machine.execEventRecordWrite t s
  | .evrWinRead t k => Sys2Proof.Machine.execEvrWinRead t k s
  | .evrWinLastRead t k => Sys2Proof.Machine.execEvrWinLastRead t k s
  | .evrClrArm t m => Sys2Proof.Machine.execEvrClrArm t m s
  | .evrClrClear t m => Sys2Proof.Machine.execEvrClrClear t m s
  | .evrArmLapse t => Sys2Proof.Machine.execEvrArmLapse t s
  | .bbxEntryWrite t ok => Sys2Proof.Machine.execBbxEntryWrite t ok s
  | .bbxHealth t => Sys2Proof.Machine.execBbxHealth t s
  | .bbxRead t k a0 a1 w => Sys2Proof.Machine.execBbxRead t k a0 a1 w s
  | .eraseChallenge t k a0 a1 w => Sys2Proof.Machine.execEraseChallenge t k a0 a1 w s
  | .erase t k a0 a1 w => Sys2Proof.Machine.execErase t k a0 a1 w s
  | .snapshot t k a0 a1 w => Sys2Proof.Machine.execSnapshot t k a0 a1 w s
  | .bbxCommandComplete t k => Sys2Proof.Machine.execBbxCommandComplete t k s
  | .powerCycle t vbatLost => Sys2Proof.Machine.execPowerCycle t vbatLost s
  | .railFault t => Sys2Proof.Machine.execRailFault t s
  | .vddioLow t => Sys2Proof.Machine.execVddioLow t s
  | .sysclkStop t => Sys2Proof.Machine.execSysclkStop t s
  | .overTemperature t temp => Sys2Proof.Machine.execOverTemperature t temp s
  | .fillBlock t n hdr payload => Sys2Proof.Machine.execFillBlock t n hdr payload s
  | .rxReady t n => Sys2Proof.Machine.execRxReady t n s
  | .remoteFaultCleared t p => Sys2Proof.Machine.execRemoteFaultCleared t p s
  | .announceReceiptTimeout t d => Sys2Proof.Machine.execAnnounceReceiptTimeout t d s
  | .ppsOutPulseEnd t => Sys2Proof.Machine.execPpsOutPulseEnd t s
  | .refpOutPulseEnd t j => Sys2Proof.Machine.execRefpOutPulseEnd t j s
  | .overTemperatureClear t tamp => Sys2Proof.Machine.execOverTemperatureClear t tamp s
  | .tapInstructionLoad t instr => Sys2Proof.Machine.execTapInstructionLoad t instr s

end Sys2Proof.Machine
end

