-- ==== Sys2Proof/Machine/Step.lean ====
section
/-! DEFINITION. One step: the command at the front of the queue runs; on an empty queue a core cycle passes. -/

namespace Sys2Proof.Machine

/-- The queue is empty: one core cycle passes, and interrupt messages that have become due go out (DESIGN CHOICE,
notes/assumptions/1.md). -/
def State.idle (s : State) : State := s.run (s.now + 1) (fun s => s)

/-- The machine takes the command at the front of its queue, or idles. -/
def step (s : State) : Host.Outcome State Fault Refusal :=
  match s.pending with
  | [] => .next s.idle
  | c :: rest => exec c { s with pending := rest }

/-- The table gives no row any bits, so a word spells no command and the state is unchanged. -/
def State.withFetchWord (s : State) (_nbits _w : Nat) : State := s

end Sys2Proof.Machine
end

