-- ==== Sys2Proof/Safety.lean ====
section
/-! DEFINITION. What the statements about the machine speak of: accesses that are answered, the words that an event may
change, the invariants of a state, and the families of commands. -/

namespace Sys2Proof

open Machine

/-! ### Words and pages -/

/-- Address `a` lies in page `p` itself (Table 14.1). -/
def inPage (p : Page) (a : Nat) : Bool := p.base ≤ a && a < p.base + 0x1000

/-- The words that bookkeeping changes at any command: INT_STAT and DOM_STAT of the TIME page as the clocks advance (R214,
R223), the count of interrupt messages (R364), and the count of lost events (R437). -/
def ownWord (a : Nat) : Bool :=
  a = Page.base .time + 0x00C || a = Page.base .time + (TIME.DOM_STAT_STEP_PEND.at 0).off ||
    a = Page.base .time + (TIME.DOM_STAT_STEP_PEND.at 1).off || a = Page.base .hif + HIF.MSIX_SENT.off || a = Page.base .evr + EVR.LOST_CNT.off

/-- The pages whose words follow the state of others: candidates and DPLLs, regenerators, ratio trackers and the
realignment of VTGs (R129, R233 to R247, R299). -/
def followWord (a : Nat) : Bool :=
  inPage .ref a || inPage .xwpRoute a || inPage .asrc a || (0x00102000 ≤ a && a < 0x00122000)

/-- The words of the ETH and MSEC pages. -/
def ethWord (a : Nat) : Bool :=
  0x01000000 ≤ a && a < 0x02000000 && 0x40 ≤ a / 4096 % 256 && a / 4096 % 256 < 0x46

/-- The words of the classifiers, the video receive slots and the audio receive flows. -/
def receiveWord (a : Nat) : Bool :=
  (0x01000000 ≤ a && a < 0x02000000 && (a / 4096 % 256 = 0x81 || a / 4096 % 256 = 0x82)) ||
    (0x00800000 ≤ a && a < 0x00C00000) || (0x02140000 ≤ a && a < 0x02180000)

/-- The word at `a` after a whole write of `v` over `old`, where `q` tells which of the types RW and RWS are writable:
W1C bits clear where 1 is written, all else stays (R8). -/
def fieldsWritten (q : Ty → Bool) (a : Nat) (old v : Word) : Word :=
  let m := BitVec.ofNat 32 (maskOf (fun t => (t == .rw || t == .rws) && q t) a)
  let c := BitVec.ofNat 32 (maskOf (· == .w1c) a)
  ((old &&& ~~~m) ||| (v &&& m)) &&& ~~~(c &&& v)

/-- The pages whose registers do nothing beyond their fields when written. -/
def plainPage : Page → Bool
  | .tick | .ref | .vtg _ | .asrc | .xwpMap | .xwpRoute | .rxSlot _ | .txSlot _ | .flowv _ | .cls _ | .flowaRx _
  | .flowaTx _ | .eng _ | .engComp _ | .engColour _ | .gmc | .busm => true
  | _ => false

/-- The pages that no rule checks when they arm. -/
def uncheckedPage : Page → Bool
  | .tick | .brc | .asrc | .gmc | .glb | .hif | .busm | .key | .upd | .evr | .bbx => true
  | _ => false

/-- The pages whose fire makes their words live and does nothing else. -/
def quietPage : Page → Bool
  | .tick | .gmc | .busm | .key | .upd | .evr | .bbx | .brc | .xwpMap | .engComp _ | .engColour _ | .cls _ => true
  | _ => false

/-- The pages whose FUNC_INIT concerns their words alone. -/
def initlessPage : Page → Bool
  | .tick | .gmc | .xwpMap | .engComp _ | .engColour _ | .cls _ => true
  | _ => false

namespace Machine

/-! ### Accesses that are answered -/

/-- A whole write of offset `o` of page `p` by master `m` is taken: the device is not held in reset, the master owes no
error after a broken lock, and nothing denies the access (R368 to R378, R409). -/
abbrev State.takes (s : State) (m : Master) (p : Page) (o : Nat) : Prop :=
  s.boot.hold = 0 ∧ s.owesError m = false ∧ s.denied m true (p.base + o) 15 = none

/-- Whole writes of all these offsets are taken. -/
abbrev State.takesAll (s : State) (m : Master) (p : Page) (os : List Nat) : Prop := ∀ o ∈ os, s.takes m p o

/-- A read of address `a` by master `m` is answered with data. -/
abbrev State.gives (s : State) (m : Master) (a : Nat) : Prop :=
  s.boot.hold = 0 ∧ s.owesError m = false ∧ s.denied m false a 15 = none

/-! ### References -/

/-- The checks of candidate `c` go on holding: those of a REFP_IN change with its edges alone, those of another candidate
with its source (R233, R234). -/
abbrev State.standing (s : State) (c : Nat) : Prop :=
  8 ≤ c → s.candCfg REF.CAND_CFG_EN c = 1 ∧ s.refAlive c = true ∧ s.get .ref (REF.CAND_STAT_FREQ_OK.at c) = 1 ∧
    (s.cand c).actSince.any (fun a => a + s.avgCycles c ≤ s.now) = true ∧
    (s.cand c).perSince.any (fun a => a + s.avgCycles c ≤ s.now) = true

/-! ### Invariants -/

/-- Arms are listed under the numbers of their pages, and arms and groups rise strictly. -/
abbrev State.armsKeyed (s : State) : Prop :=
  s.arms.Pairwise (fun a b => a.1 < b.1) ∧ (∀ e ∈ s.arms, e.1 = e.2.page.num) ∧ s.groups.Pairwise (fun a b => a.1 < b.1)

/-- Registers, live words and GDDR6 are in their canonical form: addresses strictly rising, and nothing listed that an
unlisted address reads as. -/
abbrev State.canonical (s : State) : Prop :=
  Tab.wf s.sh resetOf ∧ Tab.wf s.lv resetOf ∧ Tab.wf s.gddr (fun _ => 0)

/-- Every vector that is requested and open is in service: no interrupt message that is due has been held back (R364). -/
abbrev State.delivered (s : State) : Prop := ∀ v ∈ s.vecReq, s.vecOpen v = true → v ∈ s.insvc

end Machine

/-! ### Families of commands -/

/-- The command acts while the device is held in reset: power, reset pins, tamper and the test access port. -/
def Instr.alwaysActs : Instr → Bool
  | .tamperTrip _ _ => true
  | .powerGood _ _ => true
  | .resetNAssert _ => true
  | .resetNRelease _ _ => true
  | .powerCycle _ _ => true
  | .railFault _ => true
  | .vddioLow _ => true
  | .sysclkStop _ => true
  | .overTemperatureClear _ _ => true
  | .tapInstructionLoad _ _ => true
  | _ => false

/-- The page whose function an event belongs to: while it does not run, the event does nothing (R54, R363). -/
def Instr.gate : Instr → Option Page
  | .tickFrm _ v => some (.vtg v)
  | .sigFound _ n => some (.lane n)
  | .sigLost _ n => some (.lane n)
  | .cdrLockGained _ n => some (.lane n)
  | .cdrLockLost _ n => some (.lane n)
  | .sdiHuntDwellExpiry _ n => some (.lane n)
  | .lockGained _ n _ _ _ => some (.lane n)
  | .lockLost _ n => some (.lane n)
  | .elasticBufferFault _ n => some (.lane n)
  | .ignadaTenonBlock _ n _ _ _ => some (.lane n)
  | .superframeHeader _ n _ _ => some (.lane n)
  | .superframeLockLost _ n => some (.lane n)
  | .sidebandBlock _ n _ _ => some (.lane n)
  | .trainingBlock _ n _ _ => some (.lane n)
  | .ignTrainComplete _ n => some (.lane n)
  | .ignEnergyPresent _ n => some (.lane n)
  | .ignEnergyLost _ n => some (.lane n)
  | .ignAttemptTimeout _ n => some (.lane n)
  | .ignTrainingTimeout _ n => some (.lane n)
  | .ignBackoffExpiry _ n => some (.lane n)
  | .ignListenExit _ n => some (.lane n)
  | .ignResyncTimeout _ n => some (.lane n)
  | .adaptWindow _ n _ => some (.lane n)
  | .prbsLocked _ n => some (.lane n.lane)
  | .prbsLockLost _ n _ _ => some (.lane n)
  | .errInjPeriodic _ n => some (.lane n)
  | .eyeScanDone _ n _ => some (.lane n)
  | .xbpSuperframeSwitch _ _ => some .xbp
  | .braceTickSend _ => some .brc
  | .braceTickMessage _ k _ => some (.lane (braceLane k))
  | .braceRecordSend _ _ _ => some .brc
  | .braceFrameRecord _ k _ => some (.lane (braceLane k))
  | .braceFullRecord _ k _ => some (.lane (braceLane k))
  | .braceRecordTimeout _ _ _ _ => some .brc
  | .deembAudioPacket _ _ _ _ _ => some .xwpMap
  | .embedSample _ _ _ => some .xwpRoute
  | .anComplete _ p _ _ => some (.eth p)
  | .ethTrainComplete _ p _ => some (.eth p)
  | .ethTrainTimeout _ p => some (.eth p)
  | .ethEnergyLost _ p => some (.eth p.port)
  | .ethAlignLock _ p => some (.eth p)
  | .ethAlignTimeout _ p => some (.eth p)
  | .ethLinkLoss _ p => some (.eth p)
  | .ethBackoffExpiry _ p => some (.eth p)
  | .remoteFault _ p => some (.eth p)
  | .ethFrameRx _ p _ _ => some (.eth p)
  | .pauseExpiry _ p _ => some (.eth p)
  | .ethFrameTx _ p _ _ _ _ => some (.eth p)
  | .txUnderrun _ p _ => some (.eth p)
  | .hqTxDescriptor _ p _ => some (.eth p)
  | .vtgFrameStart _ v _ => some (.vtg v)
  | .rxLinePlay _ n _ _ _ => some (.rxSlot n)
  | .videoPathTimeout _ n _ => some (.rxSlot n)
  | .skewOverClear _ n => some (.rxSlot n)
  | .videoPacketTx _ n _ => some (.txSlot n)
  | .ancPacketTx _ n _ => some (.txSlot n)
  | .domStepApply _ _ => some .time
  | .servoMeasurement _ _ _ _ _ _ => some .time
  | .servoSyncTimeout _ _ => some .time
  | .mtSlewDone _ => some .time
  | .ppsOutEdge _ => some .time
  | .ppsInEdge _ _ => some .time
  | .refpInEdge _ _ _ => some .ref
  | .refActivityTimeout _ _ => some .ref
  | .candFreqUpdate _ _ _ => some .ref
  | .wtrExpiry _ _ => some .ref
  | .holdMinExpiry _ _ => some .ref
  | .dpllLockTimer _ _ => some .ref
  | .dpllUnlockTimer _ _ => some .ref
  | .disagreeClear _ _ => some .ref
  | .refpOutPulse _ _ => some .ref
  | .refoFly _ _ => some .ref
  | .audioFlowTimeout _ n => some (.flowaRx (flowBay n))
  | .audioPathTimeout _ n _ => some (.flowaRx (flowBay n))
  | .foreignDetect _ n _ => some (.flowaRx (flowBay n))
  | .audioPacketTx _ n _ => some (.flowaTx (flowBay n))
  | .tdmFrameStart _ b _ => some (.tdm b)
  | .tdmFrameRx _ b _ _ _ => some (.tdm b)
  | .tdmPreDone _ b => some (.tdm b)
  | .tdmPostDone _ b => some (.tdm b)
  | .tdmFifoFault _ b _ => some (.tdm b)
  | .tdmClockStop _ b _ => some (.tdm b)
  | .tdmClockBack _ b => some (.tdm b)
  | .tdmRateMeasure _ b _ => some (.tdm b)
  | .asrcTrack _ _ _ => some .asrc
  | .frameBufferComplete _ e _ _ _ _ _ => some (.eng e)
  | .gddr6Retrain _ => some .gmc
  | .edcError _ _ _ => some .gmc
  | .fillBlock _ n _ _ => some (.lane n)
  | .rxReady _ n => some (.lane n)
  | .remoteFaultCleared _ p => some (.eth p)
  | .announceReceiptTimeout _ _ => some .time
  | _ => none

/-- The lane an event of a lane happens on. -/
def Instr.laneOf : Instr → Option LaneNo
  | .sigFound _ n => some n
  | .sigLost _ n => some n
  | .cdrLockGained _ n => some n
  | .cdrLockLost _ n => some n
  | .sdiHuntDwellExpiry _ n => some n
  | .lockGained _ n _ _ _ => some n
  | .lockLost _ n => some n
  | .elasticBufferFault _ n => some n
  | .ignadaTenonBlock _ n _ _ _ => some n
  | .superframeHeader _ n _ _ => some n
  | .superframeLockLost _ n => some n
  | .sidebandBlock _ n _ _ => some n
  | .trainingBlock _ n _ _ => some n
  | .ignTrainComplete _ n => some n
  | .ignEnergyPresent _ n => some n
  | .ignEnergyLost _ n => some n
  | .ignAttemptTimeout _ n => some n
  | .ignTrainingTimeout _ n => some n
  | .ignBackoffExpiry _ n => some n
  | .ignListenExit _ n => some n
  | .ignResyncTimeout _ n => some n
  | .adaptWindow _ n _ => some n
  | .prbsLocked _ n => some n.lane
  | .prbsLockLost _ n _ _ => some n
  | .errInjPeriodic _ n => some n
  | .eyeScanDone _ n _ => some n
  | .fillBlock _ n _ _ => some n
  | .rxReady _ n => some n
  | .braceTickMessage _ k _ => some (braceLane k)
  | .braceFrameRecord _ k _ => some (braceLane k)
  | .braceFullRecord _ k _ => some (braceLane k)
  | _ => none

/-- The MAC port an event of its link or of its transmitter happens on. -/
def Instr.portOf : Instr → Option PortNo
  | .anComplete _ p _ _ => some p
  | .ethTrainComplete _ p _ => some p
  | .ethTrainTimeout _ p => some p
  | .ethEnergyLost _ p => some p.port
  | .ethAlignLock _ p => some p
  | .ethAlignTimeout _ p => some p
  | .ethLinkLoss _ p => some p
  | .ethBackoffExpiry _ p => some p
  | .remoteFault _ p => some p
  | .remoteFaultCleared _ p => some p
  | .pauseExpiry _ p _ => some p
  | .txUnderrun _ p _ => some p
  | _ => none

/-- The command is an event of the servos, of the PPS pins or of the references. -/
def Instr.timeEvent : Instr → Bool
  | .domStepApply _ _ => true
  | .servoMeasurement _ _ _ _ _ _ => true
  | .servoSyncTimeout _ _ => true
  | .mtSlewDone _ => true
  | .ppsOutEdge _ => true
  | .ppsInEdge _ _ => true
  | .ppsOutPulseEnd _ => true
  | .announceReceiptTimeout _ _ => true
  | .refpInEdge _ _ _ => true
  | .refActivityTimeout _ _ => true
  | .candFreqUpdate _ _ _ => true
  | .wtrExpiry _ _ => true
  | .holdMinExpiry _ _ => true
  | .dpllLockTimer _ _ => true
  | .dpllUnlockTimer _ _ => true
  | .disagreeClear _ _ => true
  | .refpOutPulse _ _ => true
  | .refpOutPulseEnd _ _ => true
  | .refoFly _ _ => true
  | _ => false

/-- The words that an event of a media function may change, beyond the bookkeeping. -/
def Instr.mediaHome : Instr → Option (Nat → Bool)
  | .videoPathTimeout _ n _ => some (inPage (.rxSlot n))
  | .skewOverClear _ n => some (inPage (.rxSlot n))
  | .rxLinePlay _ n _ _ _ => some (inPage (.rxSlot n))
  | .audioFlowTimeout _ n => some (fun a => inPage (.flowaRx (flowBay n)) a || (0x02140000 + 64 * n.val ≤ a && a < 0x02140040 + 64 * n.val))
  | .audioPathTimeout _ n _ => some (fun a => inPage (.flowaRx (flowBay n)) a || (0x02140000 + 64 * n.val ≤ a && a < 0x02140040 + 64 * n.val))
  | .foreignDetect _ n _ => some (fun a => inPage (.flowaRx (flowBay n)) a || (0x02140000 + 64 * n.val ≤ a && a < 0x02140040 + 64 * n.val))
  | .asrcTrack _ _ _ => some (inPage .asrc)
  | .tdmPreDone _ b => some (fun a => inPage (.tdm b) a || inPage .asrc a)
  | .tdmPostDone _ b => some (fun a => inPage (.tdm b) a || inPage .asrc a)
  | .tdmClockStop _ b _ => some (fun a => inPage (.tdm b) a || inPage .asrc a)
  | .tdmClockBack _ b => some (fun a => inPage (.tdm b) a || inPage .asrc a)
  | .tdmRateMeasure _ b _ => some (fun a => inPage (.tdm b) a || inPage .asrc a)
  | .tdmFifoFault _ b _ => some (fun a => inPage (.tdm b) a || inPage .asrc a)
  | .meterSnap _ => some (fun a => inPage .aud a || (0x02130000 ≤ a && a < 0x02134000))
  | .deembAudioPacket _ _ _ _ _ => some (inPage .xwpMap)
  | .embedSample _ _ _ => some (inPage .xwpRoute)
  | .frameBufferComplete _ e _ _ _ _ _ => some (inPage (.eng e))
  | .gddr6Retrain _ => some (inPage .gmc)
  | .gddr6TrainingDone _ _ => some (inPage .gmc)
  | .braceTickSend _ => some (inPage .brc)
  | .braceRecordSend _ _ _ => some (inPage .brc)
  | .braceRecordTimeout _ _ _ _ => some (inPage .brc)
  | .hqTxDescriptor _ p _ => some (inPage (.eth p))
  | .ethFrameTx _ p _ _ _ _ => some (fun a => inPage (.eth p) a || inPage (.msec p) a)
  | .ethFrameRx _ p _ _ => some (fun a => inPage (.eth p) a || inPage (.msec p) a || receiveWord a)
  | .videoPacketTx _ n _ => some (fun a => inPage (.txSlot n) a || ethWord a)
  | .ancPacketTx _ n _ => some (fun a => inPage (.txSlot n) a || ethWord a)
  | .audioPacketTx _ n _ => some (fun a => inPage (.flowaTx (flowBay n)) a || (0x02180000 + 64 * n.val ≤ a && a < 0x02180040 + 64 * n.val) || ethWord a)
  | .tdmFrameStart _ b _ => some (fun a => inPage (.tdm b) a || inPage .asrc a)
  | .tdmFrameRx _ b _ _ _ => some (fun a => inPage (.tdm b) a || inPage .asrc a)
  | _ => none

/-- The words that an access with a row of its own may change, beyond the access counts and the bookkeeping. -/
def Instr.accessHome : Instr → Option (Nat → Bool)
  | .diagClr _ _ page => some (fun a => inPage page a || (0x02140000 ≤ a && a < 0x021C0000))
  | .commitDisarm _ _ page _ => some (inPage page)
  | .groupMembershipWrite _ _ page _ => some (inPage page)
  | .faultInjFire _ _ page _ => some (fun a => inPage page a || inPage .glb a)
  | .auditSnap _ _ _ _ => some (inPage .glb)
  | .softReset _ _ _ => some (inPage .glb)
  | .cgrpDisarm _ _ _ _ => some (inPage .glb)
  | .hifEoi _ _ _ => some (inPage .hif)
  | .lanePrbsGenWrite _ _ n _ => some (inPage (.lane n))
  | .lanePrbsChkWrite _ _ n _ => some (inPage (.lane n))
  | .errInjShot _ _ n _ => some (inPage (.lane n))
  | .eyeScanStart _ _ n _ => some (inPage (.lane n))
  | .laneBitCntLoRead _ _ n _ _ => some (inPage (.lane n))
  | .tallyRxLoRead _ _ n => some (inPage (.lane n))
  | .laneIgnRestart _ _ n _ => some (fun a => inPage (.lane n) a || followWord a || (isBrace n && inPage .brc a))
  | .xbpPgenWrite _ _ _ _ => some (inPage .xbp)
  | .brcRealign _ _ _ => some (fun a => inPage .brc a || followWord a)
  | .ethRestart _ _ p _ => some (inPage (.eth p))
  | .cntSnap _ _ p => some (inPage (.eth p))
  | .hqEnable _ _ p _ => some (inPage (.eth p))
  | .hqDisable _ _ p _ => some (inPage (.eth p))
  | .meterSnapWrite _ _ => some (inPage .aud)
  | .tdmRestart _ _ b => some (fun a => inPage (.tdm b) a || inPage .asrc a)
  | .domAdjWrite _ _ _ _ => some (inPage .time)
  | .domStepWrite _ _ _ _ => some (inPage .time)
  | .timeCap _ _ => some (inPage .time)
  | .stcLiveLoRead _ _ => some (inPage .time)
  | .mtOffLoRead _ _ => some (inPage .time)
  | .evrClrArm _ _ => some (inPage .evr)
  | .evrClrClear _ _ => some (inPage .evr)
  | .evrWinRead _ _ => some (inPage .evr)
  | .evrWinLastRead _ _ => some (inPage .evr)
  | _ => none

/-- The words that an event of the control plane may change, beyond the bookkeeping. -/
def Instr.controlHome : Instr → Option (Nat → Bool)
  | .pcieUp _ _ _ => some (inPage .hif)
  | .pcieDown _ => some (inPage .hif)
  | .pcieReady _ => some (inPage .hif)
  | .fwHeartbeat _ => some (inPage .hif)
  | .mbxResponse _ _ => some (inPage .hif)
  | .msixUnmask _ _ _ _ => some (fun a => inPage .hif a || inMsix a)
  | .spiStatus _ => some (fun _ => false)
  | .mreset _ _ _ _ => some (inPage .busm)
  | .coreWatchdog _ _ _ => some (inPage .busm)
  | .lockBreak _ _ => some (inPage .busm)
  | .busGrant _ _ _ => some (fun a => inPage .busm a || inPage .hif a)
  | .evrArmLapse _ => some (inPage .evr)
  | .eventRecordWrite _ => some (fun a => inPage .evr a || inPage .bbx a)
  | .bbxHealth _ => some (inPage .bbx)
  | .bbxEntryWrite _ _ => some (inPage .bbx)
  | .bbxCommandComplete _ _ => some (inPage .bbx)
  | .updSessionTimeout _ => some (inPage .upd)
  | .updCommandComplete _ _ => some (inPage .upd)
  | .keyCommandComplete _ => some (inPage .key)
  | .sysclkStop _ => some (inPage .glb)
  | .tapInstructionLoad _ _ => some (fun _ => false)
  | _ => none

/-- The page of a command that the Efner, the update or black-box service, or the firmware behind a mailbox serves. -/
def Instr.service : Instr → Option Page
  | .nodeDefine _ _ _ _ _ _ => some .key
  | .nodeInvalidate _ _ _ _ _ _ => some .key
  | .nodeDelete _ _ _ _ _ _ => some .key
  | .generate _ _ _ _ _ _ => some .key
  | .exportKey _ _ _ _ _ _ => some .key
  | .load _ _ _ _ _ _ => some .key
  | .derive _ _ _ _ _ _ => some .key
  | .importKey _ _ _ _ _ _ => some .key
  | .unwrapKw _ _ _ _ _ _ => some .key
  | .unload _ _ _ _ _ _ => some .key
  | .getIdentity _ _ _ _ _ _ => some .key
  | .attest _ _ _ _ _ _ => some .key
  | .genIdentity _ _ _ _ _ _ => some .key
  | .lcAdvance _ _ _ _ _ _ => some .key
  | .custkeySet _ _ _ _ _ _ => some .key
  | .revoke _ _ _ _ _ _ => some .key
  | .tamperConfig _ _ _ _ _ _ => some .key
  | .dbgChallenge _ _ _ _ _ _ => some .key
  | .dbgUnlock _ _ _ _ _ _ => some .key
  | .openSession _ _ _ _ _ => some .upd
  | .close _ _ _ _ _ => some .upd
  | .stageBegin _ _ _ _ _ => some .upd
  | .stageData _ _ _ _ _ => some .upd
  | .stageEnd _ _ _ _ _ => some .upd
  | .activate _ _ _ _ _ => some .upd
  | .revertNext _ _ _ _ _ => some .upd
  | .manifestBegin _ _ _ _ _ => some .upd
  | .manifestActivate _ _ _ _ _ => some .upd
  | .confirm _ _ _ _ _ => some .upd
  | .bbxRead _ _ _ _ _ => some .bbx
  | .eraseChallenge _ _ _ _ _ => some .bbx
  | .erase _ _ _ _ _ => some .bbx
  | .snapshot _ _ _ _ _ => some .bbx
  | .echo _ _ _ _ _ => some .hif
  | .getVersions _ _ _ _ _ => some .hif
  | .getHealth _ _ _ _ _ => some .hif
  | .cfgRead _ _ _ _ _ => some .hif
  | .cfgWrite _ _ _ _ _ => some .hif
  | .calRead _ _ _ _ _ => some .hif
  | .calWrite _ _ _ _ _ => some .hif
  | .mbxAbort _ _ => some .hif
  | _ => none

end Sys2Proof
end

