-- ==== Sys2Proof/Certificates/Slice0/Obligations.lean ====
section
/-! DEFINITION. The statements for the provers. -/

open Sys2Proof Sys2Proof.Machine

/-- A write that its master may make stores the RW and RWS bits of a table word, of a word of a page without actions,
and of the MSI-X table, clears the W1C bits it writes 1 to, leaves every other bit and the live word, and, on a locked
page, leaves the RWS bits and counts in LOCKED_WRITES. FAULT_INJ with FIRE sets the injected bit of its class and
counts in INJ_CNT. Rests on: R8, R9, R33, R431, 00_scope.md Table 0.3. -/
def Obligations.RegisterWritesActByFieldType : Prop :=
  (∀ (s : State) (t : Nat) (m : Master) (addr : Nat) (value : Word) (w : Served) (p : Page), s.boot.hold = 0 →
      s.owesError m = false → s.denied m true addr 15 = none → 0x02000000 ≤ addr → ownerOf addr = some p →
      s.busy.contains p = false → (s.begin t).locked p = false → ∃ u : State, exec (.registerWrite t m addr 15 value
      w) s = .next u ∧ u.word addr = fieldsWritten (fun _ => true) addr (s.word addr) value ∧ (∀ x : Nat, x ≠ addr →
      inPage .hif x = false → ownWord x = false → u.word x = s.word x) ∧ (∀ x : Nat, u.lword x = s.lword x)) ∧
  (∀ (s : State) (t : Nat) (m : Master) (addr : Nat) (value : Word) (w : Served) (p : Page), s.boot.hold = 0 →
      s.owesError m = false → s.denied m true addr 15 = none → ownerOf addr = some p → plainPage p = true →
      (0x02000000 ≤ addr ∨ 0x040 ≤ addr % 4096) → (diagOf p).all (fun d => d.1 != addr % 4096) = true → logWords p
      (addr % 4096) = [] → s.busy.contains p = false → (s.begin t).locked p = true → rwsMask addr ≠ 0 → ∃ u : State,
      exec (.registerWrite t m addr 15 value w) s = .next u ∧ u.word addr = fieldsWritten (fun x => x != Ty.rws) addr
      (s.word addr) value ∧ u.lword addr = s.lword addr ∧ u.get p HDR.COMMIT_STAT_LOCKED_WRITES = sat
      HDR.COMMIT_STAT_LOCKED_WRITES.w (s.get p HDR.COMMIT_STAT_LOCKED_WRITES + 1)) ∧
  (∀ (s : State) (t : Nat) (m : Master) (addr : Nat) (value : Word) (w : Served) (p : Page), s.boot.hold = 0 →
      s.owesError m = false → s.denied m true addr 15 = none → addr < 0x02000000 → 0x040 ≤ addr % 4096 → inMsix addr =
      false → ownerOf addr = some p → plainPage p = true → (diagOf p).all (fun d => d.1 != addr % 4096) = true →
      logWords p (addr % 4096) = [] → s.busy.contains p = false → (s.begin t).locked p = false → ∃ u : State, exec
      (.registerWrite t m addr 15 value w) s = .next u ∧ u.word addr = fieldsWritten (fun _ => true) addr (s.word
      addr) value ∧ (∀ x : Nat, x ≠ addr → inPage .hif x = false → ownWord x = false → u.word x = s.word x) ∧ (∀ x :
      Nat, u.lword x = s.lword x)) ∧
  (∀ (s : State) (t : Nat) (m : Master) (addr : Nat) (value : Word) (w : Served), s.boot.hold = 0 → s.owesError m =
      false → s.denied m true addr 15 = none → inMsix addr = true → ∃ u : State, exec (.registerWrite t m addr 15
      value w) s = .next u ∧ u.word addr = fieldsWritten (fun x => x == Ty.rw) addr (s.word addr) value) ∧
  (∀ (s : State) (t : Nat) (m : Master) (addr : Nat) (value : Word) (w : Served) (p : Page), s.boot.hold = 0 →
      s.owesError m = false → s.denied m true addr 15 = none → inMsix addr = false → addr < 0x02000000 → pageOf (addr
      / 4096) = some p → addr % 4096 = 0x028 → bits value.toNat 31 1 = 1 → bits value.toNat 0 2 = 1 → ∃ u : State,
      exec (.registerWrite t m addr 15 value w) s = .next u ∧ u.get p HDR.FAULT_STAT_CORR_INJ = 1 ∧ u.get .glb
      GLB.INJ_CNT_COUNT = (s.get .glb GLB.INJ_CNT_COUNT + 1) % 2 ^ GLB.INJ_CNT_COUNT.w) ∧
  (∀ (s : State) (t : Nat) (m : Master) (addr : Nat) (value : Word) (w : Served) (p : Page), s.boot.hold = 0 →
      s.owesError m = false → s.denied m true addr 15 = none → inMsix addr = false → addr < 0x02000000 → pageOf (addr
      / 4096) = some p → addr % 4096 = 0x028 → bits value.toNat 31 1 = 1 → bits value.toNat 0 2 = 2 → ∃ u : State,
      exec (.registerWrite t m addr 15 value w) s = .next u ∧ u.get p HDR.FAULT_STAT_CONT_INJ = 1 ∧ u.get .glb
      GLB.INJ_CNT_COUNT = (s.get .glb GLB.INJ_CNT_COUNT + 1) % 2 ^ GLB.INJ_CNT_COUNT.w ∧ u.normal = false) ∧
  (∀ (s : State) (t : Nat) (m : Master) (addr : Nat) (value : Word) (w : Served) (p : Page), s.boot.hold = 0 →
      s.owesError m = false → s.denied m true addr 15 = none → inMsix addr = false → addr < 0x02000000 → pageOf (addr
      / 4096) = some p → addr % 4096 = 0x028 → bits value.toNat 31 1 = 1 → bits value.toNat 0 2 = 3 → ∃ u : State,
      exec (.registerWrite t m addr 15 value w) s = .next u ∧ u.get p HDR.FAULT_STAT_FATAL_INJ = 1 ∧ u.get .glb
      GLB.INJ_CNT_COUNT = (s.get .glb GLB.INJ_CNT_COUNT + 1) % 2 ^ GLB.INJ_CNT_COUNT.w ∧ u.normal = false)

/-- A write that no page or table maps, that its master may not make, that is partial or misaligned, or that the debug
lock refuses, counts in ERR_CNT of its master, raises ACCESS_ERR, is recorded in ERR_LOG and ERR_ADDR when VALID is 0,
and changes no word outside the BUSM and HIF pages. A master that owes an error after a broken lock gets it once and
its write changes nothing. Readings of the model's own in it: notes/assumptions/26.md and notes/assumptions/27.md.
Rests on: R375, R376, R377, R378, 14_control_plane.md Table 14.8. -/
def Obligations.DeniedAccessesAreErrors : Prop :=
  (∀ (s : State) (t : Nat) (m : Master) (addr : Nat) (value : Word) (w : Served) (strobes : Nat) (reason : Nat)
      (target : Nat), s.boot.hold = 0 → s.owesError m = false → s.denied m true addr strobes = some (reason, target) →
      ∃ u : State, exec (.registerWrite t m addr strobes value w) s = .next u ∧ u.get .busm (BUSM.ERR_CNT.at m.num) =
      sat BUSM.ERR_CNT.w (s.get .busm (BUSM.ERR_CNT.at m.num) + 1) ∧ u.get .busm BUSM.INT_STAT_ACCESS_ERR = 1 ∧ (s.get
      .busm BUSM.ERR_LOG_VALID = 0 → u.get .busm BUSM.ERR_LOG_VALID = 1 ∧ u.get .busm BUSM.ERR_LOG_MASTER = m.num ∧
      u.get .busm BUSM.ERR_LOG_WRITE = 1 ∧ u.get .busm BUSM.ERR_LOG_REASON = reason ∧ u.get .busm BUSM.ERR_LOG_TARGET
      = target ∧ u.get .busm BUSM.ERR_ADDR_LO_ADDR = addr % 2 ^ 32) ∧ Emit.accessErr m true ∈ u.out ∧ (∀ x : Nat,
      inPage .busm x = false → inPage .hif x = false → ownWord x = false → u.word x = s.word x ∧ u.lword x = s.lword
      x)) ∧
  (∀ (s : State) (t : Nat) (m : Master) (addr : Nat) (value : Word) (w : Served) (strobes : Nat), s.boot.hold = 0 →
      s.owesError m = true → ∃ u : State, exec (.registerWrite t m addr strobes value w) s = .next u ∧ Emit.accessErr
      m true ∈ u.out ∧ u.owesError m = false ∧ (∀ x : Nat, inPage .busm x = false → inPage .hif x = false → ownWord x
      = false → u.word x = s.word x ∧ u.lword x = s.lword x))

/-- A write of 1 to DIAG_CLR of a page other than HIF zeroes every diagnostic counter of the page. AUDIT_SEL with SNAP
captures the three counters of the selected pool. Readings of the model's own in it: notes/assumptions/24.md. Rests
on: R53, R96, 02_ticks_commit_salvos.md Table 2.8. -/
def Obligations.DiagClearZeroesItsCounters : Prop :=
  (∀ (s : State) (t : Nat) (m : Master) (page : Page) (d : Nat × List (Nat × Nat)) (r : Nat × Nat) (a : Nat), diagOf
      page = some d → page ≠ .hif → s.takes m page d.1 → r ∈ d.2 → r.1 ≤ a → a < r.2 → ∃ u : State, exec (.diagClr t m
      page) s = .next u ∧ u.word (page.base + a) = 0) ∧
  (∀ (s : State) (t : Nat) (m : Master) (cls : Fin 16) (inst : Fin 256), s.takes m .glb 0x640 → s.busy.contains .glb =
      false → ∃ u : State, exec (.auditSnap t m cls inst) s = .next u ∧ u.get .glb GLB.AUDIT_ISSUED_ISSUED = (s.pool
      cls.val inst.val).issued % 2 ^ 32 ∧ u.get .glb GLB.AUDIT_RETURNED_RETURNED = (s.pool cls.val inst.val).returned
      % 2 ^ 32 ∧ u.get .glb GLB.AUDIT_OUTSTANDING_OUTSTANDING = (s.pool cls.val inst.val).outstanding % 2 ^ 32)

/-- COMMIT.ARM on a page without checks of its own, not pending and in no group, with a TICK_SEL that may be armed,
latches the arm with its delay and SEQ and clears LOCKED_WRITES; a TICK page latches for T_SMP with delay 0; a
TICK_SEL that may not be armed sets BAD_SEL and latches nothing; DISARM withdraws a page's own arm and leaves shadow
and live copy; a membership write stores its fields, and is ignored and counted while a group concerned is busy.
CGRP_CTRL.ARM latches every member of a group of such pages together. Rests on: R26, R28, R32, R33, R34, R38, R40,
R41. -/
def Obligations.ArmsLatchLockAndWithdraw : Prop :=
  (∀ (s : State) (t : Nat) (m : Master) (page : Page) (value : Word), s.takes m page 0x020 → s.busy.contains page =
      false → s.armOf page = none → (s.begin t).justFreed page = none → s.grpBusy (s.get page HDR.COMMIT_GROUP) =
      false → s.grpBusy (bits value.toNat 23 6) = false → uncheckedPage page = true → bits value.toNat 29 1 = 0 → page
      ≠ .tick → bits value.toNat 16 6 < 0x28 → s.selOk (bits value.toNat 16 6) = true → ∃ u : State, exec (.commitArm
      t m page value) s = .next u ∧ (∃ a : Arm, u.armOf page = some a ∧ a.page = page ∧ a.at_ = max s.now t ∧ a.sel =
      bits value.toNat 16 6 ∧ a.left = bits value.toNat 12 4 + 1 ∧ a.smp = none ∧ a.seq = bits value.toNat 0 12 ∧
      a.grp = none ∧ a.draining = false) ∧ u.get page HDR.COMMIT_STAT_LOCKED_WRITES = 0) ∧
  (∀ (s : State) (t : Nat) (m : Master) (value : Word), s.takes m .tick 0x020 → s.busy.contains .tick = false →
      s.armOf .tick = none → (s.begin t).justFreed .tick = none → s.grpBusy (s.get .tick HDR.COMMIT_GROUP) = false →
      s.grpBusy (bits value.toNat 23 6) = false → bits value.toNat 29 1 = 0 → ∃ u : State, exec (.commitArm t m .tick
      value) s = .next u ∧ (∃ a : Arm, u.armOf .tick = some a ∧ a.sel = 0x20 ∧ a.left = 1 ∧ a.smp = none ∧ a.seq =
      bits value.toNat 0 12)) ∧
  (∀ (s : State) (t : Nat) (m : Master) (page : Page) (value : Word), s.takes m page 0x020 → s.busy.contains page =
      false → s.armOf page = none → (s.begin t).justFreed page = none → s.grpBusy (s.get page HDR.COMMIT_GROUP) =
      false → s.grpBusy (bits value.toNat 23 6) = false → uncheckedPage page = true → bits value.toNat 29 1 = 0 → page
      ≠ .tick → s.selOk (bits value.toNat 16 6) = false → ∃ u : State, exec (.commitArm t m page value) s = .next u ∧
      u.get page HDR.COMMIT_STAT_BAD_SEL = 1 ∧ u.armOf page = none) ∧
  (∀ (s : State) (t : Nat) (m : Master) (page : Page) (value : Word) (a : Arm), s.takes m page 0x020 → s.busy.contains
      page = false → s.armOf page = some a → a.grp = none → a.draining = false → ∃ u : State, exec (.commitDisarm t m
      page value) s = .next u ∧ u.armOf page = none ∧ (∀ x : Nat, inPage .hif x = false → ownWord x = false → u.word x
      = s.word x ∧ u.lword x = s.lword x)) ∧
  (∀ (s : State) (t : Nat) (m : Master) (page : Page) (value : Word), s.takes m page 0x020 → s.busy.contains page =
      false → s.armOf page = none → (s.begin t).justFreed page = none → s.grpBusy (s.get page HDR.COMMIT_GROUP) =
      false → s.grpBusy (bits value.toNat 23 6) = false → ∃ u : State, exec (.groupMembershipWrite t m page value) s =
      .next u ∧ u.get page HDR.COMMIT_GRP_JOIN = bits value.toNat 29 1 ∧ u.get page HDR.COMMIT_GROUP = bits
      value.toNat 23 6 ∧ u.get page HDR.COMMIT_TICK_SEL = bits value.toNat 16 6 ∧ u.get page HDR.COMMIT_TICK_DELAY =
      bits value.toNat 12 4 ∧ u.get page HDR.COMMIT_SEQ = bits value.toNat 0 12 ∧ u.armOf page = none) ∧
  (∀ (s : State) (t : Nat) (m : Master) (page : Page) (value : Word), s.takes m page 0x020 → s.busy.contains page =
      false → s.armOf page = none → (s.begin t).justFreed page = none → bits value.toNat 29 1 = 1 → s.get page
      HDR.COMMIT_GRP_JOIN = 0 → s.grpBusy (bits value.toNat 23 6) = true → ∃ u : State, exec (.groupMembershipWrite t
      m page value) s = .next u ∧ u.get page HDR.COMMIT_GRP_JOIN = 0 ∧ u.get page HDR.COMMIT_GROUP = s.get page
      HDR.COMMIT_GROUP ∧ u.get page HDR.COMMIT_STAT_LOCKED_WRITES = sat HDR.COMMIT_STAT_LOCKED_WRITES.w (s.get page
      HDR.COMMIT_STAT_LOCKED_WRITES + 1)) ∧
  (∀ (s : State) (t : Nat) (m : Master) (g : Fin 64) (value : Word), s.takes m .glb (0x400 + 4 * g.val) → s.grpOf
      g.val = none → (∀ p ∈ s.membersOf g.val, uncheckedPage p = true) → bits value.toNat 16 6 < 0x28 → s.selOk (bits
      value.toNat 16 6) = true → ∃ u : State, exec (.cgrpArm t m g value) s = .next u ∧ (∃ x : Grp, u.grpOf g.val =
      some x ∧ x.members = s.membersOf g.val ∧ x.sel = bits value.toNat 16 6 ∧ x.left = bits value.toNat 12 4 + 1 ∧
      x.smp = none ∧ x.seq = bits value.toNat 0 12 ∧ x.draining = false) ∧ (∀ p ∈ s.membersOf g.val, u.pendingPage p =
      true ∧ u.get p HDR.COMMIT_STAT_LOCKED_WRITES = 0)) ∧
  (∀ (s : State) (t : Nat) (m : Master) (g : Fin 64) (value : Word), s.takes m .glb (0x400 + 4 * g.val) → s.grpOf
      g.val = none → (∀ p ∈ s.membersOf g.val, uncheckedPage p = true) → s.selOk (bits value.toNat 16 6) = false → ∃ u
      : State, exec (.cgrpArm t m g value) s = .next u ∧ u.get .glb (GLB.CGRP_STAT_BAD_SEL.at g.val) = 1 ∧ u.get .glb
      GLB.INT_STAT_CGRP_BAD_SEL = 1 ∧ u.grpOf g.val = none)

/-- When the tick that a page's own arm waits for falls, beyond its guard and with no tick left to wait, on a page
whose function has no part in it, every live RWS bit of the page takes the shadow, FIRED and SEQ_LIVE are set, the
page is released and CMT_COUNT adds one. A group of such pages fires together, with DONE, CGRP_DONE and one commit
event. The tick of a waiting route entry makes the words of that entry live, and the swap of the AUD table, at a T_SMP
at or after the one it waits for, makes the words of the AUD page live; the entry waits no more. Readings of the
model's own in it: notes/assumptions/30.md. Rests on: R34, R37, R42, R43, R47, R259, 02_ticks_commit_salvos.md Table
2.1. -/
def Obligations.FiresMakeTheShadowLive : Prop :=
  (∀ (s : State) (t : Nat) (page : Page) (a : Arm), s.boot.hold = 0 → s.armsKeyed → quietPage page = true → s.armOf
      page = some a → a.grp = none → (∀ e ∈ s.groups, page ∉ e.2.members) → a.draining = false → a.left = 1 → a.smp =
      none → a.at_ + guard a.sel ≤ max s.now t → (a.sel ≤ 0x20 ∨ 0x28 ≤ a.sel) → ∃ u : State, exec (.commitFire t
      page) s = .next u ∧ (∀ x : Nat, inMsix x = false → ownerOf x = some page → u.lword x = (s.lword x &&&
      ~~~(BitVec.ofNat 32 (rwsMask x))) ||| (s.word x &&& BitVec.ofNat 32 (rwsMask x))) ∧ u.get page
      HDR.COMMIT_STAT_FIRED = 1 ∧ u.get page HDR.COMMIT_STAT_SEQ_LIVE = a.seq % 4096 ∧ u.armOf page = none ∧ u.get
      .glb GLB.CMT_COUNT_COUNT = (s.get .glb GLB.CMT_COUNT_COUNT + 1) % 2 ^ 32) ∧
  (∀ (s : State) (t : Nat) (g : Fin 64) (x : Grp), s.boot.hold = 0 → s.armsKeyed → s.grpOf g.val = some x → (∀ p ∈
      x.members, quietPage p = true) → (∀ e ∈ s.arms, e.2.grp = some g.val → e.2.page ∈ x.members ∧ e.2.draining =
      false ∧ e.2.waits = []) → (∀ p ∈ x.members, (s.armOf p).any (fun a => a.grp == some g.val) = true) → (∀ e ∈
      s.groups, e.1 ≠ g.val → ∀ p ∈ x.members, p ∉ e.2.members) → x.draining = false → x.left = 1 → x.smp = none →
      x.at_ + guard x.sel ≤ max s.now t → (x.sel ≤ 0x20 ∨ 0x28 ≤ x.sel) → ∃ u : State, exec (.cgrpFire t g) s = .next
      u ∧ (∀ p ∈ x.members, (∀ x : Nat, inMsix x = false → ownerOf x = some p → u.lword x = (s.lword x &&&
      ~~~(BitVec.ofNat 32 (rwsMask x))) ||| (s.word x &&& BitVec.ofNat 32 (rwsMask x))) ∧ u.get p
      HDR.COMMIT_STAT_FIRED = 1 ∧ u.armOf p = none) ∧ u.grpOf g.val = none ∧ u.get .glb (GLB.CGRP_STAT_DONE.at g.val)
      = 1 ∧ u.get .glb GLB.INT_STAT_CGRP_DONE = 1 ∧ u.get .glb GLB.CMT_COUNT_COUNT = (s.get .glb GLB.CMT_COUNT_COUNT +
      1) % 2 ^ 32) ∧
  (∀ (s : State) (t : Nat) (entry : Entry) (a : Nat), s.boot.hold = 0 → entry ≠ .aud → s.waitsFor entry (fun _ =>
      true) = true → a ∈ entryWords entry → ∃ u : State, exec (.routeEntryApply t entry) s = .next u ∧ u.lword a =
      (s.lword a &&& ~~~(BitVec.ofNat 32 (rwsMask a))) ||| (s.word a &&& BitVec.ofNat 32 (rwsMask a)) ∧ u.waitsFor
      entry (fun _ => true) = false) ∧
  (∀ (s : State) (t : Nat) (x : Nat), s.boot.hold = 0 → (s.begin t).smpDue = true → s.waitsFor .aud (fun c => c.any
      (fun d => d ≤ max s.now t)) = true → ((0x02050000 ≤ x ∧ x < 0x020B8000) ∨ inPage .aud x = true) → ∃ u : State,
      exec (.audTableSwap t) s = .next u ∧ u.lword x = (s.lword x &&& ~~~(BitVec.ofNat 32 (rwsMask x))) ||| (s.word x
      &&& BitVec.ofNat 32 (rwsMask x)) ∧ u.waitsFor .aud (fun _ => true) = false ∧ u.get .aud AUD.INT_STAT_SWAPPED =
      1)

/-- Three clauses, each on a device that is not held in reset. tickSmp, in a core cycle in which a T_SMP falls (the
model's State.smpDue): SMP_COUNT and TNUM_SMP each count one, the consumers take the outputs of the last generation,
and the cycle is noted as that of the last T_SMP. tickFrm v, of an enabled VTG whose page runs, in the core cycle of
its T_FRM (State.frmDue): TNUM_FRM[v] counts one, and while nothing is armed the STC of that cycle is noted as that of
the last T_FRM. stcTick k, with the live STC_EN[k] at 1 and STC - STC_AT[k] at zero or positive: STC_FIRED[k] is 1,
the shadow STC_EN is as before, and while no arm of the TICK page is held the live STC_EN[k] is 0. Readings of the
model's own in it: notes/assumptions/144.md. Rests on: 02_ticks_commit_salvos.md, Ticks, 09_references_timing.md,
Video timing generators, 10_audio_plane_network.md, Swap and scarf, 95_what_each_step_holds.md. -/
def Obligations.TicksAdvanceTheirCounters : Prop :=
  (∀ (s : State) (t : Nat), s.boot.hold = 0 → (s.begin t).smpDue = true → ∃ u : State, exec (.tickSmp t) s = .next u ∧
      u.get .tick TICK.SMP_COUNT_COUNT = (s.get .tick TICK.SMP_COUNT_COUNT + 1) % 2 ^ 32 ∧ u.get .brc
      BRC.TNUM_SMP_TNUM = (s.get .brc BRC.TNUM_SMP_TNUM + 1) % 2 ^ 32 ∧ u.aud.cons = s.aud.outs ∧ (u.dpll 2).last =
      some (max s.now t)) ∧
  (∀ (s : State) (t : Nat) (v : Fin 32), s.boot.hold = 0 → s.vtgEn v.val = true → s.running (.vtg v) = true → (s.begin
      t).frmDue v = true → ∃ u : State, exec (.tickFrm t v) s = .next u ∧ u.get .brc (BRC.TNUM_FRM_TNUM.at v.val) =
      (s.get .brc (BRC.TNUM_FRM_TNUM.at v.val) + 1) % 2 ^ 32 ∧ ((s.arms = [] → (u.vtgRun v.val).tfrm = (s.begin t).stc
      ∧ (u.vtgRun v.val).ticked = true))) ∧
  (∀ (s : State) (t : Nat) (k : Fin 8), s.boot.hold = 0 → (s.begin t).stcLive k.val = true → 0 ≤ (s.begin t).stcPast
      k.val → ∃ u : State, exec (.stcTick t k) s = .next u ∧ u.get .tick (TICK.STC_FIRED_FIRED.bit k.val) = 1 ∧ u.get
      .tick TICK.STC_EN_EN = s.get .tick TICK.STC_EN_EN ∧ (((∀ e ∈ s.arms, e.2.page ≠ Page.tick) → u.live .tick
      (TICK.STC_EN_EN.bit k.val) = 0)))

/-- A write of FUNC_INIT that its master may make withdraws the page's arm, clears GRP_JOIN, ends normal service and
leaves FUNC_INIT reading 1. Its completion makes it read 0, and for a page without a function of its own the
configuration outside the header is at reset, live and shadow. Readings of the model's own in it:
notes/assumptions/35.md. Rests on: R54. -/
def Obligations.FuncInitEmptiesAPage : Prop :=
  (∀ (s : State) (t : Nat) (m : Master) (page : Page), s.takes m page 0x004 → s.busy.contains page = false → ∃ u :
      State, exec (.funcInit t m page) s = .next u ∧ page ∈ u.busy ∧ u.armOf page = none ∧ u.get page
      HDR.COMMIT_GRP_JOIN = 0 ∧ u.get page HDR.PAGE_CTRL_FUNC_INIT = 1 ∧ u.normal = false) ∧
  (∀ (s : State) (t : Nat) (page : Page), s.boot.hold = 0 → page ∈ s.busy → ∃ u : State, exec (.funcInitComplete t
      page) s = .next u ∧ page ∉ u.busy ∧ u.get page HDR.PAGE_CTRL_FUNC_INIT = 0 ∧ ((initlessPage page = true → ∀ x :
      Nat, ownerOf x = some page → inMsix x = false → (0x02000000 ≤ x ∨ 0x040 ≤ x % 4096) → u.lword x = resetOf x ∧
      u.word x = (s.word x &&& ~~~(BitVec.ofNat 32 (maskOf (fun t => t == Ty.rw || t == Ty.rws) x))) ||| (resetOf x
      &&& BitVec.ofNat 32 (maskOf (fun t => t == Ty.rw || t == Ty.rws) x)))))

/-- Four clauses, each on a running lane page of a device that is not held in reset. sigFound, with a receive half
that is on and SIG_DET 0: SIG_DET is 1 and INT_STAT.SIG_FOUND is 1. sigLost, with SIG_DET 1: SIG_DET is 0 and
INT_STAT.SIG_LOST is 1. cdrLockGained, with a receive half that is on: CDR_LOCK is 1. cdrLockLost: CDR_LOCK is 0, and
in SDI mode WORD_LOCK is 0. Readings of the model's own in it: notes/assumptions/41.md. Rests on: 03_serial_lanes.md
Table 3.11, 03_serial_lanes.md Table 3.12, 04_bit_plane.md, Routes and sources. -/
def Obligations.LaneSignalEventsSetTheirStatus : Prop :=
  (∀ (s : State) (t : Nat) (n : Fin 1032), s.boot.hold = 0 → s.running (.lane n) = true → s.rxMode true n ≠ 0 → s.get
      (.lane n) LANE.LANE_STAT_SIG_DET = 0 → ∃ u : State, exec (.sigFound t n) s = .next u ∧ u.get (.lane n)
      LANE.LANE_STAT_SIG_DET = 1 ∧ u.get (.lane n) LANE.INT_STAT_SIG_FOUND = 1) ∧
  (∀ (s : State) (t : Nat) (n : Fin 1032), s.boot.hold = 0 → s.running (.lane n) = true → s.get (.lane n)
      LANE.LANE_STAT_SIG_DET = 1 → ∃ u : State, exec (.sigLost t n) s = .next u ∧ u.get (.lane n)
      LANE.LANE_STAT_SIG_DET = 0 ∧ u.get (.lane n) LANE.INT_STAT_SIG_LOST = 1) ∧
  (∀ (s : State) (t : Nat) (n : Fin 1032), s.boot.hold = 0 → s.running (.lane n) = true → s.rxMode true n ≠ 0 → ∃ u :
      State, exec (.cdrLockGained t n) s = .next u ∧ u.get (.lane n) LANE.LANE_STAT_CDR_LOCK = 1) ∧
  (∀ (s : State) (t : Nat) (n : Fin 1032), s.boot.hold = 0 → s.running (.lane n) = true → ∃ u : State, exec
      (.cdrLockLost t n) s = .next u ∧ u.get (.lane n) LANE.LANE_STAT_CDR_LOCK = 0 ∧ ((s.rxMode true n = 2 → u.get
      (.lane n) LANE.LANE_STAT_WORD_LOCK = 0)))

/-- With an SDI receive half in a hunt mode and no word lock, a dwell that is over clears CDR_LOCK and moves the hunt
from one rate code of the order 11.88, 11.88/1.001, 5.94, 5.94/1.001, 2.97, 2.97/1.001, 1.485, 1.485/1.001, 270 Mb/s
to the next. That the hunt returns to its ceiling after 270 Mb/s is the model's choice (notes/assumptions/40.md) and
is not part of this statement. Two clauses, each on a running lane page in SDI word mode. lockGained, with CDR lock,
no word lock, and a rate code 3 to 11 that is the candidate the lane tries or its fixed rate: WORD_LOCK is 1, DET_SDI
is the rate, LEVEL_B is that of the event, INT_STAT.LOCK_GAINED is 1, of the tenons 0 to 7 exactly those beyond the
detected stream carry fill, and a lane in a hunt mode that last locked at another rate has INT_STAT.RATE_CHANGED 1.
lockLost, with word lock: WORD_LOCK and DET_SDI are 0, INT_STAT.LOCK_LOST is 1 and every tenon carries fill. On a
running page of a lane other than a brace lane, in SDI word or Ignada mode with WORD_EN 1, an overflow or underflow of
its elastic buffer sets CONT_REAL of its page, adds one to the saturating count of contained faults, ends normal
service and leaves every source tenon of the lane with fill. Readings of the model's own in it:
notes/assumptions/41.md. Rests on: 03_serial_lanes.md, SDI word mode, 03_serial_lanes.md Table 3.3, 03_serial_lanes.md
Table 3.12, 03_serial_lanes.md, Modes, 17_faults_records.md, Classes. -/
def Obligations.SdiReceptionHuntsLocksAndFails : Prop :=
  (∀ (s : State) (t : Nat) (n : Fin 1032) (i : Fin 8), s.boot.hold = 0 → s.running (.lane n) = true → s.rxMode true n
      = 2 → s.live (.lane n) LANE.LANE_MODE_RX_SDI < 3 → s.get (.lane n) LANE.LANE_STAT_WORD_LOCK = 0 → (s.lane
      n).hunt = [0xA, 0xB, 0x8, 0x9, 0x6, 0x7, 0x4, 0x5, 0x3].getD i.val 0 → ∃ u : State, exec (.sdiHuntDwellExpiry t
      n) s = .next u ∧ u.get (.lane n) LANE.LANE_STAT_CDR_LOCK = 0 ∧ (u.lane n).hunt = [0xA, 0xB, 0x8, 0x9, 0x6, 0x7,
      0x4, 0x5, 0x3].getD (i.val + 1) 0) ∧
  (∀ (s : State) (t : Nat) (n : Fin 1032) (rate : Fin 16) (levelB : Bool) (video : Option (Nat × Nat)), s.boot.hold =
      0 → s.running (.lane n) = true → s.rxMode true n = 2 → s.get (.lane n) LANE.LANE_STAT_WORD_LOCK = 0 → s.get
      (.lane n) LANE.LANE_STAT_CDR_LOCK = 1 → rate.val = (s.lane n).hunt → 3 ≤ rate.val → rate.val ≤ 0xB → ∃ u :
      State, exec (.lockGained t n rate levelB video) s = .next u ∧ u.get (.lane n) LANE.LANE_STAT_WORD_LOCK = 1 ∧
      u.get (.lane n) LANE.LANE_STAT_DET_SDI = rate.val ∧ u.get (.lane n) LANE.LANE_STAT_LEVEL_B = b2n levelB ∧ u.get
      (.lane n) LANE.INT_STAT_LOCK_GAINED = 1 ∧ (∀ k : Fin 8, bitAt (u.lane n).fill k.val = if k.val < sdiTenons
      rate.val then 0 else 1) ∧ ((s.live (.lane n) LANE.LANE_MODE_RX_SDI < 3 ∧ (s.lane n).lastRate ≠ 0 ∧ (s.lane
      n).lastRate ≠ rate.val → u.get (.lane n) LANE.INT_STAT_RATE_CHANGED = 1))) ∧
  (∀ (s : State) (t : Nat) (n : Fin 1032), s.boot.hold = 0 → s.running (.lane n) = true → s.rxMode true n = 2 → s.get
      (.lane n) LANE.LANE_STAT_WORD_LOCK = 1 → ∃ u : State, exec (.lockLost t n) s = .next u ∧ u.get (.lane n)
      LANE.LANE_STAT_WORD_LOCK = 0 ∧ u.get (.lane n) LANE.LANE_STAT_DET_SDI = 0 ∧ u.get (.lane n)
      LANE.INT_STAT_LOCK_LOST = 1 ∧ (u.lane n).fill = 0xFF) ∧
  (∀ (s : State) (t : Nat) (n : Fin 1032), s.boot.hold = 0 → s.running (.lane n) = true → s.live (.lane n)
      LANE.LANE_MODE_WORD_EN = 1 → 2 ≤ s.rxMode true n → isBrace n = false → ∃ u : State, exec (.elasticBufferFault t
      n) s = .next u ∧ u.get (.lane n) HDR.FAULT_STAT_CONT_REAL = 1 ∧ u.get (.lane n) HDR.FAULT_CNT_CONTAINED = sat
      HDR.FAULT_CNT_CONTAINED.w (s.get (.lane n) HDR.FAULT_CNT_CONTAINED + 1) ∧ u.normal = false ∧ (u.lane n).fill =
      0xFF)

/-- IGN_STATE is 0 OFF, 1 DETECT, 2 TRAIN, 3 SYNC, 4 UP, 5 BACKOFF, 6 LISTEN, 7 RESYNC. The clauses are on a lane
whose receive half is in Ignada mode; all but the one of laneIgnRestart are on a device that is not held in reset with
the page of the lane running. ignEnergyPresent in DETECT without the start-up squelch: TRAIN where the lane trains,
otherwise SYNC. ignTrainComplete in TRAIN with the own receiver ready and eight ready blocks in a row: SYNC. A
failure, with its cause in IGN_TRAIN_LOG, is ignEnergyLost in TRAIN or SYNC; ignAttemptTimeout in DETECT, TRAIN or
SYNC without the squelch, at least 100 ms after the attempt began; and ignTrainingTimeout in TRAIN, at least 60 ms
after training began: with ATTEMPT below 7 the lane is in BACKOFF with ATTEMPT one higher and TRAIN_FAIL raised; with
ATTEMPT 7 it is in LISTEN with NO_PARTNER set and raised. ignEnergyLost in UP or RESYNC: DETECT with ATTEMPT 0 and
IGN_DOWN raised. ignBackoffExpiry in BACKOFF once min(100 x 2^(ATTEMPT - 1), 1,600) ms have passed: DETECT with
ATTEMPT as before. ignListenExit in LISTEN after at least 1 ms: DETECT with ATTEMPT and NO_PARTNER 0. ignResyncTimeout
in RESYNC after at least 10 ms: DETECT with ATTEMPT 0. superframeLockLost in UP: RESYNC with WORD_LOCK 0. rxReady in
TRAIN: the own receiver is ready. laneIgnRestart by a master whose access is taken, outside OFF: DETECT with ATTEMPT
and NO_PARTNER 0. Readings of the model's own in it: notes/assumptions/49.md. Rests on: 03_serial_lanes.md Table 3.8,
03_serial_lanes.md, Ignada bring-up. -/
def Obligations.IgnadaBringUpFollowsItsTable : Prop :=
  (∀ (s : State) (t : Nat) (n : Fin 1032), s.boot.hold = 0 → s.running (.lane n) = true → s.rxIgn n = true → s.ign n =
      1 → s.squelched = false → ∃ u : State, exec (.ignEnergyPresent t n) s = .next u ∧ u.ign n = (if s.trains n then
      2 else 3)) ∧
  (∀ (s : State) (t : Nat) (n : Fin 1032), s.boot.hold = 0 → s.running (.lane n) = true → s.rxIgn n = true → s.ign n =
      2 → (s.lane n).rxReady = true → 8 ≤ (s.lane n).readyRun → ∃ u : State, exec (.ignTrainComplete t n) s = .next u
      ∧ u.ign n = 3) ∧
  (∀ (s : State) (t : Nat) (n : Fin 1032), s.boot.hold = 0 → s.running (.lane n) = true → s.rxIgn n = true → (s.ign n
      = 2 ∨ s.ign n = 3) → s.get (.lane n) LANE.LANE_STAT_ATTEMPT < 7 → ∃ u : State, exec (.ignEnergyLost t n) s =
      .next u ∧ u.ign n = 5 ∧ u.get (.lane n) LANE.LANE_STAT_ATTEMPT = s.get (.lane n) LANE.LANE_STAT_ATTEMPT + 1 ∧
      u.get (.lane n) LANE.INT_STAT_TRAIN_FAIL = 1 ∧ u.get (.lane n) LANE.IGN_TRAIN_LOG / 65536 = 3) ∧
  (∀ (s : State) (t : Nat) (n : Fin 1032), s.boot.hold = 0 → s.running (.lane n) = true → s.rxIgn n = true → (s.ign n
      = 2 ∨ s.ign n = 3) → s.get (.lane n) LANE.LANE_STAT_ATTEMPT = 7 → ∃ u : State, exec (.ignEnergyLost t n) s =
      .next u ∧ u.ign n = 6 ∧ u.get (.lane n) LANE.LANE_STAT_NO_PARTNER = 1 ∧ u.get (.lane n) LANE.INT_STAT_NO_PARTNER
      = 1) ∧
  (∀ (s : State) (t : Nat) (n : Fin 1032), s.boot.hold = 0 → s.running (.lane n) = true → s.rxIgn n = true →
      s.squelched = false → (s.ign n = 1 ∨ s.ign n = 2 ∨ s.ign n = 3) → (s.lane n).attemptAt + 118800000 ≤ max s.now t
      → s.get (.lane n) LANE.LANE_STAT_ATTEMPT < 7 → ∃ u : State, exec (.ignAttemptTimeout t n) s = .next u ∧ u.ign n
      = 5 ∧ u.get (.lane n) LANE.LANE_STAT_ATTEMPT = s.get (.lane n) LANE.LANE_STAT_ATTEMPT + 1 ∧ u.get (.lane n)
      LANE.INT_STAT_TRAIN_FAIL = 1 ∧ u.get (.lane n) LANE.IGN_TRAIN_LOG / 65536 = 1) ∧
  (∀ (s : State) (t : Nat) (n : Fin 1032), s.boot.hold = 0 → s.running (.lane n) = true → s.rxIgn n = true →
      s.squelched = false → (s.ign n = 1 ∨ s.ign n = 2 ∨ s.ign n = 3) → (s.lane n).attemptAt + 118800000 ≤ max s.now t
      → s.get (.lane n) LANE.LANE_STAT_ATTEMPT = 7 → ∃ u : State, exec (.ignAttemptTimeout t n) s = .next u ∧ u.ign n
      = 6 ∧ u.get (.lane n) LANE.LANE_STAT_NO_PARTNER = 1 ∧ u.get (.lane n) LANE.INT_STAT_NO_PARTNER = 1) ∧
  (∀ (s : State) (t : Nat) (n : Fin 1032), s.boot.hold = 0 → s.running (.lane n) = true → s.rxIgn n = true → s.ign n =
      2 → (s.lane n).trainAt + 71280000 ≤ max s.now t → s.get (.lane n) LANE.LANE_STAT_ATTEMPT < 7 → ∃ u : State, exec
      (.ignTrainingTimeout t n) s = .next u ∧ u.ign n = 5 ∧ u.get (.lane n) LANE.LANE_STAT_ATTEMPT = s.get (.lane n)
      LANE.LANE_STAT_ATTEMPT + 1 ∧ u.get (.lane n) LANE.INT_STAT_TRAIN_FAIL = 1 ∧ u.get (.lane n) LANE.IGN_TRAIN_LOG /
      65536 = 2) ∧
  (∀ (s : State) (t : Nat) (n : Fin 1032), s.boot.hold = 0 → s.running (.lane n) = true → s.rxIgn n = true → s.ign n =
      2 → (s.lane n).trainAt + 71280000 ≤ max s.now t → s.get (.lane n) LANE.LANE_STAT_ATTEMPT = 7 → ∃ u : State, exec
      (.ignTrainingTimeout t n) s = .next u ∧ u.ign n = 6 ∧ u.get (.lane n) LANE.LANE_STAT_NO_PARTNER = 1 ∧ u.get
      (.lane n) LANE.INT_STAT_NO_PARTNER = 1) ∧
  (∀ (s : State) (t : Nat) (n : Fin 1032), s.boot.hold = 0 → s.running (.lane n) = true → s.rxIgn n = true → (s.ign n
      = 4 ∨ s.ign n = 7) → ∃ u : State, exec (.ignEnergyLost t n) s = .next u ∧ u.ign n = 1 ∧ u.get (.lane n)
      LANE.LANE_STAT_ATTEMPT = 0 ∧ u.get (.lane n) LANE.INT_STAT_IGN_DOWN = 1) ∧
  (∀ (s : State) (t : Nat) (n : Fin 1032), s.boot.hold = 0 → s.running (.lane n) = true → s.rxIgn n = true → s.ign n =
      5 → (s.lane n).ignAt + backoffMs (s.get (.lane n) LANE.LANE_STAT_ATTEMPT) * 1188000 ≤ max s.now t → ∃ u : State,
      exec (.ignBackoffExpiry t n) s = .next u ∧ u.ign n = 1 ∧ u.get (.lane n) LANE.LANE_STAT_ATTEMPT = s.get (.lane
      n) LANE.LANE_STAT_ATTEMPT) ∧
  (∀ (s : State) (t : Nat) (n : Fin 1032), s.boot.hold = 0 → s.running (.lane n) = true → s.rxIgn n = true → s.ign n =
      6 → (s.lane n).ignAt + 1188000 ≤ max s.now t → ∃ u : State, exec (.ignListenExit t n) s = .next u ∧ u.ign n = 1
      ∧ u.get (.lane n) LANE.LANE_STAT_ATTEMPT = 0 ∧ u.get (.lane n) LANE.LANE_STAT_NO_PARTNER = 0) ∧
  (∀ (s : State) (t : Nat) (n : Fin 1032), s.boot.hold = 0 → s.running (.lane n) = true → s.rxIgn n = true → s.ign n =
      7 → (s.lane n).ignAt + 11880000 ≤ max s.now t → ∃ u : State, exec (.ignResyncTimeout t n) s = .next u ∧ u.ign n
      = 1 ∧ u.get (.lane n) LANE.LANE_STAT_ATTEMPT = 0) ∧
  (∀ (s : State) (t : Nat) (n : Fin 1032), s.boot.hold = 0 → s.running (.lane n) = true → s.rxIgn n = true → s.ign n =
      4 → ∃ u : State, exec (.superframeLockLost t n) s = .next u ∧ u.ign n = 7 ∧ u.get (.lane n)
      LANE.LANE_STAT_WORD_LOCK = 0) ∧
  (∀ (s : State) (t : Nat) (n : Fin 1032), s.boot.hold = 0 → s.running (.lane n) = true → s.rxIgn n = true → s.ign n =
      2 → ∃ u : State, exec (.rxReady t n) s = .next u ∧ (u.lane n).rxReady = true ∧ u.ign n = 2) ∧
  (∀ (s : State) (t : Nat) (m : Master) (n : Fin 1032) (value : Word), s.takes m (.lane n) 0x180 → s.rxIgn n = true →
      s.ign n ≠ 0 → ∃ u : State, exec (.laneIgnRestart t m n value) s = .next u ∧ u.ign n = 1 ∧ u.get (.lane n)
      LANE.LANE_STAT_ATTEMPT = 0 ∧ u.get (.lane n) LANE.LANE_STAT_NO_PARTNER = 0)

/-- Six clauses, each on a running lane page with an Ignada receive half. superframeHeader in SYNC, UP or RESYNC, with
header 0x8A, a good CRC and a seed other than 0: the scrambler holds the seed, LANE_IGN_RXINFO shows TEN_1001,
TEN_PRESENT and the LANE_TAG of the header, and in SYNC, as the second good header 1,024 blocks after the first, after
63 further good headers in a row and with fewer than 32 bad of the last 256, the lane is in UP with INT_STAT.IGN_UP 1.
ignadaTenonBlock with the header byte of its tenon, on a lane other than a brace lane in UP with its word path on,
before the superframe ends, of an aligned tenon below RX_IGN_TEN without fill: the words cut from its descrambled bits
are handed on, and the scrambler has moved 256 bits. ignadaTenonBlock out of OFF with a header byte that no TYPE has:
IGN_HDR_ERR counts one, saturating, and its tenon carries fill. sidebandBlock in SYNC, UP or RESYNC on a lane other
than a brace lane, with header 0xE8 and a good CRC: FAR and the tally are those of the sideband. trainingBlock in
TRAIN, with header 0x2C: consecutive RX_READY blocks are counted to 8, the state stays TRAIN, and PRESET puts the live
taps at the committed ones. fillBlock in SYNC, UP or RESYNC, with header 0xD9: IGN_FILL_RX counts one and the
scrambler has moved 256 bits. Readings of the model's own in it: notes/assumptions/43.md and notes/assumptions/45.md
and notes/assumptions/129.md and notes/assumptions/135.md. Rests on: 03_serial_lanes.md, The Ignada lane format,
03_serial_lanes.md, Ignada bring-up, 03_serial_lanes.md Table 3.4, 03_serial_lanes.md Table 3.5, 03_serial_lanes.md
Table 3.6, 03_serial_lanes.md Table 3.7. -/
def Obligations.IgnadaBlocksActByTheirType : Prop :=
  (∀ (s : State) (t : Nat) (n : Fin 1032) (payload : LineBlock), s.boot.hold = 0 → s.running (.lane n) = true →
      s.rxIgn n = true → (s.ign n = 3 ∨ s.ign n = 4 ∨ s.ign n = 7) → crc32 payload.bits.toNat 224 = bits
      payload.bits.toNat 224 32 → bits payload.bits.toNat 0 31 ≠ 0 → ∃ u : State, exec (.superframeHeader t n 0x8A
      payload) s = .next u ∧ (u.lane n).scr = bits payload.bits.toNat 0 31 ∧ u.get (.lane n)
      LANE.LANE_IGN_RXINFO_TEN_1001 = bits payload.bits.toNat 56 8 ∧ u.get (.lane n) LANE.LANE_IGN_RXINFO_TEN_PRESENT
      = bits payload.bits.toNat 48 8 ∧ u.get (.lane n) LANE.LANE_IGN_RXINFO_RXTAG = bits payload.bits.toNat 104 16 ∧
      ((s.ign n = 3 ∧ (s.lane n).sfSeen = 1 ∧ (s.lane n).pos = 1023 ∧ 63 ≤ (s.lane n).hdrRun ∧ ((s.lane
      n).hdrWin.filter id).length < 32 → u.ign n = 4 ∧ u.get (.lane n) LANE.INT_STAT_IGN_UP = 1))) ∧
  (∀ (s : State) (t : Nat) (n : Fin 1032) (ten : Fin 8) (payload : LineBlock), s.boot.hold = 0 → s.running (.lane n) =
      true → s.rxIgn n = true → isBrace n = false → s.ign n = 4 → s.live (.lane n) LANE.LANE_MODE_WORD_EN = 1 →
      ten.val < s.live (.lane n) LANE.LANE_MODE_RX_IGN_TEN → ((s.lane n).tens.getD ten.val ⟨false, 0, 0, 0⟩).aligned =
      true → (s.lane n).pos < 1023 → bitAt (s.lane n).fill ten.val = 0 → ((s.lane n).hdrWin.filter id).length < 32 → ∃
      u : State, exec (.ignadaTenonBlock t n ten (BitVec.ofNat 8 (headerBytes.getD ten.val 0)) payload) s = .next u ∧
      Emit.laneWords n.val ten.val (((s.lane n).tens.getD ten.val ⟨false, 0, 0, 0⟩).take (payload.bits.toNat ^^^
      (scrBits (s.lane n).scr 256).1)).1 ∈ u.out ∧ (u.lane n).scr = (scrBits (s.lane n).scr 256).2) ∧
  (∀ (s : State) (t : Nat) (n : Fin 1032) (ten : Fin 8) (hdr : Byte) (payload : LineBlock), s.boot.hold = 0 →
      s.running (.lane n) = true → s.rxIgn n = true → s.ign n ≠ 0 → headerType hdr.toNat = none → ∃ u : State, exec
      (.ignadaTenonBlock t n ten hdr payload) s = .next u ∧ u.get (.lane n) LANE.IGN_HDR_ERR = sat 32 (s.get (.lane n)
      LANE.IGN_HDR_ERR + 1) ∧ bitAt (u.lane n).fill ten.val = 1) ∧
  (∀ (s : State) (t : Nat) (n : Fin 1032) (payload : SideBlock), s.boot.hold = 0 → s.running (.lane n) = true →
      s.rxIgn n = true → (s.ign n = 3 ∨ s.ign n = 4 ∨ s.ign n = 7) → isBrace n = false → crc16 (payload.bits.toNat ^^^
      (scrBits (s.lane n).scr 256).1) 240 = bits (payload.bits.toNat ^^^ (scrBits (s.lane n).scr 256).1) 240 16 → ∃ u
      : State, exec (.sidebandBlock t n 0xE8 payload) s = .next u ∧ u.get (.lane n) LANE.LANE_IGN_FAR_FAR = bits
      (payload.bits.toNat ^^^ (scrBits (s.lane n).scr 256).1) 8 8 ∧ (u.lane n).tally = bits (payload.bits.toNat ^^^
      (scrBits (s.lane n).scr 256).1) 16 64 ∧ u.get (.lane n) LANE.LANE_IGN_TALLY_RX_LO_TALLY = bits
      (payload.bits.toNat ^^^ (scrBits (s.lane n).scr 256).1) 16 32) ∧
  (∀ (s : State) (t : Nat) (n : Fin 1032) (payload : LineBlock), s.boot.hold = 0 → s.running (.lane n) = true →
      s.rxIgn n = true → s.ign n = 2 → ∃ u : State, exec (.trainingBlock t n 0x2C payload) s = .next u ∧ (u.lane
      n).readyRun = (if bits payload.bits.toNat 7 1 = 1 then min 8 ((s.lane n).readyRun + 1) else 0) ∧ u.ign n = 2 ∧
      ((bits payload.bits.toNat 6 1 = 1 ∧ (s.lane n).base.1 < 64 ∧ (s.lane n).base.2.1 < 64 ∧ (s.lane n).base.2.2 < 64
      → u.taps n = (s.lane n).base))) ∧
  (∀ (s : State) (t : Nat) (n : Fin 1032) (payload : LineBlock), s.boot.hold = 0 → s.running (.lane n) = true →
      s.rxIgn n = true → (s.ign n = 3 ∨ s.ign n = 4 ∨ s.ign n = 7) → ∃ u : State, exec (.fillBlock t n 0xD9 payload) s
      = .next u ∧ u.get (.lane n) LANE.IGN_FILL_RX = (s.get (.lane n) LANE.IGN_FILL_RX + 1) % 2 ^ 32 ∧ (u.lane n).scr
      = (scrBits (s.lane n).scr 256).2)

/-- Nine clauses; the writes are by a master that may make them, and the events are on a running lane page.
adaptWindow with a receive half that is on and a density below 32/1,024: RX_DENSITY shows it, ADAPT_FROZEN is 1, and
its rise sets INT_STAT.ADAPT_FRZ. lanePrbsGenWrite: EN and PAT are those written, and a rise of EN takes the user
pattern. lanePrbsChkWrite that raises EN: LOCKED, the error count and the bit count are 0. prbsLocked with EN 1 and
line bits that follow the pattern for 64 bits: LOCKED is 1. prbsLockLost with LOCKED 1 and 16 errors or more: LOCKED
is 0, INT_STAT.PRBS_LOCK_LOST is 1, and both counts have grown by its bits and errors, saturating. errInjShot, and
errInjPeriodic with K 4 or more: the next line bit is inverted and normal service ends. eyeScanStart: with CDR lock
BUSY is 1, and without it DONE and NO_LOCK are 1. eyeScanDone with BUSY 1: the errors are posted, BUSY is 0, DONE and
INT_STAT.EYE_DONE are 1. Readings of the model's own in it: notes/assumptions/42.md. Rests on: 03_serial_lanes.md,
Receive equalisation, 03_serial_lanes.md, Test functions, 03_serial_lanes.md Table 3.12. -/
def Obligations.LaneTestsCountAndInject : Prop :=
  (∀ (s : State) (t : Nat) (n : Fin 1032) (density : Nat), s.boot.hold = 0 → s.running (.lane n) = true → s.rxMode
      true n ≠ 0 → density < 32 → ∃ u : State, exec (.adaptWindow t n density) s = .next u ∧ u.get (.lane n)
      LANE.RX_DENSITY = density ∧ u.get (.lane n) LANE.LANE_STAT_ADAPT_FROZEN = 1 ∧ ((s.get (.lane n)
      LANE.LANE_STAT_ADAPT_FROZEN = 0 → u.get (.lane n) LANE.INT_STAT_ADAPT_FRZ = 1))) ∧
  (∀ (s : State) (t : Nat) (m : Master) (n : Fin 1032) (value : Word), s.takes m (.lane n) 0x100 → s.busy.contains
      (.lane n) = false → ∃ u : State, exec (.lanePrbsGenWrite t m n value) s = .next u ∧ u.get (.lane n)
      LANE.LANE_PRBS_GEN_EN = bits value.toNat 0 1 ∧ u.get (.lane n) LANE.LANE_PRBS_GEN_PAT = bits value.toNat 1 3 ∧
      ((s.get (.lane n) LANE.LANE_PRBS_GEN_EN = 0 ∧ bits value.toNat 0 1 = 1 → (u.lane n).userGen = s.userPattern n))) ∧
  (∀ (s : State) (t : Nat) (m : Master) (n : Fin 1032) (value : Word), s.takes m (.lane n) 0x104 → s.busy.contains
      (.lane n) = false → s.get (.lane n) LANE.LANE_PRBS_CHK_EN = 0 → bits value.toNat 0 1 = 1 → ∃ u : State, exec
      (.lanePrbsChkWrite t m n value) s = .next u ∧ u.get (.lane n) LANE.LANE_PRBS_CHK_EN = 1 ∧ u.get (.lane n)
      LANE.LANE_PRBS_CHK_LOCKED = 0 ∧ u.get (.lane n) LANE.LANE_ERR_CNT_ERR = 0 ∧ u.get (.lane n)
      LANE.LANE_BIT_CNT_LO_BITS = 0 ∧ (u.lane n).bitCnt = 0) ∧
  (∀ (s : State) (t : Nat) (x : LaneLine), s.boot.hold = 0 → s.running (.lane x.lane) = true → s.get (.lane x.lane)
      LANE.LANE_PRBS_CHK_EN = 1 → s.rxMode true x.lane ≠ 0 → followsPattern (s.get (.lane x.lane)
      LANE.LANE_PRBS_CHK_PAT) (s.lane x.lane).userChk (s.get (.lane x.lane) LANE.LANE_PRBS_CHK_INV = 1) x.line = true
      → ∃ u : State, exec (.prbsLocked t x) s = .next u ∧ u.get (.lane x.lane) LANE.LANE_PRBS_CHK_LOCKED = 1) ∧
  (∀ (s : State) (t : Nat) (n : Fin 1032) (nbits : Nat) (errs : Nat), s.boot.hold = 0 → s.running (.lane n) = true →
      s.get (.lane n) LANE.LANE_PRBS_CHK_LOCKED = 1 → 16 ≤ errs → ∃ u : State, exec (.prbsLockLost t n nbits errs) s =
      .next u ∧ u.get (.lane n) LANE.LANE_PRBS_CHK_LOCKED = 0 ∧ u.get (.lane n) LANE.INT_STAT_PRBS_LOCK_LOST = 1 ∧
      u.get (.lane n) LANE.LANE_ERR_CNT_ERR = sat 32 (s.get (.lane n) LANE.LANE_ERR_CNT_ERR + errs) ∧ (u.lane
      n).bitCnt = sat 48 ((s.lane n).bitCnt + nbits)) ∧
  (∀ (s : State) (t : Nat) (m : Master) (n : Fin 1032) (value : Word), s.takes m (.lane n) 0x11C → ∃ u : State, exec
      (.errInjShot t m n value) s = .next u ∧ Emit.invertBit n.val ∈ u.out ∧ u.normal = false) ∧
  (∀ (s : State) (t : Nat) (n : Fin 1032), s.boot.hold = 0 → s.running (.lane n) = true → 4 ≤ s.get (.lane n)
      LANE.LANE_ERR_INJ_K → ∃ u : State, exec (.errInjPeriodic t n) s = .next u ∧ Emit.invertBit n.val ∈ u.out ∧
      u.normal = false) ∧
  (∀ (s : State) (t : Nat) (m : Master) (n : Fin 1032) (value : Word), s.takes m (.lane n) 0x140 → ∃ u : State, exec
      (.eyeScanStart t m n value) s = .next u ∧ u.get (.lane n) LANE.LANE_EYE_STAT_BUSY = s.get (.lane n)
      LANE.LANE_STAT_CDR_LOCK ∧ u.get (.lane n) LANE.LANE_EYE_STAT_DONE = 1 - s.get (.lane n) LANE.LANE_STAT_CDR_LOCK
      ∧ u.get (.lane n) LANE.LANE_EYE_STAT_NO_LOCK = 1 - s.get (.lane n) LANE.LANE_STAT_CDR_LOCK) ∧
  (∀ (s : State) (t : Nat) (n : Fin 1032) (errs : Nat), s.boot.hold = 0 → s.running (.lane n) = true → s.get (.lane n)
      LANE.LANE_EYE_STAT_BUSY = 1 → ∃ u : State, exec (.eyeScanDone t n errs) s = .next u ∧ u.get (.lane n)
      LANE.LANE_EYE_ERR_ERR = sat 32 errs ∧ u.get (.lane n) LANE.LANE_EYE_STAT_BUSY = 0 ∧ u.get (.lane n)
      LANE.LANE_EYE_STAT_DONE = 1 ∧ u.get (.lane n) LANE.INT_STAT_EYE_DONE = 1)

/-- Two clauses. xbpSuperframeSwitch, with the XBP page running, of an output that waits for a boundary and whose live
entry does not name a serialiser that still trains: the output carries the source its live entry names and waits no
more. xbpPgenWrite by a master that may make it, with the XBP page not in FUNC_INIT: RATE and PAT of source k are
those written, and its user pattern is USER_HI and USER_LO. Rests on: 04_bit_plane.md, Switching on the switch line,
04_bit_plane.md, Pattern sources. -/
def Obligations.BitPlaneSwitchesAndPatterns : Prop :=
  (∀ (s : State) (t : Nat) (out : Fin 1024), s.boot.hold = 0 → s.running .xbp = true → s.xbp.waits.get out.val 0 ≠ 0 →
      (s.xbpWanted out.val = srcSerialiser → s.serTrains (outLane out) = false) → ∃ u : State, exec
      (.xbpSuperframeSwitch t out) s = .next u ∧ u.xbpSrc out.val = s.xbpWanted out.val ∧ u.xbp.waits.get out.val 0 =
      0) ∧
  (∀ (s : State) (t : Nat) (m : Master) (k : Fin 8) (value : Word), s.takes m .xbp (0x280 + 12 * k.val) →
      s.busy.contains .xbp = false → s.xbp.user.length = 8 → ∃ u : State, exec (.xbpPgenWrite t m k value) s = .next u
      ∧ u.get .xbp (XBP.XBP_PGEN_RATE.at k.val) = bits value.toNat 4 4 ∧ u.get .xbp (XBP.XBP_PGEN_PAT.at k.val) = bits
      value.toNat 0 3 ∧ u.xbp.user.getD k.val 0 = s.get .xbp (XBP.XBP_PGEN_USER_LO_PAT.at k.val) + s.get .xbp
      (XBP.XBP_PGEN_USER_HI_PAT.at k.val) * 2 ^ 32)

/-- The clauses are on a device that is not held in reset with the BRC page running. braceTickSend in ALIGN or later:
the tick message goes out on each usable brace lane. braceRecordSend in ALIGN or later, of a record that was made: it
goes out on every usable brace lane and REC_TX counts one. The three message commands, on a usable lane whose page
runs, before its superframe ends and with fewer than 32 bad headers of the last 256: with a wrong CRC or LANE field,
MSG_ERR counts one, saturating; in UP with a partner of the other role, a valid tick message with an echoed stamp
becomes the echo, with the cycle it came in, and counts a round trip, and a valid frame or full record is remembered.
brcRealign with EN 1, with the role of the link and a usable lane, in ALIGN or UP, by a master that may make it: the
link is in ALIGN, with no round trip counted and the ticks not numbered. Readings of the model's own in it:
notes/assumptions/50.md and notes/assumptions/132.md. Rests on: 04_bit_plane.md, The brace link, 04_bit_plane.md, Link
states, 04_bit_plane.md, Records and comparison, 04_bit_plane.md Table 4.8, 04_bit_plane.md Table 4.9. -/
def Obligations.BraceMessagesAreSentAndTakenIn : Prop :=
  (∀ (s : State) (t : Nat) (k : Fin 8), s.boot.hold = 0 → s.running .brc = true → 2 ≤ s.linkState → k ∈ s.braceUp → ∃
      u : State, exec (.braceTickSend t) s = .next u ∧ Emit.braceMsg k.val ((s.begin t).tickMessage k) ∈ u.out) ∧
  (∀ (s : State) (t : Nat) (full : Bool) (v : Fin 32) (e : Bool × BraceRec), s.boot.hold = 0 → s.running .brc = true →
      2 ≤ s.linkState → s.brace.made.find? (fun x => x.2.full == full && (full || x.2.vtg = v.val)) = some e → ∃ u :
      State, exec (.braceRecordSend t full v) s = .next u ∧ u.get .brc BRC.REC_TX = (s.get .brc BRC.REC_TX + 1) % 2 ^
      32 ∧ (∀ k ∈ s.braceUp, Emit.braceMsg k.val ((s.begin t).recPayload (if e.1 then s.withAud e.2 else e.2) k) ∈
      u.out)) ∧
  (∀ (s : State) (t : Nat) (k : Fin 8) (payload : LineBlock), s.boot.hold = 0 → s.running .brc = true → s.running
      (.lane (braceLane k)) = true → s.braceUsable k = true → (s.lane (braceLane k)).pos < 1023 → ((s.lane (braceLane
      k)).hdrWin.filter id).length < 32 → (crc32 payload.bits.toNat 224 ≠ bits payload.bits.toNat 224 32 ∨ bits
      payload.bits.toNat 8 8 ≠ k.val) → ∃ u : State, exec (.braceTickMessage t k payload) s = .next u ∧ u.get .brc
      BRC.MSG_ERR = sat 32 (s.get .brc BRC.MSG_ERR + 1)) ∧
  (∀ (s : State) (t : Nat) (k : Fin 8) (payload : LineBlock), s.boot.hold = 0 → s.running .brc = true → s.running
      (.lane (braceLane k)) = true → s.braceUsable k = true → (s.lane (braceLane k)).pos < 1023 → ((s.lane (braceLane
      k)).hdrWin.filter id).length < 32 → (crc32 payload.bits.toNat 224 ≠ bits payload.bits.toNat 224 32 ∨ bits
      payload.bits.toNat 8 8 ≠ k.val) → ∃ u : State, exec (.braceFrameRecord t k payload) s = .next u ∧ u.get .brc
      BRC.MSG_ERR = sat 32 (s.get .brc BRC.MSG_ERR + 1)) ∧
  (∀ (s : State) (t : Nat) (k : Fin 8) (payload : LineBlock), s.boot.hold = 0 → s.running .brc = true → s.running
      (.lane (braceLane k)) = true → s.braceUsable k = true → (s.lane (braceLane k)).pos < 1023 → ((s.lane (braceLane
      k)).hdrWin.filter id).length < 32 → (crc32 payload.bits.toNat 224 ≠ bits payload.bits.toNat 224 32 ∨ bits
      payload.bits.toNat 8 8 ≠ k.val) → ∃ u : State, exec (.braceFullRecord t k payload) s = .next u ∧ u.get .brc
      BRC.MSG_ERR = sat 32 (s.get .brc BRC.MSG_ERR + 1)) ∧
  (∀ (s : State) (t : Nat) (k : Fin 8) (payload : LineBlock), s.boot.hold = 0 → s.running .brc = true → s.running
      (.lane (braceLane k)) = true → s.braceUsable k = true → (s.lane (braceLane k)).pos < 1023 → ((s.lane (braceLane
      k)).hdrWin.filter id).length < 32 → crc32 payload.bits.toNat 224 = bits payload.bits.toNat 224 32 → bits
      payload.bits.toNat 8 8 = k.val → s.get .brc BRC.BRC_CTRL_EN = 1 → s.linkState = 3 → bits payload.bits.toNat 4 1
      ≠ s.role → bits payload.bits.toNat 0 4 = 1 → bits payload.bits.toNat 96 64 ≠ 0 → ∃ u : State, exec
      (.braceTickMessage t k payload) s = .next u ∧ u.brace.echo = some (bits payload.bits.toNat 64 32, (max s.now t)
      % 2 ^ 32) ∧ u.brace.tripCnt = s.brace.tripCnt + 1) ∧
  (∀ (s : State) (t : Nat) (k : Fin 8) (payload : LineBlock), s.boot.hold = 0 → s.running .brc = true → s.running
      (.lane (braceLane k)) = true → s.braceUsable k = true → (s.lane (braceLane k)).pos < 1023 → ((s.lane (braceLane
      k)).hdrWin.filter id).length < 32 → crc32 payload.bits.toNat 224 = bits payload.bits.toNat 224 32 → bits
      payload.bits.toNat 8 8 = k.val → s.get .brc BRC.BRC_CTRL_EN = 1 → s.linkState = 3 → bits payload.bits.toNat 4 1
      ≠ s.role → bits payload.bits.toNat 0 4 = 2 → ∃ u : State, exec (.braceFrameRecord t k payload) s = .next u ∧
      u.brace.seen.contains ((readRec payload.bits.toNat).full, (readRec payload.bits.toNat).vtg, (readRec
      payload.bits.toNat).tnum) = true) ∧
  (∀ (s : State) (t : Nat) (k : Fin 8) (payload : LineBlock), s.boot.hold = 0 → s.running .brc = true → s.running
      (.lane (braceLane k)) = true → s.braceUsable k = true → (s.lane (braceLane k)).pos < 1023 → ((s.lane (braceLane
      k)).hdrWin.filter id).length < 32 → crc32 payload.bits.toNat 224 = bits payload.bits.toNat 224 32 → bits
      payload.bits.toNat 8 8 = k.val → s.get .brc BRC.BRC_CTRL_EN = 1 → s.linkState = 3 → bits payload.bits.toNat 4 1
      ≠ s.role → bits payload.bits.toNat 0 4 = 3 → ∃ u : State, exec (.braceFullRecord t k payload) s = .next u ∧
      u.brace.seen.contains ((readRec payload.bits.toNat).full, (readRec payload.bits.toNat).vtg, (readRec
      payload.bits.toNat).tnum) = true) ∧
  (∀ (s : State) (t : Nat) (m : Master) (value : Word), s.takes m .brc 0x040 → s.busy.contains .brc = false → bits
      value.toNat 0 1 = 1 → bits value.toNat 1 1 = s.role → 2 ≤ s.linkState → s.braceUp ≠ [] → ∃ u : State, exec
      (.brcRealign t m value) s = .next u ∧ u.linkState = 2 ∧ u.brace.tripCnt = 0 ∧ u.brace.smpNumbered = false)

/-- In UP with a partner of the other role, a valid, new, compared partner record whose waiting own counterpart has
another commit count sets DIVERGED and raises TWIN_DIVERGE; so does an own compared record still unmatched at its
timeout, with WHAT = MISSING in BRC_DIV_INFO when that was free. Readings of the model's own in it:
notes/assumptions/52.md. Rests on: 04_bit_plane.md, Records and comparison. -/
def Obligations.BraceMismatchIsDivergence : Prop :=
  (∀ (s : State) (t : Nat) (k : Fin 8) (payload : LineBlock) (own : BraceRec), s.boot.hold = 0 → s.running .brc = true
      → s.running (.lane (braceLane k)) = true → s.braceUsable k = true → (s.lane (braceLane k)).pos < 1023 → ((s.lane
      (braceLane k)).hdrWin.filter id).length < 32 → crc32 payload.bits.toNat 224 = bits payload.bits.toNat 224 32 →
      bits payload.bits.toNat 8 8 = k.val → s.get .brc BRC.BRC_CTRL_EN = 1 → s.linkState = 3 → bits payload.bits.toNat
      4 1 ≠ s.role → bits payload.bits.toNat 0 4 = 3 → s.brace.seen.contains (true, 0, bits payload.bits.toNat 32 32)
      = false → s.brace.own.find? (fun x => x.same (readRec payload.bits.toNat)) = some own → own.cmt ≠ bits
      payload.bits.toNat 64 32 → ∃ u : State, exec (.braceFullRecord t k payload) s = .next u ∧ u.get .brc
      BRC.BRC_STAT_DIVERGED = 1 ∧ u.get .brc BRC.INT_STAT_TWIN_DIVERGE = 1) ∧
  (∀ (s : State) (t : Nat) (k : Fin 8) (payload : LineBlock) (own : BraceRec), s.boot.hold = 0 → s.running .brc = true
      → s.running (.lane (braceLane k)) = true → s.braceUsable k = true → (s.lane (braceLane k)).pos < 1023 → ((s.lane
      (braceLane k)).hdrWin.filter id).length < 32 → crc32 payload.bits.toNat 224 = bits payload.bits.toNat 224 32 →
      bits payload.bits.toNat 8 8 = k.val → s.get .brc BRC.BRC_CTRL_EN = 1 → s.linkState = 3 → bits payload.bits.toNat
      4 1 ≠ s.role → bits payload.bits.toNat 0 4 = 2 → s.brace.seen.contains (false, bits payload.bits.toNat 16 5,
      bits payload.bits.toNat 32 32) = false → s.compared (readRec payload.bits.toNat) = true → s.vtgEn (bits
      payload.bits.toNat 16 5) = true → s.brace.own.find? (fun x => x.same (readRec payload.bits.toNat)) = some own →
      own.cmt ≠ bits payload.bits.toNat 64 32 → ∃ u : State, exec (.braceFrameRecord t k payload) s = .next u ∧ u.get
      .brc BRC.BRC_STAT_DIVERGED = 1 ∧ u.get .brc BRC.INT_STAT_TWIN_DIVERGE = 1) ∧
  (∀ (s : State) (t : Nat) (full : Bool) (v : Fin 32) (tnum : Word) (r : BraceRec), s.boot.hold = 0 → s.running .brc =
      true → s.brace.own.find? (fun x => x.full == full && x.vtg = v.val && x.tnum = tnum.toNat) = some r → s.compared
      r = true → ∃ u : State, exec (.braceRecordTimeout t full v tnum) s = .next u ∧ u.get .brc BRC.BRC_STAT_DIVERGED
      = 1 ∧ u.get .brc BRC.INT_STAT_TWIN_DIVERGE = 1 ∧ (s.get .brc BRC.BRC_DIV_INFO_VALID = 0 → u.get .brc
      BRC.BRC_DIV_INFO_WHAT = 8))

/-- Three clauses. deembAudioPacket whose checksum and ECC are right, of a group that the de-embedder of its tenon
reads, with the XWP map page running and its samples of different channels 0 to 3: the sample of each channel, with
the core cycle, is the last in the FIFO of that channel, after what was there without the oldest of eight, and of each
channel 0 to 3 that the packet does not hold the FIFO is empty and the channel reads silence. The same packet with a
wrong checksum or ECC: DEEMB_PKT_ERR counts one, saturating, and every FIFO is as before. embedSample of a destination
whose live embedder is enabled, with the XWP route page running and a sample that no earlier line carried and that is
at least 2 microseconds old: the embedder puts out that sample, the 16 channels of its destination, with the groups it
writes and the groups it keeps, the sample is not carried again, and EMB_LINES counts one where a group is written and
no sample was embedded in this core cycle before. Readings of the model's own in it: notes/assumptions/53.md. Rests
on: 05_word_plane.md, Audio at the edges, 05_word_plane.md Table 5.9. -/
def Obligations.AudioEdgesOfTheWordPlane : Prop :=
  (∀ (s : State) (t : Nat) (tenon : Fin 2048) (grp : Fin 8) (samples : List (Nat × Nat)), s.boot.hold = 0 → s.running
      .xwpMap = true → s.deembReads tenon.val grp.val = true → (samples.map Prod.fst).Nodup → (∀ x ∈ samples, x.1 < 4)
      → ∃ u : State, exec (.deembAudioPacket t tenon grp samples true) s = .next u ∧ (∀ x ∈ samples, u.xwp.fifo.get
      (deembSlot tenon.val (grp.val % 4) x.1) [] = (if 8 ≤ (s.xwp.fifo.get (deembSlot tenon.val (grp.val % 4) x.1)
      []).length then (s.xwp.fifo.get (deembSlot tenon.val (grp.val % 4) x.1) []).drop 1 else s.xwp.fifo.get
      (deembSlot tenon.val (grp.val % 4) x.1) []) ++ [(x.2 % 2 ^ 32, max s.now t)]) ∧ (∀ c : Fin 4, (∀ x ∈ samples,
      x.1 ≠ c.val) → u.xwp.fifo.get (deembSlot tenon.val (grp.val % 4) c.val) [] = [] ∧ u.xwp.silent.contains
      (deembSlot tenon.val (grp.val % 4) c.val) = true)) ∧
  (∀ (s : State) (t : Nat) (tenon : Fin 2048) (grp : Fin 8) (samples : List (Nat × Nat)), s.boot.hold = 0 → s.running
      .xwpMap = true → s.deembReads tenon.val grp.val = true → ∃ u : State, exec (.deembAudioPacket t tenon grp
      samples false) s = .next u ∧ u.get .xwpMap XWPM.DEEMB_PKT_ERR = sat XWPM.DEEMB_PKT_ERR.w (s.get .xwpMap
      XWPM.DEEMB_PKT_ERR + 1) ∧ u.xwp.fifo = s.xwp.fifo) ∧
  (∀ (s : State) (t : Nat) (dest : Fin 2048) (carried : Byte) (took : Nat) (cons : Tab Nat), s.boot.hold = 0 →
      s.running .xwpRoute = true → s.tlive (TBL.XWP_EMB_EN.at dest.val) = 1 → (s.begin t).embedNext dest.val = some
      (took, cons) → ∃ u : State, exec (.embedSample t dest carried) s = .next u ∧ Emit.embed dest.val (s.embedGroups
      dest.val carried.toNat).1 (s.embedGroups dest.val carried.toNat).2 ((s.dstRate dest.val).any (fun x => x.1 = 3))
      ((List.range 16).map (fun k => cons.get (16 * dest.val + k) 0)) ∈ u.out ∧ u.xwp.embAt.get dest.val 0 = took + 1
      ∧ (((s.embedGroups dest.val carried.toNat).1 ≠ 0 ∧ s.xwp.lineAt.get dest.val 0 ≠ max s.now t + 1 → u.get
      .xwpRoute XWPR.EMB_LINES = (s.get .xwpRoute XWPR.EMB_LINES + 1) % 2 ^ 32)))

/-- LINK_STATE is 1 AN, 2 TRAIN, 3 ALIGN, 4 UP, 5 BACKOFF. The clauses are on a device that is not held in reset with
the ETH page of the port running. anComplete in AN: a partner page that resolves (the model's State.anResolves) takes
the port to TRAIN, or to ALIGN where the mode does not train, and one that does not resolve is a failure with AN_FAIL.
ethTrainComplete takes TRAIN to ALIGN. ethTrainTimeout at least 500 ms after TRAIN was entered, ethAlignTimeout at
least 50 ms after ALIGN was, and ethEnergyLost in TRAIN or ALIGN with no energy on a used lane, are failures with
their cause: FAIL_CNT counts one, saturating, and the state is BACKOFF. ethAlignLock takes ALIGN to UP with LINK_UP
and ALIGN_LOCK 1 and FAIL_CNT 0. ethLinkLoss in UP, and ethEnergyLost in UP on a used lane, enter the entry state with
LINK_DOWN; ethBackoffExpiry enters it once min(100 x 2^(FAIL_CNT - 1), 1,600) ms have passed in BACKOFF. remoteFault
and remoteFaultCleared in UP set and clear RF_RX. ethRestart by a master that may make it enters the entry state with
FAIL_CNT 0. Readings of the model's own in it: notes/assumptions/49.md and notes/assumptions/137.md. Rests on:
06_ethernet_ports.md Table 6.2, 06_ethernet_ports.md, Link bring-up. -/
def Obligations.EthernetLinkFollowsItsTable : Prop :=
  (∀ (s : State) (t : Nat) (p : Fin 48) (high : BitVec 16) (low : Word), s.boot.hold = 0 → s.running (.eth p) = true →
      s.link p = 1 → s.anResolves p (low.toNat + high.toNat * 2 ^ 32) = true → ∃ u : State, exec (.anComplete t p high
      low) s = .next u ∧ u.link p = (if s.ethTrains p then 2 else 3) ∧ u.get (.eth p) ETH.AN_LP = (Config.anWord
      (low.toNat + high.toNat * 2 ^ 32)).toNat) ∧
  (∀ (s : State) (t : Nat) (p : Fin 48) (high : BitVec 16) (low : Word), s.boot.hold = 0 → s.running (.eth p) = true →
      s.link p = 1 → s.anResolves p (low.toNat + high.toNat * 2 ^ 32) = false → ∃ u : State, exec (.anComplete t p
      high low) s = .next u ∧ u.link p = 5 ∧ u.get (.eth p) ETH.ETH_STAT_FAIL_CNT = sat ETH.ETH_STAT_FAIL_CNT.w (s.get
      (.eth p) ETH.ETH_STAT_FAIL_CNT + 1) ∧ u.get (.eth p) ETH.INT_STAT_AN_FAIL = 1) ∧
  (∀ (s : State) (t : Nat) (p : Fin 48) (taps : List (Nat × Nat × Nat)), s.boot.hold = 0 → s.running (.eth p) = true →
      s.link p = 2 → ∃ u : State, exec (.ethTrainComplete t p taps) s = .next u ∧ u.link p = 3) ∧
  (∀ (s : State) (t : Nat) (p : Fin 48), s.boot.hold = 0 → s.running (.eth p) = true → s.link p = 2 → (s.port
      p).linkAt + 594000000 ≤ max s.now t → ∃ u : State, exec (.ethTrainTimeout t p) s = .next u ∧ u.link p = 5 ∧
      u.get (.eth p) ETH.ETH_STAT_FAIL_CNT = sat ETH.ETH_STAT_FAIL_CNT.w (s.get (.eth p) ETH.ETH_STAT_FAIL_CNT + 1) ∧
      u.get (.eth p) ETH.INT_STAT_TRAIN_FAIL = 1) ∧
  (∀ (s : State) (t : Nat) (x : PortEnergy), s.boot.hold = 0 → s.running (.eth x.port) = true → s.usedLanes x.port &&&
      x.lanes.toNat ≠ s.usedLanes x.port → s.link x.port = 2 → ∃ u : State, exec (.ethEnergyLost t x) s = .next u ∧
      u.link x.port = 5 ∧ u.get (.eth x.port) ETH.ETH_STAT_FAIL_CNT = sat ETH.ETH_STAT_FAIL_CNT.w (s.get (.eth x.port)
      ETH.ETH_STAT_FAIL_CNT + 1) ∧ u.get (.eth x.port) ETH.INT_STAT_TRAIN_FAIL = 1 ∧ u.get (.eth x.port)
      ETH.ETH_STAT_SIG_DET = x.lanes.toNat &&& s.usedLanes x.port) ∧
  (∀ (s : State) (t : Nat) (x : PortEnergy), s.boot.hold = 0 → s.running (.eth x.port) = true → s.usedLanes x.port &&&
      x.lanes.toNat ≠ s.usedLanes x.port → s.link x.port = 3 → ∃ u : State, exec (.ethEnergyLost t x) s = .next u ∧
      u.link x.port = 5 ∧ u.get (.eth x.port) ETH.ETH_STAT_FAIL_CNT = sat ETH.ETH_STAT_FAIL_CNT.w (s.get (.eth x.port)
      ETH.ETH_STAT_FAIL_CNT + 1) ∧ u.get (.eth x.port) ETH.INT_STAT_ALIGN_FAIL = 1 ∧ u.get (.eth x.port)
      ETH.ETH_STAT_SIG_DET = x.lanes.toNat &&& s.usedLanes x.port) ∧
  (∀ (s : State) (t : Nat) (x : PortEnergy), s.boot.hold = 0 → s.running (.eth x.port) = true → s.usedLanes x.port &&&
      x.lanes.toNat ≠ s.usedLanes x.port → s.link x.port = 4 → ∃ u : State, exec (.ethEnergyLost t x) s = .next u ∧
      u.link x.port = s.ethEntry x.port ∧ u.get (.eth x.port) ETH.INT_STAT_LINK_DOWN = 1) ∧
  (∀ (s : State) (t : Nat) (p : Fin 48), s.boot.hold = 0 → s.running (.eth p) = true → s.link p = 3 → ∃ u : State,
      exec (.ethAlignLock t p) s = .next u ∧ u.link p = 4 ∧ u.get (.eth p) ETH.INT_STAT_LINK_UP = 1 ∧ u.get (.eth p)
      ETH.ETH_STAT_FAIL_CNT = 0 ∧ u.get (.eth p) ETH.ETH_STAT_ALIGN_LOCK = 1) ∧
  (∀ (s : State) (t : Nat) (p : Fin 48), s.boot.hold = 0 → s.running (.eth p) = true → s.link p = 3 → (s.port
      p).linkAt + 59400000 ≤ max s.now t → ∃ u : State, exec (.ethAlignTimeout t p) s = .next u ∧ u.link p = 5 ∧ u.get
      (.eth p) ETH.ETH_STAT_FAIL_CNT = sat ETH.ETH_STAT_FAIL_CNT.w (s.get (.eth p) ETH.ETH_STAT_FAIL_CNT + 1) ∧ u.get
      (.eth p) ETH.INT_STAT_ALIGN_FAIL = 1) ∧
  (∀ (s : State) (t : Nat) (p : Fin 48), s.boot.hold = 0 → s.running (.eth p) = true → s.link p = 4 → ∃ u : State,
      exec (.ethLinkLoss t p) s = .next u ∧ u.link p = s.ethEntry p ∧ u.get (.eth p) ETH.INT_STAT_LINK_DOWN = 1 ∧
      u.get (.eth p) ETH.ETH_STAT_ALIGN_LOCK = 0) ∧
  (∀ (s : State) (t : Nat) (p : Fin 48), s.boot.hold = 0 → s.running (.eth p) = true → s.link p = 5 → (s.port
      p).linkAt + backoffMs (s.get (.eth p) ETH.ETH_STAT_FAIL_CNT) * 1188000 ≤ max s.now t → ∃ u : State, exec
      (.ethBackoffExpiry t p) s = .next u ∧ u.link p = s.ethEntry p) ∧
  (∀ (s : State) (t : Nat) (p : Fin 48), s.boot.hold = 0 → s.running (.eth p) = true → s.link p = 4 → ∃ u : State,
      exec (.remoteFault t p) s = .next u ∧ u.get (.eth p) ETH.ETH_STAT_RF_RX = 1 ∧ u.get (.eth p) ETH.INT_STAT_RF_RX
      = 1) ∧
  (∀ (s : State) (t : Nat) (p : Fin 48), s.boot.hold = 0 → s.running (.eth p) = true → s.link p = 4 → ∃ u : State,
      exec (.remoteFaultCleared t p) s = .next u ∧ u.get (.eth p) ETH.ETH_STAT_RF_RX = 0) ∧
  (∀ (s : State) (t : Nat) (m : Master) (p : Fin 48) (value : Word), s.takes m (.eth p) 0x04C → ∃ u : State, exec
      (.ethRestart t m p value) s = .next u ∧ u.link p = s.ethEntry p ∧ u.get (.eth p) ETH.ETH_STAT_FAIL_CNT = 0)

/-- The clauses are on a device that is not held in reset, on a port in UP whose ETH page runs; MAX_LEN counts as
1,522 at least and 9,216 at most. Every frame shorter than 2^32 bytes adds its length to counter 0. Dropped with one
count: a short frame in 18, or in 19 with a bad FCS; one beyond MAX_LEN in 20 or 21; one with a bad FCS in 22; one
with RX_EN 0 or before READY in 27. The other clauses are of an untagged frame that passes those rows on a port with
MACsec off. Another station's unicast address: dropped in 29. A PAUSE frame: consumed in 2 and 6, and with RX_FC_MODE
1 each class that is not ignored takes its quanta from this core cycle. A frame of Table 6.4 for the host that fits
the descriptor at HEAD: its bytes go to the buffer of the descriptor, HEAD advances, HQ_RX is raised and 2 counts it;
with no descriptor it is dropped in 26 with HQ_RX_EMPTY. A frame that no host row takes, with a good IPv4 checksum:
where no classification entry matches and NOMATCH_HOST is 0 it is dropped in 28; where an entry of kind 7 matches, HIT
of the entry counts one and CLS_DROP counts one; where an entry of kind 0 or 1 matches, whose target is a receive slot
with live EN 1, HIT counts one and 2 counts it as taken. Readings of the model's own in it: notes/assumptions/60.md.
Rests on: 06_ethernet_ports.md Table 6.3, 06_ethernet_ports.md Table 6.4, 06_ethernet_ports.md Table 6.6,
06_ethernet_ports.md, Receive path, 07_media_flows.md, Flow classification. -/
def Obligations.EthernetReceiveFollowsItsOrder : Prop :=
  (∀ (s : State) (t : Nat) (p : Fin 48) (frame : RxFrame) (desc : Nat × Nat), s.boot.hold = 0 → s.running (.eth p) =
      true → s.link p = 4 → frame.len < 64 → ∃ u : State, exec (.ethFrameRx t p frame desc) s = .next u ∧ ((frame.len
      < 2 ^ 32 → u.get (.eth p) (ETH.CNT_COUNT.at 0) = (s.get (.eth p) (ETH.CNT_COUNT.at 0) + frame.len) % 2 ^ 32)) ∧
      ((frame.fcsOk = true → u.get (.eth p) (ETH.CNT_COUNT.at 18) = (s.get (.eth p) (ETH.CNT_COUNT.at 18) + 1) % 2 ^
      32)) ∧ ((frame.fcsOk = false → u.get (.eth p) (ETH.CNT_COUNT.at 19) = (s.get (.eth p) (ETH.CNT_COUNT.at 19) + 1)
      % 2 ^ 32))) ∧
  (∀ (s : State) (t : Nat) (p : Fin 48) (frame : RxFrame) (desc : Nat × Nat), s.boot.hold = 0 → s.running (.eth p) =
      true → s.link p = 4 → min 9216 (max 1522 (s.live (.eth p) ETH.ETH_CTRL_MAX_LEN)) < frame.len → ∃ u : State, exec
      (.ethFrameRx t p frame desc) s = .next u ∧ ((frame.len < 2 ^ 32 → u.get (.eth p) (ETH.CNT_COUNT.at 0) = (s.get
      (.eth p) (ETH.CNT_COUNT.at 0) + frame.len) % 2 ^ 32)) ∧ ((frame.fcsOk = true → u.get (.eth p) (ETH.CNT_COUNT.at
      20) = (s.get (.eth p) (ETH.CNT_COUNT.at 20) + 1) % 2 ^ 32)) ∧ ((frame.fcsOk = false → u.get (.eth p)
      (ETH.CNT_COUNT.at 21) = (s.get (.eth p) (ETH.CNT_COUNT.at 21) + 1) % 2 ^ 32))) ∧
  (∀ (s : State) (t : Nat) (p : Fin 48) (frame : RxFrame) (desc : Nat × Nat), s.boot.hold = 0 → s.running (.eth p) =
      true → s.link p = 4 → 64 ≤ frame.len → frame.len ≤ min 9216 (max 1522 (s.live (.eth p) ETH.ETH_CTRL_MAX_LEN)) →
      frame.fcsOk = false → ∃ u : State, exec (.ethFrameRx t p frame desc) s = .next u ∧ ((frame.len < 2 ^ 32 → u.get
      (.eth p) (ETH.CNT_COUNT.at 0) = (s.get (.eth p) (ETH.CNT_COUNT.at 0) + frame.len) % 2 ^ 32)) ∧ u.get (.eth p)
      (ETH.CNT_COUNT.at 22) = (s.get (.eth p) (ETH.CNT_COUNT.at 22) + 1) % 2 ^ 32) ∧
  (∀ (s : State) (t : Nat) (p : Fin 48) (frame : RxFrame) (desc : Nat × Nat), s.boot.hold = 0 → s.running (.eth p) =
      true → s.link p = 4 → 64 ≤ frame.len → frame.len ≤ min 9216 (max 1522 (s.live (.eth p) ETH.ETH_CTRL_MAX_LEN)) →
      frame.fcsOk = true → (s.live (.eth p) ETH.ETH_CTRL_RX_EN = 0 ∨ s.ready = false) → ∃ u : State, exec (.ethFrameRx
      t p frame desc) s = .next u ∧ ((frame.len < 2 ^ 32 → u.get (.eth p) (ETH.CNT_COUNT.at 0) = (s.get (.eth p)
      (ETH.CNT_COUNT.at 0) + frame.len) % 2 ^ 32)) ∧ u.get (.eth p) (ETH.CNT_COUNT.at 27) = (s.get (.eth p)
      (ETH.CNT_COUNT.at 27) + 1) % 2 ^ 32) ∧
  (∀ (s : State) (t : Nat) (p : Fin 48) (frame : RxFrame) (desc : Nat × Nat), s.boot.hold = 0 → s.running (.eth p) =
      true → s.link p = 4 → 64 ≤ frame.len → frame.len ≤ min 9216 (max 1522 (s.live (.eth p) ETH.ETH_CTRL_MAX_LEN)) →
      frame.fcsOk = true → s.live (.eth p) ETH.ETH_CTRL_RX_EN = 1 → s.ready = true → s.live (.msec p)
      MSEC.MSEC_CTRL_EN = 0 → frame.sec = none → frame.etherType ≠ 0x8808 → frame.dst ≠ s.macOf p → isGroup frame.dst
      = false → ∃ u : State, exec (.ethFrameRx t p frame desc) s = .next u ∧ ((frame.len < 2 ^ 32 → u.get (.eth p)
      (ETH.CNT_COUNT.at 0) = (s.get (.eth p) (ETH.CNT_COUNT.at 0) + frame.len) % 2 ^ 32)) ∧ u.get (.eth p)
      (ETH.CNT_COUNT.at 29) = (s.get (.eth p) (ETH.CNT_COUNT.at 29) + 1) % 2 ^ 32) ∧
  (∀ (s : State) (t : Nat) (p : Fin 48) (frame : RxFrame) (desc : Nat × Nat), s.boot.hold = 0 → s.running (.eth p) =
      true → s.link p = 4 → 64 ≤ frame.len → frame.len ≤ min 9216 (max 1522 (s.live (.eth p) ETH.ETH_CTRL_MAX_LEN)) →
      frame.fcsOk = true → s.live (.eth p) ETH.ETH_CTRL_RX_EN = 1 → s.ready = true → s.live (.msec p)
      MSEC.MSEC_CTRL_EN = 0 → frame.sec = none → frame.etherType = 0x8808 → frame.flow = 1 → (s.port p).pause.length =
      8 → ∃ u : State, exec (.ethFrameRx t p frame desc) s = .next u ∧ ((frame.len < 2 ^ 32 → u.get (.eth p)
      (ETH.CNT_COUNT.at 0) = (s.get (.eth p) (ETH.CNT_COUNT.at 0) + frame.len) % 2 ^ 32)) ∧ u.get (.eth p)
      (ETH.CNT_COUNT.at 2) = (s.get (.eth p) (ETH.CNT_COUNT.at 2) + 1) % 2 ^ 32 ∧ u.get (.eth p) (ETH.CNT_COUNT.at 6)
      = (s.get (.eth p) (ETH.CNT_COUNT.at 6) + 1) % 2 ^ 32 ∧ ((s.live (.eth p) ETH.ETH_FC_RX_FC_MODE = 1 → ∀ k : Fin
      8, bitAt (s.live (.eth p) ETH.ETH_FC_PAUSE_IGNORE) k.val = 0 → (u.port p).pause.getD k.val none = (if
      (frame.quanta.map Prod.snd).getD 0 0 = 0 then none else some ((frame.quanta.map Prod.snd).getD 0 0, max s.now
      t))))) ∧
  (∀ (s : State) (t : Nat) (p : Fin 48) (frame : RxFrame) (desc : Nat × Nat) (r : Nat), s.boot.hold = 0 → s.running
      (.eth p) = true → s.link p = 4 → 64 ≤ frame.len → frame.len ≤ min 9216 (max 1522 (s.live (.eth p)
      ETH.ETH_CTRL_MAX_LEN)) → frame.fcsOk = true → s.live (.eth p) ETH.ETH_CTRL_RX_EN = 1 → s.ready = true → s.live
      (.msec p) MSEC.MSEC_CTRL_EN = 0 → frame.sec = none → frame.etherType ≠ 0x8808 → (frame.dst = s.macOf p ∨ isGroup
      frame.dst = true) → isPtp frame = false → hostReason frame = some r → s.hqReady p false = true → stripped frame
      ≤ desc.2 → ∃ u : State, exec (.ethFrameRx t p frame desc) s = .next u ∧ ((frame.len < 2 ^ 32 → u.get (.eth p)
      (ETH.CNT_COUNT.at 0) = (s.get (.eth p) (ETH.CNT_COUNT.at 0) + frame.len) % 2 ^ 32)) ∧ u.get (.eth p)
      (ETH.CNT_COUNT.at 2) = (s.get (.eth p) (ETH.CNT_COUNT.at 2) + 1) % 2 ^ 32 ∧ Emit.hostWrite desc.1 (stripped
      frame) 0 ∈ u.out ∧ u.get (.eth p) ETH.HQ_RX_HEAD_HEAD = (s.get (.eth p) ETH.HQ_RX_HEAD_HEAD + 1) % hqSize (s.get
      (.eth p) ETH.HQ_RX_SIZE_N) ∧ u.get (.eth p) ETH.INT_STAT_HQ_RX = 1) ∧
  (∀ (s : State) (t : Nat) (p : Fin 48) (frame : RxFrame) (desc : Nat × Nat) (r : Nat), s.boot.hold = 0 → s.running
      (.eth p) = true → s.link p = 4 → 64 ≤ frame.len → frame.len ≤ min 9216 (max 1522 (s.live (.eth p)
      ETH.ETH_CTRL_MAX_LEN)) → frame.fcsOk = true → s.live (.eth p) ETH.ETH_CTRL_RX_EN = 1 → s.ready = true → s.live
      (.msec p) MSEC.MSEC_CTRL_EN = 0 → frame.sec = none → frame.etherType ≠ 0x8808 → (frame.dst = s.macOf p ∨ isGroup
      frame.dst = true) → isPtp frame = false → hostReason frame = some r → s.hqReady p false = false → ∃ u : State,
      exec (.ethFrameRx t p frame desc) s = .next u ∧ ((frame.len < 2 ^ 32 → u.get (.eth p) (ETH.CNT_COUNT.at 0) =
      (s.get (.eth p) (ETH.CNT_COUNT.at 0) + frame.len) % 2 ^ 32)) ∧ u.get (.eth p) (ETH.CNT_COUNT.at 26) = (s.get
      (.eth p) (ETH.CNT_COUNT.at 26) + 1) % 2 ^ 32 ∧ u.get (.eth p) ETH.INT_STAT_HQ_RX_EMPTY = 1) ∧
  (∀ (s : State) (t : Nat) (p : Fin 48) (frame : RxFrame) (desc : Nat × Nat), s.boot.hold = 0 → s.running (.eth p) =
      true → s.link p = 4 → 64 ≤ frame.len → frame.len ≤ min 9216 (max 1522 (s.live (.eth p) ETH.ETH_CTRL_MAX_LEN)) →
      frame.fcsOk = true → s.live (.eth p) ETH.ETH_CTRL_RX_EN = 1 → s.ready = true → s.live (.msec p)
      MSEC.MSEC_CTRL_EN = 0 → frame.sec = none → frame.etherType ≠ 0x8808 → (frame.dst = s.macOf p ∨ isGroup frame.dst
      = true) → isPtp frame = false → hostReason frame = none → (frame.ip ≠ 4 ∨ frame.csumOk = true) → s.clsFind p
      frame = none → s.live (.eth p) ETH.ETH_CTRL_NOMATCH_HOST = 0 → ∃ u : State, exec (.ethFrameRx t p frame desc) s
      = .next u ∧ ((frame.len < 2 ^ 32 → u.get (.eth p) (ETH.CNT_COUNT.at 0) = (s.get (.eth p) (ETH.CNT_COUNT.at 0) +
      frame.len) % 2 ^ 32)) ∧ u.get (.eth p) (ETH.CNT_COUNT.at 28) = (s.get (.eth p) (ETH.CNT_COUNT.at 28) + 1) % 2 ^
      32) ∧
  (∀ (s : State) (t : Nat) (p : Fin 48) (frame : RxFrame) (desc : Nat × Nat) (e : Nat) (i : Nat), s.boot.hold = 0 →
      s.running (.eth p) = true → s.link p = 4 → 64 ≤ frame.len → frame.len ≤ min 9216 (max 1522 (s.live (.eth p)
      ETH.ETH_CTRL_MAX_LEN)) → frame.fcsOk = true → s.live (.eth p) ETH.ETH_CTRL_RX_EN = 1 → s.ready = true → s.live
      (.msec p) MSEC.MSEC_CTRL_EN = 0 → frame.sec = none → frame.etherType ≠ 0x8808 → (frame.dst = s.macOf p ∨ isGroup
      frame.dst = true) → isPtp frame = false → hostReason frame = none → (frame.ip ≠ 4 ∨ frame.csumOk = true) →
      s.clsFind p frame = some (e, i) → s.cls TBL.CLS_KIND e = 7 → ∃ u : State, exec (.ethFrameRx t p frame desc) s =
      .next u ∧ ((frame.len < 2 ^ 32 → u.get (.eth p) (ETH.CNT_COUNT.at 0) = (s.get (.eth p) (ETH.CNT_COUNT.at 0) +
      frame.len) % 2 ^ 32)) ∧ u.get (clsPage e) (CLS.HIT.at (e % 256)) = (s.get (clsPage e) (CLS.HIT.at (e % 256)) +
      1) % 2 ^ 32 ∧ u.get (clsPage e) CLS.CLS_DROP = sat CLS.CLS_DROP.w (s.get (clsPage e) CLS.CLS_DROP + 1)) ∧
  (∀ (s : State) (t : Nat) (p : Fin 48) (frame : RxFrame) (desc : Nat × Nat) (e : Nat) (i : Nat) (n : Fin 1024),
      s.boot.hold = 0 → s.running (.eth p) = true → s.link p = 4 → 64 ≤ frame.len → frame.len ≤ min 9216 (max 1522
      (s.live (.eth p) ETH.ETH_CTRL_MAX_LEN)) → frame.fcsOk = true → s.live (.eth p) ETH.ETH_CTRL_RX_EN = 1 → s.ready
      = true → s.live (.msec p) MSEC.MSEC_CTRL_EN = 0 → frame.sec = none → frame.etherType ≠ 0x8808 → (frame.dst =
      s.macOf p ∨ isGroup frame.dst = true) → isPtp frame = false → hostReason frame = none → (frame.ip ≠ 4 ∨
      frame.csumOk = true) → s.clsFind p frame = some (e, i) → s.cls TBL.CLS_KIND e < 2 → n.val = s.cls TBL.CLS_TARGET
      e + i → s.live (.rxSlot n) RXS.RX_CTRL_EN = 1 → ∃ u : State, exec (.ethFrameRx t p frame desc) s = .next u ∧
      ((frame.len < 2 ^ 32 → u.get (.eth p) (ETH.CNT_COUNT.at 0) = (s.get (.eth p) (ETH.CNT_COUNT.at 0) + frame.len) %
      2 ^ 32)) ∧ u.get (clsPage e) (CLS.HIT.at (e % 256)) = (s.get (clsPage e) (CLS.HIT.at (e % 256)) + 1) % 2 ^ 32 ∧
      u.get (.eth p) (ETH.CNT_COUNT.at 2) = (s.get (.eth p) (ETH.CNT_COUNT.at 2) + 1) % 2 ^ 32)

/-- The clauses are on a device that is not held in reset with the ETH page of the port running. ethFrameTx, of the
frame that the scheduler picks (the model's State.txPick) after the firmware's own frame has joined the buffer: on a
port that may send, with MACsec off and no PTP message in the frame, it starts, it has left the buffer, and 34 counts
it where its data reaches to its end; on a port in UP under remote fault it has left the buffer and 51 counts it.
txUnderrun: 50 counts one, UNDERRUN and CONT_REAL are 1, the start threshold of the class is one higher, at most 63,
in shadow and live copy, and the frame being sent ends. pauseExpiry once the pause time of the class has run out: the
class is not paused and its pause is forgotten. cntSnap by a master that may make it: all 64 counters and both words
of the half map are copied, and the half map is 0. Readings of the model's own in it: notes/assumptions/58.md and
notes/assumptions/59.md. Rests on: 06_ethernet_ports.md, Transmit scheduling and underrun, 06_ethernet_ports.md, Pause
and PFC, 06_ethernet_ports.md, Counters, 06_ethernet_ports.md Table 6.6. -/
def Obligations.EthernetSendsPausesAndSnapshots : Prop :=
  (∀ (s : State) (t : Nat) (p : Fin 48) (slack : Nat) (held : List Nat) (own : Option TxFrame) (whole : Bool) (f :
      TxFrame), s.boot.hold = 0 → s.running (.eth p) = true →
      (match own with | some x => (s.begin t).enqueue p { x with host := false, bypass := false } | none => s.begin t).txPick
      p slack held = some f → s.canSend p = true → s.live (.msec p) MSEC.MSEC_CTRL_EN = 0 → f.ptp = none → ∃ u :
      State, exec (.ethFrameTx t p slack held own whole) s = .next u ∧ Emit.ethFrame p.val f none ∈ u.out ∧ (u.port
      p).queue = dropFirst f.cls
      ((match own with | some x => (s.begin t).enqueue p { x with host := false, bypass := false } | none => s.begin t).port
      p).queue ∧ ((whole = true → u.get (.eth p) (ETH.CNT_COUNT.at 34) = (s.get (.eth p) (ETH.CNT_COUNT.at 34) + 1) %
      2 ^ 32))) ∧
  (∀ (s : State) (t : Nat) (p : Fin 48) (slack : Nat) (held : List Nat) (own : Option TxFrame) (whole : Bool) (f :
      TxFrame), s.boot.hold = 0 → s.running (.eth p) = true →
      (match own with | some x => (s.begin t).enqueue p { x with host := false, bypass := false } | none => s.begin t).txPick
      p slack held = some f → s.link p = 4 → s.get (.eth p) ETH.ETH_STAT_RF_RX = 1 → ∃ u : State, exec (.ethFrameTx t
      p slack held own whole) s = .next u ∧ u.get (.eth p) (ETH.CNT_COUNT.at 51) = (s.get (.eth p) (ETH.CNT_COUNT.at
      51) + 1) % 2 ^ 32 ∧ (u.port p).queue = dropFirst f.cls
      ((match own with | some x => (s.begin t).enqueue p { x with host := false, bypass := false } | none => s.begin t).port
      p).queue) ∧
  (∀ (s : State) (t : Nat) (p : Fin 48) (cls : Fin 8), s.boot.hold = 0 → s.running (.eth p) = true → ∃ u : State, exec
      (.txUnderrun t p cls) s = .next u ∧ u.get (.eth p) (ETH.CNT_COUNT.at 50) = (s.get (.eth p) (ETH.CNT_COUNT.at 50)
      + 1) % 2 ^ 32 ∧ u.get (.eth p) ETH.INT_STAT_UNDERRUN = 1 ∧ u.get (.eth p) HDR.FAULT_STAT_CONT_REAL = 1 ∧ u.get
      (.eth p) (thrFld cls.val) = min 63 (s.get (.eth p) (thrFld cls.val) + 1) ∧ u.live (.eth p) (thrFld cls.val) =
      min 63 (s.live (.eth p) (thrFld cls.val) + 1) ∧ Emit.ethCut p.val ∈ u.out) ∧
  (∀ (s : State) (t : Nat) (p : Fin 48) (cls : Fin 8), s.boot.hold = 0 → s.running (.eth p) = true → (s.begin
      t).paused p cls.val = false → ∃ u : State, exec (.pauseExpiry t p cls) s = .next u ∧ u.paused p cls.val = false
      ∧ (u.port p).pause.getD cls.val none = none) ∧
  (∀ (s : State) (t : Nat) (m : Master) (p : Fin 48), s.takes m (.eth p) 0x04C → ∃ u : State, exec (.cntSnap t m p) s
      = .next u ∧ (∀ c : Fin 64, u.get (.eth p) (ETH.CNT_SNAPV_COUNT.at c.val) = s.get (.eth p) (ETH.CNT_COUNT.at
      c.val)) ∧ (∀ w : Fin 2, u.get (.eth p) (ETH.CNT_HALF_SNAP_HALF.at w.val) = s.get (.eth p)
      (ETH.CNT_HALF_MAP_HALF.at w.val) ∧ u.get (.eth p) (ETH.CNT_HALF_MAP_HALF.at w.val) = 0))

/-- hqEnable and hqDisable by a master that may make them, on a page not in FUNC_INIT: EN of the queue is as
commanded, and a queue that starts or stops has HEAD 0. hqTxDescriptor with a descriptor at HEAD on a running page of
a device that is not held in reset: where the descriptor asks for no bypass, or its frame is an EAPOL frame, the frame
is the last of the transmit buffer, a class above 3 as class 3, and the descriptor is written back with flag 1; where
it asks for bypass of another frame, the buffer is as before, 51 counts one, and the descriptor is written back with
flags 3; either way HEAD advances and HQ_TX is raised. Readings of the model's own in it: notes/assumptions/62.md.
Rests on: 06_ethernet_ports.md, Host control queues, 06_ethernet_ports.md Table 6.10. -/
def Obligations.HostQueuesRunAndReturnDescriptors : Prop :=
  (∀ (s : State) (t : Nat) (m : Master) (p : Fin 48) (tx : Bool), s.takes m (.eth p) (if tx then 0x220 else 0x200) →
      s.busy.contains (.eth p) = false → ∃ u : State, exec (.hqEnable t m p tx) s = .next u ∧ u.get (.eth p) (hq
      tx).en = 1 ∧ ((s.get (.eth p) (hq tx).en = 0 → u.get (.eth p) (hq tx).head = 0))) ∧
  (∀ (s : State) (t : Nat) (m : Master) (p : Fin 48) (tx : Bool), s.takes m (.eth p) (if tx then 0x220 else 0x200) →
      s.busy.contains (.eth p) = false → ∃ u : State, exec (.hqDisable t m p tx) s = .next u ∧ u.get (.eth p) (hq
      tx).en = 0 ∧ ((s.get (.eth p) (hq tx).en = 1 → u.get (.eth p) (hq tx).head = 0))) ∧
  (∀ (s : State) (t : Nat) (p : Fin 48) (frame : TxFrame), s.boot.hold = 0 → s.running (.eth p) = true → s.hqReady p
      true = true → (frame.bypass = false ∨ frame.eapol = true) → ∃ u : State, exec (.hqTxDescriptor t p frame) s =
      .next u ∧ (u.port p).queue = (s.port p).queue ++
      [{ frame with cls := if 4 ≤ frame.cls then 3 else frame.cls, host := true }] ∧ u.get (.eth p)
      ETH.HQ_TX_HEAD_HEAD = (s.get (.eth p) ETH.HQ_TX_HEAD_HEAD + 1) % hqSize (s.get (.eth p) ETH.HQ_TX_SIZE_N) ∧
      u.get (.eth p) ETH.INT_STAT_HQ_TX = 1 ∧ Emit.hostWrite (s.hqAddr p true + 12) 1 1 ∈ u.out) ∧
  (∀ (s : State) (t : Nat) (p : Fin 48) (frame : TxFrame), s.boot.hold = 0 → s.running (.eth p) = true → s.hqReady p
      true = true → frame.bypass = true → frame.eapol = false → ∃ u : State, exec (.hqTxDescriptor t p frame) s =
      .next u ∧ (u.port p).queue = (s.port p).queue ∧ u.get (.eth p) (ETH.CNT_COUNT.at 51) = (s.get (.eth p)
      (ETH.CNT_COUNT.at 51) + 1) % 2 ^ 32 ∧ u.get (.eth p) ETH.HQ_TX_HEAD_HEAD = (s.get (.eth p) ETH.HQ_TX_HEAD_HEAD +
      1) % hqSize (s.get (.eth p) ETH.HQ_TX_SIZE_N) ∧ u.get (.eth p) ETH.INT_STAT_HQ_TX = 1 ∧ Emit.hostWrite (s.hqAddr
      p true + 12) 1 3 ∈ u.out)

/-- vtgFrameStart v, of the first field or of a progressive frame, of an enabled VTG with a format whose page runs, in
the core cycle of a frame start of its grid (the model's State.frameDue), on a device that is not held in reset: the
frame in progress began in this core cycle, with the period and the lines of the live format, and neither its T_FRM
nor its second field has come; FRAME_CYC shows the core cycles since the last frame start; and while no DPLL is set to
step, a waiting realignment has ended. Readings of the model's own in it: notes/assumptions/144.md. Rests on:
09_references_timing.md, Video timing generators, 09_references_timing.md Table 9.13. -/
def Obligations.FrameStartsOpenANewFrame : Prop :=
  (∀ (s : State) (t : Nat) (v : Fin 32) (f : Format), s.boot.hold = 0 → s.running (.vtg v) = true → s.vtgEn v.val =
      true → s.vtgFormat v.val = some f → (s.begin t).frameDue v f false = true → ∃ u : State, exec (.vtgFrameStart t
      v false) s = .next u ∧ (u.vtgRun v.val).start = some (max s.now t) ∧ (u.vtgRun v.val).period = f.cycles ∧
      (u.vtgRun v.val).lines = f.lines ∧ (u.vtgRun v.val).ticked = false ∧ (u.vtgRun v.val).second = false ∧ (((∀ k :
      Fin 4, s.live .ref (REF.DPLL_CTRL_ACQ_STEP.at k.val) = 0) → (u.vtgRun v.val).realign = false)) ∧ (∀ a, (s.vtgRun
      v.val).start = some a → u.get (.vtg v) VTG.FRAME_CYC = (max s.now t - a) % 2 ^ 32))

/-- The clauses are on a device that is not held in reset with the page of the slot running. rxLinePlay of a slot that
plays a frame in a format: PKT_MISS grows, saturating, by the packets with pixels of the line that have not arrived
and were not counted before, the line is put out with black for the packets that have not arrived and with the
ancillary packets that the flow brought for it, ANC_PKT counts those, and the line is noted. videoPathTimeout of an
enabled path of a live slot that is not marked down and whose last packet, or the start of the slot, lies at least 10
ms back: the path is marked down and PATH_LOST is raised. skewOverClear with a last skew of at most RX_SKEW_MAX, 2,000
microseconds at most, less 100 microseconds, where the measured skews have stayed within that bound for at least 1 s:
SKEW_OVER is 0. Rests on: 07_media_flows.md, Receive slots, 07_media_flows.md, ST 2022-7 path pairs. -/
def Obligations.ReceiveSlotsPlayAndReportPaths : Prop :=
  (∀ (s : State) (t : Nat) (n : Fin 1024) (line : Nat) (need : List Nat) (last : List Nat) (ts : Nat) (f : Format),
      s.boot.hold = 0 → s.running (.rxSlot n) = true → (s.rx n).ts = some ts → s.rxFormat true n = some f → s.rxState
      n = 2 → ∃ u : State, exec (.rxLinePlay t n line need last) s = .next u ∧ u.get (.rxSlot n) RXS.PKT_MISS = sat
      RXS.PKT_MISS.w (s.get (.rxSlot n) RXS.PKT_MISS + (need.filter (fun q => !(s.rx n).pkts.any (fun e => e.1 = q) &&
      !(s.rx n).missed.contains q)).length) ∧ Emit.rxLine n.val (need.filter (fun q => !(s.rx n).pkts.any (fun e =>
      e.1 = q))) (playedLine f (s.vtgCode (s.live (.rxSlot n) RXS.RX_CTRL_VTG)) line (s.rxPid n) (((s.rx n).anc.filter
      (fun a => a.2.1 = ts && a.2.2.line = line)).map (·.2.2))) ∈ u.out ∧ u.get (.rxSlot n) RXS.ANC_PKT = (s.get
      (.rxSlot n) RXS.ANC_PKT + ((s.rx n).anc.filter (fun a => a.2.1 = ts && a.2.2.line = line)).length) % 2 ^ 32 ∧
      (u.rx n).lines = line :: (s.rx n).lines) ∧
  (∀ (s : State) (t : Nat) (n : Fin 1024) (pathB : Bool), s.boot.hold = 0 → s.running (.rxSlot n) = true → s.live
      (.rxSlot n) RXS.RX_CTRL_EN = 1 → (pathB = true → s.live (.rxSlot n) RXS.RX_CTRL_PAIR = 1) → s.get (.rxSlot n)
      (if pathB then RXS.RX_STAT_PATH_B_DOWN else RXS.RX_STAT_PATH_A_DOWN) = 0 → (if pathB then (s.rx n).heardB else
      (s.rx n).heardA) + 11880000 ≤ max s.now t → ∃ u : State, exec (.videoPathTimeout t n pathB) s = .next u ∧ u.get
      (.rxSlot n) (if pathB then RXS.RX_STAT_PATH_B_DOWN else RXS.RX_STAT_PATH_A_DOWN) = 1 ∧ u.get (.rxSlot n)
      RXS.INT_STAT_PATH_LOST = 1) ∧
  (∀ (s : State) (t : Nat) (n : Fin 1024) (d : Int) (c : Nat), s.boot.hold = 0 → s.running (.rxSlot n) = true → (s.rx
      n).skews.head? = some d → d.natAbs + 100 * 1188 ≤ min 2000 (s.live (.rxSlot n) RXS.RX_SKEW_MAX) * 1188 → (s.rx
      n).skewOk = some c → c + 1188000000 ≤ max s.now t → ∃ u : State, exec (.skewOverClear t n) s = .next u ∧ u.get
      (.rxSlot n) RXS.RX_STAT_SKEW_OVER = 0)

/-- The clauses are on a device that is not held in reset with the page of the slot running. videoPacketTx of a slot
that is sending a frame in a format, at or after the scheduled instant of its next packet: the packet goes out on each
path whose port may send, with the next extended sequence number, which is 0 for the first packet of the first frame
after SRC has left 0b00, with the timestamp of the frame, the marker on its last packet and its row data, black or as
brought; the number after it is the next; and the frame has one packet more sent, or is done. ancPacketTx, with ANC_EN
1, of ancillary packets none of which is withheld, all on ended lines of a frame the slot knows: while the frame has
ANC_PKTS left and they take at most 1,200 bytes, the next ancillary sequence number is one higher and the frame has
one packet more sent; otherwise ANC_DROP counts one, saturating, and the number is as before. Rests on:
07_media_flows.md, Send slots. -/
def Obligations.SendSlotsNumberTheirPackets : Prop :=
  (∀ (s : State) (t : Nat) (n : Fin 1024) (payload : List Nat) (fr : TxRun) (rest : List TxRun) (f : Format),
      s.boot.hold = 0 → s.running (.txSlot n) = true → (s.tx n).frames = fr :: rest → format? fr.fmt = some f →
      (fr.due f fr.sent).le ⟨max s.now t, 1⟩ = true → ∃ u : State, exec (.videoPacketTx t n payload) s = .next u ∧
      (u.tx n).seq = ((if fr.first && fr.sent = 0 then 0 else (s.tx n).seq) + 1) % 2 ^ 32 ∧ (u.tx n).frames = (if
      fr.total ≤ fr.sent + 1 then rest else { fr with sent := fr.sent + 1 } :: rest) ∧ (∀ e ∈ s.txPaths n, ∀ p : Fin
      48, e.2 = p.val → s.canSend p = true → Emit.videoPacket n.val e.1 (s.txHead n e.1 e.2 (if fr.first && fr.sent =
      0 then 0 else (s.tx n).seq) fr.ts (fr.total ≤ fr.sent + 1) false) (f.srds fr.pm fr.plen fr.sent) (if fr.black
      then (f.srds fr.pm fr.plen fr.sent).flatMap (fun e => blackBytes e.2.1 e.2.2) else payload.take (((f.srds fr.pm
      fr.plen fr.sent).map (·.2.2)).foldl (· + ·) 0)) ∈ u.out)) ∧
  (∀ (s : State) (t : Nat) (n : Fin 1024) (pkts : List AncPkt) (i : Nat) (r : AncRun), s.boot.hold = 0 → s.running
      (.txSlot n) = true → s.live (.txSlot n) TXS.TX_CTRL_ANC_EN = 1 → pkts ≠ [] → (∀ a ∈ pkts, ancWithheld a = false)
      → (s.tx n).ancRuns.findIdx? (fun r => pkts.all (fun a => r.ended (max s.now t) a.line)) = some i → (s.tx
      n).ancRuns[i]? = some r → ancBytes pkts ≤ 1200 → r.sent < s.live (.txSlot n) TXS.TX_CTRL_ANC_PKTS → ∃ u : State,
      exec (.ancPacketTx t n [pkts]) s = .next u ∧ (u.tx n).ancSeq = ((s.tx n).ancSeq + 1) % 2 ^ 32 ∧ (u.tx
      n).ancRuns[i]? = some { r with sent := r.sent + 1 }) ∧
  (∀ (s : State) (t : Nat) (n : Fin 1024) (pkts : List AncPkt) (i : Nat) (r : AncRun), s.boot.hold = 0 → s.running
      (.txSlot n) = true → s.live (.txSlot n) TXS.TX_CTRL_ANC_EN = 1 → pkts ≠ [] → (∀ a ∈ pkts, ancWithheld a = false)
      → (s.tx n).ancRuns.findIdx? (fun r => pkts.all (fun a => r.ended (max s.now t) a.line)) = some i → (s.tx
      n).ancRuns[i]? = some r → (1200 < ancBytes pkts ∨ s.live (.txSlot n) TXS.TX_CTRL_ANC_PKTS ≤ r.sent) → ∃ u :
      State, exec (.ancPacketTx t n [pkts]) s = .next u ∧ u.get (.txSlot n) TXS.ANC_DROP = sat TXS.ANC_DROP.w (s.get
      (.txSlot n) TXS.ANC_DROP + 1) ∧ (u.tx n).ancSeq = (s.tx n).ancSeq)

/-- The writes are by a master that may make them. By the owner of the servo: domAdjWrite sets DOM_ADJ, and in an
enabled domain the increment is its signed value; domStepWrite with WHEN 0b00 or 0b01 sets STEP_PEND and AMOUNT, and
with another WHEN raises BAD_CFG and leaves STEP_PEND. By host software that is not the owner: domAdjWrite leaves
DOM_ADJ and domStepWrite leaves STEP_PEND, ADJ_IGN counts one, saturating, and ADJ_IGNORED is raised. Rests on:
08_network_time.md, PTP domains, 08_network_time.md Table 8.6. -/
def Obligations.SteeringObeysTheServoOwner : Prop :=
  (∀ (s : State) (t : Nat) (m : Master) (d : Fin 2) (value : Word), s.takes m .time (0x10C + 0x40 * d.val) →
      s.ownsServo d (isFirmware m) = true → ∃ u : State, exec (.domAdjWrite t m d value) s = .next u ∧ u.get .time
      (TIME.DOM_ADJ_ADJ.at d.val) = value.toNat ∧ (s.domEn d = true → u.clk.adj d = sgn 32 value.toNat)) ∧
  (∀ (s : State) (t : Nat) (m : Master) (d : Fin 2) (value : Word), s.takes m .time (0x10C + 0x40 * d.val) →
      s.ownsServo d (isFirmware m) = false → isFirmware m = false → ∃ u : State, exec (.domAdjWrite t m d value) s =
      .next u ∧ u.get .time (TIME.DOM_ADJ_ADJ.at d.val) = (s.begin t).get .time (TIME.DOM_ADJ_ADJ.at d.val) ∧ u.get
      .time TIME.ADJ_IGN = sat TIME.ADJ_IGN.w (s.get .time TIME.ADJ_IGN + 1) ∧ u.get .time TIME.INT_STAT_ADJ_IGNORED =
      1) ∧
  (∀ (s : State) (t : Nat) (m : Master) (d : Fin 2) (value : Word), s.takes m .time (0x110 + 0x40 * d.val) →
      s.ownsServo d (isFirmware m) = true → bits value.toNat 30 2 < 2 → ∃ u : State, exec (.domStepWrite t m d value)
      s = .next u ∧ u.get .time (TIME.DOM_STAT_STEP_PEND.at d.val) = 1 ∧ u.get .time (TIME.DOM_STEP_AMOUNT.at d.val) =
      bits value.toNat 0 29) ∧
  (∀ (s : State) (t : Nat) (m : Master) (d : Fin 2) (value : Word), s.takes m .time (0x110 + 0x40 * d.val) →
      s.ownsServo d (isFirmware m) = true → 2 ≤ bits value.toNat 30 2 → ∃ u : State, exec (.domStepWrite t m d value)
      s = .next u ∧ u.get .time TIME.INT_STAT_BAD_CFG = 1 ∧ u.get .time (TIME.DOM_STAT_STEP_PEND.at d.val) = (s.begin
      t).get .time (TIME.DOM_STAT_STEP_PEND.at d.val)) ∧
  (∀ (s : State) (t : Nat) (m : Master) (d : Fin 2) (value : Word), s.takes m .time (0x110 + 0x40 * d.val) →
      s.ownsServo d (isFirmware m) = false → isFirmware m = false → ∃ u : State, exec (.domStepWrite t m d value) s =
      .next u ∧ u.get .time (TIME.DOM_STAT_STEP_PEND.at d.val) = (s.begin t).get .time (TIME.DOM_STAT_STEP_PEND.at
      d.val) ∧ u.get .time TIME.ADJ_IGN = sat TIME.ADJ_IGN.w (s.get .time TIME.ADJ_IGN + 1) ∧ u.get .time
      TIME.INT_STAT_ADJ_IGNORED = 1)

/-- Two clauses, on a device that is not held in reset with the TIME page running and a step of domain d waiting.
domStepApply in the core cycle of the rollover that a step with WHEN 0b01 waits for, with no such step waiting in the
other domain: against the clocks that the same cycles bring without a step, the time of the domain has moved by the
amount of the step and media time is the same, STEP_PEND is 0 and STEP_DONE is raised. domStepApply with WHEN 0b00, in
a core cycle in which a T_SMP falls: the same against the clocks of that core cycle. Rests on: 08_network_time.md, PTP
domains, 08_network_time.md, Media time. -/
def Obligations.DomainStepKeepsMediaTime : Prop :=
  (∀ (s : State) (t : Nat) (d : Fin 2), s.boot.hold = 0 → s.running .time = true → s.stepAt d = some t → s.stepAt (if
      d = 0 then 1 else 0) = none → ∃ u : State, exec (.domStepApply t d) s = .next u ∧ u.mt = (s.glide t).mt ∧
      (u.clk.dom d : Int) = ((s.glide t).clk.dom d + s.stepAmount d) % timeMod ∧ u.get .time
      (TIME.DOM_STAT_STEP_PEND.at d.val) = 0 ∧ u.get .time (if d = 0 then TIME.INT_STAT_STEP_DONE_A else
      TIME.INT_STAT_STEP_DONE_B) = 1) ∧
  (∀ (s : State) (t : Nat) (d : Fin 2), s.boot.hold = 0 → s.running .time = true → s.get .time
      (TIME.DOM_STAT_STEP_PEND.at d.val) = 1 → s.get .time (TIME.DOM_STEP_WHEN.at d.val) = 0 → s.stepAt (if d = 0 then
      1 else 0) = none → (s.begin t).smpDue = true → ∃ u : State, exec (.domStepApply t d) s = .next u ∧ u.mt =
      (s.begin t).mt ∧ (u.clk.dom d : Int) = ((s.begin t).clk.dom d + s.stepAmount d) % timeMod ∧ u.get .time
      (TIME.DOM_STAT_STEP_PEND.at d.val) = 0 ∧ u.get .time (if d = 0 then TIME.INT_STAT_STEP_DONE_A else
      TIME.INT_STAT_STEP_DONE_B) = 1)

/-- The clauses are on an enabled domain, on a device that is not held in reset with the TIME page running.
servoMeasurement after READY, of the master that is selected, on its port and from a Sync whose stamp waits: offset
and delay are posted and SYNC_RX counts one; a LOCKED servo stays LOCKED with an offset of at most 1 microsecond and
is ACQUIRING with a larger one; an ACQUIRING servo with fifteen such offsets in a row and this one is LOCKED.
servoSyncTimeout in LOCKED: the servo is in HOLDOVER and DOM_STATE is raised. announceReceiptTimeout: ANN_TIMEOUT
counts one, saturating, and a servo in ACQUIRING or LOCKED is in HOLDOVER. That a measurement beyond 1 microsecond
takes LOCKED to ACQUIRING is read from R215 by inference (notes/assumptions/71.md). Rests on: 08_network_time.md, PTP
domains, 08_network_time.md Table 8.4. -/
def Obligations.ServoStatesFollowTheFirmware : Prop :=
  (∀ (s : State) (t : Nat) (d : Fin 2) (port : Fin 64) (offset : Word) (delay : Word) (seq : BitVec 16), s.boot.hold =
      0 → s.running .time = true → s.domEn d = true → s.ready = true → (s.clk.master d).isSome = true → port.val =
      s.get .time (TIME.DOM_STAT_PORT.at d.val) → (s.syncStamp d port.val seq.toNat).isSome = true → ∃ u : State, exec
      (.servoMeasurement t d port offset delay seq) s = .next u ∧ u.get .time (TIME.DOM_OFFSET_OFS.at d.val) =
      offset.toNat ∧ u.get .time (TIME.DOM_DELAY_DLY.at d.val) = delay.toNat ∧ u.get .time (TIME.SYNC_RX.at d.val) =
      (s.get .time (TIME.SYNC_RX.at d.val) + 1) % 2 ^ 32 ∧ ((s.servo d = 2 → u.servo d = (if (sgn 32
      offset.toNat).natAbs ≤ 256000 then 2 else 1))) ∧ ((s.servo d = 1 ∧ s.clk.runOf d = 15 ∧ (sgn 32
      offset.toNat).natAbs ≤ 256000 → u.servo d = 2))) ∧
  (∀ (s : State) (t : Nat) (d : Fin 2), s.boot.hold = 0 → s.running .time = true → s.domEn d = true → s.servo d = 2 →
      ∃ u : State, exec (.servoSyncTimeout t d) s = .next u ∧ u.servo d = 3 ∧ u.get .time (if d = 0 then
      TIME.INT_STAT_DOM_STATE_A else TIME.INT_STAT_DOM_STATE_B) = 1) ∧
  (∀ (s : State) (t : Nat) (d : Fin 2), s.boot.hold = 0 → s.running .time = true → s.domEn d = true → ∃ u : State,
      exec (.announceReceiptTimeout t d) s = .next u ∧ u.get .time (TIME.ANN_TIMEOUT.at d.val) = sat
      TIME.ANN_TIMEOUT.w (s.get .time (TIME.ANN_TIMEOUT.at d.val) + 1) ∧ (s.servo d = 1 ∨ s.servo d = 2 → u.servo d =
      3))

/-- The clauses are on a device that is not held in reset. mtSlewDone with the TIME page running and no step waiting
for a rollover, once the steps of the slew have brought MT_OFF to MT_TARGET: MT_OFF is MT_TARGET and SLEW_DONE is
raised. ppsOutEdge after READY with the TIME page running and PPS_OUT enabled, in the core cycle in which the time
PPS_OUT_CTRL.SRC names, less PPS_OUT_OFS, passes a whole second: PPS_OUT is high. ppsOutPulseEnd once PPS_OUT has been
high for WIDTH: PPS_OUT is low. ppsInEdge of the chosen direction with PPS_IN enabled: where no capture waits, the STC
and the nanoseconds of A, B and MT of this core cycle are captured, VALID is 1 and PPS_IN is raised; where one waits,
PPSI_MISS counts one, saturating, and the captured STC stays. timeCap by a master that may make it: the STC, and the
seconds and nanoseconds of A, B and MT of this core cycle are captured. Rests on: 08_network_time.md, Media time,
08_network_time.md, PPS pins, 08_network_time.md, TIME page registers. -/
def Obligations.MediaTimeArrivesAndPinsFollow : Prop :=
  (∀ (s : State) (t : Nat) (k : Nat), s.boot.hold = 0 → s.running .time = true → s.slewing = true → s.stepAt 0 = none
      → s.stepAt 1 = none → s.slewLeft = some k → s.now + k ≤ t → ∃ u : State, exec (.mtSlewDone t) s = .next u ∧
      u.clk.mtOff = s.mtTarget ∧ u.get .time TIME.INT_STAT_SLEW_DONE = 1) ∧
  (∀ (s : State) (t : Nat), s.boot.hold = 0 → s.running .time = true → s.live .time TIME.PPS_OUT_CTRL_EN = 1 → s.ready
      = true → (s.begin t).ppsPasses = true → ∃ u : State, exec (.ppsOutEdge t) s = .next u ∧ u.clk.ppsOut = true) ∧
  (∀ (s : State) (t : Nat), s.boot.hold = 0 → s.clk.ppsAt + s.ppsWidth ≤ max s.now t → ∃ u : State, exec
      (.ppsOutPulseEnd t) s = .next u ∧ u.clk.ppsOut = false) ∧
  (∀ (s : State) (t : Nat) (falling : Bool), s.boot.hold = 0 → s.running .time = true → s.get .time
      TIME.PPS_IN_CTRL_EN = 1 → s.get .time TIME.PPS_IN_CTRL_FALL = b2n falling → s.get .time TIME.PPSI_VALID_VALID =
      0 → ∃ u : State, exec (.ppsInEdge t falling) s = .next u ∧ u.get .time TIME.PPSI_STC_LO_STC = (s.begin t).stc %
      2 ^ 32 ∧ u.get .time TIME.PPSI_STC_HI_STC = (s.begin t).stc / 2 ^ 32 ∧ u.get .time (TIME.PPSI_NS_NS.at 0) = nsOf
      (s.begin t).clk.domA ∧ u.get .time (TIME.PPSI_NS_NS.at 1) = nsOf (s.begin t).clk.domB ∧ u.get .time
      (TIME.PPSI_NS_NS.at 2) = nsOf (s.begin t).mt ∧ u.get .time TIME.PPSI_VALID_VALID = 1 ∧ u.get .time
      TIME.INT_STAT_PPS_IN = 1) ∧
  (∀ (s : State) (t : Nat) (falling : Bool), s.boot.hold = 0 → s.running .time = true → s.get .time
      TIME.PPS_IN_CTRL_EN = 1 → s.get .time TIME.PPS_IN_CTRL_FALL = b2n falling → s.get .time TIME.PPSI_VALID_VALID =
      1 → ∃ u : State, exec (.ppsInEdge t falling) s = .next u ∧ u.get .time TIME.PPSI_MISS = sat TIME.PPSI_MISS.w
      (s.get .time TIME.PPSI_MISS + 1) ∧ u.get .time TIME.PPSI_STC_LO_STC = s.get .time TIME.PPSI_STC_LO_STC) ∧
  (∀ (s : State) (t : Nat) (m : Master), s.takes m .time 0x040 → ∃ u : State, exec (.timeCap t m) s = .next u ∧ u.get
      .time TIME.CAP_STC_LO_STC = (s.begin t).stc % 2 ^ 32 ∧ u.get .time TIME.CAP_STC_HI_STC = (s.begin t).stc / 2 ^
      32 ∧ u.get .time (TIME.CAP_NS_NS.at 0) = nsOf (s.begin t).clk.domA ∧ u.get .time (TIME.CAP_SEC_LO_SEC.at 0) =
      secOf (s.begin t).clk.domA % 2 ^ 32 ∧ u.get .time (TIME.CAP_SEC_HI_SEC.at 0) = secOf (s.begin t).clk.domA / 2 ^
      32 % 2 ^ 16 ∧ u.get .time (TIME.CAP_NS_NS.at 1) = nsOf (s.begin t).clk.domB ∧ u.get .time
      (TIME.CAP_SEC_LO_SEC.at 1) = secOf (s.begin t).clk.domB % 2 ^ 32 ∧ u.get .time (TIME.CAP_SEC_HI_SEC.at 1) =
      secOf (s.begin t).clk.domB / 2 ^ 32 % 2 ^ 16 ∧ u.get .time (TIME.CAP_NS_NS.at 2) = nsOf (s.begin t).mt ∧ u.get
      .time (TIME.CAP_SEC_LO_SEC.at 2) = secOf (s.begin t).mt % 2 ^ 32 ∧ u.get .time (TIME.CAP_SEC_HI_SEC.at 2) =
      secOf (s.begin t).mt / 2 ^ 32 % 2 ^ 16)

/-- A read that a master may make of LANE_BIT_CNT_LO with the checker locked on a running page, of
LANE_IGN_TALLY_RX_LO, of STC_LIVE_LO or of MT_OFF_LO returns the low 32 bits of its count, tally or time and captures
the bits above them in the HI word, in the same core cycle. In the tally read both words are of the one tally that the
lane holds, that of its last valid sideband block. Rests on: R97. -/
def Obligations.LowWordReadsCaptureHighWords : Prop :=
  (∀ (s : State) (t : Nat) (m : Master) (n : Fin 1032) (nbits : Nat) (errs : Nat), s.gives m (Page.base (.lane n) +
      0x114) → s.running (.lane n) = true → s.get (.lane n) LANE.LANE_PRBS_CHK_LOCKED = 1 → ∃ u : State, exec
      (.laneBitCntLoRead t m n nbits errs) s = .next u ∧ Emit.readData m (BitVec.ofNat 32 (sat 48 ((s.lane n).bitCnt +
      nbits))) ∈ u.out ∧ u.get (.lane n) LANE.LANE_BIT_CNT_HI_BITS = sat 48 ((s.lane n).bitCnt + nbits) / 2 ^ 32) ∧
  (∀ (s : State) (t : Nat) (m : Master) (n : Fin 1032), s.gives m (Page.base (.lane n) + 0x18C) → (s.lane n).tally < 2
      ^ 64 → ∃ u : State, exec (.tallyRxLoRead t m n) s = .next u ∧ Emit.readData m (BitVec.ofNat 32 (s.lane n).tally)
      ∈ u.out ∧ u.get (.lane n) LANE.LANE_IGN_TALLY_RX_HI_TALLY = (s.lane n).tally / 2 ^ 32) ∧
  (∀ (s : State) (t : Nat) (m : Master), s.gives m (Page.base .time + 0x080) → ∃ u : State, exec (.stcLiveLoRead t m)
      s = .next u ∧ Emit.readData m (BitVec.ofNat 32 (s.begin t).stc) ∈ u.out ∧ u.get .time TIME.STC_LIVE_HI_STC =
      (s.begin t).stc / 2 ^ 32) ∧
  (∀ (s : State) (t : Nat) (m : Master), s.gives m (Page.base .time + 0x20C) → ∃ u : State, exec (.mtOffLoRead t m) s
      = .next u ∧ Emit.readData m (BitVec.ofNat 32 (s.begin t).mtOffShown) ∈ u.out ∧ u.get .time TIME.MT_OFF_HI_OFF =
      (s.begin t).mtOffShown / 2 ^ 32)

/-- The clauses are on a device that is not held in reset with the REF page running. refpInEdge of the direction that
POL chooses, with a known rate: the edge is noted in this core cycle, REFI_PERIOD shows the mean of the noted periods,
and a flywheel that follows its input takes this cycle. refActivityTimeout, 1.5 nominal periods or more after the last
edge: the activity check has failed, ACT_OK and QUAL are 0, and a candidate that was qualified has LOST 1, its loss
count one higher, saturating, and QUAL_LOST raised. candFreqUpdate of an enabled candidate at a whole STC second that
it has not been measured at, with a complete mean (the model's State.freqMean): CAND_FREQ is the mean, and FREQ_OK is
whether it lies within WIN times 0.5 ppm. wtrExpiry of a qualified candidate that waits, WTR seconds or more after its
wait began: WAITING is 0. The clauses of the pulses and of the flywheel are on a device that is not held in reset.
refpOutPulse with the REF page running, of an enabled REFP_OUT that may send, in the core cycle REFO_OFS after an
event of its source (the model's State.refoDue): the pin is inside a pulse. refpOutPulseEnd once the pulse has lasted
its width: the pin is inside no pulse. refoFly with the REF page running, of an input whose flywheel has measured a
period and follows its edges, 1.5 periods or more after the last edge: its bit of REFO_STAT.FLY is 1 and REFO_FLY is
raised. Readings of the model's own in it: notes/assumptions/70.md and notes/assumptions/73.md and
notes/assumptions/143.md. Rests on: 09_references_timing.md, Candidates and their qualification,
09_references_timing.md Table 9.3, 09_references_timing.md, Reference pulse outputs. -/
def Obligations.ReferencePinsAndCandidates : Prop :=
  (∀ (s : State) (t : Nat) (r : Fin 8) (falling : Bool) (nom : Nat), s.boot.hold = 0 → s.running .ref = true →
      s.candCfg REF.CAND_CFG_POL r.val = b2n falling → s.nominal r.val = some nom → ∃ u : State, exec (.refpInEdge t r
      falling) s = .next u ∧ (u.cand r.val).edge = some (max s.now t) ∧ u.get .ref (REF.REFI_PERIOD.at r.val) =
      flyPeriod (u.cand r.val).periods % 2 ^ 32 ∧ ((s.get .ref (REF.REFO_STAT_FLY.bit r.val) = 0 → (u.cand r.val).fly
      = max s.now t))) ∧
  (∀ (s : State) (t : Nat) (r : Fin 8) (nom : Nat) (e : Nat), s.boot.hold = 0 → s.running .ref = true → s.nominal
      r.val = some nom → (s.cand r.val).edge = some e → 3 * nom ≤ 2 * (max s.now t - e) → ∃ u : State, exec
      (.refActivityTimeout t r) s = .next u ∧ u.get .ref (REF.CAND_STAT_ACT_OK.at r.val) = 0 ∧ u.get .ref
      (REF.CAND_STAT_QUAL.at r.val) = 0 ∧ (u.cand r.val).actSince = none ∧ ((s.get .ref (REF.CAND_STAT_QUAL.at r.val)
      = 1 → u.get .ref (REF.CAND_STAT_LOST.at r.val) = 1 ∧ u.get .ref REF.INT_STAT_QUAL_LOST = 1 ∧ u.get .ref
      (REF.QUAL_LOSS_CNT.at r.val) = sat REF.QUAL_LOSS_CNT.w (s.get .ref (REF.QUAL_LOSS_CNT.at r.val) + 1)))) ∧
  (∀ (s : State) (t : Nat) (c : Fin 27) (freq : Int) (sec : Nat) (v : Int), s.boot.hold = 0 → s.running .ref = true →
      s.candCfg REF.CAND_CFG_EN c.val = 1 → (s.begin t).newSecond = some sec → (s.cand c.val).marks.any (fun e => e.1
      = sec) = false → (s.begin t).freqMean c.val sec freq = some v → ∃ u : State, exec (.candFreqUpdate t c freq) s =
      .next u ∧ u.get .ref (REF.CAND_FREQ_FREQ.at c.val) = wrap 32 v ∧ u.get .ref (REF.CAND_STAT_FREQ_OK.at c.val) =
      b2n (decide ((sgn 32 (wrap 32 v)).natAbs ≤ s.candCfg REF.CAND_CFG_WIN c.val * 500))) ∧
  (∀ (s : State) (t : Nat) (c : Fin 27), s.boot.hold = 0 → s.running .ref = true → s.get .ref
      (REF.CAND_STAT_WAITING.at c.val) = 1 → s.get .ref (REF.CAND_STAT_QUAL.at c.val) = 1 → (s.cand c.val).waitAt +
      s.candCfg REF.CAND_CFG_WTR c.val * 1188000000 ≤ max s.now t → ∃ u : State, exec (.wtrExpiry t c) s = .next u ∧
      u.get .ref (REF.CAND_STAT_WAITING.at c.val) = 0) ∧
  (∀ (s : State) (t : Nat) (j : Fin 8), s.boot.hold = 0 → s.running .ref = true → s.refoOn j.val = true → (s.begin
      t).refoDue j.val = true → ∃ u : State, exec (.refpOutPulse t j) s = .next u ∧ j.val ∈ u.refo) ∧
  (∀ (s : State) (t : Nat) (j : Fin 8), s.boot.hold = 0 → s.refoAt.get j.val 0 + s.refoWidth j.val ≤ max s.now t → ∃ u
      : State, exec (.refpOutPulseEnd t j) s = .next u ∧ j.val ∉ u.refo) ∧
  (∀ (s : State) (t : Nat) (r : Fin 8) (e : Nat), s.boot.hold = 0 → s.running .ref = true → s.get .ref
      (REF.REFO_STAT_FLY.bit r.val) = 0 → (s.cand r.val).periods ≠ [] → (s.cand r.val).edge = some e → 3 * flyPeriod
      (s.cand r.val).periods ≤ 512 * (max s.now t - e) → ∃ u : State, exec (.refoFly t r) s = .next u ∧ u.get .ref
      (REF.REFO_STAT_FLY.bit r.val) = 1 ∧ u.get .ref REF.INT_STAT_REFO_FLY = 1)

/-- The clauses are on a device that is not held in reset with the REF page running, on a DPLL without revertive
switching; a candidate stands when its checks go on holding in this core cycle (State.standing). holdMinExpiry with
nothing selected, 100 ms or more after the loss: the best-ranked eligible candidate, which stands, is selected, the
DPLL is ACQUIRING and holds no longer. dpllLockTimer in ACQUIRING with a selected eligible candidate that stands, once
the lock condition has held for 1 s: the DPLL is LOCKED. dpllUnlockTimer in LOCKED with such a candidate, once the
phase error has exceeded 4 LOCK_TOL for 100 ms: it is ACQUIRING. Both set the HIST bit of the new state and raise
STATE_CHG. disagreeClear with a REFP_IN candidate selected, only REFP_IN candidates in use, no pair that disagrees and
none in the last 10 s: DIS_LIVE is 0. Readings of the model's own in it: notes/assumptions/70.md. Rests on:
09_references_timing.md, Selection, 09_references_timing.md, DPLL states and phase, 09_references_timing.md Table 9.5.
-/
def Obligations.DpllsSelectAndLock : Prop :=
  (∀ (s : State) (t : Nat) (k : Fin 4) (c : Nat) (h : Nat), s.boot.hold = 0 → s.running .ref = true → s.selected k.val
      = none → (s.dpll k.val).held = some h → h + 118800000 ≤ max s.now t → s.bestCand k.val = some c → (s.begin
      t).standing c → s.live .ref (REF.DPLL_CTRL_REVERT.at k.val) = 0 → ∃ u : State, exec (.holdMinExpiry t k) s =
      .next u ∧ u.selected k.val = some c ∧ u.dpllState k.val = 1 ∧ (u.dpll k.val).held = none) ∧
  (∀ (s : State) (t : Nat) (k : Fin 4) (c : Nat) (a : Nat), s.boot.hold = 0 → s.running .ref = true → s.selected k.val
      = some c → s.eligible k.val c = true → (s.begin t).standing c → s.live .ref (REF.DPLL_CTRL_REVERT.at k.val) = 0
      → s.dpllState k.val = 1 → (s.dpll k.val).within = some a → a + 1188000000 ≤ max s.now t → ∃ u : State, exec
      (.dpllLockTimer t k) s = .next u ∧ u.dpllState k.val = 2 ∧ u.get .ref ((REF.DPLL_HIST_HIST.at k.val).bit 2) = 1
      ∧ u.get .ref (REF.INT_STAT_STATE_CHG0.bit (4 * k.val)) = 1) ∧
  (∀ (s : State) (t : Nat) (k : Fin 4) (c : Nat) (a : Nat), s.boot.hold = 0 → s.running .ref = true → s.selected k.val
      = some c → s.eligible k.val c = true → (s.begin t).standing c → s.live .ref (REF.DPLL_CTRL_REVERT.at k.val) = 0
      → s.dpllState k.val = 2 → (s.dpll k.val).beyond = some a → a + 118800000 ≤ max s.now t → ∃ u : State, exec
      (.dpllUnlockTimer t k) s = .next u ∧ u.dpllState k.val = 1 ∧ u.get .ref ((REF.DPLL_HIST_HIST.at k.val).bit 1) =
      1 ∧ u.get .ref (REF.INT_STAT_STATE_CHG0.bit (4 * k.val)) = 1) ∧
  (∀ (s : State) (t : Nat) (k : Fin 4) (c : Nat), s.boot.hold = 0 → s.running .ref = true → c < 8 → s.selected k.val =
      some c → s.eligible k.val c = true → (s.begin t).standing c → s.live .ref (REF.DPLL_CTRL_REVERT.at k.val) = 0 →
      (s.begin t).anyDisagree k.val = false → (s.dpll k.val).disAt + 11880000000 ≤ max s.now t → (∀ d : Fin 27, 8 ≤
      d.val → s.candCfg REF.CAND_CFG_EN d.val = 0 ∧ s.get .ref (REF.CAND_STAT_QUAL.at d.val) = 0) → ∃ u : State, exec
      (.disagreeClear t k) s = .next u ∧ u.get .ref (REF.DPLL_STAT_DIS_LIVE.at k.val) = 0)

/-- meterSnapWrite of a master whose access is taken: a snapshot is requested. The other clauses are on a device that
is not held in reset, those of flows with the page of the flow running. meterSnap in the core cycle of a T_SMP (the
model's State.smpDue) with a snapshot requested: the request is gone, no meter holds a peak, and METER_DONE is raised.
audioFlowTimeout of a flow in RUN whose last packet on either path, or whose start, lies at least 10 ms back: it is in
LOST and FLOW_LOST is raised. audioPathTimeout of an enabled path of an enabled flow that is not marked down and has
delivered nothing for at least 10 ms: it is marked down and PATH_LOST is raised. foreignDetect of an enabled flow
without ASRC whose mean slack has moved, or has settled, as the model's AudRx.meanMoved says: FOREIGN is set or
cleared, and raised where it is set. audioPacketTx of a flow whose oldest packet has reached its scheduled instant:
that packet is gone, the sequence number is one higher modulo 65,536, and the packet is put out on each path whose
port may send, with the headers of the flow and its samples. Readings of the model's own in it:
notes/assumptions/144.md and notes/assumptions/145.md. Rests on: 10_audio_plane_network.md, Generators and meters,
10_audio_plane_network.md, Receive play-out, 10_audio_plane_network.md Table 10.5, 10_audio_plane_network.md, Sending.
-/
def Obligations.AudioFlowsAndMeters : Prop :=
  (∀ (s : State) (t : Nat) (m : Master), s.takes m .aud 0x054 → ∃ u : State, exec (.meterSnapWrite t m) s = .next u ∧
      u.aud.snap = true) ∧
  (∀ (s : State) (t : Nat), s.boot.hold = 0 → s.aud.snap = true → (s.begin t).smpDue = true → ∃ u : State, exec
      (.meterSnap t) s = .next u ∧ u.aud.snap = false ∧ u.aud.meters = [] ∧ u.get .aud AUD.INT_STAT_METER_DONE = 1) ∧
  (∀ (s : State) (t : Nat) (n : Fin 4096), s.boot.hold = 0 → s.running (.flowaRx (flowBay n)) = true → s.arxState n =
      2 → max (s.arx n).heardA (s.arx n).heardB + 11880000 ≤ max s.now t → ∃ u : State, exec (.audioFlowTimeout t n) s
      = .next u ∧ u.arxState n = 3 ∧ u.get (rxPage n) FARX.INT_STAT_FLOW_LOST = 1) ∧
  (∀ (s : State) (t : Nat) (n : Fin 4096) (pathB : Bool), s.boot.hold = 0 → s.running (.flowaRx (flowBay n)) = true →
      s.flowEn false true n = true → (pathB = true → s.fa true TBL.FLOWA_RX_PAIR n ≠ 0) → s.tget ((if pathB then
      TBL.FLOWA_RX_PATH_B_DOWN else TBL.FLOWA_RX_PATH_A_DOWN).at n.val) = 0 → (if pathB then (s.arx n).heardB else
      (s.arx n).heardA) + 11880000 ≤ max s.now t → ∃ u : State, exec (.audioPathTimeout t n pathB) s = .next u ∧
      u.tget ((if pathB then TBL.FLOWA_RX_PATH_B_DOWN else TBL.FLOWA_RX_PATH_A_DOWN).at n.val) = 1 ∧ u.get (rxPage n)
      FARX.INT_STAT_PATH_LOST = 1) ∧
  (∀ (s : State) (t : Nat) (n : Fin 4096) (foreign : Bool), s.boot.hold = 0 → s.running (.flowaRx (flowBay n)) = true
      → s.flowEn false true n = true → s.fa true TBL.FLOWA_RX_ASRC_EN n ≠ 1 → (s.arx n).meanMoved (max s.now t)
      (!foreign) = true → ∃ u : State, exec (.foreignDetect t n foreign) s = .next u ∧ u.tget (TBL.FLOWA_RX_FOREIGN.at
      n.val) = b2n foreign ∧ ((foreign = true → u.get (rxPage n) FARX.INT_STAT_FOREIGN = 1))) ∧
  (∀ (s : State) (t : Nat) (n : Fin 4096) (marker : Bool) (ts : Nat) (words : List Nat) (c : Nat) (rest : List (Nat ×
      List Nat × Option Nat)), s.boot.hold = 0 → s.running (.flowaTx (flowBay n)) = true → (s.atx n).ready = (ts,
      words, some c) :: rest → c ≤ max s.now t → ∃ u : State, exec (.audioPacketTx t n marker) s = .next u ∧ (u.atx
      n).ready = rest ∧ (u.atx n).seq = ((s.atx n).seq + 1) % 65536 ∧ (u.atx n).run = (s.atx n).run ∧ (∀ e ∈
      s.atxPaths n, ∀ p : Fin 48, e.2 = p.val → s.canSend p = true → Emit.audioPacket n.val e.1 (s.atxHead n e.1 e.2
      (s.atx n).seq ts marker) words ∈ u.out))

/-- STATE is 0 OFF, 1 PRE, 2 RUN, 3 POST, 4 CLK_LOST, 5 HALTED. tdmRestart of a master whose access is taken, of a
port in PRE or HALTED: the port is in PRE with no frame counted, and from HALTED SWAP_RISK is 0. The other clauses are
on a device that is not held in reset with the page of the port, or of the ASRC, running. tdmPreDone in PRE with at
least PRE valid frames counted and every ASRC channel that an ASRC port holds in TRACK: RUN, DATA_ON raised, and no
DIN frame waits. tdmPostDone in POST with at least POST frames counted: OFF, STOPPED raised and the port as it starts,
or PRE where the port is to run again. tdmFifoFault in RUN with a FIFO at its edge (the model's State.tdmFifoEdge):
HALTED, SWAP_RISK set and raised, the count of that FIFO one higher, saturating, a real contained fault recorded, and
normal service has ended. tdmClockStop of a slave port in PRE or RUN with no frame start for two frame periods (the
model's State.tdmSilent): CLK_LOST, set and raised, its count one higher, saturating. tdmClockBack in CLK_LOST with at
least two valid frames counted: PRE, CLK_BACK raised and CLK_LOST 0. tdmRateMeasure of an interval of 100 ms of the
STC that has ended and was not measured, outside OFF, with no rate measured since PRE: FRAME_RATE is the rate of the
frame starts counted in the interval in 0.01 Hz, a rate has been measured, and the next interval is due. asrcTrack of
a channel below 256 in ACQUIRE with a steady ratio and its delay at target (the model's State.asrcSteady): TRACK with
that ratio, and ACQUIRED raised. Readings of the model's own in it: notes/assumptions/83.md. Rests on:
11_audio_ports_asrc.md Table 11.3, 11_audio_ports_asrc.md Table 11.4, 11_audio_ports_asrc.md, The ASRC pool. -/
def Obligations.TdmPortsFollowTheirTable : Prop :=
  (∀ (s : State) (t : Nat) (b : Fin 16), s.boot.hold = 0 → s.running (.tdm b) = true → s.tdmState b = 1 → bits
      (s.tdmPort b).seq 0 13 ≤ (s.tdmPort b).seen → ((s.tdmPort b).asrc = true → ∀ a ∈ s.portChans b, s.asrcState a =
      2) → ∃ u : State, exec (.tdmPreDone t b) s = .next u ∧ u.tdmState b = 2 ∧ u.get (.tdm b) TDM.INT_STAT_DATA_ON =
      1 ∧ (u.tdmPort b).din = []) ∧
  (∀ (s : State) (t : Nat) (b : Fin 16), s.boot.hold = 0 → s.running (.tdm b) = true → s.tdmState b = 3 → bits
      (s.tdmPort b).seq 16 13 ≤ (s.tdmPort b).seen → (s.tdmPort b).again = false → ∃ u : State, exec (.tdmPostDone t
      b) s = .next u ∧ u.tdmState b = 0 ∧ u.get (.tdm b) TDM.INT_STAT_STOPPED = 1 ∧ u.tdmPort b = TdmPort.init) ∧
  (∀ (s : State) (t : Nat) (b : Fin 16), s.boot.hold = 0 → s.running (.tdm b) = true → s.tdmState b = 3 → bits
      (s.tdmPort b).seq 16 13 ≤ (s.tdmPort b).seen → (s.tdmPort b).again = true → ∃ u : State, exec (.tdmPostDone t b)
      s = .next u ∧ u.tdmState b = 1) ∧
  (∀ (s : State) (t : Nat) (m : Master) (b : Fin 16), s.takes m (.tdm b) 0x060 → (s.tdmState b = 1 ∨ s.tdmState b = 5)
      → ∃ u : State, exec (.tdmRestart t m b) s = .next u ∧ u.tdmState b = 1 ∧ (u.tdmPort b).seen = 0 ∧ ((s.tdmState b
      = 5 → u.get (.tdm b) TDM.TDM_STAT_SWAP_RISK = 0))) ∧
  (∀ (s : State) (t : Nat) (b : Fin 16) (full : Bool), s.boot.hold = 0 → s.running (.tdm b) = true → s.tdmState b = 2
      → s.tdmFifoEdge b full = true → ∃ u : State, exec (.tdmFifoFault t b full) s = .next u ∧ u.tdmState b = 5 ∧
      u.get (.tdm b) TDM.TDM_STAT_SWAP_RISK = 1 ∧ u.get (.tdm b) TDM.INT_STAT_SWAP_RISK = 1 ∧ u.get (.tdm b) (if full
      then TDM.FIFO_OVER else TDM.FIFO_UNDER) = sat (if full then TDM.FIFO_OVER else TDM.FIFO_UNDER).w (s.get (.tdm b)
      (if full then TDM.FIFO_OVER else TDM.FIFO_UNDER) + 1) ∧ u.get (.tdm b) HDR.FAULT_STAT_CONT_REAL = 1 ∧ u.normal =
      false) ∧
  (∀ (s : State) (t : Nat) (b : Fin 16) (cut : Bool), s.boot.hold = 0 → s.running (.tdm b) = true → (s.tdmState b = 1
      ∨ s.tdmState b = 2) → (s.tdmPort b).master = false → (s.begin t).tdmSilent b = true → ∃ u : State, exec
      (.tdmClockStop t b cut) s = .next u ∧ u.tdmState b = 4 ∧ u.get (.tdm b) TDM.TDM_STAT_CLK_LOST = 1 ∧ u.get (.tdm
      b) TDM.INT_STAT_CLK_LOST = 1 ∧ u.get (.tdm b) TDM.CLK_LOST_CNT = sat TDM.CLK_LOST_CNT.w (s.get (.tdm b)
      TDM.CLK_LOST_CNT + 1)) ∧
  (∀ (s : State) (t : Nat) (b : Fin 16), s.boot.hold = 0 → s.running (.tdm b) = true → s.tdmState b = 4 → 2 ≤
      (s.tdmPort b).seen → ∃ u : State, exec (.tdmClockBack t b) s = .next u ∧ u.tdmState b = 1 ∧ u.get (.tdm b)
      TDM.INT_STAT_CLK_BACK = 1 ∧ u.get (.tdm b) TDM.TDM_STAT_CLK_LOST = 0) ∧
  (∀ (s : State) (t : Nat) (b : Fin 16) (k : Nat), s.boot.hold = 0 → s.running (.tdm b) = true → s.tdmState b ≠ 0 →
      (s.tdmPort b).measured = false → (s.tdmPort b).nextIv ≤ k → (k + 1) * stcTenth ≤ (s.begin t).stc → ∃ u : State,
      exec (.tdmRateMeasure t b k) s = .next u ∧ u.get (.tdm b) TDM.FRAME_RATE_RATE = (((s.tdmPort b).starts.find?
      (·.1 = k)).map (·.2)).getD 0 * 1000 % 2 ^ TDM.FRAME_RATE_RATE.w ∧ (u.tdmPort b).measured = true ∧ (u.tdmPort
      b).nextIv = k + 1) ∧
  (∀ (s : State) (t : Nat) (a : Nat) (lock : AsrcLock), s.boot.hold = 0 → s.running .asrc = true → a < 256 →
      s.asrcState a = 1 → s.asrcSteady a lock = true → ∃ u : State, exec (.asrcTrack t a lock) s = .next u ∧
      u.asrcState a = 2 ∧ u.get .asrc (ASRC.ASRC_RATIO_RATIO.at a) = lock.ratio % 2 ^ ASRC.ASRC_RATIO_RATIO.w ∧ u.get
      .asrc ASRC.INT_STAT_ACQUIRED = 1)

/-- The clauses are on a device that is not held in reset with the page of the port running. tdmFrameStart of a master
port in RUN at one generation a frame, in the core cycle of its start (the model's State.tdmDue): the frame put out
carries, in the enabled slots of TX_MASK in rank order, the samples that the consumers of the port took at the last
T_SMP. tdmFrameRx of a slave port outside OFF of a frame that has not S times 32 bit periods: the glitch is counted,
saturating, and raised. tdmFrameRx of a synchronous slave port in RUN at one generation a frame, of a frame of S times
32 bit periods that began in RUN, with room in the DIN FIFO and a frame in the DOUT FIFO: the samples of the enabled
slots of RX_MASK enter the DIN FIFO with the core cycle of the completion, and the oldest frame of the DOUT FIFO is
put out in the enabled slots of TX_MASK and is gone. That this DOUT frame goes out at the completion of a received
frame is the model's choice (notes/assumptions/81.md). Readings of the model's own in it: notes/assumptions/144.md.
Rests on: 11_audio_ports_asrc.md, Slots and compaction, 11_audio_ports_asrc.md, Synchronous and ASRC slaves,
11_audio_ports_asrc.md Table 11.4. -/
def Obligations.TdmFramesCarryTheConsumers : Prop :=
  (∀ (s : State) (t : Nat) (b : Fin 16) (din : List Nat), s.boot.hold = 0 → s.running (.tdm b) = true → s.tdmState b =
      2 → (s.tdmPort b).master = true → (s.begin t).tdmDue b = true → (s.tdmPort b).r97 = false → ∃ u : State, exec
      (.tdmFrameStart t b din) s = .next u ∧ Emit.tdmFrame b.val (bits (s.tdmPort b).ctl 2 2) (spread (s.live (.tdm b)
      TDM.TX_MASK_MASK) (s.tdmPort b).slots (s.doutNow b false false)) ∈ u.out ∧ (u.tdmPort b).later = false) ∧
  (∀ (s : State) (t : Nat) (b : Fin 16) (began : Nat) (nbits : Nat) (din : List Nat), s.boot.hold = 0 → s.running
      (.tdm b) = true → s.tdmState b ≠ 0 → (s.tdmPort b).master = false → nbits ≠ (s.tdmPort b).slots * 32 → ∃ u :
      State, exec (.tdmFrameRx t b began nbits din) s = .next u ∧ u.get (.tdm b) TDM.GLITCH_CNT = sat TDM.GLITCH_CNT.w
      (s.get (.tdm b) TDM.GLITCH_CNT + 1) ∧ u.get (.tdm b) TDM.INT_STAT_GLITCH = 1) ∧
  (∀ (s : State) (t : Nat) (b : Fin 16) (began : Nat) (din : List Nat) (f : List Nat) (rest : List (List Nat)),
      s.boot.hold = 0 → s.running (.tdm b) = true → s.tdmState b = 2 → (s.tdmPort b).master = false → (s.tdmPort
      b).asrc = false → (s.tdmPort b).runAt ≤ began → (s.tdmPort b).din.length < 8 → (s.tdmPort b).dout = f :: rest →
      (s.tdmPort b).r97 = false → ∃ u : State, exec (.tdmFrameRx t b began ((s.tdmPort b).slots * 32) din) s = .next u
      ∧ (u.tdmPort b).din = (s.tdmPort b).din ++ [(max s.now t, compact (s.tdmPort b).rxMask (s.tdmPort b).slots din)]
      ∧ (u.tdmPort b).dout = rest ∧ Emit.tdmFrame b.val (bits (s.tdmPort b).ctl 2 2) (spread (s.live (.tdm b)
      TDM.TX_MASK_MASK) (s.tdmPort b).slots f) ∈ u.out)

/-- The clauses are on a device that is not held in reset. frameBufferComplete, with the page of the engine running,
of an enabled stream layer with four slots that lost no burst of the frame, whose detected format Table 9.7 holds,
whose slots hold it and whose rows all came: the frame counts one higher, the slot the writer was at holds that
number, DET_FMT is the detected format, and FMT_CHG is raised where it is another. gddr6TrainingDone, in phase 4 of
start-up, with all channels: READY 1 and CH_OK all ones; with a channel missing: READY 0, TRAIN_FAIL raised, a fatal
fault of the GMC page latched with FATAL_N, and normal service has ended. gddr6Retrain, with the GMC page running, EN
1 and the retraining due (the model's State.retrainDue): LAST_CH is channel 0 the first time and the next one after
that, COUNT is one higher and RETRAIN_DONE is raised. edcError, with the GMC page running: a retried burst counts in
EDC_RETRY of its channel, saturating, raises EDC_RETRY and is a real corrected fault; a lost one counts in EDC_FAIL,
raises EDC_LOSS, is a real contained fault and ends normal service. Readings of the model's own in it:
notes/assumptions/86.md and notes/assumptions/148.md. Rests on: 12_engines_memory.md, Bringing a stream layer into
time, 12_engines_memory.md, GDDR6 memory, 17_faults_records.md, Classes. -/
def Obligations.EnginesAndMemoryReport : Prop :=
  (∀ (s : State) (t : Nat) (e : Fin 64) (l : Fin 16) (det : Nat) (arrived : Nat) (data : List Nat), s.boot.hold = 0 →
      s.running (.eng e) = true → (layerCfg (s.engWords liveView) e l.val 0).en = true → (layerCfg (s.engWords
      liveView) e l.val 0).kind = 0 → slotBytes det ≤ slotBytes (layerCfg (s.engWords liveView) e l.val 0).fmt →
      (format? det).isSome = true → ((s.eng e).layer l.val).lost = false → ((s.eng e).layer l.val).seqs.length = 4 → ∃
      u : State, exec (.frameBufferComplete t e l det arrived none data) s = .next u ∧ ((u.eng e).layer l.val).count =
      ((s.eng e).layer l.val).count + 1 ∧ nth ((u.eng e).layer l.val).seqs ((s.eng e).layer l.val).slot 0 = ((s.eng
      e).layer l.val).count + 1 ∧ ((s.detFmt e l.val ≠ det → u.get (.eng e) ENGI.INT_STAT_FMT_CHG = 1)) ∧ u.detFmt e
      l.val = det % 2 ^ ENGI.LAYER_STAT_DET_FMT.w) ∧
  (∀ (s : State) (t : Nat) (channels : BitVec 24), s.boot.hold = 0 → s.get .upd UPD.BOOT_STAT_PHASE = 4 →
      channels.toNat = 0xFFFFFF → ∃ u : State, exec (.gddr6TrainingDone t channels) s = .next u ∧ u.get .gmc
      GMC.GMC_STAT_READY = 1 ∧ u.get .gmc GMC.GMC_STAT_CH_OK = 0xFFFFFF) ∧
  (∀ (s : State) (t : Nat) (channels : BitVec 24), s.boot.hold = 0 → s.get .upd UPD.BOOT_STAT_PHASE = 4 →
      channels.toNat ≠ 0xFFFFFF → ∃ u : State, exec (.gddr6TrainingDone t channels) s = .next u ∧ u.get .gmc
      GMC.GMC_STAT_READY = 0 ∧ u.get .gmc GMC.INT_STAT_TRAIN_FAIL = 1 ∧ Page.num .gmc ∈ u.fatal ∧ u.fatalN = true ∧
      u.normal = false) ∧
  (∀ (s : State) (t : Nat), s.boot.hold = 0 → s.running .gmc = true → s.live .gmc GMC.RETRAIN_CTRL_EN = 1 → (s.begin
      t).retrainDue = true → ∃ u : State, exec (.gddr6Retrain t) s = .next u ∧ u.get .gmc GMC.RETRAIN_STAT_LAST_CH =
      (if s.retrainAt.isNone then 0 else (s.get .gmc GMC.RETRAIN_STAT_LAST_CH + 1) % 24) ∧ u.get .gmc
      GMC.RETRAIN_STAT_COUNT = (s.get .gmc GMC.RETRAIN_STAT_COUNT + 1) % 2 ^ GMC.RETRAIN_STAT_COUNT.w ∧ u.get .gmc
      GMC.INT_STAT_RETRAIN_DONE = 1) ∧
  (∀ (s : State) (t : Nat) (ch : Fin 24), s.boot.hold = 0 → s.running .gmc = true → ∃ u : State, exec (.edcError t ch
      none) s = .next u ∧ u.get .gmc (GMC.EDC_RETRY.at ch.val) = sat GMC.EDC_RETRY.w (s.get .gmc (GMC.EDC_RETRY.at
      ch.val) + 1) ∧ u.get .gmc GMC.INT_STAT_EDC_RETRY = 1 ∧ u.get .gmc HDR.FAULT_STAT_CORR_REAL = 1) ∧
  (∀ (s : State) (t : Nat) (ch : Fin 24) (r : Requester), s.boot.hold = 0 → s.running .gmc = true → ∃ u : State, exec
      (.edcError t ch (some r)) s = .next u ∧ u.get .gmc (GMC.EDC_FAIL.at ch.val) = sat GMC.EDC_FAIL.w (s.get .gmc
      (GMC.EDC_FAIL.at ch.val) + 1) ∧ u.get .gmc GMC.INT_STAT_EDC_LOSS = 1 ∧ u.get .gmc HDR.FAULT_STAT_CONT_REAL = 1 ∧
      u.normal = false)

/-- The clauses but the one of hifEoi are on a device that is not held in reset. pcieReset: the MSI-X table is at its
reset values, no vector is in service, the function mask is off, the endpoint is not ready, LINK_UP and MSIX_EN are 0.
pcieReady of an endpoint that is not ready: it is, and PCIE_RESET is raised. pcieUp: LINK_UP 1, the width and the
speed shown, DEGRADED set exactly below four lanes or speed code 2, PCIE_UP raised. pcieDown with LINK_UP 1: LINK_UP 0
and PCIE_DOWN raised. hifEoi by a master whose access is taken: the vector it names is in service exactly where it is
requested and open afterwards, and every other vector that was in service is. msixUnmask: MSIX_EN and the function
mask take their values and a named vector has its mask bit 0; with MSI-X on and no function mask, a named vector that
is requested is in service, and its message is put out with the address and data of its table entry where it was not.
Readings of the model's own in it: notes/assumptions/92.md and notes/assumptions/93.md. Rests on: 14_control_plane.md,
PCIe endpoint, 14_control_plane.md, Interrupts. -/
def Obligations.PcieEndpointAndItsMessages : Prop :=
  (∀ (s : State) (t : Nat) (flight : Option (Nat × Nat)), s.boot.hold = 0 → ∃ u : State, exec (.pcieReset t flight) s
      = .next u ∧ u.insvc = [] ∧ u.msixMask = false ∧ u.pcieReady = false ∧ u.get .hif HIF.HIF_STAT_LINK_UP = 0 ∧
      u.get .hif HIF.HIF_STAT_MSIX_EN = 0 ∧ (∀ i : Fin 1024, u.word (0x4000 + 4 * i.val) = resetOf (0x4000 + 4 *
      i.val))) ∧
  (∀ (s : State) (t : Nat), s.boot.hold = 0 → s.pcieReady = false → ∃ u : State, exec (.pcieReady t) s = .next u ∧
      u.pcieReady = true ∧ u.get .hif HIF.INT_STAT_PCIE_RESET = 1) ∧
  (∀ (s : State) (t : Nat) (width : Nat) (speed : Nat), s.boot.hold = 0 → ∃ u : State, exec (.pcieUp t width speed) s
      = .next u ∧ u.get .hif HIF.HIF_STAT_LINK_UP = 1 ∧ u.get .hif HIF.HIF_STAT_WIDTH = width % 2 ^
      HIF.HIF_STAT_WIDTH.w ∧ u.get .hif HIF.HIF_STAT_SPEED = speed % 2 ^ HIF.HIF_STAT_SPEED.w ∧ (u.get .hif
      HIF.HIF_STAT_DEGRADED = b2n (decide (width < 4 ∨ speed < 2))) ∧ u.get .hif HIF.INT_STAT_PCIE_UP = 1) ∧
  (∀ (s : State) (t : Nat), s.boot.hold = 0 → s.get .hif HIF.HIF_STAT_LINK_UP = 1 → ∃ u : State, exec (.pcieDown t) s
      = .next u ∧ u.get .hif HIF.HIF_STAT_LINK_UP = 0 ∧ u.get .hif HIF.INT_STAT_PCIE_DOWN = 1) ∧
  (∀ (s : State) (t : Nat) (m : Master) (value : Word), s.takes m .hif 0x048 → ∃ u : State, exec (.hifEoi t m value) s
      = .next u ∧ ((bits value.toNat 0 8 ∈ u.insvc ↔ u.vecReq.contains (bits value.toNat 0 8) = true ∧ u.vecOpen (bits
      value.toNat 0 8) = true)) ∧ (∀ v ∈ s.insvc, v ≠ bits value.toNat 0 8 → v ∈ u.insvc)) ∧
  (∀ (s : State) (t : Nat) (v : Fin 256), s.boot.hold = 0 → s.vecReq.contains v.val = true → ∃ u : State, exec
      (.msixUnmask t true false (some v)) s = .next u ∧ v.val ∈ u.insvc ∧ u.tget (TBL.MSIX_CTRL_MASK.at v.val) = 0 ∧
      u.get .hif HIF.HIF_STAT_MSIX_EN = 1 ∧ u.msixMask = false ∧ ((v.val ∉ s.insvc → Emit.msix v.val (s.tget
      (TBL.MSIX_ADDR_LO_ADDR.at v.val) * 4 + s.tget (TBL.MSIX_ADDR_HI_ADDR.at v.val) * 2 ^ 32) (s.tget
      (TBL.MSIX_DATA_DATA.at v.val)) ∈ u.out))) ∧
  (∀ (s : State) (t : Nat) (enable : Bool) (fmask : Bool) (vec : Option (Fin 256)), s.boot.hold = 0 → ∃ u : State,
      exec (.msixUnmask t enable fmask vec) s = .next u ∧ u.get .hif HIF.HIF_STAT_MSIX_EN = b2n enable ∧ u.msixMask =
      fmask ∧ (∀ v : Fin 256, vec = some v → u.tget (TBL.MSIX_CTRL_MASK.at v.val) = 0))

/-- The clauses are on a device that is not held in reset. bar2Access of one dword through a window that names GDDR6,
by a PCIe master that owes no error: a write inside GDDR6 changes exactly the bytes of the dword whose enables are
set; a read inside it puts out the four bytes, least significant first, and changes no byte; an access at or beyond
0x5F4000000 puts out an error, counts it and changes no byte. The clauses of the service SPI port are after phase 1 of
start-up, except those of spiCsRise. spiStatus: the status byte is put out and the port is as before. spiRead of one
aligned dword that may be read: the data of its address is put out and a READ is in progress. spiWrite of one dword
that is not performed at once: with fewer than 64 queued it is queued at its aligned address with ERR and OVF 0; with
64 queued it is dropped and OVF is set. spiCsRise with one queued write that is denied: the queue is empty, ERR is
set, no READ is in progress and an error is put out. spiCsRise during a READ with nothing queued and a transaction in
flight: no READ is in progress, MRESET_CNT is one higher, saturating, and MRESET is raised. Readings of the model's
own in it: notes/assumptions/97.md. Rests on: 14_control_plane.md, Register space, 14_control_plane.md, Service SPI
port, 14_control_plane.md Table 14.3, 14_control_plane.md, Bus matrix. -/
def Obligations.WindowAndSpiAccessesReachTheirTargets : Prop :=
  (∀ (s : State) (t : Nat) (off : BitVec 30) (be : Fin 16) (v : Word), s.boot.hold = 0 → s.owesError .pcie = false →
      s.get .hif (HIF.BAR2_WIN_TGT.at ((off.toNat / 4 * 4) / 2 ^ 28)) = 0 → (s.get .hif (HIF.BAR2_WIN_BASE.at
      ((off.toNat / 4 * 4) / 2 ^ 28)) * 2 ^ 20 + (off.toNat / 4 * 4) % 2 ^ 28) < 0x5F4000000 → ∃ u : State, exec
      (.bar2Access t off true [(be.val, v)]) s = .next u ∧ (∀ i : Fin 4, Tab.get u.gddr ((s.get .hif
      (HIF.BAR2_WIN_BASE.at ((off.toNat / 4 * 4) / 2 ^ 28)) * 2 ^ 20 + (off.toNat / 4 * 4) % 2 ^ 28) + i.val) 0 = if
      bitAt be.val i.val = 1 then BitVec.ofNat 8 (bits v.toNat (8 * i.val) 8) else Tab.get s.gddr ((s.get .hif
      (HIF.BAR2_WIN_BASE.at ((off.toNat / 4 * 4) / 2 ^ 28)) * 2 ^ 20 + (off.toNat / 4 * 4) % 2 ^ 28) + i.val) 0) ∧ (∀
      x : Nat, x < (s.get .hif (HIF.BAR2_WIN_BASE.at ((off.toNat / 4 * 4) / 2 ^ 28)) * 2 ^ 20 + (off.toNat / 4 * 4) %
      2 ^ 28) ∨ (s.get .hif (HIF.BAR2_WIN_BASE.at ((off.toNat / 4 * 4) / 2 ^ 28)) * 2 ^ 20 + (off.toNat / 4 * 4) % 2 ^
      28) + 4 ≤ x → Tab.get u.gddr x 0 = Tab.get s.gddr x 0)) ∧
  (∀ (s : State) (t : Nat) (off : BitVec 30) (be : Nat) (v : Word), s.boot.hold = 0 → s.owesError .pcie = false →
      s.get .hif (HIF.BAR2_WIN_TGT.at ((off.toNat / 4 * 4) / 2 ^ 28)) = 0 → (s.get .hif (HIF.BAR2_WIN_BASE.at
      ((off.toNat / 4 * 4) / 2 ^ 28)) * 2 ^ 20 + (off.toNat / 4 * 4) % 2 ^ 28) < 0x5F4000000 → ∃ u : State, exec
      (.bar2Access t off false [(be, v)]) s = .next u ∧ Emit.readData .pcie (BitVec.ofNat 32 (s.gddrLe (s.get .hif
      (HIF.BAR2_WIN_BASE.at ((off.toNat / 4 * 4) / 2 ^ 28)) * 2 ^ 20 + (off.toNat / 4 * 4) % 2 ^ 28) 4)) ∈ u.out ∧
      u.gddr = s.gddr) ∧
  (∀ (s : State) (t : Nat) (off : BitVec 30) (write : Bool) (be : Nat) (v : Word), s.boot.hold = 0 → s.owesError .pcie
      = false → s.get .hif (HIF.BAR2_WIN_TGT.at ((off.toNat / 4 * 4) / 2 ^ 28)) = 0 → 0x5F4000000 ≤ (s.get .hif
      (HIF.BAR2_WIN_BASE.at ((off.toNat / 4 * 4) / 2 ^ 28)) * 2 ^ 20 + (off.toNat / 4 * 4) % 2 ^ 28) → ∃ u : State,
      exec (.bar2Access t off write [(be, v)]) s = .next u ∧ Emit.accessErr .pcie write ∈ u.out ∧ u.gddr = s.gddr ∧
      u.get .busm (BUSM.ERR_CNT.at 0) = sat BUSM.ERR_CNT.w (s.get .busm (BUSM.ERR_CNT.at 0) + 1)) ∧
  (∀ (s : State) (t : Nat), s.boot.hold = 0 → s.phase ≠ 1 → ∃ u : State, exec (.spiStatus t) s = .next u ∧
      Emit.readData .spi (BitVec.ofNat 32 (b2n (!s.spi.queue.isEmpty) + 2 * b2n s.spi.err + 4 * b2n s.spi.ovf + 8 *
      b2n s.ready + 16 * b2n s.fatalN)) ∈ u.out ∧ u.spi = s.spi) ∧
  (∀ (s : State) (t : Nat) (addr : Nat), s.gives .spi addr → addr % 4 = 0 → s.phase ≠ 1 → ∃ u : State, exec (.spiRead
      t addr 1) s = .next u ∧ u.spi.reading = true ∧ Emit.readData .spi
      (({ s.begin t with spi := { s.spi with reading := true } } : State).readAt addr).1 ∈ u.out) ∧
  (∀ (s : State) (t : Nat) (addr : Nat) (v : Word) (w : Served), s.boot.hold = 0 → s.phase ≠ 1 → s.spi.queue.length <
      64 → ∃ u : State, exec (.spiWrite t addr [(v, 0)] w) s = .next u ∧ u.spi.queue = s.spi.queue ++ [(addr / 4 * 4,
      v.toNat)] ∧ u.spi.err = false ∧ u.spi.ovf = false) ∧
  (∀ (s : State) (t : Nat) (addr : Nat) (v : Word) (w : Served), s.boot.hold = 0 → s.phase ≠ 1 → 64 ≤
      s.spi.queue.length → ∃ u : State, exec (.spiWrite t addr [(v, 0)] w) s = .next u ∧ u.spi.queue = s.spi.queue ∧
      u.spi.ovf = true) ∧
  (∀ (s : State) (t : Nat) (w : Served) (e : Nat × Nat), s.boot.hold = 0 → s.spi.queue = [e] → ((s.denied .spi true
      e.1 15).isSome = true ∨ s.owesError .spi = true) → ∃ u : State, exec (.spiCsRise t none w) s = .next u ∧
      u.spi.queue = [] ∧ u.spi.err = true ∧ u.spi.reading = false ∧ Emit.accessErr .spi true ∈ u.out) ∧
  (∀ (s : State) (t : Nat) (nulled : Nat) (w : Served), s.boot.hold = 0 → s.spi.reading = true → s.spi.queue = [] → ∃
      u : State, exec (.spiCsRise t (some nulled) w) s = .next u ∧ u.spi.reading = false ∧ u.get .busm BUSM.MRESET_CNT
      = sat BUSM.MRESET_CNT.w (s.get .busm BUSM.MRESET_CNT + 1) ∧ u.get .busm BUSM.INT_STAT_MRESET = 1)

/-- The clauses are on a device that is not held in reset. Those of the commands are on a host master that owes no
error, for mailbox 1 from phase 3 of start-up on, with the HIF page not initialising, at most 63 request words and
BUSY 0; the first ones also with FW_READY 1 and DONE 0: BUSY is 1, TAG is that of the request, and the outcome that
waits is, for echo, STATUS 0 with the request words; for getVersions without words, the four versions and four
security versions of the running images, and with words, STATUS 2; for getHealth without words, a temperature, the
whole seconds since core start and 0xF; for cfgRead of one known key, the bytes of its value; for calRead of one known
item, its value; for cfgWrite and calWrite by the PCIe host without an open session, with a flash that takes the
record and a body that the tables allow, STATUS 0, with the record appended or the item holding its new value; for
cfgWrite by the service port, STATUS 4 with the flash as before. echo with DONE 1: REJECTS is one higher, saturating,
MBX_REJECT is raised and no outcome changes. mbxAbort by a host whose access is taken, with BUSY 1: the outcome that
waits is STATUS 6. mbxResponse of an outcome that waits: BUSY 0, DONE 1, MBXk_DONE raised, the first response word
holds STATUS, the length and the tag, and no outcome waits. fwHeartbeat in phases 4 to 7: the count is one higher.
Readings of the model's own in it: notes/assumptions/6.md and notes/assumptions/94.md. Rests on: 14_control_plane.md,
Mailboxes to firmware, 14_control_plane.md Table 14.4, 16_boot_update.md, Configuration store, 16_boot_update.md,
Calibration record. -/
def Obligations.MailboxCommandsAndResponses : Prop :=
  (∀ (s : State) (t : Nat) (k : Fin 2) (tag : Byte) (words : List Word) (w : Served), s.boot.hold = 0 → s.owesError
      (hostMaster k) = false → (k = 1 → 3 ≤ s.phase) → s.busy.contains .hif = false → words.length ≤ 63 → s.mbx.length
      = 2 → s.get .hif (HIF.MBX_STAT_BUSY.at k.val) = 0 → s.get .hif (HIF.MBX_STAT_FW_READY.at k.val) = 1 → s.get .hif
      (HIF.MBX_STAT_DONE.at k.val) = 0 → ∃ u : State, exec (.echo t k tag words w) s = .next u ∧ u.get .hif
      (HIF.MBX_STAT_BUSY.at k.val) = 1 ∧ u.get .hif (HIF.MBX_STAT_TAG.at k.val) = tag.toNat ∧ nth u.mbx k.val none =
      some (0, words.map (·.toNat))) ∧
  (∀ (s : State) (t : Nat) (k : Fin 2) (tag : Byte) (words : List Word) (w : Served), s.boot.hold = 0 → s.owesError
      (hostMaster k) = false → (k = 1 → 3 ≤ s.phase) → s.busy.contains .hif = false → words.length ≤ 63 → s.mbx.length
      = 2 → s.get .hif (HIF.MBX_STAT_BUSY.at k.val) = 0 → s.get .hif (HIF.MBX_STAT_FW_READY.at k.val) = 1 → s.get .hif
      (HIF.MBX_STAT_DONE.at k.val) = 0 → words = [] → ∃ u : State, exec (.getVersions t k tag words w) s = .next u ∧
      u.get .hif (HIF.MBX_STAT_BUSY.at k.val) = 1 ∧ u.get .hif (HIF.MBX_STAT_TAG.at k.val) = tag.toNat ∧ nth u.mbx
      k.val none = some (0, (List.range 4).map (fun i => hdrVersion (s.runHdr i)) ++ (List.range 4).map (fun i =>
      hdrSvn (s.runHdr i)))) ∧
  (∀ (s : State) (t : Nat) (k : Fin 2) (tag : Byte) (words : List Word) (w : Served), s.boot.hold = 0 → s.owesError
      (hostMaster k) = false → (k = 1 → 3 ≤ s.phase) → s.busy.contains .hif = false → words.length ≤ 63 → s.mbx.length
      = 2 → s.get .hif (HIF.MBX_STAT_BUSY.at k.val) = 0 → s.get .hif (HIF.MBX_STAT_FW_READY.at k.val) = 1 → s.get .hif
      (HIF.MBX_STAT_DONE.at k.val) = 0 → words ≠ [] → ∃ u : State, exec (.getVersions t k tag words w) s = .next u ∧
      u.get .hif (HIF.MBX_STAT_BUSY.at k.val) = 1 ∧ u.get .hif (HIF.MBX_STAT_TAG.at k.val) = tag.toNat ∧ nth u.mbx
      k.val none = some (2, [])) ∧
  (∀ (s : State) (t : Nat) (k : Fin 2) (tag : Byte) (words : List Word) (w : Served), s.boot.hold = 0 → s.owesError
      (hostMaster k) = false → (k = 1 → 3 ≤ s.phase) → s.busy.contains .hif = false → words.length ≤ 63 → s.mbx.length
      = 2 → s.get .hif (HIF.MBX_STAT_BUSY.at k.val) = 0 → s.get .hif (HIF.MBX_STAT_FW_READY.at k.val) = 1 → s.get .hif
      (HIF.MBX_STAT_DONE.at k.val) = 0 → words = [] → ∃ u : State, exec (.getHealth t k tag words w) s = .next u ∧
      u.get .hif (HIF.MBX_STAT_BUSY.at k.val) = 1 ∧ u.get .hif (HIF.MBX_STAT_TAG.at k.val) = tag.toNat ∧ (∃ x : Nat,
      nth u.mbx k.val none = some (0, [x, (max s.now t - s.boot.coreAt) / cyclesPerSec, 0xF]))) ∧
  (∀ (s : State) (t : Nat) (k : Fin 2) (tag : Byte) (words : List Word) (w : Served), s.boot.hold = 0 → s.owesError
      (hostMaster k) = false → (k = 1 → 3 ≤ s.phase) → s.busy.contains .hif = false → words.length ≤ 63 → s.mbx.length
      = 2 → s.get .hif (HIF.MBX_STAT_BUSY.at k.val) = 0 → s.get .hif (HIF.MBX_STAT_FW_READY.at k.val) = 1 → s.get .hif
      (HIF.MBX_STAT_DONE.at k.val) = 0 → words.length = 1 → cfgKey (nth words 0 0).toNat = true → ∃ u : State, exec
      (.cfgRead t k tag words w) s = .next u ∧ u.get .hif (HIF.MBX_STAT_BUSY.at k.val) = 1 ∧ u.get .hif
      (HIF.MBX_STAT_TAG.at k.val) = tag.toNat ∧ nth u.mbx k.val none = some (0, (chunks 4 63 ((s.cfgValue (nth words 0
      0).toNat).getD [])).map packBytes)) ∧
  (∀ (s : State) (t : Nat) (k : Fin 2) (tag : Byte) (words : List Word) (w : Served), s.boot.hold = 0 → s.owesError
      (hostMaster k) = false → (k = 1 → 3 ≤ s.phase) → s.busy.contains .hif = false → words.length ≤ 63 → s.mbx.length
      = 2 → s.get .hif (HIF.MBX_STAT_BUSY.at k.val) = 0 → s.get .hif (HIF.MBX_STAT_FW_READY.at k.val) = 1 → s.get .hif
      (HIF.MBX_STAT_DONE.at k.val) = 0 → words.length = 1 → calKnown (nth words 0 0).toNat = true → ∃ u : State, exec
      (.calRead t k tag words w) s = .next u ∧ u.get .hif (HIF.MBX_STAT_BUSY.at k.val) = 1 ∧ u.get .hif
      (HIF.MBX_STAT_TAG.at k.val) = tag.toNat ∧ nth u.mbx k.val none = some (0, s.calItem (nth words 0 0).toNat)) ∧
  (∀ (s : State) (t : Nat) (k : Fin 2) (tag : Byte) (words : List Word) (w : Served), s.boot.hold = 0 → s.owesError
      (hostMaster k) = false → (k = 1 → 3 ≤ s.phase) → s.busy.contains .hif = false → words.length ≤ 63 → s.mbx.length
      = 2 → s.get .hif (HIF.MBX_STAT_BUSY.at k.val) = 0 → s.get .hif (HIF.MBX_STAT_FW_READY.at k.val) = 1 → s.get .hif
      (HIF.MBX_STAT_DONE.at k.val) = 0 → k = 0 → words ≠ [] → s.get .upd UPD.UPD_SESS_OPEN = 0 → w.store = true →
      cfgKey (nth words 0 0).toNat = true → cfgBody (nth words 0 0).toNat ((words.drop 1).map (·.toNat)) = true → ∃ u
      : State, exec (.cfgWrite t k tag words w) s = .next u ∧ u.get .hif (HIF.MBX_STAT_BUSY.at k.val) = 1 ∧ u.get .hif
      (HIF.MBX_STAT_TAG.at k.val) = tag.toNat ∧ nth u.mbx k.val none = some (0, []) ∧ u.flash.cfg = s.flash.cfg ++
      [{ key := (nth words 0 0).toNat, fmt := s.cfgFmt (nth words 0 0).toNat, seq := s.flash.cfgSeq, retired := false, tag := none, body := (words.drop 1).flatMap (fun x => leBytes x.toNat 4) }]) ∧
  (∀ (s : State) (t : Nat) (k : Fin 2) (tag : Byte) (words : List Word) (w : Served), s.boot.hold = 0 → s.owesError
      (hostMaster k) = false → (k = 1 → 3 ≤ s.phase) → s.busy.contains .hif = false → words.length ≤ 63 → s.mbx.length
      = 2 → s.get .hif (HIF.MBX_STAT_BUSY.at k.val) = 0 → s.get .hif (HIF.MBX_STAT_FW_READY.at k.val) = 1 → s.get .hif
      (HIF.MBX_STAT_DONE.at k.val) = 0 → k = 0 → s.get .upd UPD.UPD_SESS_OPEN = 0 → w.store = true → calKnown (nth
      words 0 0).toNat = true → words.length = 1 + calLen ((nth words 0 0).toNat / 65536) → calValue ((nth words 0
      0).toNat / 65536) ((words.drop 1).map (·.toNat)) = true → ∃ u : State, exec (.calWrite t k tag words w) s =
      .next u ∧ u.get .hif (HIF.MBX_STAT_BUSY.at k.val) = 1 ∧ u.get .hif (HIF.MBX_STAT_TAG.at k.val) = tag.toNat ∧ nth
      u.mbx k.val none = some (0, []) ∧ u.calItem (nth words 0 0).toNat = (words.drop 1).map (·.toNat)) ∧
  (∀ (s : State) (t : Nat) (k : Fin 2) (tag : Byte) (words : List Word) (w : Served), s.boot.hold = 0 → s.owesError
      (hostMaster k) = false → (k = 1 → 3 ≤ s.phase) → s.busy.contains .hif = false → words.length ≤ 63 → s.mbx.length
      = 2 → s.get .hif (HIF.MBX_STAT_BUSY.at k.val) = 0 → s.get .hif (HIF.MBX_STAT_FW_READY.at k.val) = 1 → s.get .hif
      (HIF.MBX_STAT_DONE.at k.val) = 0 → k = 1 → words ≠ [] → s.get .upd UPD.UPD_SESS_OPEN = 0 → w.store = true →
      cfgKey (nth words 0 0).toNat = true → cfgBody (nth words 0 0).toNat ((words.drop 1).map (·.toNat)) = true → ∃ u
      : State, exec (.cfgWrite t k tag words w) s = .next u ∧ u.get .hif (HIF.MBX_STAT_BUSY.at k.val) = 1 ∧ u.get .hif
      (HIF.MBX_STAT_TAG.at k.val) = tag.toNat ∧ nth u.mbx k.val none = some (4, []) ∧ u.flash = s.flash) ∧
  (∀ (s : State) (t : Nat) (k : Fin 2) (tag : Byte) (words : List Word) (w : Served), s.boot.hold = 0 → s.owesError
      (hostMaster k) = false → (k = 1 → 3 ≤ s.phase) → s.busy.contains .hif = false → words.length ≤ 63 → s.mbx.length
      = 2 → s.get .hif (HIF.MBX_STAT_BUSY.at k.val) = 0 → s.get .hif (HIF.MBX_STAT_DONE.at k.val) = 1 → ∃ u : State,
      exec (.echo t k tag words w) s = .next u ∧ u.get .hif (HIF.MBX_STAT_REJECTS.at k.val) = sat
      HIF.MBX_STAT_REJECTS.w (s.get .hif (HIF.MBX_STAT_REJECTS.at k.val) + 1) ∧ u.get .hif HIF.INT_STAT_MBX_REJECT = 1
      ∧ u.mbx = s.mbx) ∧
  (∀ (s : State) (t : Nat) (k : Fin 2), s.takes (hostMaster k) .hif (0x100 + 0x10 * k.val) → s.mbx.length = 2 → s.get
      .hif (HIF.MBX_STAT_BUSY.at k.val) = 1 → ∃ u : State, exec (.mbxAbort t k) s = .next u ∧ nth u.mbx k.val none =
      some (6, [])) ∧
  (∀ (s : State) (t : Nat) (k : Fin 2) (st : Nat) (ws : List Nat), s.boot.hold = 0 → s.mbx.length = 2 → nth s.mbx
      k.val none = some (st, ws) → st < 65536 → ws.length ≤ 63 → ∃ u : State, exec (.mbxResponse t k) s = .next u ∧
      u.get .hif (HIF.MBX_STAT_BUSY.at k.val) = 0 ∧ u.get .hif (HIF.MBX_STAT_DONE.at k.val) = 1 ∧ u.get .hif (if k = 0
      then HIF.INT_STAT_MBX0_DONE else HIF.INT_STAT_MBX1_DONE) = 1 ∧ u.get .hif (HIF.MBX_RSP_WORD.at2 k.val 0) = st *
      65536 + ws.length * 256 + s.get .hif (HIF.MBX_STAT_TAG.at k.val) ∧ nth u.mbx k.val none = none) ∧
  (∀ (s : State) (t : Nat), s.boot.hold = 0 → 4 ≤ s.phase → s.phase ≤ 7 → ∃ u : State, exec (.fwHeartbeat t) s = .next
      u ∧ u.get .hif HIF.FW_HEARTBEAT_COUNT = (s.get .hif HIF.FW_HEARTBEAT_COUNT + 1) % 2 ^ HIF.FW_HEARTBEAT_COUNT.w)

/-- The clauses are on a device that is not held in reset. busGrant at a target without a lock, of waiting masters
with plain transactions that may reach it, none of which owes an error: where none has waited beyond AGE_LIM, the one
whose priority is above all others' is granted and the grant is counted; where one that has waited beyond it has
waited longer than all others, that one is granted, AGED_CNT is one higher, saturating, and AGED is raised. lockBreak
of a lock held for more than 4,096 cycles of 594 MHz: the target has no lock, its holder owes an error, LOCK_BREAK_CNT
is one higher, saturating, LOCK_BREAK is raised, a real contained fault is recorded and normal service has ended.
mreset: MRESET_CNT is one higher, saturating, MRESET is raised and the master holds no lock. coreWatchdog with room in
the event queue: the master of the core holds no lock, and an event 0x0031 of the BUSM page with the number of the
core is queued. Readings of the model's own in it: notes/assumptions/27.md and notes/assumptions/96.md. Rests on:
14_control_plane.md, Bus matrix, 17_faults_records.md Table 17.3. -/
def Obligations.TheBusMatrixArbitrates : Prop :=
  (∀ (s : State) (t : Nat) (target : Fin 6) (waiting : List Waiter) (x : Waiter), s.boot.hold = 0 → nth s.bus.locks
      target.val none = none → s.bus.last.length = 6 → x ∈ waiting → (∀ y ∈ waiting, y.kind = 0 ∧ y.m < 9) →
      s.bus.errNext = [] → (∀ y ∈ waiting, s.mayTarget y.m target.val = true) → (∀ y ∈ waiting, y.waited ≤ max 1
      (s.get .busm BUSM.AGE_LIM_CYC)) → (∀ y ∈ waiting, y = x ∨ s.prio target.val y.m < s.prio target.val x.m) → ∃ u :
      State, exec (.busGrant t target waiting) s = .next u ∧ nth u.bus.last target.val 0 = x.m ∧ u.get .busm
      (BUSM.GRANT_CNT.at target.val) = (s.get .busm (BUSM.GRANT_CNT.at target.val) + 1) % 2 ^ BUSM.GRANT_CNT.w) ∧
  (∀ (s : State) (t : Nat) (target : Fin 6) (waiting : List Waiter) (x : Waiter), s.boot.hold = 0 → nth s.bus.locks
      target.val none = none → s.bus.last.length = 6 → x ∈ waiting → (∀ y ∈ waiting, y.kind = 0 ∧ y.m < 9) →
      s.bus.errNext = [] → (∀ y ∈ waiting, s.mayTarget y.m target.val = true) → max 1 (s.get .busm BUSM.AGE_LIM_CYC) <
      x.waited → (∀ y ∈ waiting, y = x ∨ y.waited < x.waited) → ∃ u : State, exec (.busGrant t target waiting) s =
      .next u ∧ nth u.bus.last target.val 0 = x.m ∧ u.get .busm BUSM.AGED_CNT = sat BUSM.AGED_CNT.w (s.get .busm
      BUSM.AGED_CNT + 1) ∧ u.get .busm BUSM.INT_STAT_AGED = 1) ∧
  (∀ (s : State) (t : Nat) (target : Fin 6) (h : Nat × Nat), s.boot.hold = 0 → nth s.bus.locks target.val none = some
      h → h.2 + 8192 < max s.now t → ∃ u : State, exec (.lockBreak t target) s = .next u ∧ nth u.bus.locks target.val
      none = none ∧ h.1 ∈ u.bus.errNext ∧ u.get .busm BUSM.LOCK_BREAK_CNT = sat BUSM.LOCK_BREAK_CNT.w (s.get .busm
      BUSM.LOCK_BREAK_CNT + 1) ∧ u.get .busm BUSM.INT_STAT_LOCK_BREAK = 1 ∧ u.get .busm HDR.FAULT_STAT_CONT_REAL = 1 ∧
      u.normal = false) ∧
  (∀ (s : State) (t : Nat) (master : Fin 9) (target : Fin 6) (nulled : Nat), s.boot.hold = 0 → ∃ u : State, exec
      (.mreset t master target nulled) s = .next u ∧ u.get .busm BUSM.MRESET_CNT = sat BUSM.MRESET_CNT.w (s.get .busm
      BUSM.MRESET_CNT + 1) ∧ u.get .busm BUSM.INT_STAT_MRESET = 1 ∧ (∀ c : Nat, some (master.val, c) ∉ u.bus.locks)) ∧
  (∀ (s : State) (t : Nat) (core : Fin 4) (flight : Option (Nat × Nat)), s.boot.hold = 0 → s.evr.queue.length < 64 → ∃
      u : State, exec (.coreWatchdog t core flight) s = .next u ∧ (∀ c : Nat, some (2 + core.val, c) ∉ u.bus.locks) ∧
      (∃ e ∈ u.evr.queue, e.code = 0x0031 ∧ e.page = Page.num .busm ∧ e.p0 = core.val))

/-- The clauses are on a device not held in reset with whole writes of the four command words taken, the KEY page not
initialising, neither BUSY nor DONE, and no tamper input active; in each, BUSY is 1 afterwards and the command ends
with STATUS 0 unless another is named. In lifecycle states 1 and 2: nodeDefine with a valid root, attribute 2 or 3, an
undefined node and the root or a defined node of attribute 3 as parent: the node is defined with that attribute and
parent. nodeDefine of such a node under the root without a valid root: STATUS 0x000A. nodeInvalidate of a defined
node: its GEN is one higher and every full slot recorded under it is empty. nodeDelete of a defined node without a
child: it is not defined. genIdentity with a valid root, no identity, an epoch below 8, entropy and a fuse write that
succeeds: an identity is there, the epoch is one higher and is the response. lcAdvance in state 1 or 2 to the next
state, to 2 only with an identity: that is the lifecycle state; in 2 TAMP is locked; in 3 there is no root, no node
and no identity. lcAdvance from state 0 to 1: debug is locked and there is a root. In state 1: tamperConfig of modes
none of which is 3 sets them; custkeySet of an empty slot other than 0, with a fuse write that succeeds, holds the
SHA-256 of the first 384 bytes of KEY_BUF. Readings of the model's own in it: notes/assumptions/6.md and
notes/assumptions/100.md and notes/assumptions/149.md. Rests on: 15_keys_security.md Table 15.4, 15_keys_security.md,
The coppice, 15_keys_security.md, Commands, 15_keys_security.md, Identity and attestation, 15_keys_security.md, OTP
and lifecycle. -/
def Obligations.CoppiceCommandsChangeTheirNodes : Prop :=
  (∀ (s : State) (t : Nat) (m : Master) (a0 : Word) (a1 : Word) (a2 : Word) (w : Served), s.takesAll m .key [0x040,
      0x044, 0x048, 0x04C] → s.busy.contains .key = false → s.get .key KEY.KEY_STAT_BUSY = 0 → s.get .key
      KEY.KEY_STAT_DONE = 0 → s.keys.tampActive = false → (s.otp.lc = 1 ∨ s.otp.lc = 2) → s.rootKey ≠ none → 2 ≤ (bits
      a0.toNat 22 2) → bits a1.toNat 0 7 ≤ 0x40 → (s.node (bits a0.toNat 16 6)).defined = false → (bits a1.toNat 0 7 =
      0x40 ∨ s.nodeIs (bits a1.toNat 0 7) 3 = true) → ∃ u : State, exec (.nodeDefine t m a0 a1 a2 w) s = .next u ∧
      u.get .key KEY.KEY_STAT_BUSY = 1 ∧ u.keys.run = some (0, 0, false) ∧ u.node (bits a0.toNat 16 6) =
      { s.node (bits a0.toNat 16 6) with defined := true, attr := (bits a0.toNat 22 2), parent := bits a1.toNat 0 7 }) ∧
  (∀ (s : State) (t : Nat) (m : Master) (a0 : Word) (a1 : Word) (a2 : Word) (w : Served), s.takesAll m .key [0x040,
      0x044, 0x048, 0x04C] → s.busy.contains .key = false → s.get .key KEY.KEY_STAT_BUSY = 0 → s.get .key
      KEY.KEY_STAT_DONE = 0 → s.keys.tampActive = false → (s.otp.lc = 1 ∨ s.otp.lc = 2) → s.rootKey = none → 2 ≤ (bits
      a0.toNat 22 2) → bits a1.toNat 0 7 = 0x40 → (s.node (bits a0.toNat 16 6)).defined = false → ∃ u : State, exec
      (.nodeDefine t m a0 a1 a2 w) s = .next u ∧ u.get .key KEY.KEY_STAT_BUSY = 1 ∧ u.keys.run = some (0xA, 0, false)
      ∧ u.vbat = s.vbat) ∧
  (∀ (s : State) (t : Nat) (m : Master) (a0 : Word) (a1 : Word) (a2 : Word) (w : Served), s.takesAll m .key [0x040,
      0x044, 0x048, 0x04C] → s.busy.contains .key = false → s.get .key KEY.KEY_STAT_BUSY = 0 → s.get .key
      KEY.KEY_STAT_DONE = 0 → s.keys.tampActive = false → (s.otp.lc = 1 ∨ s.otp.lc = 2) → s.rootKey ≠ none → (s.node
      (bits a0.toNat 16 6)).defined = true → ∃ u : State, exec (.nodeInvalidate t m a0 a1 a2 w) s = .next u ∧ u.get
      .key KEY.KEY_STAT_BUSY = 1 ∧ u.keys.run = some (0, 0, false) ∧ (u.node (bits a0.toNat 16 6)).gen = ((s.node
      (bits a0.toNat 16 6)).gen + 1) % 65536 ∧ (∀ k : Fin 512, s.get .key (KEY.SLOT_STAT_FULL.at k.val) = 1 → s.get
      .key (KEY.SLOT_STAT_NODE.at k.val) = (bits a0.toNat 16 6) → u.get .key (KEY.SLOT_STAT_FULL.at k.val) = 0)) ∧
  (∀ (s : State) (t : Nat) (m : Master) (a0 : Word) (a1 : Word) (a2 : Word) (w : Served), s.takesAll m .key [0x040,
      0x044, 0x048, 0x04C] → s.busy.contains .key = false → s.get .key KEY.KEY_STAT_BUSY = 0 → s.get .key
      KEY.KEY_STAT_DONE = 0 → s.keys.tampActive = false → (s.otp.lc = 1 ∨ s.otp.lc = 2) → s.rootKey ≠ none → (s.node
      (bits a0.toNat 16 6)).defined = true → s.hasChild (bits a0.toNat 16 6) = false → ∃ u : State, exec (.nodeDelete
      t m a0 a1 a2 w) s = .next u ∧ u.get .key KEY.KEY_STAT_BUSY = 1 ∧ u.keys.run = some (0, 0, false) ∧ (u.node (bits
      a0.toNat 16 6)).defined = false) ∧
  (∀ (s : State) (t : Nat) (m : Master) (a0 : Word) (a1 : Word) (a2 : Word) (w : Served), s.takesAll m .key [0x040,
      0x044, 0x048, 0x04C] → s.busy.contains .key = false → s.get .key KEY.KEY_STAT_BUSY = 0 → s.get .key
      KEY.KEY_STAT_DONE = 0 → s.keys.tampActive = false → s.otp.lc = 1 → (∀ j : Fin 4, bits a0.toNat (2 * j.val) 2 ≠
      3) → ∃ u : State, exec (.tamperConfig t m a0 a1 a2 w) s = .next u ∧ u.get .key KEY.KEY_STAT_BUSY = 1 ∧
      u.keys.run = some (0, 0, false) ∧ u.vbat.tampCfg = bits a0.toNat 0 8) ∧
  (∀ (s : State) (t : Nat) (m : Master) (a0 : Word) (a1 : Word) (a2 : Word) (w : Served), s.takesAll m .key [0x040,
      0x044, 0x048, 0x04C] → s.busy.contains .key = false → s.get .key KEY.KEY_STAT_BUSY = 0 → s.get .key
      KEY.KEY_STAT_DONE = 0 → s.keys.tampActive = false → s.otp.lc = 1 → bits a0.toNat 0 2 ≠ 0 → s.otp.keyHash.length
      = 4 → nth s.otp.keyHash (bits a0.toNat 0 2) none = none → w.store = true → ∃ u : State, exec (.custkeySet t m a0
      a1 a2 w) s = .next u ∧ u.get .key KEY.KEY_STAT_BUSY = 1 ∧ u.keys.run = some (0, 0, false) ∧ nth u.otp.keyHash
      (bits a0.toNat 0 2) none = some (sha256 (s.keyBuf 0 384))) ∧
  (∀ (s : State) (t : Nat) (m : Master) (a0 : Word) (a1 : Word) (a2 : Word) (w : Served), s.takesAll m .key [0x040,
      0x044, 0x048, 0x04C] → s.busy.contains .key = false → s.get .key KEY.KEY_STAT_BUSY = 0 → s.get .key
      KEY.KEY_STAT_DONE = 0 → s.keys.tampActive = false → (s.otp.lc = 1 ∨ s.otp.lc = 2) → bits a0.toNat 0 2 = s.otp.lc
      + 1 → (bits a0.toNat 0 2 = 2 → s.identity ≠ none) → w.store = true → ∃ u : State, exec (.lcAdvance t m a0 a1 a2
      w) s = .next u ∧ u.get .key KEY.KEY_STAT_BUSY = 1 ∧ u.keys.run = some (0, 0, false) ∧ u.otp.lc = bits a0.toNat 0
      2 ∧ (bits a0.toNat 0 2 = 2 → u.otp.tampLock = true) ∧ (bits a0.toNat 0 2 = 3 → u.vbat.root = none ∧ u.vbat.nodes
      = [] ∧ u.identity = none)) ∧
  (∀ (s : State) (t : Nat) (m : Master) (a0 : Word) (a1 : Word) (a2 : Word) (w : Served), s.takesAll m .key [0x040,
      0x044, 0x048, 0x04C] → s.busy.contains .key = false → s.get .key KEY.KEY_STAT_BUSY = 0 → s.get .key
      KEY.KEY_STAT_DONE = 0 → s.keys.tampActive = false → s.otp.lc = 0 → bits a0.toNat 0 2 = 1 → w.store = true →
      w.entropy = true → ∃ u : State, exec (.lcAdvance t m a0 a1 a2 w) s = .next u ∧ u.get .key KEY.KEY_STAT_BUSY = 1
      ∧ u.keys.run = some (0, 0, false) ∧ u.otp.lc = 1 ∧ u.otp.debugLock = true ∧ u.vbat.root ≠ none) ∧
  (∀ (s : State) (t : Nat) (m : Master) (a0 : Word) (a1 : Word) (a2 : Word) (w : Served), s.takesAll m .key [0x040,
      0x044, 0x048, 0x04C] → s.busy.contains .key = false → s.get .key KEY.KEY_STAT_BUSY = 0 → s.get .key
      KEY.KEY_STAT_DONE = 0 → s.keys.tampActive = false → (s.otp.lc = 1 ∨ s.otp.lc = 2) → s.rootKey ≠ none →
      s.identity = none → s.otp.idEpoch < 8 → w.store = true → w.entropy = true → ∃ u : State, exec (.genIdentity t m
      a0 a1 a2 w) s = .next u ∧ u.get .key KEY.KEY_STAT_BUSY = 1 ∧ u.keys.run = some (0, s.otp.idEpoch + 1, false) ∧
      u.identity ≠ none ∧ u.otp.idEpoch = s.otp.idEpoch + 1)

/-- The clauses are on a device not held in reset with whole writes of the four command words taken, the KEY page not
initialising, neither BUSY nor DONE, and no tamper input active; in each, BUSY is 1 afterwards. All but the one of
unload are in lifecycle states 0 to 2 with a valid root. generate, derive, importKey and unwrapKw, with an attribute
other than 3 and, in turn, a defined node of attribute 2, one of attribute 3, one of attribute 2, and a full wrapping
slot of attribute 2: STATUS 0, the slot is full with its origin, attribute, length and node, and LGEN is one higher;
the key of generate, with entropy, is a free value of its length, that of importKey the first bytes of KEY_BUF, that
of unwrapKw what the key of the wrapping slot unwraps from KEY_BUF. generate without entropy: STATUS 0x000D,
ENTROPY_FAIL raised, and the keys of the slots as before. load of a blob whose header and wrapped copy of it agree,
with the identity of the device and the root, a node of attribute 2 and its generation: STATUS 0, the key ID of the
header as response, and the slot is full with the unwrapped key under that node. unload: the slot is empty and LGEN is
one higher. exportKey of a full slot under a node of attribute 2: STATUS 0, KEY_BUF starts with the three header bytes
and holds the node, and the keys of the slots are as before. Readings of the model's own in it: notes/assumptions/6.md
and notes/assumptions/98.md. Rests on: 15_keys_security.md, Slots and blobs, 15_keys_security.md Table 15.3,
15_keys_security.md, Commands, 15_keys_security.md Table 15.4. -/
def Obligations.KeySlotCommandsFillTheirSlots : Prop :=
  (∀ (s : State) (t : Nat) (m : Master) (a0 : Word) (a1 : Word) (a2 : Word) (w : Served), s.takesAll m .key [0x040,
      0x044, 0x048, 0x04C] → s.busy.contains .key = false → s.get .key KEY.KEY_STAT_BUSY = 0 → s.get .key
      KEY.KEY_STAT_DONE = 0 → s.keys.tampActive = false → s.otp.lc ≤ 2 → s.rootKey ≠ none → (bits a0.toNat 22 2) ≠ 3 →
      s.nodeIs (bits a0.toNat 16 6) 2 = true → w.entropy = true → ∃ u : State, exec (.generate t m a0 a1 a2 w) s =
      .next u ∧ u.get .key KEY.KEY_STAT_BUSY = 1 ∧ u.keys.run = some (0, 0, false) ∧ u.keys.slots.get (bits a0.toNat 0
      9) [] = beBytes (Config.freeValue s.free (8 * (if bits a0.toNat 24 1 = 1 then 32 else 16))).toNat (if bits
      a0.toNat 24 1 = 1 then 32 else 16) ∧ u.get .key (KEY.SLOT_STAT_FULL.at (bits a0.toNat 0 9)) = 1 ∧ u.get .key
      (KEY.SLOT_STAT_ORIGIN.at (bits a0.toNat 0 9)) = 0 ∧ u.get .key (KEY.SLOT_STAT_ATTR.at (bits a0.toNat 0 9)) =
      (bits a0.toNat 22 2) ∧ u.get .key (KEY.SLOT_STAT_NODE.at (bits a0.toNat 0 9)) = (bits a0.toNat 16 6) ∧ u.get
      .key (KEY.SLOT_STAT_LEN.at (bits a0.toNat 0 9)) = bits a0.toNat 24 1 ∧ u.get .key (KEY.SLOT_STAT_LGEN.at (bits
      a0.toNat 0 9)) = (s.get .key (KEY.SLOT_STAT_LGEN.at (bits a0.toNat 0 9)) + 1) % 2 ^ KEY.SLOT_STAT_LGEN.w) ∧
  (∀ (s : State) (t : Nat) (m : Master) (a0 : Word) (a1 : Word) (a2 : Word) (w : Served), s.takesAll m .key [0x040,
      0x044, 0x048, 0x04C] → s.busy.contains .key = false → s.get .key KEY.KEY_STAT_BUSY = 0 → s.get .key
      KEY.KEY_STAT_DONE = 0 → s.keys.tampActive = false → s.otp.lc ≤ 2 → s.rootKey ≠ none → (bits a0.toNat 22 2) ≠ 3 →
      s.nodeIs (bits a0.toNat 16 6) 2 = true → w.entropy = false → ∃ u : State, exec (.generate t m a0 a1 a2 w) s =
      .next u ∧ u.get .key KEY.KEY_STAT_BUSY = 1 ∧ u.keys.run = some (0xD, 0, false) ∧ u.get .key
      KEY.INT_STAT_ENTROPY_FAIL = 1 ∧ u.keys.slots = s.keys.slots) ∧
  (∀ (s : State) (t : Nat) (m : Master) (a0 : Word) (a1 : Word) (a2 : Word) (w : Served), s.takesAll m .key [0x040,
      0x044, 0x048, 0x04C] → s.busy.contains .key = false → s.get .key KEY.KEY_STAT_BUSY = 0 → s.get .key
      KEY.KEY_STAT_DONE = 0 → s.keys.tampActive = false → s.otp.lc ≤ 2 → s.rootKey ≠ none → (bits a0.toNat 22 2) ≠ 3 →
      s.nodeIs (bits a0.toNat 16 6) 3 = true → ∃ u : State, exec (.derive t m a0 a1 a2 w) s = .next u ∧ u.get .key
      KEY.KEY_STAT_BUSY = 1 ∧ u.keys.run = some (0, 0, false) ∧ u.get .key (KEY.SLOT_STAT_FULL.at (bits a0.toNat 0 9))
      = 1 ∧ u.get .key (KEY.SLOT_STAT_ORIGIN.at (bits a0.toNat 0 9)) = 1 ∧ u.get .key (KEY.SLOT_STAT_ATTR.at (bits
      a0.toNat 0 9)) = (bits a0.toNat 22 2) ∧ u.get .key (KEY.SLOT_STAT_NODE.at (bits a0.toNat 0 9)) = (bits a0.toNat
      16 6) ∧ u.get .key (KEY.SLOT_STAT_LEN.at (bits a0.toNat 0 9)) = bits a0.toNat 24 1 ∧ u.get .key
      (KEY.SLOT_STAT_LGEN.at (bits a0.toNat 0 9)) = (s.get .key (KEY.SLOT_STAT_LGEN.at (bits a0.toNat 0 9)) + 1) % 2 ^
      KEY.SLOT_STAT_LGEN.w) ∧
  (∀ (s : State) (t : Nat) (m : Master) (a0 : Word) (a1 : Word) (a2 : Word) (w : Served), s.takesAll m .key [0x040,
      0x044, 0x048, 0x04C] → s.busy.contains .key = false → s.get .key KEY.KEY_STAT_BUSY = 0 → s.get .key
      KEY.KEY_STAT_DONE = 0 → s.keys.tampActive = false → s.otp.lc ≤ 2 → s.rootKey ≠ none → (bits a0.toNat 22 2) ≠ 3 →
      s.nodeIs (bits a0.toNat 16 6) 2 = true → ∃ u : State, exec (.importKey t m a0 a1 a2 w) s = .next u ∧ u.get .key
      KEY.KEY_STAT_BUSY = 1 ∧ u.keys.run = some (0, 0, false) ∧ u.keys.slots.get (bits a0.toNat 0 9) [] = s.keyBuf 0
      (if bits a0.toNat 24 1 = 1 then 32 else 16) ∧ u.get .key (KEY.SLOT_STAT_FULL.at (bits a0.toNat 0 9)) = 1 ∧ u.get
      .key (KEY.SLOT_STAT_ORIGIN.at (bits a0.toNat 0 9)) = 2 ∧ u.get .key (KEY.SLOT_STAT_ATTR.at (bits a0.toNat 0 9))
      = (bits a0.toNat 22 2) ∧ u.get .key (KEY.SLOT_STAT_NODE.at (bits a0.toNat 0 9)) = (bits a0.toNat 16 6) ∧ u.get
      .key (KEY.SLOT_STAT_LEN.at (bits a0.toNat 0 9)) = bits a0.toNat 24 1 ∧ u.get .key (KEY.SLOT_STAT_LGEN.at (bits
      a0.toNat 0 9)) = (s.get .key (KEY.SLOT_STAT_LGEN.at (bits a0.toNat 0 9)) + 1) % 2 ^ KEY.SLOT_STAT_LGEN.w) ∧
  (∀ (s : State) (t : Nat) (m : Master) (a0 : Word) (a1 : Word) (a2 : Word) (w : Served) (key : List Nat), s.takesAll
      m .key [0x040, 0x044, 0x048, 0x04C] → s.busy.contains .key = false → s.get .key KEY.KEY_STAT_BUSY = 0 → s.get
      .key KEY.KEY_STAT_DONE = 0 → s.keys.tampActive = false → s.otp.lc ≤ 2 → s.rootKey ≠ none → (bits a0.toNat 22 2)
      ≠ 3 → s.get .key (KEY.SLOT_STAT_FULL.at (bits a1.toNat 16 9)) = 1 → s.get .key (KEY.SLOT_STAT_ATTR.at (bits
      a1.toNat 16 9)) = 2 → kwUnwrap (s.keys.slots.get (bits a1.toNat 16 9) []) (s.keyBuf 0 ((if bits a0.toNat 24 1 =
      1 then 32 else 16) + 8)) = some key → key.length = (if bits a0.toNat 24 1 = 1 then 32 else 16) → ∃ u : State,
      exec (.unwrapKw t m a0 a1 a2 w) s = .next u ∧ u.get .key KEY.KEY_STAT_BUSY = 1 ∧ u.keys.run = some (0, 0, false)
      ∧ u.keys.slots.get (bits a0.toNat 0 9) [] = key ∧ u.get .key (KEY.SLOT_STAT_FULL.at (bits a0.toNat 0 9)) = 1 ∧
      u.get .key (KEY.SLOT_STAT_ORIGIN.at (bits a0.toNat 0 9)) = 2 ∧ u.get .key (KEY.SLOT_STAT_ATTR.at (bits a0.toNat
      0 9)) = (bits a0.toNat 22 2) ∧ u.get .key (KEY.SLOT_STAT_NODE.at (bits a0.toNat 0 9)) = s.get .key
      (KEY.SLOT_STAT_NODE.at (bits a1.toNat 16 9)) ∧ u.get .key (KEY.SLOT_STAT_LEN.at (bits a0.toNat 0 9)) = bits
      a0.toNat 24 1 ∧ u.get .key (KEY.SLOT_STAT_LGEN.at (bits a0.toNat 0 9)) = (s.get .key (KEY.SLOT_STAT_LGEN.at
      (bits a0.toNat 0 9)) + 1) % 2 ^ KEY.SLOT_STAT_LGEN.w) ∧
  (∀ (s : State) (t : Nat) (m : Master) (a0 : Word) (a1 : Word) (a2 : Word) (w : Served) (h : List Nat) (len : Nat) (p
      : List Nat), s.takesAll m .key [0x040, 0x044, 0x048, 0x04C] → s.busy.contains .key = false → s.get .key
      KEY.KEY_STAT_BUSY = 0 → s.get .key KEY.KEY_STAT_DONE = 0 → s.keys.tampActive = false → s.otp.lc ≤ 2 → s.rootKey
      ≠ none → h = s.keyBuf 0 32 → len = (if bitAt (nth h 3 0) 2 = 1 then 104 else 88) → h.take 3 = [0x5A, 0x4B, 0x01]
      → (h.drop 16).take 8 = s.uniqueBytes → (h.drop 8).take 4 = s.rootIdBytes → nth h 4 0 < 64 → s.nodeIs (nth h 4 0)
      2 = true → (h.drop 6).take 2 = leBytes (s.node (nth h 4 0)).gen 2 → kwpUnwrap (s.nodeKeyOf (nth h 4 0))
      (s.keyBuf 32 (len - 32)) = some p → p.take 32 = h → p.length + 40 = len → ∃ u : State, exec (.load t m a0 a1 a2
      w) s = .next u ∧ u.get .key KEY.KEY_STAT_BUSY = 1 ∧ u.keys.run = some (0, packBytes ((h.drop 12).take 4), false)
      ∧ u.keys.slots.get (bits a0.toNat 0 9) [] = p.drop 32 ∧ u.get .key (KEY.SLOT_STAT_FULL.at (bits a0.toNat 0 9)) =
      1 ∧ u.get .key (KEY.SLOT_STAT_NODE.at (bits a0.toNat 0 9)) = nth h 4 0) ∧
  (∀ (s : State) (t : Nat) (m : Master) (a0 : Word) (a1 : Word) (a2 : Word) (w : Served), s.takesAll m .key [0x040,
      0x044, 0x048, 0x04C] → s.busy.contains .key = false → s.get .key KEY.KEY_STAT_BUSY = 0 → s.get .key
      KEY.KEY_STAT_DONE = 0 → s.keys.tampActive = false → ∃ u : State, exec (.unload t m a0 a1 a2 w) s = .next u ∧
      u.get .key KEY.KEY_STAT_BUSY = 1 ∧ u.keys.run = some (0, 0, false) ∧ u.get .key (KEY.SLOT_STAT_FULL.at (bits
      a0.toNat 0 9)) = 0 ∧ u.keys.slots.get (bits a0.toNat 0 9) [] = [] ∧ u.get .key (KEY.SLOT_STAT_LGEN.at (bits
      a0.toNat 0 9)) = (s.get .key (KEY.SLOT_STAT_LGEN.at (bits a0.toNat 0 9)) + 1) % 2 ^ KEY.SLOT_STAT_LGEN.w) ∧
  (∀ (s : State) (t : Nat) (m : Master) (a0 : Word) (a1 : Word) (a2 : Word) (w : Served), s.takesAll m .key [0x040,
      0x044, 0x048, 0x04C] → s.busy.contains .key = false → s.get .key KEY.KEY_STAT_BUSY = 0 → s.get .key
      KEY.KEY_STAT_DONE = 0 → s.keys.tampActive = false → s.otp.lc ≤ 2 → s.rootKey ≠ none → s.get .key
      (KEY.SLOT_STAT_FULL.at (bits a0.toNat 0 9)) = 1 → s.nodeIs (s.get .key (KEY.SLOT_STAT_NODE.at (bits a0.toNat 0
      9))) 2 = true → ∃ u : State, exec (.exportKey t m a0 a1 a2 w) s = .next u ∧ u.get .key KEY.KEY_STAT_BUSY = 1 ∧
      (u.keys.run.map (·.1)) = some 0 ∧ u.keyBuf 0 3 = [0x5A, 0x4B, 0x01] ∧ nth (u.keyBuf 0 32) 4 0 = s.get .key
      (KEY.SLOT_STAT_NODE.at (bits a0.toNat 0 9)) ∧ u.keys.slots = s.keys.slots)

/-- The clauses of commands are on a device not held in reset with whole writes of the four command words taken, the
KEY page not initialising, neither BUSY nor DONE, and no tamper input active; in each, BUSY is 1 afterwards.
getIdentity while debug is locked, with an identity: STATUS 0 and its modulus in KEY_BUF. attest with debug open or an
identity, and without a slot: STATUS 0, and KEY_BUF starts with the magic, the version, the length and UNIQUE_ID. In
lifecycle states 1 and 2: dbgChallenge with entropy: STATUS 0 and 32 free bytes as the standing challenge; dbgUnlock
with a signature over the challenge and UNIQUE_ID by an accepted signer: STATUS 0, debug is open, the challenge is
used up, DEBUG_OPEN is raised and every slot is empty; dbgUnlock without a challenge: STATUS 0x000B and debug as
before; revoke, signed by an accepted signer of another slot, while another written slot stays: STATUS 0 and the slot
is revoked. keyCommandComplete of a running command, on a device not held in reset: BUSY 0, DONE 1, its STATUS and
response shown, CMD_DONE raised, CMD_CNT one higher, no command runs, and KEY_BUF is zero where it holds no output.
tamperTrip of a detector that can trip: there is no root and no node, and the tamper count is one higher; with main
power there is no identity, TAMPER is raised, a real contained fault is recorded, normal service has ended and every
slot is empty; without it the latch and its mark of darkness are set. Readings of the model's own in it:
notes/assumptions/6.md and notes/assumptions/98.md. Rests on: 15_keys_security.md, Identity and attestation,
15_keys_security.md, OTP and lifecycle, 15_keys_security.md, Commands, 15_keys_security.md Table 15.6,
15_keys_security.md, The root and its tamper sources. -/
def Obligations.IdentityDebugAndCompletion : Prop :=
  (∀ (s : State) (t : Nat) (m : Master) (a0 : Word) (a1 : Word) (a2 : Word) (w : Served) (modulus : List Nat),
      s.takesAll m .key [0x040, 0x044, 0x048, 0x04C] → s.busy.contains .key = false → s.get .key KEY.KEY_STAT_BUSY = 0
      → s.get .key KEY.KEY_STAT_DONE = 0 → s.keys.tampActive = false → s.debugOpen = false → s.identity = some modulus
      → modulus.length = 384 → (∀ b ∈ modulus, b < 256) → ∃ u : State, exec (.getIdentity t m a0 a1 a2 w) s = .next u
      ∧ u.get .key KEY.KEY_STAT_BUSY = 1 ∧ u.keys.run = some (0, 0, true) ∧ u.keyBuf 0 384 = modulus) ∧
  (∀ (s : State) (t : Nat) (m : Master) (a0 : Word) (a1 : Word) (a2 : Word) (w : Served), s.takesAll m .key [0x040,
      0x044, 0x048, 0x04C] → s.busy.contains .key = false → s.get .key KEY.KEY_STAT_BUSY = 0 → s.get .key
      KEY.KEY_STAT_DONE = 0 → s.keys.tampActive = false → (s.debugOpen = true ∨ s.identity ≠ none) → bits a0.toNat 31
      1 = 0 → ∃ u : State, exec (.attest t m a0 a1 a2 w) s = .next u ∧ u.get .key KEY.KEY_STAT_BUSY = 1 ∧ u.keys.run =
      some (0, 0, true) ∧ u.keyBuf 0 16 = leBytes 0x41545A31 4 ++ leBytes 1 2 ++ leBytes 256 2 ++ s.uniqueBytes) ∧
  (∀ (s : State) (t : Nat) (m : Master) (a0 : Word) (a1 : Word) (a2 : Word) (w : Served), s.takesAll m .key [0x040,
      0x044, 0x048, 0x04C] → s.busy.contains .key = false → s.get .key KEY.KEY_STAT_BUSY = 0 → s.get .key
      KEY.KEY_STAT_DONE = 0 → s.keys.tampActive = false → (s.otp.lc = 1 ∨ s.otp.lc = 2) → w.entropy = true → ∃ u :
      State, exec (.dbgChallenge t m a0 a1 a2 w) s = .next u ∧ u.get .key KEY.KEY_STAT_BUSY = 1 ∧ u.keys.run = some
      (0, 0, true) ∧ u.keys.challenge = some (beBytes (Config.freeValue s.free 256).toNat 32)) ∧
  (∀ (s : State) (t : Nat) (m : Master) (a0 : Word) (a1 : Word) (a2 : Word) (w : Served) (c : List Nat) (modulus :
      List Nat) (sig : List Nat) (slot : Nat), s.takesAll m .key [0x040, 0x044, 0x048, 0x04C] → s.busy.contains .key =
      false → s.get .key KEY.KEY_STAT_BUSY = 0 → s.get .key KEY.KEY_STAT_DONE = 0 → s.keys.tampActive = false →
      (s.otp.lc = 1 ∨ s.otp.lc = 2) → s.keys.challenge = some c → modulus = s.keyBuf 0 384 → sig = s.keyBuf 384 384 →
      s.signerSlot modulus = some slot → pssVerify modulus (c ++ s.uniqueBytes) sig = true → ∃ u : State, exec
      (.dbgUnlock t m a0 a1 a2 w) s = .next u ∧ u.get .key KEY.KEY_STAT_BUSY = 1 ∧ u.keys.run = some (0, 0, false) ∧
      u.debugOpen = true ∧ u.keys.challenge = none ∧ u.get .key KEY.INT_STAT_DEBUG_OPEN = 1 ∧ (∀ k : Fin 512, u.get
      .key (KEY.SLOT_STAT_FULL.at k.val) = 0)) ∧
  (∀ (s : State) (t : Nat) (m : Master) (a0 : Word) (a1 : Word) (a2 : Word) (w : Served), s.takesAll m .key [0x040,
      0x044, 0x048, 0x04C] → s.busy.contains .key = false → s.get .key KEY.KEY_STAT_BUSY = 0 → s.get .key
      KEY.KEY_STAT_DONE = 0 → s.keys.tampActive = false → (s.otp.lc = 1 ∨ s.otp.lc = 2) → s.keys.challenge = none → ∃
      u : State, exec (.dbgUnlock t m a0 a1 a2 w) s = .next u ∧ u.get .key KEY.KEY_STAT_BUSY = 1 ∧ u.keys.run = some
      (0xB, 0, false) ∧ u.keys.unlocked = s.keys.unlocked) ∧
  (∀ (s : State) (t : Nat) (m : Master) (a0 : Word) (a1 : Word) (a2 : Word) (w : Served) (i : Nat) (modulus : List
      Nat) (sig : List Nat) (slot : Nat), s.takesAll m .key [0x040, 0x044, 0x048, 0x04C] → s.busy.contains .key =
      false → s.get .key KEY.KEY_STAT_BUSY = 0 → s.get .key KEY.KEY_STAT_DONE = 0 → s.keys.tampActive = false →
      (s.otp.lc = 1 ∨ s.otp.lc = 2) → i = bits a0.toNat 0 2 → modulus = s.keyBuf 0 384 → sig = s.keyBuf 384 384 →
      s.signerSlot modulus = some slot → pssVerify modulus (s.uniqueBytes ++ [i]) sig = true → (∃ k : Fin 4, k.val ≠ i
      ∧ bitAt s.otp.revoked k.val = 0 ∧ nth s.otp.keyHash k.val none ≠ none) → slot ≠ i → w.store = true → ∃ u :
      State, exec (.revoke t m a0 a1 a2 w) s = .next u ∧ u.get .key KEY.KEY_STAT_BUSY = 1 ∧ u.keys.run = some (0, 0,
      false) ∧ bitAt u.otp.revoked i = 1) ∧
  (∀ (s : State) (t : Nat) (status : Nat) (rsp : Nat) (keep : Bool), s.boot.hold = 0 → s.keys.run = some (status, rsp,
      keep) → s.get .key KEY.KEY_STAT_BUSY = 1 → ∃ u : State, exec (.keyCommandComplete t) s = .next u ∧ u.get .key
      KEY.KEY_STAT_BUSY = 0 ∧ u.get .key KEY.KEY_STAT_DONE = 1 ∧ u.get .key KEY.KEY_STAT_STATUS = status % 2 ^
      KEY.KEY_STAT_STATUS.w ∧ u.get .key (KEY.KEY_RSP_RSP.at 0) = rsp % 2 ^ 32 ∧ u.get .key KEY.INT_STAT_CMD_DONE = 1
      ∧ u.get .key KEY.CMD_CNT = (s.get .key KEY.CMD_CNT + 1) % 2 ^ KEY.CMD_CNT.w ∧ u.keys.run = none ∧ ((keep = false
      → ∀ i : Fin 256, u.get .key (KEY.KEY_BUF_DATA.at i.val) = 0))) ∧
  (∀ (s : State) (t : Nat) (bit : Fin 8), s.powered = true → s.canTrip bit.val = true → ∃ u : State, exec (.tamperTrip
      t bit) s = .next u ∧ u.vbat.root = none ∧ u.vbat.nodes = [] ∧ u.identity = none ∧ u.vbat.tampCount =
      (s.vbat.tampCount + 1) % 65536 ∧ u.get .key KEY.INT_STAT_TAMPER = 1 ∧ u.get .key HDR.FAULT_STAT_CONT_REAL = 1 ∧
      u.normal = false ∧ (∀ k : Fin 512, u.get .key (KEY.SLOT_STAT_FULL.at k.val) = 0)) ∧
  (∀ (s : State) (t : Nat) (bit : Fin 8), s.powered = false → s.canTrip bit.val = true → ∃ u : State, exec
      (.tamperTrip t bit) s = .next u ∧ u.vbat.root = none ∧ u.vbat.nodes = [] ∧ u.vbat.tampCount = (s.vbat.tampCount
      + 1) % 65536 ∧ bitAt u.vbat.latch bit.val = 1 ∧ bitAt u.vbat.latchDark bit.val = 1)

/-- resetNAssert on a device not held in reset: it is held by RESET_N, every register is at its reset value, live and
shadow, GDDR6 lists nothing, OTP, flash, event ring, black-box log, VBAT, fatal latches and waiting commands are as
before, and no event is queued. vddioLow outside a removal of power: the device is held for it, with the same of
registers, GDDR6, OTP, flash, ring, log and commands. The start of the device, without a trial, by resetNRelease from
that hold with cause 1, by powerGood from a rail fault, a power cycle or low VDDIO with cause 0 and main power, by
overTemperatureClear from its hold with cause 0, and by softResetExecute of an accepted soft reset, with both record
queues empty or 100 ms after it, with cause 2 and OTP and the fatal latches as before: nothing holds it, its start and
its reset are in this core cycle, BOOT_CNT is one higher, the selection is NEXT, and a trial runs exactly where that
differs from the old one. powerCycle: the device is held without power, the fatal latches, the ring and the queued
black-box entries are gone, the log, OTP and flash are as before, and with VBAT removed there is no root and no
identity. railFault on a device not held or held by RESET_N: it is held, the GLB page is latched fatal and FATAL_N is
low. sysclkStop on a device not held: the GLB page is latched fatal, FATAL_N is low, and normal service has ended.
overTemperature on a device not held: from 125 degrees it is held and the GLB page is latched fatal; from 110 and
below 125 a real contained fault of the GLB page is recorded, nothing holds it and normal service has ended.
tapInstructionLoad: the instruction acts, a private one only with debug open and otherwise as BYPASS; normal service
has ended after an instruction from 2 on. That GDDR6 loses its contents in a device reset is the model's choice
(notes/assumptions/19.md). Readings of the model's own in it: notes/assumptions/12.md and notes/assumptions/107.md.
Rests on: 16_boot_update.md, From power-good to READY, 17_faults_records.md, The recovery ladder,
17_faults_records.md, The fatal latch and FATAL_N, 18_package_power.md, Supplies, 18_package_power.md, Reset and clock
inputs. -/
def Obligations.ResetsKeepWhatTheyMust : Prop :=
  (∀ (s : State) (t : Nat), s.boot.hold = 0 → ∃ u : State, exec (.resetNAssert t) s = .next u ∧ u.boot.hold = 1 ∧ (∀ a
      : Nat, u.word a = resetOf a ∧ u.lword a = resetOf a) ∧ u.otp = s.otp ∧ u.flash = s.flash ∧ u.evr.ring =
      s.evr.ring ∧ u.bbx.log = s.bbx.log ∧ u.gddr = [] ∧ u.pending = s.pending ∧ u.vbat = s.vbat ∧ u.fatal = s.fatal ∧
      u.evr.queue = []) ∧
  (∀ (s : State) (t : Nat) (tamp : Bool), s.boot.hold = 1 → s.flash.trial = false → ∃ u : State, exec (.resetNRelease
      t tamp) s = .next u ∧ u.boot.hold = 0 ∧ u.boot.startAt = max s.now t ∧ u.resetCycle = max s.now t ∧
      u.vbat.bootCnt = (s.vbat.bootCnt + 1) % 2 ^ 32 ∧ u.flash.trial = decide (s.flash.next ≠ s.flash.sel) ∧
      u.flash.sel = s.flash.next ∧ u.get .upd UPD.BOOT_STAT_RESET_CAUSE = 1) ∧
  (∀ (s : State) (t : Nat) (tamp : Bool), (s.boot.hold = 2 ∨ s.boot.hold = 3 ∨ s.boot.hold = 4) → s.flash.trial =
      false → ∃ u : State, exec (.powerGood t tamp) s = .next u ∧ u.boot.hold = 0 ∧ u.boot.startAt = max s.now t ∧
      u.resetCycle = max s.now t ∧ u.vbat.bootCnt = (s.vbat.bootCnt + 1) % 2 ^ 32 ∧ u.flash.trial = decide
      (s.flash.next ≠ s.flash.sel) ∧ u.flash.sel = s.flash.next ∧ u.get .upd UPD.BOOT_STAT_RESET_CAUSE = 0 ∧ u.powered
      = true) ∧
  (∀ (s : State) (t : Nat) (tamp : Bool), s.boot.hold = 5 → s.flash.trial = false → ∃ u : State, exec
      (.overTemperatureClear t tamp) s = .next u ∧ u.boot.hold = 0 ∧ u.boot.startAt = max s.now t ∧ u.resetCycle = max
      s.now t ∧ u.vbat.bootCnt = (s.vbat.bootCnt + 1) % 2 ^ 32 ∧ u.flash.trial = decide (s.flash.next ≠ s.flash.sel) ∧
      u.flash.sel = s.flash.next ∧ u.get .upd UPD.BOOT_STAT_RESET_CAUSE = 0) ∧
  (∀ (s : State) (t : Nat) (c : Nat), s.boot.hold = 0 → s.boot.soft = some c → ((s.evr.queue = [] ∧ s.bbx.queue = [])
      ∨ c + 118800000 ≤ max s.now t) → s.flash.trial = false → ∃ u : State, exec (.softResetExecute t) s = .next u ∧
      u.boot.hold = 0 ∧ u.boot.startAt = max s.now t ∧ u.resetCycle = max s.now t ∧ u.vbat.bootCnt = (s.vbat.bootCnt +
      1) % 2 ^ 32 ∧ u.flash.trial = decide (s.flash.next ≠ s.flash.sel) ∧ u.flash.sel = s.flash.next ∧ u.get .upd
      UPD.BOOT_STAT_RESET_CAUSE = 2 ∧ u.boot.soft = none ∧ u.otp = s.otp ∧ u.fatal = s.fatal) ∧
  (∀ (s : State) (t : Nat) (vbatLost : Bool), ∃ u : State, exec (.powerCycle t vbatLost) s = .next u ∧ u.boot.hold = 3
      ∧ u.powered = false ∧ u.fatal = [] ∧ u.fatalSrc = none ∧ u.evr.ring = [] ∧ u.bbx.queue = [] ∧ u.bbx.log =
      s.bbx.log ∧ u.otp = s.otp ∧ u.flash = s.flash ∧ (vbatLost = true → u.vbat.root = none ∧ u.identity = none)) ∧
  (∀ (s : State) (t : Nat), s.boot.hold ≤ 1 → ∃ u : State, exec (.railFault t) s = .next u ∧ u.boot.hold = 2 ∧
      Page.num .glb ∈ u.fatal ∧ u.fatalN = true) ∧
  (∀ (s : State) (t : Nat), s.boot.hold ≠ 3 → ∃ u : State, exec (.vddioLow t) s = .next u ∧ u.boot.hold = 4 ∧ (∀ a :
      Nat, u.word a = resetOf a ∧ u.lword a = resetOf a) ∧ u.otp = s.otp ∧ u.flash = s.flash ∧ u.evr.ring = s.evr.ring
      ∧ u.bbx.log = s.bbx.log ∧ u.gddr = [] ∧ u.pending = s.pending) ∧
  (∀ (s : State) (t : Nat), s.boot.hold = 0 → ∃ u : State, exec (.sysclkStop t) s = .next u ∧ Page.num .glb ∈ u.fatal
      ∧ u.fatalN = true ∧ u.normal = false) ∧
  (∀ (s : State) (t : Nat) (temp : Nat), s.boot.hold = 0 → 1250 ≤ temp → ∃ u : State, exec (.overTemperature t temp) s
      = .next u ∧ u.boot.hold = 5 ∧ Page.num .glb ∈ u.fatal) ∧
  (∀ (s : State) (t : Nat) (temp : Nat), s.boot.hold = 0 → 1100 ≤ temp → temp < 1250 → ∃ u : State, exec
      (.overTemperature t temp) s = .next u ∧ u.get .glb HDR.FAULT_STAT_CONT_REAL = 1 ∧ u.boot.hold = 0 ∧ u.normal =
      false) ∧
  (∀ (s : State) (t : Nat) (instr : Nat), (instr < 5 ∨ s.debugOpen = true) → ∃ u : State, exec (.tapInstructionLoad t
      instr) s = .next u ∧ u.boot.tap = instr ∧ (2 ≤ instr → u.normal = false)) ∧
  (∀ (s : State) (t : Nat) (instr : Nat), 5 ≤ instr → s.debugOpen = false → ∃ u : State, exec (.tapInstructionLoad t
      instr) s = .next u ∧ u.boot.tap = 0 ∧ u.normal = s.normal)

/-- The clauses are on a device not held in reset. bootPhaseEnd of phase 1: phase 2, and each port shows its MAC
address from OTP. Of phase 2 with a passed check of the EFN image: phase 3. Of phase 2 with a failed one, or of phase
3 with a failed check of another image, outside a trial: RECOVERY. Of phase 3 with all others passed: phase 4,
FW_READY of both mailboxes, and the control cores started in this core cycle. Of phase 4 once the training of GDDR6
has ended, and of phase 5: the next phase; CAL_BAD is raised at the end of phase 5 without a valid calibration record.
readyRise in phase 6: phase 7 and READY. bootWdExpiry in a trial that has lasted BOOT_WD: the selection and NEXT are
PREV, no trial runs, the reset cause is 3, REVERTED is set and raised, and nothing holds the device. Readings of the
model's own in it: notes/assumptions/6.md and notes/assumptions/20.md. Rests on: 16_boot_update.md Table 16.2,
16_boot_update.md, From power-good to READY, 16_boot_update.md, Trial boot, revert and anti-rollback. -/
def Obligations.StartUpGoesThroughItsPhases : Prop :=
  (∀ (s : State) (t : Nat) (ok : Bool) (calOk : Bool), s.boot.hold = 0 → s.phase = 1 → ∃ u : State, exec
      (.bootPhaseEnd t ok calOk) s = .next u ∧ u.phase = 2 ∧ (∀ p : Fin 48, u.get (.eth p) ETH.ETH_MAC_LO_MAC =
      (s.otp.macBase + p.val) % 2 ^ 32 ∧ u.get (.eth p) ETH.ETH_MAC_HI_MAC = (s.otp.macBase + p.val) % 2 ^ 48 / 2 ^
      32)) ∧
  (∀ (s : State) (t : Nat) (ok : Bool) (calOk : Bool), s.boot.hold = 0 → s.phase = 2 → s.bootCheck ok 0 = 0 → ∃ u :
      State, exec (.bootPhaseEnd t ok calOk) s = .next u ∧ u.phase = 3) ∧
  (∀ (s : State) (t : Nat) (ok : Bool) (calOk : Bool), s.boot.hold = 0 → (s.phase = 2 ∨ s.phase = 3) → s.flash.trial =
      false → (s.phase = 2 → s.bootCheck ok 0 ≠ 0) → (s.phase = 3 → ∃ i : Fin 4, i ≠ 0 ∧ s.bootCheck ok i.val ≠ 0) → ∃
      u : State, exec (.bootPhaseEnd t ok calOk) s = .next u ∧ u.phase = 0xF ∧ u.get .upd UPD.BOOT_STAT_RECOVERY = 1) ∧
  (∀ (s : State) (t : Nat) (ok : Bool) (calOk : Bool), s.boot.hold = 0 → s.phase = 3 → (∀ i : Fin 4, i ≠ 0 →
      s.bootCheck ok i.val = 0) → ∃ u : State, exec (.bootPhaseEnd t ok calOk) s = .next u ∧ u.phase = 4 ∧ u.get .hif
      (HIF.MBX_STAT_FW_READY.at 0) = 1 ∧ u.get .hif (HIF.MBX_STAT_FW_READY.at 1) = 1 ∧ u.boot.coreAt = max s.now t) ∧
  (∀ (s : State) (t : Nat) (ok : Bool) (calOk : Bool), s.boot.hold = 0 → ((s.phase = 4 ∧ s.gmcDone = true) ∨ s.phase =
      5) → ∃ u : State, exec (.bootPhaseEnd t ok calOk) s = .next u ∧ u.phase = s.phase + 1 ∧ (s.phase = 5 → calOk =
      false → u.get .upd UPD.INT_STAT_CAL_BAD = 1)) ∧
  (∀ (s : State) (t : Nat), s.boot.hold = 0 → s.phase = 6 → ∃ u : State, exec (.readyRise t) s = .next u ∧ u.phase = 7
      ∧ u.ready = true) ∧
  (∀ (s : State) (t : Nat), s.boot.hold = 0 → s.flash.trial = true → s.boot.startAt + s.bootWd * 1188000000 ≤ max
      s.now t → ∃ u : State, exec (.bootWdExpiry t) s = .next u ∧ u.flash.sel = s.flash.prev ∧ u.flash.next =
      s.flash.prev ∧ u.flash.trial = false ∧ u.get .upd UPD.BOOT_STAT_RESET_CAUSE = 3 ∧ u.get .upd
      UPD.BOOT_STAT_REVERTED = 1 ∧ u.get .upd UPD.INT_STAT_REVERTED = 1 ∧ u.boot.hold = 0)

/-- The clauses of commands are on a device not held in reset, of a host master that owes no error, for SPI from phase
3 of start-up on, UPD not initialising, neither BUSY nor DONE of that master: BUSY is 1, and the outcome waits with
STATUS 0 unless another is named. openSession waits to be taken. close by a master that owns no open session: STATUS
3, staging as before. Of the owner: close: no session, staging or manifest. stageBegin of a header that passes its
checks and agrees with an open manifest, outside a trial, with NEXT as SEL and an erasure that succeeds: staging of
its type is open, its slot erased and not staged. stageData at the next offset, of 1 to 2,048 bytes within the body
length, with a flash that takes them: the bytes of UPD_BUF follow the body. stageEnd of the open type with a body of
the length and hash of the header: the slot holds the image, which is staged, and no staging is open. activate of a
staged type, without a manifest, that every pair accepts: NEXT is the other bank, SEL as before, nothing of it staged.
revertNext: NEXT is SEL, as before. manifestBegin of a manifest that passes its checks, outside a trial, NEXT as SEL:
it is open. manifestActivate with four staged types that agree with the manifest and each other: NEXT of each is the
other bank, none is staged, the manifest is kept, not open. confirm in a trial with READY and fuse writes that
succeed: no trial, SEL as before, each anti-rollback counter at least the security version of its running image.
updCommandComplete of a command that runs, no OPEN waiting: BUSY 0, DONE 1, STATUS and UPD_RSP0 shown, CMD_DONE
raised, none runs; of an OPEN that waits alone without a session: a session of that master; with a session open:
STATUS 4 with its owner, SESSION_BUSY raised. updSessionTimeout of a session whose owner runs no command and gave none
for 60 s: no session, staging or manifest. Readings of the model's own in it: notes/assumptions/6.md and
notes/assumptions/101.md. Rests on: 16_boot_update.md, Update sessions, 16_boot_update.md, One image at a time,
16_boot_update.md, The Wotar manifest path, 16_boot_update.md, Trial boot, revert and anti-rollback, 16_boot_update.md
Table 16.6. -/
def Obligations.UpdateCommandsServeTheOwner : Prop :=
  (∀ (s : State) (t : Nat) (k : Fin 2) (a0 : Word) (a1 : Word) (w : Served), s.boot.hold = 0 → s.owesError (hostMaster
      k) = false → (k = 1 → 3 ≤ s.phase) → s.busy.contains .upd = false → s.get .upd (UPD.UPD_STAT_BUSY.at k.val) = 0
      → s.get .upd (UPD.UPD_STAT_DONE.at k.val) = 0 → s.upd.run.length = 2 → ∃ u : State, exec (.openSession t k a0 a1
      w) s = .next u ∧ u.get .upd (UPD.UPD_STAT_BUSY.at k.val) = 1 ∧ nth u.upd.run k.val none = some (0, 0) ∧ k.val ∈
      u.upd.opens ∧ u.sessOpen = s.sessOpen) ∧
  (∀ (s : State) (t : Nat) (k : Fin 2) (a0 : Word) (a1 : Word) (w : Served), s.boot.hold = 0 → s.owesError (hostMaster
      k) = false → (k = 1 → 3 ≤ s.phase) → s.busy.contains .upd = false → s.get .upd (UPD.UPD_STAT_BUSY.at k.val) = 0
      → s.get .upd (UPD.UPD_STAT_DONE.at k.val) = 0 → s.upd.run.length = 2 → (s.sessOpen = false ∨ s.sessOwner ≠
      k.val) → ∃ u : State, exec (.close t k a0 a1 w) s = .next u ∧ u.get .upd (UPD.UPD_STAT_BUSY.at k.val) = 1 ∧ nth
      u.upd.run k.val none = some (3, 0) ∧ u.upd.stage = s.upd.stage) ∧
  (∀ (s : State) (t : Nat) (k : Fin 2) (a0 : Word) (a1 : Word) (w : Served), s.boot.hold = 0 → s.owesError (hostMaster
      k) = false → (k = 1 → 3 ≤ s.phase) → s.busy.contains .upd = false → s.get .upd (UPD.UPD_STAT_BUSY.at k.val) = 0
      → s.get .upd (UPD.UPD_STAT_DONE.at k.val) = 0 → s.upd.run.length = 2 → s.sessOpen = true → s.sessOwner = k.val →
      ∃ u : State, exec (.close t k a0 a1 w) s = .next u ∧ u.get .upd (UPD.UPD_STAT_BUSY.at k.val) = 1 ∧ nth u.upd.run
      k.val none = some (0, 0) ∧ u.sessOpen = false ∧ u.upd.stage = none ∧ u.upd.manifest = []) ∧
  (∀ (s : State) (t : Nat) (k : Fin 2) (a0 : Word) (a1 : Word) (w : Served) (h : List Nat), s.boot.hold = 0 →
      s.owesError (hostMaster k) = false → (k = 1 → 3 ≤ s.phase) → s.busy.contains .upd = false → s.get .upd
      (UPD.UPD_STAT_BUSY.at k.val) = 0 → s.get .upd (UPD.UPD_STAT_DONE.at k.val) = 0 → s.upd.run.length = 2 →
      s.sessOpen = true → s.sessOwner = k.val → h = s.updBuf 0 896 → s.headerCheck h = 0 → s.flash.trial = false →
      bitAt s.flash.next (nth h 4 0) = bitAt s.flash.sel (nth h 4 0) → s.manifestOk h = true → w.store = true → ∃ u :
      State, exec (.stageBegin t k a0 a1 w) s = .next u ∧ u.get .upd (UPD.UPD_STAT_BUSY.at k.val) = 1 ∧ nth u.upd.run
      k.val none = some (0, 0) ∧ u.upd.stage = some (nth h 4 0, h, []) ∧ u.slotImg (s.stagingKey (nth h 4 0)) =
      erasedSlot ∧ u.staged (nth h 4 0) = false) ∧
  (∀ (s : State) (t : Nat) (k : Fin 2) (a0 : Word) (a1 : Word) (w : Served) (ty : Nat) (h : List Nat) (body : List
      Nat), s.boot.hold = 0 → s.owesError (hostMaster k) = false → (k = 1 → 3 ≤ s.phase) → s.busy.contains .upd =
      false → s.get .upd (UPD.UPD_STAT_BUSY.at k.val) = 0 → s.get .upd (UPD.UPD_STAT_DONE.at k.val) = 0 →
      s.upd.run.length = 2 → s.sessOpen = true → s.sessOwner = k.val → s.upd.stage = some (ty, h, body) → a0.toNat =
      body.length → 0 < a1.toNat → a1.toNat ≤ 2048 → body.length + a1.toNat ≤ hdrBodyLen h → w.store = true → ∃ u :
      State, exec (.stageData t k a0 a1 w) s = .next u ∧ u.get .upd (UPD.UPD_STAT_BUSY.at k.val) = 1 ∧ nth u.upd.run
      k.val none = some (0, 0) ∧ u.upd.stage = some (ty, h, body ++ s.updBuf 0 a1.toNat)) ∧
  (∀ (s : State) (t : Nat) (k : Fin 2) (a0 : Word) (a1 : Word) (w : Served) (h : List Nat) (body : List Nat),
      s.boot.hold = 0 → s.owesError (hostMaster k) = false → (k = 1 → 3 ≤ s.phase) → s.busy.contains .upd = false →
      s.get .upd (UPD.UPD_STAT_BUSY.at k.val) = 0 → s.get .upd (UPD.UPD_STAT_DONE.at k.val) = 0 → s.upd.run.length = 2
      → s.sessOpen = true → s.sessOwner = k.val → s.upd.stage = some (a0.toNat % 4, h, body) → body.length =
      hdrBodyLen h → sha256 body = hdrHash h → ∃ u : State, exec (.stageEnd t k a0 a1 w) s = .next u ∧ u.get .upd
      (UPD.UPD_STAT_BUSY.at k.val) = 1 ∧ nth u.upd.run k.val none = some (0, 0) ∧ u.slotImg (s.stagingKey (a0.toNat %
      4)) = ⟨h, body⟩ ∧ u.staged (a0.toNat % 4) = true ∧ u.upd.stage = none) ∧
  (∀ (s : State) (t : Nat) (k : Fin 2) (a0 : Word) (a1 : Word) (w : Served), s.boot.hold = 0 → s.owesError (hostMaster
      k) = false → (k = 1 → 3 ≤ s.phase) → s.busy.contains .upd = false → s.get .upd (UPD.UPD_STAT_BUSY.at k.val) = 0
      → s.get .upd (UPD.UPD_STAT_DONE.at k.val) = 0 → s.upd.run.length = 2 → s.sessOpen = true → s.sessOwner = k.val →
      s.upd.manifest = [] → s.staged (a0.toNat % 4) = true → pairFails (s.slotHdr (s.stagingKey (a0.toNat % 4))) (([0,
      1, 2, 3].filter (fun x => x ≠ a0.toNat % 4)).map (fun x => (x, s.slotHdr (slotKey (bitAt s.flash.next x) x)))) =
      [] → w.store = true → ∃ u : State, exec (.activate t k a0 a1 w) s = .next u ∧ u.get .upd (UPD.UPD_STAT_BUSY.at
      k.val) = 1 ∧ nth u.upd.run k.val none = some (0, 0) ∧ bitAt u.flash.next (a0.toNat % 4) = 1 - bitAt s.flash.next
      (a0.toNat % 4) ∧ u.flash.sel = s.flash.sel ∧ u.staged (a0.toNat % 4) = false) ∧
  (∀ (s : State) (t : Nat) (k : Fin 2) (a0 : Word) (a1 : Word) (w : Served), s.boot.hold = 0 → s.owesError (hostMaster
      k) = false → (k = 1 → 3 ≤ s.phase) → s.busy.contains .upd = false → s.get .upd (UPD.UPD_STAT_BUSY.at k.val) = 0
      → s.get .upd (UPD.UPD_STAT_DONE.at k.val) = 0 → s.upd.run.length = 2 → s.sessOpen = true → s.sessOwner = k.val →
      w.store = true → ∃ u : State, exec (.revertNext t k a0 a1 w) s = .next u ∧ u.get .upd (UPD.UPD_STAT_BUSY.at
      k.val) = 1 ∧ nth u.upd.run k.val none = some (0, 0) ∧ u.flash.next = s.flash.sel ∧ u.flash.sel = s.flash.sel) ∧
  (∀ (s : State) (t : Nat) (k : Fin 2) (a0 : Word) (a1 : Word) (w : Served) (f : List Nat), s.boot.hold = 0 →
      s.owesError (hostMaster k) = false → (k = 1 → 3 ≤ s.phase) → s.busy.contains .upd = false → s.get .upd
      (UPD.UPD_STAT_BUSY.at k.val) = 0 → s.get .upd (UPD.UPD_STAT_DONE.at k.val) = 0 → s.upd.run.length = 2 →
      s.sessOpen = true → s.sessOwner = k.val → f = s.updBuf 0 1024 → le32 f 0 = 0x52544F57 → nth f 4 0 = 1 → nth f 6
      0 = 4 → (∀ x : Fin 4, ∃ i : Fin 4, nth ((f.drop (16 + 48 * i.val)).take 48) 0 0 = x.val) → s.signerOk (nth f 5
      0) ((f.drop 256).take 384) = true → pssVerify ((f.drop 256).take 384) (f.take 640) ((f.drop 640).take 384) =
      true → (∀ i : Fin 4, nth s.otp.rb (nth ((f.drop (16 + 48 * i.val)).take 48) 0 0) 0 ≤ le32 ((f.drop (16 + 48 *
      i.val)).take 48) 8) → s.flash.trial = false → s.flash.next = s.flash.sel → ∃ u : State, exec (.manifestBegin t k
      a0 a1 w) s = .next u ∧ u.get .upd (UPD.UPD_STAT_BUSY.at k.val) = 1 ∧ nth u.upd.run k.val none = some (0, 0) ∧
      u.upd.manifest = f ∧ u.get .upd UPD.UPD_SESS_MANIFEST = 1) ∧
  (∀ (s : State) (t : Nat) (k : Fin 2) (a0 : Word) (a1 : Word) (w : Served), s.boot.hold = 0 → s.owesError (hostMaster
      k) = false → (k = 1 → 3 ≤ s.phase) → s.busy.contains .upd = false → s.get .upd (UPD.UPD_STAT_BUSY.at k.val) = 0
      → s.get .upd (UPD.UPD_STAT_DONE.at k.val) = 0 → s.upd.run.length = 2 → s.sessOpen = true → s.sessOwner = k.val →
      s.upd.manifest ≠ [] → (∀ x : Fin 4, s.staged x.val = true ∧ s.manifestOk (s.slotHdr (s.stagingKey x.val)) =
      true) → (∀ x y : Fin 4, x ≠ y → accepts (s.slotHdr (s.stagingKey x.val)) (s.slotHdr (s.stagingKey y.val)) =
      true) → w.store = true → ∃ u : State, exec (.manifestActivate t k a0 a1 w) s = .next u ∧ u.get .upd
      (UPD.UPD_STAT_BUSY.at k.val) = 1 ∧ nth u.upd.run k.val none = some (0, 0) ∧ (∀ x : Fin 4, bitAt u.flash.next
      x.val = 1 - bitAt s.flash.next x.val ∧ u.staged x.val = false) ∧ u.flash.manifest = s.upd.manifest ∧
      u.upd.manifest = []) ∧
  (∀ (s : State) (t : Nat) (k : Fin 2) (a0 : Word) (a1 : Word) (w : Served), s.boot.hold = 0 → s.owesError (hostMaster
      k) = false → (k = 1 → 3 ≤ s.phase) → s.busy.contains .upd = false → s.get .upd (UPD.UPD_STAT_BUSY.at k.val) = 0
      → s.get .upd (UPD.UPD_STAT_DONE.at k.val) = 0 → s.upd.run.length = 2 → s.sessOpen = true → s.sessOwner = k.val →
      s.flash.trial = true → s.ready = true → w.store = true → ∃ u : State, exec (.confirm t k a0 a1 w) s = .next u ∧
      u.get .upd (UPD.UPD_STAT_BUSY.at k.val) = 1 ∧ nth u.upd.run k.val none = some (0, 0) ∧ u.flash.trial = false ∧
      u.flash.sel = s.flash.sel ∧ u.otp.rb = (List.range 4).map (fun i => max (nth s.otp.rb i 0) (hdrSvn (s.runHdr
      i)))) ∧
  (∀ (s : State) (t : Nat) (k : Fin 2) (r : Nat × Nat), s.boot.hold = 0 → s.upd.opens = [] → s.upd.run.length = 2 →
      nth s.upd.run k.val none = some r → ∃ u : State, exec (.updCommandComplete t k) s = .next u ∧ u.get .upd
      (UPD.UPD_STAT_BUSY.at k.val) = 0 ∧ u.get .upd (UPD.UPD_STAT_DONE.at k.val) = 1 ∧ u.get .upd
      UPD.INT_STAT_CMD_DONE = 1 ∧ nth u.upd.run k.val none = none ∧ u.get .upd (UPD.UPD_STAT_STATUS.at k.val) = r.1 %
      2 ^ UPD.UPD_STAT_STATUS.w ∧ u.get .upd (UPD.UPD_RSP0_RSP.at k.val) = r.2 % 2 ^ 32) ∧
  (∀ (s : State) (t : Nat) (k : Fin 2), s.boot.hold = 0 → s.upd.opens = [k.val] → s.upd.run.length = 2 → s.sessOpen =
      false → ∃ u : State, exec (.updCommandComplete t k) s = .next u ∧ u.get .upd (UPD.UPD_STAT_BUSY.at k.val) = 0 ∧
      u.get .upd (UPD.UPD_STAT_DONE.at k.val) = 1 ∧ u.get .upd UPD.INT_STAT_CMD_DONE = 1 ∧ nth u.upd.run k.val none =
      none ∧ u.get .upd (UPD.UPD_STAT_STATUS.at k.val) = 0 ∧ u.get .upd (UPD.UPD_RSP0_RSP.at k.val) = 0 ∧ u.sessOpen =
      true ∧ u.sessOwner = k.val ∧ u.upd.opens = []) ∧
  (∀ (s : State) (t : Nat) (k : Fin 2), s.boot.hold = 0 → s.upd.opens = [k.val] → s.upd.run.length = 2 → s.sessOpen =
      true → ∃ u : State, exec (.updCommandComplete t k) s = .next u ∧ u.get .upd (UPD.UPD_STAT_BUSY.at k.val) = 0 ∧
      u.get .upd (UPD.UPD_STAT_DONE.at k.val) = 1 ∧ u.get .upd UPD.INT_STAT_CMD_DONE = 1 ∧ nth u.upd.run k.val none =
      none ∧ u.get .upd (UPD.UPD_STAT_STATUS.at k.val) = 4 ∧ u.get .upd (UPD.UPD_RSP0_RSP.at k.val) = s.sessOwner ∧
      u.sessOwner = s.sessOwner ∧ u.get .upd UPD.INT_STAT_SESSION_BUSY = 1) ∧
  (∀ (s : State) (t : Nat), s.boot.hold = 0 → s.sessOpen = true → nth s.upd.run s.sessOwner none = none → s.upd.cmdAt
      + 71280000000 ≤ max s.now t → ∃ u : State, exec (.updSessionTimeout t) s = .next u ∧ u.sessOpen = false ∧
      u.upd.stage = none ∧ u.upd.manifest = [])

/-- faultInjFire with class 1, 2 or 3 by a master whose write is taken: the injected bit of that class is set in the
page and INJ_CNT is one higher. softReset by a host master whose write is taken: with the key, none accepted and room
in the event queue, it is accepted in this core cycle and event 0x0004 with the number of the master is queued; with
another value nothing is accepted and the recorder is as before. eventRecordWrite on a device not held in reset, at or
after the next core cycle at which the recorder accepts an event, with a queued event and none lost: an event that
differs from the newest record, with room in the ring, is appended as a record, REC_CNT is one higher and RECORD is
raised; an event identical to the newest record written since the reset adds one to its repeats, saturating, and sets
its time difference; either way it has left the queue. evrWinRead by the host master of window k whose read is
answered, of a cursor at a record of the ring: VALID 1, the window shows the words of the record, the cursor is as
before and word 0 is put out. evrWinLastRead with VALID 1, whose read is answered: the cursor is one higher. evrClrArm
by a host master whose write is taken: ARMED 1 with that master, in this core cycle. evrClrClear by a host master
whose write is taken: by the one that armed it, within 100 ms: the ring holds the one record of event 0x0001 with the
master and the number of records cleared, TAIL is what HEAD was, cursor 0 stands there, ARMED is 0 and CLEARED is
raised; unarmed: the recorder is as before, CLR_REJ_CNT is one higher, saturating, and CLR_REJECT is raised.
evrArmLapse on a device not held in reset, more than 100 ms after the arm: ARMED 0. Readings of the model's own in it:
notes/assumptions/108.md. Rests on: 17_faults_records.md, Injected faults, 17_faults_records.md, The recovery ladder,
17_faults_records.md, Event records, 17_faults_records.md, Reading the event recorder. -/
def Obligations.EventsAreRecordedAndCleared : Prop :=
  (∀ (s : State) (t : Nat) (m : Master) (page : Page) (value : Word), s.takes m page 0x028 → bits value.toNat 0 2 = 1
      → ∃ u : State, exec (.faultInjFire t m page value) s = .next u ∧ u.get page HDR.FAULT_STAT_CORR_INJ = 1 ∧ u.get
      .glb GLB.INJ_CNT_COUNT = (s.get .glb GLB.INJ_CNT_COUNT + 1) % 2 ^ GLB.INJ_CNT_COUNT.w) ∧
  (∀ (s : State) (t : Nat) (m : Master) (page : Page) (value : Word), s.takes m page 0x028 → bits value.toNat 0 2 = 2
      → ∃ u : State, exec (.faultInjFire t m page value) s = .next u ∧ u.get page HDR.FAULT_STAT_CONT_INJ = 1 ∧ u.get
      .glb GLB.INJ_CNT_COUNT = (s.get .glb GLB.INJ_CNT_COUNT + 1) % 2 ^ GLB.INJ_CNT_COUNT.w) ∧
  (∀ (s : State) (t : Nat) (m : Master) (page : Page) (value : Word), s.takes m page 0x028 → bits value.toNat 0 2 = 3
      → ∃ u : State, exec (.faultInjFire t m page value) s = .next u ∧ u.get page HDR.FAULT_STAT_FATAL_INJ = 1 ∧ u.get
      .glb GLB.INJ_CNT_COUNT = (s.get .glb GLB.INJ_CNT_COUNT + 1) % 2 ^ GLB.INJ_CNT_COUNT.w) ∧
  (∀ (s : State) (t : Nat) (m : Master) (value : Word), s.takes m .glb 0x0F0 → (m = .pcie ∨ m = .spi) → value =
      0x7A520001 → s.boot.soft = none → s.evr.queue.length < 64 → ∃ u : State, exec (.softReset t m value) s = .next u
      ∧ u.boot.soft = some (max s.now t) ∧ (∃ e ∈ u.evr.queue, e.code = 0x0004 ∧ e.p0 = m.num)) ∧
  (∀ (s : State) (t : Nat) (m : Master) (value : Word), s.takes m .glb 0x0F0 → value ≠ 0x7A520001 → ∃ u : State, exec
      (.softReset t m value) s = .next u ∧ u.boot.soft = s.boot.soft ∧ u.evr = s.evr) ∧
  (∀ (s : State) (t : Nat) (e : Ev) (rest : List Ev), s.boot.hold = 0 → s.evr.nextAt ≤ max s.now t → s.evr.queue = e
      :: rest → s.evr.ring.length < 8192 → s.evr.lost = 0 → (∀ r ∈ s.newest.toList, s.evr.fresh = false ∨ r.page ≠
      e.page ∨ r.code ≠ e.code ∨ r.p0 ≠ e.p0 ∨ r.p1 ≠ e.p1) → ∃ u : State, exec (.eventRecordWrite t) s = .next u ∧
      u.evr.ring = s.evr.ring ++
      [{ stc := e.stc, delta := 0, page := e.page, code := e.code, rep := 0, cls := e.cls, flags := b2n e.inj + 2 * b2n e.bbx, p0 := e.p0, p1 := e.p1 }]
      ∧ u.evr.queue = rest ∧ u.get .evr EVR.REC_CNT = (s.get .evr EVR.REC_CNT + 1) % 2 ^ EVR.REC_CNT.w ∧ u.get .evr
      EVR.INT_STAT_RECORD = 1) ∧
  (∀ (s : State) (t : Nat) (e : Ev) (rest : List Ev) (r : Rec), s.boot.hold = 0 → s.evr.nextAt ≤ max s.now t →
      s.evr.queue = e :: rest → s.evr.lost = 0 → s.newest = some r → s.evr.fresh = true → r.page = e.page → r.code =
      e.code → r.p0 = e.p0 → r.p1 = e.p1 → ∃ u : State, exec (.eventRecordWrite t) s = .next u ∧ u.evr.ring =
      s.evr.ring.dropLast ++ [{ r with rep := min 65535 (r.rep + 1), delta := deltaUs r.stc e.stc }] ∧ u.evr.queue =
      rest) ∧
  (∀ (s : State) (t : Nat) (k : Fin 2) (r : Rec), s.gives (hostMaster k) (Page.base .evr + 0x060 + 0x40 * k.val) →
      s.evr.tail ≤ s.get .evr (EVR.EVR_CURSOR_SEQ.at k.val) → s.evr.ring.length ≤ 8192 → s.evr.ring[s.get .evr
      (EVR.EVR_CURSOR_SEQ.at k.val) - s.evr.tail]? = some r → ∃ u : State, exec (.evrWinRead t k) s = .next u ∧ u.get
      .evr (EVR.EVR_CSTAT_VALID.at k.val) = 1 ∧ (∀ i : Fin 8, u.get .evr (EVR.EVR_WIN_WORD.at2 k.val i.val) = nth
      (recWords r) i.val 0 % 2 ^ 32) ∧ u.get .evr (EVR.EVR_CURSOR_SEQ.at k.val) = s.get .evr (EVR.EVR_CURSOR_SEQ.at
      k.val) ∧ Emit.readData (hostMaster k) (BitVec.ofNat 32 (nth (recWords r) 0 0)) ∈ u.out) ∧
  (∀ (s : State) (t : Nat) (k : Fin 2), s.gives (hostMaster k) (Page.base .evr + 0x07C + 0x40 * k.val) → s.get .evr
      (EVR.EVR_CSTAT_VALID.at k.val) = 1 → ∃ u : State, exec (.evrWinLastRead t k) s = .next u ∧ u.get .evr
      (EVR.EVR_CURSOR_SEQ.at k.val) = (s.get .evr (EVR.EVR_CURSOR_SEQ.at k.val) + 1) % 2 ^ 32) ∧
  (∀ (s : State) (t : Nat) (m : Master) (k : Nat), s.takes m .evr 0x048 → hostNum m = some k → ∃ u : State, exec
      (.evrClrArm t m) s = .next u ∧ u.get .evr EVR.EVR_STAT_ARMED = 1 ∧ u.get .evr EVR.EVR_STAT_ARM_MASTER = k ∧
      u.evr.armedAt = max s.now t) ∧
  (∀ (s : State) (t : Nat) (m : Master) (k : Nat), s.takes m .evr 0x048 → hostNum m = some k → s.get .evr
      EVR.EVR_STAT_ARMED = 1 → s.get .evr EVR.EVR_STAT_ARM_MASTER = k → max s.now t ≤ s.evr.armedAt + clearWindow → ∃
      u : State, exec (.evrClrClear t m) s = .next u ∧ u.evr.tail = s.evrHead ∧ (u.evr.ring.map (fun r => (r.code,
      r.p0, r.p1))) = [(0x0001, k, s.evr.ring.length)] ∧ u.get .evr EVR.EVR_STAT_ARMED = 0 ∧ u.get .evr
      EVR.INT_STAT_CLEARED = 1 ∧ u.get .evr (EVR.EVR_CURSOR_SEQ.at 0) = s.evrHead) ∧
  (∀ (s : State) (t : Nat) (m : Master) (k : Nat), s.takes m .evr 0x048 → hostNum m = some k → s.get .evr
      EVR.EVR_STAT_ARMED = 0 → ∃ u : State, exec (.evrClrClear t m) s = .next u ∧ u.evr = s.evr ∧ u.get .evr
      EVR.CLR_REJ_CNT = sat EVR.CLR_REJ_CNT.w (s.get .evr EVR.CLR_REJ_CNT + 1) ∧ u.get .evr EVR.INT_STAT_CLR_REJECT =
      1) ∧
  (∀ (s : State) (t : Nat), s.boot.hold = 0 → s.evr.armedAt + 118800000 < max s.now t → ∃ u : State, exec
      (.evrArmLapse t) s = .next u ∧ u.get .evr EVR.EVR_STAT_ARMED = 0)

/-- The clauses are on a device not held in reset. bbxEntryWrite of a queued entry: written, with none lost and room
in the log, it is appended, has left the queue, TAIL is as before and ENTRY_CNT is one higher; with a sector skipped,
it is the newest entry of the log, WRITE_FAIL is raised and a real contained fault of the BBX page is recorded. With
room in the queue and no summary owed, bbxHealth at or after its due time of the STC, and the command snapshot, queue
one HEALTH entry with the boot count and the STC, and its fault counts restart. The clauses of commands are on a host
master that owes no error, for the service port from phase 3 of start-up on, with the BBX page not initialising and
neither BUSY nor DONE of that master: BUSY is 1, and the outcome of the command waits with STATUS 0 unless another is
named. bbxRead of 1 to 16 entries from one of the log on: the response is how many there are, the buffer starts with
the number asked for, and the log is as before; of 0 or more than 16: STATUS 2 and the log as before. eraseChallenge:
a challenge of that master stands and none of the other. erase with a challenge and a signature over it by an accepted
signer, with a flash that erases: the log is one ERASE entry with the master and the slot of the signer, TAIL is what
HEAD was, no challenge of that master stands, ERASED is raised and ERASE_CNT is one higher, saturating; without a
challenge: STATUS 4 and the log as before. bbxCommandComplete of a command that runs: BUSY 0, DONE 1, its STATUS and
response shown, CMD_DONE raised, and no command runs. Readings of the model's own in it: notes/assumptions/6.md and
notes/assumptions/109.md. Rests on: 17_faults_records.md, The black box, 17_faults_records.md Table 17.4,
17_faults_records.md Table 17.5. -/
def Obligations.TheBlackBoxKeepsItsLog : Prop :=
  (∀ (s : State) (t : Nat) (e : BbxEntry) (rest : List BbxEntry), s.boot.hold = 0 → s.bbx.queue = e :: rest →
      s.bbx.lost = 0 → s.bbx.log.length < 65536 → ∃ u : State, exec (.bbxEntryWrite t true) s = .next u ∧ u.bbx.log =
      s.bbx.log ++ [e] ∧ u.bbx.queue = rest ∧ u.bbx.tail = s.bbx.tail ∧ u.get .bbx BBX.ENTRY_CNT = (s.get .bbx
      BBX.ENTRY_CNT + 1) % 2 ^ BBX.ENTRY_CNT.w) ∧
  (∀ (s : State) (t : Nat) (e : BbxEntry) (rest : List BbxEntry), s.boot.hold = 0 → s.bbx.queue = e :: rest → ∃ u :
      State, exec (.bbxEntryWrite t false) s = .next u ∧ u.get .bbx BBX.INT_STAT_WRITE_FAIL = 1 ∧ u.get .bbx
      HDR.FAULT_STAT_CONT_REAL = 1 ∧ u.bbx.log.getLast? = some e) ∧
  (∀ (s : State) (t : Nat) (c : Nat), s.boot.hold = 0 → s.bbx.newestSent = false → s.bbx.queue.length < 256 →
      s.boot.healthAt = some c → 0 ≤ sgn 64 (wrap 64 (((s.begin t).stc : Int) - c)) → ∃ u : State, exec (.bbxHealth t)
      s = .next u ∧ (∃ e : BbxEntry, u.bbx.queue = s.bbx.queue ++ [e] ∧ e.type = 0x0010 ∧ e.boot = s.vbat.bootCnt ∧
      e.stc = (s.begin t).stc) ∧ u.bbx.contained = 0 ∧ u.bbx.corrected = 0) ∧
  (∀ (s : State) (t : Nat) (k : Fin 2) (a0 : Word) (a1 : Word) (w : Served), s.boot.hold = 0 → s.owesError (hostMaster
      k) = false → (k = 1 → 3 ≤ s.phase) → s.busy.contains .bbx = false → s.get .bbx (BBX.BBX_STAT_BUSY.at k.val) = 0
      → s.get .bbx (BBX.BBX_STAT_DONE.at k.val) = 0 → s.bbxRun.length = 2 → s.bbx.newestSent = false →
      s.bbx.queue.length < 256 → ∃ u : State, exec (.snapshot t k a0 a1 w) s = .next u ∧ u.get .bbx
      (BBX.BBX_STAT_BUSY.at k.val) = 1 ∧ nth u.bbxRun k.val none = some (0, 0) ∧ (∃ e : BbxEntry, u.bbx.queue =
      s.bbx.queue ++ [e] ∧ e.type = 0x0010 ∧ e.boot = s.vbat.bootCnt ∧ e.stc = (s.begin t).stc) ∧ u.bbx.contained = 0
      ∧ u.bbx.corrected = 0) ∧
  (∀ (s : State) (t : Nat) (k : Fin 2) (a0 : Word) (a1 : Word) (w : Served), s.boot.hold = 0 → s.owesError (hostMaster
      k) = false → (k = 1 → 3 ≤ s.phase) → s.busy.contains .bbx = false → s.get .bbx (BBX.BBX_STAT_BUSY.at k.val) = 0
      → s.get .bbx (BBX.BBX_STAT_DONE.at k.val) = 0 → s.bbxRun.length = 2 → s.bbx.tail ≤ a0.toNat → 0 < a1.toNat →
      a1.toNat ≤ 16 → a0.toNat - s.bbx.tail < s.bbx.log.length → ∃ u : State, exec (.bbxRead t k a0 a1 w) s = .next u
      ∧ u.get .bbx (BBX.BBX_STAT_BUSY.at k.val) = 1 ∧ nth u.bbxRun k.val none = some (0, min a1.toNat
      (s.bbx.log.length - (a0.toNat - s.bbx.tail))) ∧ u.bbxBuf k.val 0 4 = leBytes a0.toNat 4 ∧ u.bbx = s.bbx) ∧
  (∀ (s : State) (t : Nat) (k : Fin 2) (a0 : Word) (a1 : Word) (w : Served), s.boot.hold = 0 → s.owesError (hostMaster
      k) = false → (k = 1 → 3 ≤ s.phase) → s.busy.contains .bbx = false → s.get .bbx (BBX.BBX_STAT_BUSY.at k.val) = 0
      → s.get .bbx (BBX.BBX_STAT_DONE.at k.val) = 0 → s.bbxRun.length = 2 → (a1.toNat = 0 ∨ 16 < a1.toNat) → ∃ u :
      State, exec (.bbxRead t k a0 a1 w) s = .next u ∧ u.get .bbx (BBX.BBX_STAT_BUSY.at k.val) = 1 ∧ nth u.bbxRun
      k.val none = some (2, 0) ∧ u.bbx = s.bbx) ∧
  (∀ (s : State) (t : Nat) (k : Fin 2) (a0 : Word) (a1 : Word) (w : Served), s.boot.hold = 0 → s.owesError (hostMaster
      k) = false → (k = 1 → 3 ≤ s.phase) → s.busy.contains .bbx = false → s.get .bbx (BBX.BBX_STAT_BUSY.at k.val) = 0
      → s.get .bbx (BBX.BBX_STAT_DONE.at k.val) = 0 → s.bbxRun.length = 2 → ∃ u : State, exec (.eraseChallenge t k a0
      a1 w) s = .next u ∧ u.get .bbx (BBX.BBX_STAT_BUSY.at k.val) = 1 ∧ nth u.bbxRun k.val none = some (0, 0) ∧ (∃ c :
      Nat, u.bbx.challenge = if k = 0 then [some c, none] else [none, some c])) ∧
  (∀ (s : State) (t : Nat) (k : Fin 2) (a0 : Word) (a1 : Word) (w : Served) (c : Nat) (slot : Nat) (modulus : List
      Nat) (sig : List Nat), s.boot.hold = 0 → s.owesError (hostMaster k) = false → (k = 1 → 3 ≤ s.phase) →
      s.busy.contains .bbx = false → s.get .bbx (BBX.BBX_STAT_BUSY.at k.val) = 0 → s.get .bbx (BBX.BBX_STAT_DONE.at
      k.val) = 0 → s.bbxRun.length = 2 → s.bbx.challenge.length = 2 → nth s.bbx.challenge k.val none = some c →
      modulus = s.bbxBuf k.val 0 384 → sig = s.bbxBuf k.val 384 384 → s.signerSlot modulus = some slot → pssVerify
      modulus (beBytes c 32 ++ s.uniqueBytes ++ [0x42, 0x42, 0x58, 0x45]) sig = true → w.store = true → ∃ u : State,
      exec (.erase t k a0 a1 w) s = .next u ∧ u.get .bbx (BBX.BBX_STAT_BUSY.at k.val) = 1 ∧ nth u.bbxRun k.val none =
      some (0, 0) ∧ (∃ e : BbxEntry, u.bbx.log = [e] ∧ e.type = 0x0020 ∧ e.payload = [k.val, slot]) ∧ u.bbx.tail =
      s.bbxHead ∧ nth u.bbx.challenge k.val none = none ∧ u.get .bbx BBX.INT_STAT_ERASED = 1 ∧ u.get .bbx
      BBX.ERASE_CNT = sat BBX.ERASE_CNT.w (s.get .bbx BBX.ERASE_CNT + 1)) ∧
  (∀ (s : State) (t : Nat) (k : Fin 2) (a0 : Word) (a1 : Word) (w : Served), s.boot.hold = 0 → s.owesError (hostMaster
      k) = false → (k = 1 → 3 ≤ s.phase) → s.busy.contains .bbx = false → s.get .bbx (BBX.BBX_STAT_BUSY.at k.val) = 0
      → s.get .bbx (BBX.BBX_STAT_DONE.at k.val) = 0 → s.bbxRun.length = 2 → nth s.bbx.challenge k.val none = none → ∃
      u : State, exec (.erase t k a0 a1 w) s = .next u ∧ u.get .bbx (BBX.BBX_STAT_BUSY.at k.val) = 1 ∧ nth u.bbxRun
      k.val none = some (4, 0) ∧ u.bbx = s.bbx) ∧
  (∀ (s : State) (t : Nat) (k : Fin 2) (r : Nat × Nat), s.boot.hold = 0 → s.bbxRun.length = 2 → nth s.bbxRun k.val
      none = some r → ∃ u : State, exec (.bbxCommandComplete t k) s = .next u ∧ u.get .bbx (BBX.BBX_STAT_BUSY.at
      k.val) = 0 ∧ u.get .bbx (BBX.BBX_STAT_DONE.at k.val) = 1 ∧ u.get .bbx (BBX.BBX_STAT_STATUS.at k.val) = r.1 % 2 ^
      BBX.BBX_STAT_STATUS.w ∧ u.get .bbx (BBX.BBX_RSP0_RSP.at k.val) = r.2 % 2 ^ 32 ∧ u.get .bbx BBX.INT_STAT_CMD_DONE
      = 1 ∧ nth u.bbxRun k.val none = none)

/-- DISARM of a pending group withdraws the arm of every member: the group and its members are armed no more, and no
shadow bit and no live bit of a page other than HIF (whose TLP_RX counts the access) and of BUSM changes. While the
group is draining, DISARM leaves every arm, every group, every shadow bit but those, and every live bit as they are.
Rests on: R44. -/
def Obligations.GroupDisarmWithdrawsItsMembers : Prop :=
  (∀ (s : State) (t : Nat) (m : Master) (g : Fin 64) (value : Word) (x : Grp), s.takes m .glb (0x400 + 4 * g.val) →
      s.grpOf g.val = some x → x.draining = false → ∃ u : State, exec (.cgrpDisarm t m g value) s = .next u ∧ u.grpOf
      g.val = none ∧ (∀ p ∈ x.members, u.armOf p = none) ∧ (∀ a : Nat, inPage .hif a = false → ownWord a = false →
      u.word a = s.word a) ∧ (∀ a : Nat, u.lword a = s.lword a)) ∧
  (∀ (s : State) (t : Nat) (m : Master) (g : Fin 64) (value : Word) (x : Grp), s.takes m .glb (0x400 + 4 * g.val) →
      s.grpOf g.val = some x → x.draining = true → ∃ u : State, exec (.cgrpDisarm t m g value) s = .next u ∧ u.arms =
      s.arms ∧ u.groups = s.groups ∧ (∀ a : Nat, inPage .hif a = false → ownWord a = false → u.word a = s.word a) ∧ (∀
      a : Nat, u.lword a = s.lword a))

/-- For every command c and every state whose queue starts with c, step is exec of c on the state with the queue's
rest. On an empty queue a core cycle passes and due interrupt messages go out, which is the model's choice
(notes/assumptions/1.md). Rests on: 00_scope.md, 95_what_each_step_holds.md. -/
def Obligations.StepRunsTheFrontCommand : Prop :=
  (∀ (s : State) (c : Instr) (rest : List Instr), s.pending = c :: rest → step s = exec c { s with pending := rest }) ∧
  (∀ s : State, s.pending = [] → step s = .next s.idle)

/-- After reset every word reads as its reset value, shadow and live, registers, live words and GDDR6 are in canonical
form, arms are listed under their pages, no interrupt message is due, no fatal latch is set, and no command waits. The
reset values that the spec does not give are the model's choice (notes/assumptions/14.md to 19.md). Rests on:
00_scope.md, 14_control_plane.md, 16_boot_update.md. -/
def Obligations.ResetMeetsTheInvariants : Prop :=
  State.reset.canonical ∧ State.reset.armsKeyed ∧ State.reset.delivered ∧ State.reset.fatal = [] ∧
  State.reset.pending = [] ∧ ∀ a : Nat, State.reset.word a = resetOf a ∧ State.reset.lword a = resetOf a

/-- While RESET_N, a rail, missing power, VDDIO or the die temperature holds the device in reset, every other command
only lets its core cycle come. Readings of the model's own in it: notes/assumptions/12.md. Rests on:
16_boot_update.md, 18_package_power.md. -/
def Obligations.HeldDeviceIgnoresCommands : Prop :=
  ∀ (c : Instr) (s : State), s.boot.hold ≠ 0 → c.alwaysActs = false → exec c s = .next (s.begin c.cycle)

/-- While the live ENABLE of a page is 0, or its FUNC_INIT runs, the events that belong to its function change
nothing: their core cycle comes, and interrupt messages that are due go out. Readings of the model's own in it:
notes/assumptions/13.md. Rests on: 02_ticks_commit_salvos.md, 14_control_plane.md. -/
def Obligations.PausedPagesIgnoreTheirEvents : Prop :=
  ∀ (c : Instr) (s : State) (p : Page), c.gate = some p → s.boot.hold = 0 → s.running p = false →
    exec c s = .next (s.begin c.cycle).settle

/-- When an event of lane n, or a brace message on it, gives a next state: no word changes outside the page of n, the
pages that follow (REF, XWP_ROUTE, ASRC, VTG), for a brace lane the BRC page, and the bookkeeping words; no live word
outside the page of n; no other lane; and of the rest of the state only what the lane's faults, the brace link, the
references and the de-embedding FIFOs hold. Rests on: 03_serial_lanes.md, 17_faults_records.md. -/
def Obligations.LaneEventsStayOnTheirLane : Prop :=
  ∀ (c : Instr) (s u : State) (n : LaneNo), c.laneOf = some n → exec c s = .next u →
    (∀ a : Nat, inPage (.lane n) a = false → followWord a = false → (isBrace n = true → inPage .brc a = false) →
      ownWord a = false → u.word a = s.word a) ∧
    (∀ a : Nat, inPage (.lane n) a = false → u.lword a = s.lword a) ∧
    (∀ k : LaneNo, k ≠ n → u.lane k = s.lane k) ∧ (isBrace n = false → u.brace = s.brace) ∧
    u = { s with now := u.now, clk := u.clk, out := u.out, insvc := u.insvc, sh := u.sh, lv := u.lv, lanes := u.lanes, brace := u.brace, cands := u.cands, dplls := u.dplls, free := u.free, refo := u.refo, vtgs := u.vtgs, normal := u.normal, evr := u.evr, bbx := u.bbx, xwp := u.xwp }

/-- When an event of MAC port p gives a next state, no word and no live word changes outside its ETH page and the
bookkeeping words, and no other port. When an event of the servos, the PPS pins or the references does, no word
changes outside the TIME page, the pages that follow and the bookkeeping words. Of the rest of the state only what the
named parts hold changes. Rests on: 06_ethernet_ports.md, 08_network_time.md, 09_references_timing.md. -/
def Obligations.PortAndTimeEventsStayHome : Prop :=
  (∀ (c : Instr) (s u : State) (p : PortNo), c.portOf = some p → exec c s = .next u →
    (∀ a : Nat, inPage (.eth p) a = false → ownWord a = false → u.word a = s.word a) ∧
    (∀ a : Nat, inPage (.eth p) a = false → u.lword a = s.lword a) ∧ (∀ q : PortNo, q ≠ p → u.port q = s.port q) ∧
    u = { s with now := u.now, clk := u.clk, out := u.out, insvc := u.insvc, sh := u.sh, lv := u.lv, eth := u.eth, free := u.free, evr := u.evr, bbx := u.bbx, normal := u.normal }) ∧
  (∀ (c : Instr) (s u : State), c.timeEvent = true → exec c s = .next u →
    (∀ a : Nat, inPage .time a = false → followWord a = false → ownWord a = false → u.word a = s.word a) ∧
    u = { s with now := u.now, clk := u.clk, out := u.out, insvc := u.insvc, sh := u.sh, cands := u.cands, dplls := u.dplls, free := u.free, refo := u.refo, refoAt := u.refoAt, vtgs := u.vtgs, xwp := u.xwp })

/-- When an event of a receive or send slot, an audio flow, a TDM port, the ASRC, the meters, the audio edges of the
word plane, a frame buffer, GDDR6, the brace link's transmitter or a MAC port's traffic gives a next state, no word
changes outside the pages and tables of that function and the bookkeeping words, no live word changes, and of the rest
of the state only what these functions hold. Rests on: 07_media_flows.md, 10_audio_plane_network.md,
11_audio_ports_asrc.md, 12_engines_memory.md. -/
def Obligations.MediaEventsStayHome : Prop :=
  ∀ (c : Instr) (s u : State) (home : Nat → Bool), c.mediaHome = some home → exec c s = .next u →
    (∀ a : Nat, home a = false → ownWord a = false → u.word a = s.word a) ∧
    u = { s with now := u.now, clk := u.clk, out := u.out, insvc := u.insvc, sh := u.sh, free := u.free, evr := u.evr, bbx := u.bbx, normal := u.normal, fatal := u.fatal, fatalSrc := u.fatalSrc, rxs := u.rxs, txs := u.txs, audRx := u.audRx, audTx := u.audTx, eth := u.eth, rxPn := u.rxPn, pools := u.pools, tdm := u.tdm, ringLost := u.ringLost, gddr := u.gddr, engs := u.engs, aud := u.aud, xwp := u.xwp, brace := u.brace, retrainAt := u.retrainAt }

/-- When an event of the PCIe endpoint, the mailboxes, the bus matrix, the recorder, the black box, the update, key
and start-up services, or of SYSCLK and the test access port gives a next state, no word changes outside the page of
that unit and the bookkeeping words, no live word changes, and of the rest of the state only what these units hold.
Rests on: 14_control_plane.md, 15_keys_security.md, 16_boot_update.md, 17_faults_records.md. -/
def Obligations.ControlEventsStayHome : Prop :=
  ∀ (c : Instr) (s u : State) (home : Nat → Bool), c.controlHome = some home → exec c s = .next u →
    (∀ a : Nat, home a = false → ownWord a = false → u.word a = s.word a) ∧
    u = { s with now := u.now, clk := u.clk, out := u.out, insvc := u.insvc, sh := u.sh, free := u.free, evr := u.evr, bbx := u.bbx, normal := u.normal, fatal := u.fatal, fatalSrc := u.fatalSrc, bbxRun := u.bbxRun, boot := u.boot, bus := u.bus, keys := u.keys, mbx := u.mbx, msixMask := u.msixMask, pcieReady := u.pcieReady, pools := u.pools, upd := u.upd }

/-- When such a command gives a next state, no word changes outside its page, the HIF and BUSM pages (which count the
access) and the bookkeeping words, for a mailbox command also TIME; no live word and no byte of GDDR6 changes; the key
store, VBAT and the identity key change by key commands alone, OTP by key and update commands, and the flash by update
and mailbox commands. Rests on: 14_control_plane.md, 15_keys_security.md, 16_boot_update.md, 17_faults_records.md. -/
def Obligations.ServiceCommandsStayAtTheirPage : Prop :=
  ∀ (c : Instr) (s u : State) (p : Page), c.service = some p → exec c s = .next u →
    (∀ a : Nat, inPage p a = false → inPage .hif a = false → inPage .busm a = false → ownWord a = false →
      (p = .hif → inPage .time a = false) → u.word a = s.word a) ∧
    (∀ a : Nat, u.lword a = s.lword a) ∧ u.gddr = s.gddr ∧
    (p ≠ .key → u.keys = s.keys ∧ u.vbat = s.vbat ∧ u.identity = s.identity) ∧
    (p ≠ .key → p ≠ .upd → u.otp = s.otp) ∧ (p ≠ .upd → p ≠ .hif → u.flash = s.flash) ∧
    u.arms = s.arms ∧ u.groups = s.groups ∧ u.busy = s.busy ∧ u.lanes = s.lanes ∧ u.fatal = s.fatal ∧
    u.boot.hold = s.boot.hold ∧ u.pending = s.pending

/-- When a command that writes or reads one register of a page gives a next state, no word and no live word changes
outside that page, the HIF and BUSM pages (which count the access), what the rule of the register names besides, and
the bookkeeping words; OTP, flash, identity, GDDR6, fatal latches and the queue stay. Rests on: 00_scope.md,
14_control_plane.md. -/
def Obligations.AccessesStayAtTheirPage : Prop :=
  ∀ (c : Instr) (s u : State) (home : Nat → Bool), c.accessHome = some home → exec c s = .next u →
    (∀ a : Nat, home a = false → inPage .hif a = false → inPage .busm a = false → ownWord a = false →
      u.word a = s.word a) ∧
    (∀ a : Nat, home a = false → u.lword a = s.lword a) ∧ u.otp = s.otp ∧ u.flash = s.flash ∧
    u.identity = s.identity ∧ u.keys = s.keys ∧ u.gddr = s.gddr ∧ u.fatal = s.fatal ∧ u.fatalSrc = s.fatalSrc ∧
    u.boot.hold = s.boot.hold ∧ u.pending = s.pending

/-- After every command of a device that is not held in reset, after every command that acts while it is held, and
after every idle step of a device that is not held, each vector that is requested and open is in service: its message
has been sent. Rests on: 14_control_plane.md. -/
def Obligations.EveryStepSendsItsDueInterrupts : Prop :=
  (∀ (c : Instr) (s u : State), s.boot.hold = 0 ∨ c.alwaysActs = true → exec c s = .next u → u.delivered) ∧
  (∀ s u : State, s.boot.hold = 0 → s.pending = [] → step s = .next u → u.delivered)

/-- If the lists of registers, live words and GDDR6 bytes are in canonical form (addresses strictly rising, nothing
listed that an unlisted address reads as), they are after every step. Rests on: 00_scope.md, 12_engines_memory.md. -/
def Obligations.EveryStepKeepsTheCanonicalForm : Prop :=
  ∀ s u : State, s.canonical → step s = .next u → u.canonical

/-- Every command but the power cycle keeps each fatal latch that is set and the page named in FATAL_SRC; the first
latch set names its page in FATAL_SRC; the power cycle clears them all. Rests on: R429. -/
def Obligations.FatalLatchOnlyClearsWithPower : Prop :=
  (∀ (c : Instr) (s u : State), (∀ (t : Nat) (vbat : Bool), c ≠ .powerCycle t vbat) → exec c s = .next u →
    (∀ p ∈ s.fatal, p ∈ u.fatal) ∧ (∀ p : Nat, s.fatalSrc = some p → u.fatalSrc = some p) ∧
    (s.fatalSrc = none → u.fatal ≠ s.fatal → ∃ p ∈ u.fatal, u.fatalSrc = some p)) ∧
  (∀ (s : State) (t : Nat) (vbat : Bool), ∃ u : State, exec (.powerCycle t vbat) s = .next u ∧ u.fatal = [] ∧
    u.fatalSrc = none)
end

