-- ==== Sys2Proof/Decode.lean ====
section
/-! DEFINITION. Words that spell a command. spec/opcode_table.json gives no row any bits: a command is an event at the
block's pins, links or buses, and no word stands for it. -/

namespace Sys2Proof

/-- The command that a word of `nbits` bits spells: none. (DESIGN CHOICE, notes/assumptions/3.md) -/
def decodeTableWord (_nbits _w : Nat) : Option Instr := none

end Sys2Proof
end

