-- ==== Sys2Proof/Laws/State.lean ====
section
/-! SUPPORT. What the updates of the state leave alone: one lemma for each field under each update. -/

namespace Sys2Proof.Machine

@[simp] theorem State.setWord_now (s : State) (a : Nat) (v : Word) : (s.setWord a v).now = s.now := rfl
@[simp] theorem State.setWord_resetCycle (s : State) (a : Nat) (v : Word) : (s.setWord a v).resetCycle = s.resetCycle := rfl
@[simp] theorem State.setWord_lv (s : State) (a : Nat) (v : Word) : (s.setWord a v).lv = s.lv := rfl
@[simp] theorem State.setWord_arms (s : State) (a : Nat) (v : Word) : (s.setWord a v).arms = s.arms := rfl
@[simp] theorem State.setWord_groups (s : State) (a : Nat) (v : Word) : (s.setWord a v).groups = s.groups := rfl
@[simp] theorem State.setWord_freed (s : State) (a : Nat) (v : Word) : (s.setWord a v).freed = s.freed := rfl
@[simp] theorem State.setWord_freedAt (s : State) (a : Nat) (v : Word) : (s.setWord a v).freedAt = s.freedAt := rfl
@[simp] theorem State.setWord_undo (s : State) (a : Nat) (v : Word) : (s.setWord a v).undo = s.undo := rfl
@[simp] theorem State.setWord_undoAt (s : State) (a : Nat) (v : Word) : (s.setWord a v).undoAt = s.undoAt := rfl
@[simp] theorem State.setWord_busy (s : State) (a : Nat) (v : Word) : (s.setWord a v).busy = s.busy := rfl
@[simp] theorem State.setWord_pools (s : State) (a : Nat) (v : Word) : (s.setWord a v).pools = s.pools := rfl
@[simp] theorem State.setWord_fatal (s : State) (a : Nat) (v : Word) : (s.setWord a v).fatal = s.fatal := rfl
@[simp] theorem State.setWord_fatalSrc (s : State) (a : Nat) (v : Word) : (s.setWord a v).fatalSrc = s.fatalSrc := rfl
@[simp] theorem State.setWord_normal (s : State) (a : Nat) (v : Word) : (s.setWord a v).normal = s.normal := rfl
@[simp] theorem State.setWord_committed (s : State) (a : Nat) (v : Word) : (s.setWord a v).committed = s.committed := rfl
@[simp] theorem State.setWord_evr (s : State) (a : Nat) (v : Word) : (s.setWord a v).evr = s.evr := rfl
@[simp] theorem State.setWord_bbx (s : State) (a : Nat) (v : Word) : (s.setWord a v).bbx = s.bbx := rfl
@[simp] theorem State.setWord_insvc (s : State) (a : Nat) (v : Word) : (s.setWord a v).insvc = s.insvc := rfl
@[simp] theorem State.setWord_lanes (s : State) (a : Nat) (v : Word) : (s.setWord a v).lanes = s.lanes := rfl
@[simp] theorem State.setWord_xbp (s : State) (a : Nat) (v : Word) : (s.setWord a v).xbp = s.xbp := rfl
@[simp] theorem State.setWord_brace (s : State) (a : Nat) (v : Word) : (s.setWord a v).brace = s.brace := rfl
@[simp] theorem State.setWord_xwp (s : State) (a : Nat) (v : Word) : (s.setWord a v).xwp = s.xwp := rfl
@[simp] theorem State.setWord_eth (s : State) (a : Nat) (v : Word) : (s.setWord a v).eth = s.eth := rfl
@[simp] theorem State.setWord_saGen (s : State) (a : Nat) (v : Word) : (s.setWord a v).saGen = s.saGen := rfl
@[simp] theorem State.setWord_rxPn (s : State) (a : Nat) (v : Word) : (s.setWord a v).rxPn = s.rxPn := rfl
@[simp] theorem State.setWord_saWritten (s : State) (a : Nat) (v : Word) : (s.setWord a v).saWritten = s.saWritten := rfl
@[simp] theorem State.setWord_rxs (s : State) (a : Nat) (v : Word) : (s.setWord a v).rxs = s.rxs := rfl
@[simp] theorem State.setWord_txs (s : State) (a : Nat) (v : Word) : (s.setWord a v).txs = s.txs := rfl
@[simp] theorem State.setWord_clk (s : State) (a : Nat) (v : Word) : (s.setWord a v).clk = s.clk := rfl
@[simp] theorem State.setWord_cands (s : State) (a : Nat) (v : Word) : (s.setWord a v).cands = s.cands := rfl
@[simp] theorem State.setWord_dplls (s : State) (a : Nat) (v : Word) : (s.setWord a v).dplls = s.dplls := rfl
@[simp] theorem State.setWord_vtgs (s : State) (a : Nat) (v : Word) : (s.setWord a v).vtgs = s.vtgs := rfl
@[simp] theorem State.setWord_refo (s : State) (a : Nat) (v : Word) : (s.setWord a v).refo = s.refo := rfl
@[simp] theorem State.setWord_refoAt (s : State) (a : Nat) (v : Word) : (s.setWord a v).refoAt = s.refoAt := rfl
@[simp] theorem State.setWord_aud (s : State) (a : Nat) (v : Word) : (s.setWord a v).aud = s.aud := rfl
@[simp] theorem State.setWord_audRx (s : State) (a : Nat) (v : Word) : (s.setWord a v).audRx = s.audRx := rfl
@[simp] theorem State.setWord_audTx (s : State) (a : Nat) (v : Word) : (s.setWord a v).audTx = s.audTx := rfl
@[simp] theorem State.setWord_tdm (s : State) (a : Nat) (v : Word) : (s.setWord a v).tdm = s.tdm := rfl
@[simp] theorem State.setWord_gddr (s : State) (a : Nat) (v : Word) : (s.setWord a v).gddr = s.gddr := rfl
@[simp] theorem State.setWord_engs (s : State) (a : Nat) (v : Word) : (s.setWord a v).engs = s.engs := rfl
@[simp] theorem State.setWord_ringLost (s : State) (a : Nat) (v : Word) : (s.setWord a v).ringLost = s.ringLost := rfl
@[simp] theorem State.setWord_retrainAt (s : State) (a : Nat) (v : Word) : (s.setWord a v).retrainAt = s.retrainAt := rfl
@[simp] theorem State.setWord_bus (s : State) (a : Nat) (v : Word) : (s.setWord a v).bus = s.bus := rfl
@[simp] theorem State.setWord_spi (s : State) (a : Nat) (v : Word) : (s.setWord a v).spi = s.spi := rfl
@[simp] theorem State.setWord_mbx (s : State) (a : Nat) (v : Word) : (s.setWord a v).mbx = s.mbx := rfl
@[simp] theorem State.setWord_mbxAt (s : State) (a : Nat) (v : Word) : (s.setWord a v).mbxAt = s.mbxAt := rfl
@[simp] theorem State.setWord_pcieReady (s : State) (a : Nat) (v : Word) : (s.setWord a v).pcieReady = s.pcieReady := rfl
@[simp] theorem State.setWord_msixMask (s : State) (a : Nat) (v : Word) : (s.setWord a v).msixMask = s.msixMask := rfl
@[simp] theorem State.setWord_otp (s : State) (a : Nat) (v : Word) : (s.setWord a v).otp = s.otp := rfl
@[simp] theorem State.setWord_vbat (s : State) (a : Nat) (v : Word) : (s.setWord a v).vbat = s.vbat := rfl
@[simp] theorem State.setWord_keys (s : State) (a : Nat) (v : Word) : (s.setWord a v).keys = s.keys := rfl
@[simp] theorem State.setWord_identity (s : State) (a : Nat) (v : Word) : (s.setWord a v).identity = s.identity := rfl
@[simp] theorem State.setWord_powered (s : State) (a : Nat) (v : Word) : (s.setWord a v).powered = s.powered := rfl
@[simp] theorem State.setWord_flash (s : State) (a : Nat) (v : Word) : (s.setWord a v).flash = s.flash := rfl
@[simp] theorem State.setWord_boot (s : State) (a : Nat) (v : Word) : (s.setWord a v).boot = s.boot := rfl
@[simp] theorem State.setWord_upd (s : State) (a : Nat) (v : Word) : (s.setWord a v).upd = s.upd := rfl
@[simp] theorem State.setWord_bbxRun (s : State) (a : Nat) (v : Word) : (s.setWord a v).bbxRun = s.bbxRun := rfl
@[simp] theorem State.setWord_free (s : State) (a : Nat) (v : Word) : (s.setWord a v).free = s.free := rfl
@[simp] theorem State.setWord_out (s : State) (a : Nat) (v : Word) : (s.setWord a v).out = s.out := rfl
@[simp] theorem State.setWord_pending (s : State) (a : Nat) (v : Word) : (s.setWord a v).pending = s.pending := rfl

@[simp] theorem State.setLword_now (s : State) (a : Nat) (v : Word) : (s.setLword a v).now = s.now := rfl
@[simp] theorem State.setLword_resetCycle (s : State) (a : Nat) (v : Word) : (s.setLword a v).resetCycle = s.resetCycle := rfl
@[simp] theorem State.setLword_sh (s : State) (a : Nat) (v : Word) : (s.setLword a v).sh = s.sh := rfl
@[simp] theorem State.setLword_arms (s : State) (a : Nat) (v : Word) : (s.setLword a v).arms = s.arms := rfl
@[simp] theorem State.setLword_groups (s : State) (a : Nat) (v : Word) : (s.setLword a v).groups = s.groups := rfl
@[simp] theorem State.setLword_freed (s : State) (a : Nat) (v : Word) : (s.setLword a v).freed = s.freed := rfl
@[simp] theorem State.setLword_freedAt (s : State) (a : Nat) (v : Word) : (s.setLword a v).freedAt = s.freedAt := rfl
@[simp] theorem State.setLword_undo (s : State) (a : Nat) (v : Word) : (s.setLword a v).undo = s.undo := rfl
@[simp] theorem State.setLword_undoAt (s : State) (a : Nat) (v : Word) : (s.setLword a v).undoAt = s.undoAt := rfl
@[simp] theorem State.setLword_busy (s : State) (a : Nat) (v : Word) : (s.setLword a v).busy = s.busy := rfl
@[simp] theorem State.setLword_pools (s : State) (a : Nat) (v : Word) : (s.setLword a v).pools = s.pools := rfl
@[simp] theorem State.setLword_fatal (s : State) (a : Nat) (v : Word) : (s.setLword a v).fatal = s.fatal := rfl
@[simp] theorem State.setLword_fatalSrc (s : State) (a : Nat) (v : Word) : (s.setLword a v).fatalSrc = s.fatalSrc := rfl
@[simp] theorem State.setLword_normal (s : State) (a : Nat) (v : Word) : (s.setLword a v).normal = s.normal := rfl
@[simp] theorem State.setLword_committed (s : State) (a : Nat) (v : Word) : (s.setLword a v).committed = s.committed := rfl
@[simp] theorem State.setLword_evr (s : State) (a : Nat) (v : Word) : (s.setLword a v).evr = s.evr := rfl
@[simp] theorem State.setLword_bbx (s : State) (a : Nat) (v : Word) : (s.setLword a v).bbx = s.bbx := rfl
@[simp] theorem State.setLword_insvc (s : State) (a : Nat) (v : Word) : (s.setLword a v).insvc = s.insvc := rfl
@[simp] theorem State.setLword_lanes (s : State) (a : Nat) (v : Word) : (s.setLword a v).lanes = s.lanes := rfl
@[simp] theorem State.setLword_xbp (s : State) (a : Nat) (v : Word) : (s.setLword a v).xbp = s.xbp := rfl
@[simp] theorem State.setLword_brace (s : State) (a : Nat) (v : Word) : (s.setLword a v).brace = s.brace := rfl
@[simp] theorem State.setLword_xwp (s : State) (a : Nat) (v : Word) : (s.setLword a v).xwp = s.xwp := rfl
@[simp] theorem State.setLword_eth (s : State) (a : Nat) (v : Word) : (s.setLword a v).eth = s.eth := rfl
@[simp] theorem State.setLword_saGen (s : State) (a : Nat) (v : Word) : (s.setLword a v).saGen = s.saGen := rfl
@[simp] theorem State.setLword_rxPn (s : State) (a : Nat) (v : Word) : (s.setLword a v).rxPn = s.rxPn := rfl
@[simp] theorem State.setLword_saWritten (s : State) (a : Nat) (v : Word) : (s.setLword a v).saWritten = s.saWritten := rfl
@[simp] theorem State.setLword_rxs (s : State) (a : Nat) (v : Word) : (s.setLword a v).rxs = s.rxs := rfl
@[simp] theorem State.setLword_txs (s : State) (a : Nat) (v : Word) : (s.setLword a v).txs = s.txs := rfl
@[simp] theorem State.setLword_clk (s : State) (a : Nat) (v : Word) : (s.setLword a v).clk = s.clk := rfl
@[simp] theorem State.setLword_cands (s : State) (a : Nat) (v : Word) : (s.setLword a v).cands = s.cands := rfl
@[simp] theorem State.setLword_dplls (s : State) (a : Nat) (v : Word) : (s.setLword a v).dplls = s.dplls := rfl
@[simp] theorem State.setLword_vtgs (s : State) (a : Nat) (v : Word) : (s.setLword a v).vtgs = s.vtgs := rfl
@[simp] theorem State.setLword_refo (s : State) (a : Nat) (v : Word) : (s.setLword a v).refo = s.refo := rfl
@[simp] theorem State.setLword_refoAt (s : State) (a : Nat) (v : Word) : (s.setLword a v).refoAt = s.refoAt := rfl
@[simp] theorem State.setLword_aud (s : State) (a : Nat) (v : Word) : (s.setLword a v).aud = s.aud := rfl
@[simp] theorem State.setLword_audRx (s : State) (a : Nat) (v : Word) : (s.setLword a v).audRx = s.audRx := rfl
@[simp] theorem State.setLword_audTx (s : State) (a : Nat) (v : Word) : (s.setLword a v).audTx = s.audTx := rfl
@[simp] theorem State.setLword_tdm (s : State) (a : Nat) (v : Word) : (s.setLword a v).tdm = s.tdm := rfl
@[simp] theorem State.setLword_gddr (s : State) (a : Nat) (v : Word) : (s.setLword a v).gddr = s.gddr := rfl
@[simp] theorem State.setLword_engs (s : State) (a : Nat) (v : Word) : (s.setLword a v).engs = s.engs := rfl
@[simp] theorem State.setLword_ringLost (s : State) (a : Nat) (v : Word) : (s.setLword a v).ringLost = s.ringLost := rfl
@[simp] theorem State.setLword_retrainAt (s : State) (a : Nat) (v : Word) : (s.setLword a v).retrainAt = s.retrainAt := rfl
@[simp] theorem State.setLword_bus (s : State) (a : Nat) (v : Word) : (s.setLword a v).bus = s.bus := rfl
@[simp] theorem State.setLword_spi (s : State) (a : Nat) (v : Word) : (s.setLword a v).spi = s.spi := rfl
@[simp] theorem State.setLword_mbx (s : State) (a : Nat) (v : Word) : (s.setLword a v).mbx = s.mbx := rfl
@[simp] theorem State.setLword_mbxAt (s : State) (a : Nat) (v : Word) : (s.setLword a v).mbxAt = s.mbxAt := rfl
@[simp] theorem State.setLword_pcieReady (s : State) (a : Nat) (v : Word) : (s.setLword a v).pcieReady = s.pcieReady := rfl
@[simp] theorem State.setLword_msixMask (s : State) (a : Nat) (v : Word) : (s.setLword a v).msixMask = s.msixMask := rfl
@[simp] theorem State.setLword_otp (s : State) (a : Nat) (v : Word) : (s.setLword a v).otp = s.otp := rfl
@[simp] theorem State.setLword_vbat (s : State) (a : Nat) (v : Word) : (s.setLword a v).vbat = s.vbat := rfl
@[simp] theorem State.setLword_keys (s : State) (a : Nat) (v : Word) : (s.setLword a v).keys = s.keys := rfl
@[simp] theorem State.setLword_identity (s : State) (a : Nat) (v : Word) : (s.setLword a v).identity = s.identity := rfl
@[simp] theorem State.setLword_powered (s : State) (a : Nat) (v : Word) : (s.setLword a v).powered = s.powered := rfl
@[simp] theorem State.setLword_flash (s : State) (a : Nat) (v : Word) : (s.setLword a v).flash = s.flash := rfl
@[simp] theorem State.setLword_boot (s : State) (a : Nat) (v : Word) : (s.setLword a v).boot = s.boot := rfl
@[simp] theorem State.setLword_upd (s : State) (a : Nat) (v : Word) : (s.setLword a v).upd = s.upd := rfl
@[simp] theorem State.setLword_bbxRun (s : State) (a : Nat) (v : Word) : (s.setLword a v).bbxRun = s.bbxRun := rfl
@[simp] theorem State.setLword_free (s : State) (a : Nat) (v : Word) : (s.setLword a v).free = s.free := rfl
@[simp] theorem State.setLword_out (s : State) (a : Nat) (v : Word) : (s.setLword a v).out = s.out := rfl
@[simp] theorem State.setLword_pending (s : State) (a : Nat) (v : Word) : (s.setLword a v).pending = s.pending := rfl

@[simp] theorem State.put_now (s : State) (p : Page) (f : Fld) (v : Nat) : (s.put p f v).now = s.now := rfl
@[simp] theorem State.put_resetCycle (s : State) (p : Page) (f : Fld) (v : Nat) : (s.put p f v).resetCycle = s.resetCycle := rfl
@[simp] theorem State.put_lv (s : State) (p : Page) (f : Fld) (v : Nat) : (s.put p f v).lv = s.lv := rfl
@[simp] theorem State.put_arms (s : State) (p : Page) (f : Fld) (v : Nat) : (s.put p f v).arms = s.arms := rfl
@[simp] theorem State.put_groups (s : State) (p : Page) (f : Fld) (v : Nat) : (s.put p f v).groups = s.groups := rfl
@[simp] theorem State.put_freed (s : State) (p : Page) (f : Fld) (v : Nat) : (s.put p f v).freed = s.freed := rfl
@[simp] theorem State.put_freedAt (s : State) (p : Page) (f : Fld) (v : Nat) : (s.put p f v).freedAt = s.freedAt := rfl
@[simp] theorem State.put_undo (s : State) (p : Page) (f : Fld) (v : Nat) : (s.put p f v).undo = s.undo := rfl
@[simp] theorem State.put_undoAt (s : State) (p : Page) (f : Fld) (v : Nat) : (s.put p f v).undoAt = s.undoAt := rfl
@[simp] theorem State.put_busy (s : State) (p : Page) (f : Fld) (v : Nat) : (s.put p f v).busy = s.busy := rfl
@[simp] theorem State.put_pools (s : State) (p : Page) (f : Fld) (v : Nat) : (s.put p f v).pools = s.pools := rfl
@[simp] theorem State.put_fatal (s : State) (p : Page) (f : Fld) (v : Nat) : (s.put p f v).fatal = s.fatal := rfl
@[simp] theorem State.put_fatalSrc (s : State) (p : Page) (f : Fld) (v : Nat) : (s.put p f v).fatalSrc = s.fatalSrc := rfl
@[simp] theorem State.put_normal (s : State) (p : Page) (f : Fld) (v : Nat) : (s.put p f v).normal = s.normal := rfl
@[simp] theorem State.put_committed (s : State) (p : Page) (f : Fld) (v : Nat) : (s.put p f v).committed = s.committed := rfl
@[simp] theorem State.put_evr (s : State) (p : Page) (f : Fld) (v : Nat) : (s.put p f v).evr = s.evr := rfl
@[simp] theorem State.put_bbx (s : State) (p : Page) (f : Fld) (v : Nat) : (s.put p f v).bbx = s.bbx := rfl
@[simp] theorem State.put_insvc (s : State) (p : Page) (f : Fld) (v : Nat) : (s.put p f v).insvc = s.insvc := rfl
@[simp] theorem State.put_lanes (s : State) (p : Page) (f : Fld) (v : Nat) : (s.put p f v).lanes = s.lanes := rfl
@[simp] theorem State.put_xbp (s : State) (p : Page) (f : Fld) (v : Nat) : (s.put p f v).xbp = s.xbp := rfl
@[simp] theorem State.put_brace (s : State) (p : Page) (f : Fld) (v : Nat) : (s.put p f v).brace = s.brace := rfl
@[simp] theorem State.put_xwp (s : State) (p : Page) (f : Fld) (v : Nat) : (s.put p f v).xwp = s.xwp := rfl
@[simp] theorem State.put_eth (s : State) (p : Page) (f : Fld) (v : Nat) : (s.put p f v).eth = s.eth := rfl
@[simp] theorem State.put_saGen (s : State) (p : Page) (f : Fld) (v : Nat) : (s.put p f v).saGen = s.saGen := rfl
@[simp] theorem State.put_rxPn (s : State) (p : Page) (f : Fld) (v : Nat) : (s.put p f v).rxPn = s.rxPn := rfl
@[simp] theorem State.put_saWritten (s : State) (p : Page) (f : Fld) (v : Nat) : (s.put p f v).saWritten = s.saWritten := rfl
@[simp] theorem State.put_rxs (s : State) (p : Page) (f : Fld) (v : Nat) : (s.put p f v).rxs = s.rxs := rfl
@[simp] theorem State.put_txs (s : State) (p : Page) (f : Fld) (v : Nat) : (s.put p f v).txs = s.txs := rfl
@[simp] theorem State.put_clk (s : State) (p : Page) (f : Fld) (v : Nat) : (s.put p f v).clk = s.clk := rfl
@[simp] theorem State.put_cands (s : State) (p : Page) (f : Fld) (v : Nat) : (s.put p f v).cands = s.cands := rfl
@[simp] theorem State.put_dplls (s : State) (p : Page) (f : Fld) (v : Nat) : (s.put p f v).dplls = s.dplls := rfl
@[simp] theorem State.put_vtgs (s : State) (p : Page) (f : Fld) (v : Nat) : (s.put p f v).vtgs = s.vtgs := rfl
@[simp] theorem State.put_refo (s : State) (p : Page) (f : Fld) (v : Nat) : (s.put p f v).refo = s.refo := rfl
@[simp] theorem State.put_refoAt (s : State) (p : Page) (f : Fld) (v : Nat) : (s.put p f v).refoAt = s.refoAt := rfl
@[simp] theorem State.put_aud (s : State) (p : Page) (f : Fld) (v : Nat) : (s.put p f v).aud = s.aud := rfl
@[simp] theorem State.put_audRx (s : State) (p : Page) (f : Fld) (v : Nat) : (s.put p f v).audRx = s.audRx := rfl
@[simp] theorem State.put_audTx (s : State) (p : Page) (f : Fld) (v : Nat) : (s.put p f v).audTx = s.audTx := rfl
@[simp] theorem State.put_tdm (s : State) (p : Page) (f : Fld) (v : Nat) : (s.put p f v).tdm = s.tdm := rfl
@[simp] theorem State.put_gddr (s : State) (p : Page) (f : Fld) (v : Nat) : (s.put p f v).gddr = s.gddr := rfl
@[simp] theorem State.put_engs (s : State) (p : Page) (f : Fld) (v : Nat) : (s.put p f v).engs = s.engs := rfl
@[simp] theorem State.put_ringLost (s : State) (p : Page) (f : Fld) (v : Nat) : (s.put p f v).ringLost = s.ringLost := rfl
@[simp] theorem State.put_retrainAt (s : State) (p : Page) (f : Fld) (v : Nat) : (s.put p f v).retrainAt = s.retrainAt := rfl
@[simp] theorem State.put_bus (s : State) (p : Page) (f : Fld) (v : Nat) : (s.put p f v).bus = s.bus := rfl
@[simp] theorem State.put_spi (s : State) (p : Page) (f : Fld) (v : Nat) : (s.put p f v).spi = s.spi := rfl
@[simp] theorem State.put_mbx (s : State) (p : Page) (f : Fld) (v : Nat) : (s.put p f v).mbx = s.mbx := rfl
@[simp] theorem State.put_mbxAt (s : State) (p : Page) (f : Fld) (v : Nat) : (s.put p f v).mbxAt = s.mbxAt := rfl
@[simp] theorem State.put_pcieReady (s : State) (p : Page) (f : Fld) (v : Nat) : (s.put p f v).pcieReady = s.pcieReady := rfl
@[simp] theorem State.put_msixMask (s : State) (p : Page) (f : Fld) (v : Nat) : (s.put p f v).msixMask = s.msixMask := rfl
@[simp] theorem State.put_otp (s : State) (p : Page) (f : Fld) (v : Nat) : (s.put p f v).otp = s.otp := rfl
@[simp] theorem State.put_vbat (s : State) (p : Page) (f : Fld) (v : Nat) : (s.put p f v).vbat = s.vbat := rfl
@[simp] theorem State.put_keys (s : State) (p : Page) (f : Fld) (v : Nat) : (s.put p f v).keys = s.keys := rfl
@[simp] theorem State.put_identity (s : State) (p : Page) (f : Fld) (v : Nat) : (s.put p f v).identity = s.identity := rfl
@[simp] theorem State.put_powered (s : State) (p : Page) (f : Fld) (v : Nat) : (s.put p f v).powered = s.powered := rfl
@[simp] theorem State.put_flash (s : State) (p : Page) (f : Fld) (v : Nat) : (s.put p f v).flash = s.flash := rfl
@[simp] theorem State.put_boot (s : State) (p : Page) (f : Fld) (v : Nat) : (s.put p f v).boot = s.boot := rfl
@[simp] theorem State.put_upd (s : State) (p : Page) (f : Fld) (v : Nat) : (s.put p f v).upd = s.upd := rfl
@[simp] theorem State.put_bbxRun (s : State) (p : Page) (f : Fld) (v : Nat) : (s.put p f v).bbxRun = s.bbxRun := rfl
@[simp] theorem State.put_free (s : State) (p : Page) (f : Fld) (v : Nat) : (s.put p f v).free = s.free := rfl
@[simp] theorem State.put_out (s : State) (p : Page) (f : Fld) (v : Nat) : (s.put p f v).out = s.out := rfl
@[simp] theorem State.put_pending (s : State) (p : Page) (f : Fld) (v : Nat) : (s.put p f v).pending = s.pending := rfl

@[simp] theorem State.putLive_now (s : State) (p : Page) (f : Fld) (v : Nat) : (s.putLive p f v).now = s.now := rfl
@[simp] theorem State.putLive_resetCycle (s : State) (p : Page) (f : Fld) (v : Nat) : (s.putLive p f v).resetCycle = s.resetCycle := rfl
@[simp] theorem State.putLive_sh (s : State) (p : Page) (f : Fld) (v : Nat) : (s.putLive p f v).sh = s.sh := rfl
@[simp] theorem State.putLive_arms (s : State) (p : Page) (f : Fld) (v : Nat) : (s.putLive p f v).arms = s.arms := rfl
@[simp] theorem State.putLive_groups (s : State) (p : Page) (f : Fld) (v : Nat) : (s.putLive p f v).groups = s.groups := rfl
@[simp] theorem State.putLive_freed (s : State) (p : Page) (f : Fld) (v : Nat) : (s.putLive p f v).freed = s.freed := rfl
@[simp] theorem State.putLive_freedAt (s : State) (p : Page) (f : Fld) (v : Nat) : (s.putLive p f v).freedAt = s.freedAt := rfl
@[simp] theorem State.putLive_undo (s : State) (p : Page) (f : Fld) (v : Nat) : (s.putLive p f v).undo = s.undo := rfl
@[simp] theorem State.putLive_undoAt (s : State) (p : Page) (f : Fld) (v : Nat) : (s.putLive p f v).undoAt = s.undoAt := rfl
@[simp] theorem State.putLive_busy (s : State) (p : Page) (f : Fld) (v : Nat) : (s.putLive p f v).busy = s.busy := rfl
@[simp] theorem State.putLive_pools (s : State) (p : Page) (f : Fld) (v : Nat) : (s.putLive p f v).pools = s.pools := rfl
@[simp] theorem State.putLive_fatal (s : State) (p : Page) (f : Fld) (v : Nat) : (s.putLive p f v).fatal = s.fatal := rfl
@[simp] theorem State.putLive_fatalSrc (s : State) (p : Page) (f : Fld) (v : Nat) : (s.putLive p f v).fatalSrc = s.fatalSrc := rfl
@[simp] theorem State.putLive_normal (s : State) (p : Page) (f : Fld) (v : Nat) : (s.putLive p f v).normal = s.normal := rfl
@[simp] theorem State.putLive_committed (s : State) (p : Page) (f : Fld) (v : Nat) : (s.putLive p f v).committed = s.committed := rfl
@[simp] theorem State.putLive_evr (s : State) (p : Page) (f : Fld) (v : Nat) : (s.putLive p f v).evr = s.evr := rfl
@[simp] theorem State.putLive_bbx (s : State) (p : Page) (f : Fld) (v : Nat) : (s.putLive p f v).bbx = s.bbx := rfl
@[simp] theorem State.putLive_insvc (s : State) (p : Page) (f : Fld) (v : Nat) : (s.putLive p f v).insvc = s.insvc := rfl
@[simp] theorem State.putLive_lanes (s : State) (p : Page) (f : Fld) (v : Nat) : (s.putLive p f v).lanes = s.lanes := rfl
@[simp] theorem State.putLive_xbp (s : State) (p : Page) (f : Fld) (v : Nat) : (s.putLive p f v).xbp = s.xbp := rfl
@[simp] theorem State.putLive_brace (s : State) (p : Page) (f : Fld) (v : Nat) : (s.putLive p f v).brace = s.brace := rfl
@[simp] theorem State.putLive_xwp (s : State) (p : Page) (f : Fld) (v : Nat) : (s.putLive p f v).xwp = s.xwp := rfl
@[simp] theorem State.putLive_eth (s : State) (p : Page) (f : Fld) (v : Nat) : (s.putLive p f v).eth = s.eth := rfl
@[simp] theorem State.putLive_saGen (s : State) (p : Page) (f : Fld) (v : Nat) : (s.putLive p f v).saGen = s.saGen := rfl
@[simp] theorem State.putLive_rxPn (s : State) (p : Page) (f : Fld) (v : Nat) : (s.putLive p f v).rxPn = s.rxPn := rfl
@[simp] theorem State.putLive_saWritten (s : State) (p : Page) (f : Fld) (v : Nat) : (s.putLive p f v).saWritten = s.saWritten := rfl
@[simp] theorem State.putLive_rxs (s : State) (p : Page) (f : Fld) (v : Nat) : (s.putLive p f v).rxs = s.rxs := rfl
@[simp] theorem State.putLive_txs (s : State) (p : Page) (f : Fld) (v : Nat) : (s.putLive p f v).txs = s.txs := rfl
@[simp] theorem State.putLive_clk (s : State) (p : Page) (f : Fld) (v : Nat) : (s.putLive p f v).clk = s.clk := rfl
@[simp] theorem State.putLive_cands (s : State) (p : Page) (f : Fld) (v : Nat) : (s.putLive p f v).cands = s.cands := rfl
@[simp] theorem State.putLive_dplls (s : State) (p : Page) (f : Fld) (v : Nat) : (s.putLive p f v).dplls = s.dplls := rfl
@[simp] theorem State.putLive_vtgs (s : State) (p : Page) (f : Fld) (v : Nat) : (s.putLive p f v).vtgs = s.vtgs := rfl
@[simp] theorem State.putLive_refo (s : State) (p : Page) (f : Fld) (v : Nat) : (s.putLive p f v).refo = s.refo := rfl
@[simp] theorem State.putLive_refoAt (s : State) (p : Page) (f : Fld) (v : Nat) : (s.putLive p f v).refoAt = s.refoAt := rfl
@[simp] theorem State.putLive_aud (s : State) (p : Page) (f : Fld) (v : Nat) : (s.putLive p f v).aud = s.aud := rfl
@[simp] theorem State.putLive_audRx (s : State) (p : Page) (f : Fld) (v : Nat) : (s.putLive p f v).audRx = s.audRx := rfl
@[simp] theorem State.putLive_audTx (s : State) (p : Page) (f : Fld) (v : Nat) : (s.putLive p f v).audTx = s.audTx := rfl
@[simp] theorem State.putLive_tdm (s : State) (p : Page) (f : Fld) (v : Nat) : (s.putLive p f v).tdm = s.tdm := rfl
@[simp] theorem State.putLive_gddr (s : State) (p : Page) (f : Fld) (v : Nat) : (s.putLive p f v).gddr = s.gddr := rfl
@[simp] theorem State.putLive_engs (s : State) (p : Page) (f : Fld) (v : Nat) : (s.putLive p f v).engs = s.engs := rfl
@[simp] theorem State.putLive_ringLost (s : State) (p : Page) (f : Fld) (v : Nat) : (s.putLive p f v).ringLost = s.ringLost := rfl
@[simp] theorem State.putLive_retrainAt (s : State) (p : Page) (f : Fld) (v : Nat) : (s.putLive p f v).retrainAt = s.retrainAt := rfl
@[simp] theorem State.putLive_bus (s : State) (p : Page) (f : Fld) (v : Nat) : (s.putLive p f v).bus = s.bus := rfl
@[simp] theorem State.putLive_spi (s : State) (p : Page) (f : Fld) (v : Nat) : (s.putLive p f v).spi = s.spi := rfl
@[simp] theorem State.putLive_mbx (s : State) (p : Page) (f : Fld) (v : Nat) : (s.putLive p f v).mbx = s.mbx := rfl
@[simp] theorem State.putLive_mbxAt (s : State) (p : Page) (f : Fld) (v : Nat) : (s.putLive p f v).mbxAt = s.mbxAt := rfl
@[simp] theorem State.putLive_pcieReady (s : State) (p : Page) (f : Fld) (v : Nat) : (s.putLive p f v).pcieReady = s.pcieReady := rfl
@[simp] theorem State.putLive_msixMask (s : State) (p : Page) (f : Fld) (v : Nat) : (s.putLive p f v).msixMask = s.msixMask := rfl
@[simp] theorem State.putLive_otp (s : State) (p : Page) (f : Fld) (v : Nat) : (s.putLive p f v).otp = s.otp := rfl
@[simp] theorem State.putLive_vbat (s : State) (p : Page) (f : Fld) (v : Nat) : (s.putLive p f v).vbat = s.vbat := rfl
@[simp] theorem State.putLive_keys (s : State) (p : Page) (f : Fld) (v : Nat) : (s.putLive p f v).keys = s.keys := rfl
@[simp] theorem State.putLive_identity (s : State) (p : Page) (f : Fld) (v : Nat) : (s.putLive p f v).identity = s.identity := rfl
@[simp] theorem State.putLive_powered (s : State) (p : Page) (f : Fld) (v : Nat) : (s.putLive p f v).powered = s.powered := rfl
@[simp] theorem State.putLive_flash (s : State) (p : Page) (f : Fld) (v : Nat) : (s.putLive p f v).flash = s.flash := rfl
@[simp] theorem State.putLive_boot (s : State) (p : Page) (f : Fld) (v : Nat) : (s.putLive p f v).boot = s.boot := rfl
@[simp] theorem State.putLive_upd (s : State) (p : Page) (f : Fld) (v : Nat) : (s.putLive p f v).upd = s.upd := rfl
@[simp] theorem State.putLive_bbxRun (s : State) (p : Page) (f : Fld) (v : Nat) : (s.putLive p f v).bbxRun = s.bbxRun := rfl
@[simp] theorem State.putLive_free (s : State) (p : Page) (f : Fld) (v : Nat) : (s.putLive p f v).free = s.free := rfl
@[simp] theorem State.putLive_out (s : State) (p : Page) (f : Fld) (v : Nat) : (s.putLive p f v).out = s.out := rfl
@[simp] theorem State.putLive_pending (s : State) (p : Page) (f : Fld) (v : Nat) : (s.putLive p f v).pending = s.pending := rfl

@[simp] theorem State.tput_now (s : State) (f : Fld) (v : Nat) : (s.tput f v).now = s.now := rfl
@[simp] theorem State.tput_resetCycle (s : State) (f : Fld) (v : Nat) : (s.tput f v).resetCycle = s.resetCycle := rfl
@[simp] theorem State.tput_lv (s : State) (f : Fld) (v : Nat) : (s.tput f v).lv = s.lv := rfl
@[simp] theorem State.tput_arms (s : State) (f : Fld) (v : Nat) : (s.tput f v).arms = s.arms := rfl
@[simp] theorem State.tput_groups (s : State) (f : Fld) (v : Nat) : (s.tput f v).groups = s.groups := rfl
@[simp] theorem State.tput_freed (s : State) (f : Fld) (v : Nat) : (s.tput f v).freed = s.freed := rfl
@[simp] theorem State.tput_freedAt (s : State) (f : Fld) (v : Nat) : (s.tput f v).freedAt = s.freedAt := rfl
@[simp] theorem State.tput_undo (s : State) (f : Fld) (v : Nat) : (s.tput f v).undo = s.undo := rfl
@[simp] theorem State.tput_undoAt (s : State) (f : Fld) (v : Nat) : (s.tput f v).undoAt = s.undoAt := rfl
@[simp] theorem State.tput_busy (s : State) (f : Fld) (v : Nat) : (s.tput f v).busy = s.busy := rfl
@[simp] theorem State.tput_pools (s : State) (f : Fld) (v : Nat) : (s.tput f v).pools = s.pools := rfl
@[simp] theorem State.tput_fatal (s : State) (f : Fld) (v : Nat) : (s.tput f v).fatal = s.fatal := rfl
@[simp] theorem State.tput_fatalSrc (s : State) (f : Fld) (v : Nat) : (s.tput f v).fatalSrc = s.fatalSrc := rfl
@[simp] theorem State.tput_normal (s : State) (f : Fld) (v : Nat) : (s.tput f v).normal = s.normal := rfl
@[simp] theorem State.tput_committed (s : State) (f : Fld) (v : Nat) : (s.tput f v).committed = s.committed := rfl
@[simp] theorem State.tput_evr (s : State) (f : Fld) (v : Nat) : (s.tput f v).evr = s.evr := rfl
@[simp] theorem State.tput_bbx (s : State) (f : Fld) (v : Nat) : (s.tput f v).bbx = s.bbx := rfl
@[simp] theorem State.tput_insvc (s : State) (f : Fld) (v : Nat) : (s.tput f v).insvc = s.insvc := rfl
@[simp] theorem State.tput_lanes (s : State) (f : Fld) (v : Nat) : (s.tput f v).lanes = s.lanes := rfl
@[simp] theorem State.tput_xbp (s : State) (f : Fld) (v : Nat) : (s.tput f v).xbp = s.xbp := rfl
@[simp] theorem State.tput_brace (s : State) (f : Fld) (v : Nat) : (s.tput f v).brace = s.brace := rfl
@[simp] theorem State.tput_xwp (s : State) (f : Fld) (v : Nat) : (s.tput f v).xwp = s.xwp := rfl
@[simp] theorem State.tput_eth (s : State) (f : Fld) (v : Nat) : (s.tput f v).eth = s.eth := rfl
@[simp] theorem State.tput_saGen (s : State) (f : Fld) (v : Nat) : (s.tput f v).saGen = s.saGen := rfl
@[simp] theorem State.tput_rxPn (s : State) (f : Fld) (v : Nat) : (s.tput f v).rxPn = s.rxPn := rfl
@[simp] theorem State.tput_saWritten (s : State) (f : Fld) (v : Nat) : (s.tput f v).saWritten = s.saWritten := rfl
@[simp] theorem State.tput_rxs (s : State) (f : Fld) (v : Nat) : (s.tput f v).rxs = s.rxs := rfl
@[simp] theorem State.tput_txs (s : State) (f : Fld) (v : Nat) : (s.tput f v).txs = s.txs := rfl
@[simp] theorem State.tput_clk (s : State) (f : Fld) (v : Nat) : (s.tput f v).clk = s.clk := rfl
@[simp] theorem State.tput_cands (s : State) (f : Fld) (v : Nat) : (s.tput f v).cands = s.cands := rfl
@[simp] theorem State.tput_dplls (s : State) (f : Fld) (v : Nat) : (s.tput f v).dplls = s.dplls := rfl
@[simp] theorem State.tput_vtgs (s : State) (f : Fld) (v : Nat) : (s.tput f v).vtgs = s.vtgs := rfl
@[simp] theorem State.tput_refo (s : State) (f : Fld) (v : Nat) : (s.tput f v).refo = s.refo := rfl
@[simp] theorem State.tput_refoAt (s : State) (f : Fld) (v : Nat) : (s.tput f v).refoAt = s.refoAt := rfl
@[simp] theorem State.tput_aud (s : State) (f : Fld) (v : Nat) : (s.tput f v).aud = s.aud := rfl
@[simp] theorem State.tput_audRx (s : State) (f : Fld) (v : Nat) : (s.tput f v).audRx = s.audRx := rfl
@[simp] theorem State.tput_audTx (s : State) (f : Fld) (v : Nat) : (s.tput f v).audTx = s.audTx := rfl
@[simp] theorem State.tput_tdm (s : State) (f : Fld) (v : Nat) : (s.tput f v).tdm = s.tdm := rfl
@[simp] theorem State.tput_gddr (s : State) (f : Fld) (v : Nat) : (s.tput f v).gddr = s.gddr := rfl
@[simp] theorem State.tput_engs (s : State) (f : Fld) (v : Nat) : (s.tput f v).engs = s.engs := rfl
@[simp] theorem State.tput_ringLost (s : State) (f : Fld) (v : Nat) : (s.tput f v).ringLost = s.ringLost := rfl
@[simp] theorem State.tput_retrainAt (s : State) (f : Fld) (v : Nat) : (s.tput f v).retrainAt = s.retrainAt := rfl
@[simp] theorem State.tput_bus (s : State) (f : Fld) (v : Nat) : (s.tput f v).bus = s.bus := rfl
@[simp] theorem State.tput_spi (s : State) (f : Fld) (v : Nat) : (s.tput f v).spi = s.spi := rfl
@[simp] theorem State.tput_mbx (s : State) (f : Fld) (v : Nat) : (s.tput f v).mbx = s.mbx := rfl
@[simp] theorem State.tput_mbxAt (s : State) (f : Fld) (v : Nat) : (s.tput f v).mbxAt = s.mbxAt := rfl
@[simp] theorem State.tput_pcieReady (s : State) (f : Fld) (v : Nat) : (s.tput f v).pcieReady = s.pcieReady := rfl
@[simp] theorem State.tput_msixMask (s : State) (f : Fld) (v : Nat) : (s.tput f v).msixMask = s.msixMask := rfl
@[simp] theorem State.tput_otp (s : State) (f : Fld) (v : Nat) : (s.tput f v).otp = s.otp := rfl
@[simp] theorem State.tput_vbat (s : State) (f : Fld) (v : Nat) : (s.tput f v).vbat = s.vbat := rfl
@[simp] theorem State.tput_keys (s : State) (f : Fld) (v : Nat) : (s.tput f v).keys = s.keys := rfl
@[simp] theorem State.tput_identity (s : State) (f : Fld) (v : Nat) : (s.tput f v).identity = s.identity := rfl
@[simp] theorem State.tput_powered (s : State) (f : Fld) (v : Nat) : (s.tput f v).powered = s.powered := rfl
@[simp] theorem State.tput_flash (s : State) (f : Fld) (v : Nat) : (s.tput f v).flash = s.flash := rfl
@[simp] theorem State.tput_boot (s : State) (f : Fld) (v : Nat) : (s.tput f v).boot = s.boot := rfl
@[simp] theorem State.tput_upd (s : State) (f : Fld) (v : Nat) : (s.tput f v).upd = s.upd := rfl
@[simp] theorem State.tput_bbxRun (s : State) (f : Fld) (v : Nat) : (s.tput f v).bbxRun = s.bbxRun := rfl
@[simp] theorem State.tput_free (s : State) (f : Fld) (v : Nat) : (s.tput f v).free = s.free := rfl
@[simp] theorem State.tput_out (s : State) (f : Fld) (v : Nat) : (s.tput f v).out = s.out := rfl
@[simp] theorem State.tput_pending (s : State) (f : Fld) (v : Nat) : (s.tput f v).pending = s.pending := rfl

@[simp] theorem State.tputLive_now (s : State) (f : Fld) (v : Nat) : (s.tputLive f v).now = s.now := rfl
@[simp] theorem State.tputLive_resetCycle (s : State) (f : Fld) (v : Nat) : (s.tputLive f v).resetCycle = s.resetCycle := rfl
@[simp] theorem State.tputLive_sh (s : State) (f : Fld) (v : Nat) : (s.tputLive f v).sh = s.sh := rfl
@[simp] theorem State.tputLive_arms (s : State) (f : Fld) (v : Nat) : (s.tputLive f v).arms = s.arms := rfl
@[simp] theorem State.tputLive_groups (s : State) (f : Fld) (v : Nat) : (s.tputLive f v).groups = s.groups := rfl
@[simp] theorem State.tputLive_freed (s : State) (f : Fld) (v : Nat) : (s.tputLive f v).freed = s.freed := rfl
@[simp] theorem State.tputLive_freedAt (s : State) (f : Fld) (v : Nat) : (s.tputLive f v).freedAt = s.freedAt := rfl
@[simp] theorem State.tputLive_undo (s : State) (f : Fld) (v : Nat) : (s.tputLive f v).undo = s.undo := rfl
@[simp] theorem State.tputLive_undoAt (s : State) (f : Fld) (v : Nat) : (s.tputLive f v).undoAt = s.undoAt := rfl
@[simp] theorem State.tputLive_busy (s : State) (f : Fld) (v : Nat) : (s.tputLive f v).busy = s.busy := rfl
@[simp] theorem State.tputLive_pools (s : State) (f : Fld) (v : Nat) : (s.tputLive f v).pools = s.pools := rfl
@[simp] theorem State.tputLive_fatal (s : State) (f : Fld) (v : Nat) : (s.tputLive f v).fatal = s.fatal := rfl
@[simp] theorem State.tputLive_fatalSrc (s : State) (f : Fld) (v : Nat) : (s.tputLive f v).fatalSrc = s.fatalSrc := rfl
@[simp] theorem State.tputLive_normal (s : State) (f : Fld) (v : Nat) : (s.tputLive f v).normal = s.normal := rfl
@[simp] theorem State.tputLive_committed (s : State) (f : Fld) (v : Nat) : (s.tputLive f v).committed = s.committed := rfl
@[simp] theorem State.tputLive_evr (s : State) (f : Fld) (v : Nat) : (s.tputLive f v).evr = s.evr := rfl
@[simp] theorem State.tputLive_bbx (s : State) (f : Fld) (v : Nat) : (s.tputLive f v).bbx = s.bbx := rfl
@[simp] theorem State.tputLive_insvc (s : State) (f : Fld) (v : Nat) : (s.tputLive f v).insvc = s.insvc := rfl
@[simp] theorem State.tputLive_lanes (s : State) (f : Fld) (v : Nat) : (s.tputLive f v).lanes = s.lanes := rfl
@[simp] theorem State.tputLive_xbp (s : State) (f : Fld) (v : Nat) : (s.tputLive f v).xbp = s.xbp := rfl
@[simp] theorem State.tputLive_brace (s : State) (f : Fld) (v : Nat) : (s.tputLive f v).brace = s.brace := rfl
@[simp] theorem State.tputLive_xwp (s : State) (f : Fld) (v : Nat) : (s.tputLive f v).xwp = s.xwp := rfl
@[simp] theorem State.tputLive_eth (s : State) (f : Fld) (v : Nat) : (s.tputLive f v).eth = s.eth := rfl
@[simp] theorem State.tputLive_saGen (s : State) (f : Fld) (v : Nat) : (s.tputLive f v).saGen = s.saGen := rfl
@[simp] theorem State.tputLive_rxPn (s : State) (f : Fld) (v : Nat) : (s.tputLive f v).rxPn = s.rxPn := rfl
@[simp] theorem State.tputLive_saWritten (s : State) (f : Fld) (v : Nat) : (s.tputLive f v).saWritten = s.saWritten := rfl
@[simp] theorem State.tputLive_rxs (s : State) (f : Fld) (v : Nat) : (s.tputLive f v).rxs = s.rxs := rfl
@[simp] theorem State.tputLive_txs (s : State) (f : Fld) (v : Nat) : (s.tputLive f v).txs = s.txs := rfl
@[simp] theorem State.tputLive_clk (s : State) (f : Fld) (v : Nat) : (s.tputLive f v).clk = s.clk := rfl
@[simp] theorem State.tputLive_cands (s : State) (f : Fld) (v : Nat) : (s.tputLive f v).cands = s.cands := rfl
@[simp] theorem State.tputLive_dplls (s : State) (f : Fld) (v : Nat) : (s.tputLive f v).dplls = s.dplls := rfl
@[simp] theorem State.tputLive_vtgs (s : State) (f : Fld) (v : Nat) : (s.tputLive f v).vtgs = s.vtgs := rfl
@[simp] theorem State.tputLive_refo (s : State) (f : Fld) (v : Nat) : (s.tputLive f v).refo = s.refo := rfl
@[simp] theorem State.tputLive_refoAt (s : State) (f : Fld) (v : Nat) : (s.tputLive f v).refoAt = s.refoAt := rfl
@[simp] theorem State.tputLive_aud (s : State) (f : Fld) (v : Nat) : (s.tputLive f v).aud = s.aud := rfl
@[simp] theorem State.tputLive_audRx (s : State) (f : Fld) (v : Nat) : (s.tputLive f v).audRx = s.audRx := rfl
@[simp] theorem State.tputLive_audTx (s : State) (f : Fld) (v : Nat) : (s.tputLive f v).audTx = s.audTx := rfl
@[simp] theorem State.tputLive_tdm (s : State) (f : Fld) (v : Nat) : (s.tputLive f v).tdm = s.tdm := rfl
@[simp] theorem State.tputLive_gddr (s : State) (f : Fld) (v : Nat) : (s.tputLive f v).gddr = s.gddr := rfl
@[simp] theorem State.tputLive_engs (s : State) (f : Fld) (v : Nat) : (s.tputLive f v).engs = s.engs := rfl
@[simp] theorem State.tputLive_ringLost (s : State) (f : Fld) (v : Nat) : (s.tputLive f v).ringLost = s.ringLost := rfl
@[simp] theorem State.tputLive_retrainAt (s : State) (f : Fld) (v : Nat) : (s.tputLive f v).retrainAt = s.retrainAt := rfl
@[simp] theorem State.tputLive_bus (s : State) (f : Fld) (v : Nat) : (s.tputLive f v).bus = s.bus := rfl
@[simp] theorem State.tputLive_spi (s : State) (f : Fld) (v : Nat) : (s.tputLive f v).spi = s.spi := rfl
@[simp] theorem State.tputLive_mbx (s : State) (f : Fld) (v : Nat) : (s.tputLive f v).mbx = s.mbx := rfl
@[simp] theorem State.tputLive_mbxAt (s : State) (f : Fld) (v : Nat) : (s.tputLive f v).mbxAt = s.mbxAt := rfl
@[simp] theorem State.tputLive_pcieReady (s : State) (f : Fld) (v : Nat) : (s.tputLive f v).pcieReady = s.pcieReady := rfl
@[simp] theorem State.tputLive_msixMask (s : State) (f : Fld) (v : Nat) : (s.tputLive f v).msixMask = s.msixMask := rfl
@[simp] theorem State.tputLive_otp (s : State) (f : Fld) (v : Nat) : (s.tputLive f v).otp = s.otp := rfl
@[simp] theorem State.tputLive_vbat (s : State) (f : Fld) (v : Nat) : (s.tputLive f v).vbat = s.vbat := rfl
@[simp] theorem State.tputLive_keys (s : State) (f : Fld) (v : Nat) : (s.tputLive f v).keys = s.keys := rfl
@[simp] theorem State.tputLive_identity (s : State) (f : Fld) (v : Nat) : (s.tputLive f v).identity = s.identity := rfl
@[simp] theorem State.tputLive_powered (s : State) (f : Fld) (v : Nat) : (s.tputLive f v).powered = s.powered := rfl
@[simp] theorem State.tputLive_flash (s : State) (f : Fld) (v : Nat) : (s.tputLive f v).flash = s.flash := rfl
@[simp] theorem State.tputLive_boot (s : State) (f : Fld) (v : Nat) : (s.tputLive f v).boot = s.boot := rfl
@[simp] theorem State.tputLive_upd (s : State) (f : Fld) (v : Nat) : (s.tputLive f v).upd = s.upd := rfl
@[simp] theorem State.tputLive_bbxRun (s : State) (f : Fld) (v : Nat) : (s.tputLive f v).bbxRun = s.bbxRun := rfl
@[simp] theorem State.tputLive_free (s : State) (f : Fld) (v : Nat) : (s.tputLive f v).free = s.free := rfl
@[simp] theorem State.tputLive_out (s : State) (f : Fld) (v : Nat) : (s.tputLive f v).out = s.out := rfl
@[simp] theorem State.tputLive_pending (s : State) (f : Fld) (v : Nat) : (s.tputLive f v).pending = s.pending := rfl

@[simp] theorem State.emit_now (s : State) (e : Emit) : (s.emit e).now = s.now := rfl
@[simp] theorem State.emit_resetCycle (s : State) (e : Emit) : (s.emit e).resetCycle = s.resetCycle := rfl
@[simp] theorem State.emit_sh (s : State) (e : Emit) : (s.emit e).sh = s.sh := rfl
@[simp] theorem State.emit_lv (s : State) (e : Emit) : (s.emit e).lv = s.lv := rfl
@[simp] theorem State.emit_arms (s : State) (e : Emit) : (s.emit e).arms = s.arms := rfl
@[simp] theorem State.emit_groups (s : State) (e : Emit) : (s.emit e).groups = s.groups := rfl
@[simp] theorem State.emit_freed (s : State) (e : Emit) : (s.emit e).freed = s.freed := rfl
@[simp] theorem State.emit_freedAt (s : State) (e : Emit) : (s.emit e).freedAt = s.freedAt := rfl
@[simp] theorem State.emit_undo (s : State) (e : Emit) : (s.emit e).undo = s.undo := rfl
@[simp] theorem State.emit_undoAt (s : State) (e : Emit) : (s.emit e).undoAt = s.undoAt := rfl
@[simp] theorem State.emit_busy (s : State) (e : Emit) : (s.emit e).busy = s.busy := rfl
@[simp] theorem State.emit_pools (s : State) (e : Emit) : (s.emit e).pools = s.pools := rfl
@[simp] theorem State.emit_fatal (s : State) (e : Emit) : (s.emit e).fatal = s.fatal := rfl
@[simp] theorem State.emit_fatalSrc (s : State) (e : Emit) : (s.emit e).fatalSrc = s.fatalSrc := rfl
@[simp] theorem State.emit_normal (s : State) (e : Emit) : (s.emit e).normal = s.normal := rfl
@[simp] theorem State.emit_committed (s : State) (e : Emit) : (s.emit e).committed = s.committed := rfl
@[simp] theorem State.emit_evr (s : State) (e : Emit) : (s.emit e).evr = s.evr := rfl
@[simp] theorem State.emit_bbx (s : State) (e : Emit) : (s.emit e).bbx = s.bbx := rfl
@[simp] theorem State.emit_insvc (s : State) (e : Emit) : (s.emit e).insvc = s.insvc := rfl
@[simp] theorem State.emit_lanes (s : State) (e : Emit) : (s.emit e).lanes = s.lanes := rfl
@[simp] theorem State.emit_xbp (s : State) (e : Emit) : (s.emit e).xbp = s.xbp := rfl
@[simp] theorem State.emit_brace (s : State) (e : Emit) : (s.emit e).brace = s.brace := rfl
@[simp] theorem State.emit_xwp (s : State) (e : Emit) : (s.emit e).xwp = s.xwp := rfl
@[simp] theorem State.emit_eth (s : State) (e : Emit) : (s.emit e).eth = s.eth := rfl
@[simp] theorem State.emit_saGen (s : State) (e : Emit) : (s.emit e).saGen = s.saGen := rfl
@[simp] theorem State.emit_rxPn (s : State) (e : Emit) : (s.emit e).rxPn = s.rxPn := rfl
@[simp] theorem State.emit_saWritten (s : State) (e : Emit) : (s.emit e).saWritten = s.saWritten := rfl
@[simp] theorem State.emit_rxs (s : State) (e : Emit) : (s.emit e).rxs = s.rxs := rfl
@[simp] theorem State.emit_txs (s : State) (e : Emit) : (s.emit e).txs = s.txs := rfl
@[simp] theorem State.emit_clk (s : State) (e : Emit) : (s.emit e).clk = s.clk := rfl
@[simp] theorem State.emit_cands (s : State) (e : Emit) : (s.emit e).cands = s.cands := rfl
@[simp] theorem State.emit_dplls (s : State) (e : Emit) : (s.emit e).dplls = s.dplls := rfl
@[simp] theorem State.emit_vtgs (s : State) (e : Emit) : (s.emit e).vtgs = s.vtgs := rfl
@[simp] theorem State.emit_refo (s : State) (e : Emit) : (s.emit e).refo = s.refo := rfl
@[simp] theorem State.emit_refoAt (s : State) (e : Emit) : (s.emit e).refoAt = s.refoAt := rfl
@[simp] theorem State.emit_aud (s : State) (e : Emit) : (s.emit e).aud = s.aud := rfl
@[simp] theorem State.emit_audRx (s : State) (e : Emit) : (s.emit e).audRx = s.audRx := rfl
@[simp] theorem State.emit_audTx (s : State) (e : Emit) : (s.emit e).audTx = s.audTx := rfl
@[simp] theorem State.emit_tdm (s : State) (e : Emit) : (s.emit e).tdm = s.tdm := rfl
@[simp] theorem State.emit_gddr (s : State) (e : Emit) : (s.emit e).gddr = s.gddr := rfl
@[simp] theorem State.emit_engs (s : State) (e : Emit) : (s.emit e).engs = s.engs := rfl
@[simp] theorem State.emit_ringLost (s : State) (e : Emit) : (s.emit e).ringLost = s.ringLost := rfl
@[simp] theorem State.emit_retrainAt (s : State) (e : Emit) : (s.emit e).retrainAt = s.retrainAt := rfl
@[simp] theorem State.emit_bus (s : State) (e : Emit) : (s.emit e).bus = s.bus := rfl
@[simp] theorem State.emit_spi (s : State) (e : Emit) : (s.emit e).spi = s.spi := rfl
@[simp] theorem State.emit_mbx (s : State) (e : Emit) : (s.emit e).mbx = s.mbx := rfl
@[simp] theorem State.emit_mbxAt (s : State) (e : Emit) : (s.emit e).mbxAt = s.mbxAt := rfl
@[simp] theorem State.emit_pcieReady (s : State) (e : Emit) : (s.emit e).pcieReady = s.pcieReady := rfl
@[simp] theorem State.emit_msixMask (s : State) (e : Emit) : (s.emit e).msixMask = s.msixMask := rfl
@[simp] theorem State.emit_otp (s : State) (e : Emit) : (s.emit e).otp = s.otp := rfl
@[simp] theorem State.emit_vbat (s : State) (e : Emit) : (s.emit e).vbat = s.vbat := rfl
@[simp] theorem State.emit_keys (s : State) (e : Emit) : (s.emit e).keys = s.keys := rfl
@[simp] theorem State.emit_identity (s : State) (e : Emit) : (s.emit e).identity = s.identity := rfl
@[simp] theorem State.emit_powered (s : State) (e : Emit) : (s.emit e).powered = s.powered := rfl
@[simp] theorem State.emit_flash (s : State) (e : Emit) : (s.emit e).flash = s.flash := rfl
@[simp] theorem State.emit_boot (s : State) (e : Emit) : (s.emit e).boot = s.boot := rfl
@[simp] theorem State.emit_upd (s : State) (e : Emit) : (s.emit e).upd = s.upd := rfl
@[simp] theorem State.emit_bbxRun (s : State) (e : Emit) : (s.emit e).bbxRun = s.bbxRun := rfl
@[simp] theorem State.emit_free (s : State) (e : Emit) : (s.emit e).free = s.free := rfl
@[simp] theorem State.emit_pending (s : State) (e : Emit) : (s.emit e).pending = s.pending := rfl

@[simp] theorem State.unusual_now (s : State) : (s.unusual).now = s.now := rfl
@[simp] theorem State.unusual_resetCycle (s : State) : (s.unusual).resetCycle = s.resetCycle := rfl
@[simp] theorem State.unusual_sh (s : State) : (s.unusual).sh = s.sh := rfl
@[simp] theorem State.unusual_lv (s : State) : (s.unusual).lv = s.lv := rfl
@[simp] theorem State.unusual_arms (s : State) : (s.unusual).arms = s.arms := rfl
@[simp] theorem State.unusual_groups (s : State) : (s.unusual).groups = s.groups := rfl
@[simp] theorem State.unusual_freed (s : State) : (s.unusual).freed = s.freed := rfl
@[simp] theorem State.unusual_freedAt (s : State) : (s.unusual).freedAt = s.freedAt := rfl
@[simp] theorem State.unusual_undo (s : State) : (s.unusual).undo = s.undo := rfl
@[simp] theorem State.unusual_undoAt (s : State) : (s.unusual).undoAt = s.undoAt := rfl
@[simp] theorem State.unusual_busy (s : State) : (s.unusual).busy = s.busy := rfl
@[simp] theorem State.unusual_pools (s : State) : (s.unusual).pools = s.pools := rfl
@[simp] theorem State.unusual_fatal (s : State) : (s.unusual).fatal = s.fatal := rfl
@[simp] theorem State.unusual_fatalSrc (s : State) : (s.unusual).fatalSrc = s.fatalSrc := rfl
@[simp] theorem State.unusual_committed (s : State) : (s.unusual).committed = s.committed := rfl
@[simp] theorem State.unusual_evr (s : State) : (s.unusual).evr = s.evr := rfl
@[simp] theorem State.unusual_bbx (s : State) : (s.unusual).bbx = s.bbx := rfl
@[simp] theorem State.unusual_insvc (s : State) : (s.unusual).insvc = s.insvc := rfl
@[simp] theorem State.unusual_lanes (s : State) : (s.unusual).lanes = s.lanes := rfl
@[simp] theorem State.unusual_xbp (s : State) : (s.unusual).xbp = s.xbp := rfl
@[simp] theorem State.unusual_brace (s : State) : (s.unusual).brace = s.brace := rfl
@[simp] theorem State.unusual_xwp (s : State) : (s.unusual).xwp = s.xwp := rfl
@[simp] theorem State.unusual_eth (s : State) : (s.unusual).eth = s.eth := rfl
@[simp] theorem State.unusual_saGen (s : State) : (s.unusual).saGen = s.saGen := rfl
@[simp] theorem State.unusual_rxPn (s : State) : (s.unusual).rxPn = s.rxPn := rfl
@[simp] theorem State.unusual_saWritten (s : State) : (s.unusual).saWritten = s.saWritten := rfl
@[simp] theorem State.unusual_rxs (s : State) : (s.unusual).rxs = s.rxs := rfl
@[simp] theorem State.unusual_txs (s : State) : (s.unusual).txs = s.txs := rfl
@[simp] theorem State.unusual_clk (s : State) : (s.unusual).clk = s.clk := rfl
@[simp] theorem State.unusual_cands (s : State) : (s.unusual).cands = s.cands := rfl
@[simp] theorem State.unusual_dplls (s : State) : (s.unusual).dplls = s.dplls := rfl
@[simp] theorem State.unusual_vtgs (s : State) : (s.unusual).vtgs = s.vtgs := rfl
@[simp] theorem State.unusual_refo (s : State) : (s.unusual).refo = s.refo := rfl
@[simp] theorem State.unusual_refoAt (s : State) : (s.unusual).refoAt = s.refoAt := rfl
@[simp] theorem State.unusual_aud (s : State) : (s.unusual).aud = s.aud := rfl
@[simp] theorem State.unusual_audRx (s : State) : (s.unusual).audRx = s.audRx := rfl
@[simp] theorem State.unusual_audTx (s : State) : (s.unusual).audTx = s.audTx := rfl
@[simp] theorem State.unusual_tdm (s : State) : (s.unusual).tdm = s.tdm := rfl
@[simp] theorem State.unusual_gddr (s : State) : (s.unusual).gddr = s.gddr := rfl
@[simp] theorem State.unusual_engs (s : State) : (s.unusual).engs = s.engs := rfl
@[simp] theorem State.unusual_ringLost (s : State) : (s.unusual).ringLost = s.ringLost := rfl
@[simp] theorem State.unusual_retrainAt (s : State) : (s.unusual).retrainAt = s.retrainAt := rfl
@[simp] theorem State.unusual_bus (s : State) : (s.unusual).bus = s.bus := rfl
@[simp] theorem State.unusual_spi (s : State) : (s.unusual).spi = s.spi := rfl
@[simp] theorem State.unusual_mbx (s : State) : (s.unusual).mbx = s.mbx := rfl
@[simp] theorem State.unusual_mbxAt (s : State) : (s.unusual).mbxAt = s.mbxAt := rfl
@[simp] theorem State.unusual_pcieReady (s : State) : (s.unusual).pcieReady = s.pcieReady := rfl
@[simp] theorem State.unusual_msixMask (s : State) : (s.unusual).msixMask = s.msixMask := rfl
@[simp] theorem State.unusual_otp (s : State) : (s.unusual).otp = s.otp := rfl
@[simp] theorem State.unusual_vbat (s : State) : (s.unusual).vbat = s.vbat := rfl
@[simp] theorem State.unusual_keys (s : State) : (s.unusual).keys = s.keys := rfl
@[simp] theorem State.unusual_identity (s : State) : (s.unusual).identity = s.identity := rfl
@[simp] theorem State.unusual_powered (s : State) : (s.unusual).powered = s.powered := rfl
@[simp] theorem State.unusual_flash (s : State) : (s.unusual).flash = s.flash := rfl
@[simp] theorem State.unusual_boot (s : State) : (s.unusual).boot = s.boot := rfl
@[simp] theorem State.unusual_upd (s : State) : (s.unusual).upd = s.upd := rfl
@[simp] theorem State.unusual_bbxRun (s : State) : (s.unusual).bbxRun = s.bbxRun := rfl
@[simp] theorem State.unusual_free (s : State) : (s.unusual).free = s.free := rfl
@[simp] theorem State.unusual_out (s : State) : (s.unusual).out = s.out := rfl
@[simp] theorem State.unusual_pending (s : State) : (s.unusual).pending = s.pending := rfl

@[simp] theorem State.modLane_now (s : State) (n : LaneNo) (g : Lane → Lane) : (s.modLane n g).now = s.now := rfl
@[simp] theorem State.modLane_resetCycle (s : State) (n : LaneNo) (g : Lane → Lane) : (s.modLane n g).resetCycle = s.resetCycle := rfl
@[simp] theorem State.modLane_sh (s : State) (n : LaneNo) (g : Lane → Lane) : (s.modLane n g).sh = s.sh := rfl
@[simp] theorem State.modLane_lv (s : State) (n : LaneNo) (g : Lane → Lane) : (s.modLane n g).lv = s.lv := rfl
@[simp] theorem State.modLane_arms (s : State) (n : LaneNo) (g : Lane → Lane) : (s.modLane n g).arms = s.arms := rfl
@[simp] theorem State.modLane_groups (s : State) (n : LaneNo) (g : Lane → Lane) : (s.modLane n g).groups = s.groups := rfl
@[simp] theorem State.modLane_freed (s : State) (n : LaneNo) (g : Lane → Lane) : (s.modLane n g).freed = s.freed := rfl
@[simp] theorem State.modLane_freedAt (s : State) (n : LaneNo) (g : Lane → Lane) : (s.modLane n g).freedAt = s.freedAt := rfl
@[simp] theorem State.modLane_undo (s : State) (n : LaneNo) (g : Lane → Lane) : (s.modLane n g).undo = s.undo := rfl
@[simp] theorem State.modLane_undoAt (s : State) (n : LaneNo) (g : Lane → Lane) : (s.modLane n g).undoAt = s.undoAt := rfl
@[simp] theorem State.modLane_busy (s : State) (n : LaneNo) (g : Lane → Lane) : (s.modLane n g).busy = s.busy := rfl
@[simp] theorem State.modLane_pools (s : State) (n : LaneNo) (g : Lane → Lane) : (s.modLane n g).pools = s.pools := rfl
@[simp] theorem State.modLane_fatal (s : State) (n : LaneNo) (g : Lane → Lane) : (s.modLane n g).fatal = s.fatal := rfl
@[simp] theorem State.modLane_fatalSrc (s : State) (n : LaneNo) (g : Lane → Lane) : (s.modLane n g).fatalSrc = s.fatalSrc := rfl
@[simp] theorem State.modLane_normal (s : State) (n : LaneNo) (g : Lane → Lane) : (s.modLane n g).normal = s.normal := rfl
@[simp] theorem State.modLane_committed (s : State) (n : LaneNo) (g : Lane → Lane) : (s.modLane n g).committed = s.committed := rfl
@[simp] theorem State.modLane_evr (s : State) (n : LaneNo) (g : Lane → Lane) : (s.modLane n g).evr = s.evr := rfl
@[simp] theorem State.modLane_bbx (s : State) (n : LaneNo) (g : Lane → Lane) : (s.modLane n g).bbx = s.bbx := rfl
@[simp] theorem State.modLane_insvc (s : State) (n : LaneNo) (g : Lane → Lane) : (s.modLane n g).insvc = s.insvc := rfl
@[simp] theorem State.modLane_xbp (s : State) (n : LaneNo) (g : Lane → Lane) : (s.modLane n g).xbp = s.xbp := rfl
@[simp] theorem State.modLane_brace (s : State) (n : LaneNo) (g : Lane → Lane) : (s.modLane n g).brace = s.brace := rfl
@[simp] theorem State.modLane_xwp (s : State) (n : LaneNo) (g : Lane → Lane) : (s.modLane n g).xwp = s.xwp := rfl
@[simp] theorem State.modLane_eth (s : State) (n : LaneNo) (g : Lane → Lane) : (s.modLane n g).eth = s.eth := rfl
@[simp] theorem State.modLane_saGen (s : State) (n : LaneNo) (g : Lane → Lane) : (s.modLane n g).saGen = s.saGen := rfl
@[simp] theorem State.modLane_rxPn (s : State) (n : LaneNo) (g : Lane → Lane) : (s.modLane n g).rxPn = s.rxPn := rfl
@[simp] theorem State.modLane_saWritten (s : State) (n : LaneNo) (g : Lane → Lane) : (s.modLane n g).saWritten = s.saWritten := rfl
@[simp] theorem State.modLane_rxs (s : State) (n : LaneNo) (g : Lane → Lane) : (s.modLane n g).rxs = s.rxs := rfl
@[simp] theorem State.modLane_txs (s : State) (n : LaneNo) (g : Lane → Lane) : (s.modLane n g).txs = s.txs := rfl
@[simp] theorem State.modLane_clk (s : State) (n : LaneNo) (g : Lane → Lane) : (s.modLane n g).clk = s.clk := rfl
@[simp] theorem State.modLane_cands (s : State) (n : LaneNo) (g : Lane → Lane) : (s.modLane n g).cands = s.cands := rfl
@[simp] theorem State.modLane_dplls (s : State) (n : LaneNo) (g : Lane → Lane) : (s.modLane n g).dplls = s.dplls := rfl
@[simp] theorem State.modLane_vtgs (s : State) (n : LaneNo) (g : Lane → Lane) : (s.modLane n g).vtgs = s.vtgs := rfl
@[simp] theorem State.modLane_refo (s : State) (n : LaneNo) (g : Lane → Lane) : (s.modLane n g).refo = s.refo := rfl
@[simp] theorem State.modLane_refoAt (s : State) (n : LaneNo) (g : Lane → Lane) : (s.modLane n g).refoAt = s.refoAt := rfl
@[simp] theorem State.modLane_aud (s : State) (n : LaneNo) (g : Lane → Lane) : (s.modLane n g).aud = s.aud := rfl
@[simp] theorem State.modLane_audRx (s : State) (n : LaneNo) (g : Lane → Lane) : (s.modLane n g).audRx = s.audRx := rfl
@[simp] theorem State.modLane_audTx (s : State) (n : LaneNo) (g : Lane → Lane) : (s.modLane n g).audTx = s.audTx := rfl
@[simp] theorem State.modLane_tdm (s : State) (n : LaneNo) (g : Lane → Lane) : (s.modLane n g).tdm = s.tdm := rfl
@[simp] theorem State.modLane_gddr (s : State) (n : LaneNo) (g : Lane → Lane) : (s.modLane n g).gddr = s.gddr := rfl
@[simp] theorem State.modLane_engs (s : State) (n : LaneNo) (g : Lane → Lane) : (s.modLane n g).engs = s.engs := rfl
@[simp] theorem State.modLane_ringLost (s : State) (n : LaneNo) (g : Lane → Lane) : (s.modLane n g).ringLost = s.ringLost := rfl
@[simp] theorem State.modLane_retrainAt (s : State) (n : LaneNo) (g : Lane → Lane) : (s.modLane n g).retrainAt = s.retrainAt := rfl
@[simp] theorem State.modLane_bus (s : State) (n : LaneNo) (g : Lane → Lane) : (s.modLane n g).bus = s.bus := rfl
@[simp] theorem State.modLane_spi (s : State) (n : LaneNo) (g : Lane → Lane) : (s.modLane n g).spi = s.spi := rfl
@[simp] theorem State.modLane_mbx (s : State) (n : LaneNo) (g : Lane → Lane) : (s.modLane n g).mbx = s.mbx := rfl
@[simp] theorem State.modLane_mbxAt (s : State) (n : LaneNo) (g : Lane → Lane) : (s.modLane n g).mbxAt = s.mbxAt := rfl
@[simp] theorem State.modLane_pcieReady (s : State) (n : LaneNo) (g : Lane → Lane) : (s.modLane n g).pcieReady = s.pcieReady := rfl
@[simp] theorem State.modLane_msixMask (s : State) (n : LaneNo) (g : Lane → Lane) : (s.modLane n g).msixMask = s.msixMask := rfl
@[simp] theorem State.modLane_otp (s : State) (n : LaneNo) (g : Lane → Lane) : (s.modLane n g).otp = s.otp := rfl
@[simp] theorem State.modLane_vbat (s : State) (n : LaneNo) (g : Lane → Lane) : (s.modLane n g).vbat = s.vbat := rfl
@[simp] theorem State.modLane_keys (s : State) (n : LaneNo) (g : Lane → Lane) : (s.modLane n g).keys = s.keys := rfl
@[simp] theorem State.modLane_identity (s : State) (n : LaneNo) (g : Lane → Lane) : (s.modLane n g).identity = s.identity := rfl
@[simp] theorem State.modLane_powered (s : State) (n : LaneNo) (g : Lane → Lane) : (s.modLane n g).powered = s.powered := rfl
@[simp] theorem State.modLane_flash (s : State) (n : LaneNo) (g : Lane → Lane) : (s.modLane n g).flash = s.flash := rfl
@[simp] theorem State.modLane_boot (s : State) (n : LaneNo) (g : Lane → Lane) : (s.modLane n g).boot = s.boot := rfl
@[simp] theorem State.modLane_upd (s : State) (n : LaneNo) (g : Lane → Lane) : (s.modLane n g).upd = s.upd := rfl
@[simp] theorem State.modLane_bbxRun (s : State) (n : LaneNo) (g : Lane → Lane) : (s.modLane n g).bbxRun = s.bbxRun := rfl
@[simp] theorem State.modLane_free (s : State) (n : LaneNo) (g : Lane → Lane) : (s.modLane n g).free = s.free := rfl
@[simp] theorem State.modLane_out (s : State) (n : LaneNo) (g : Lane → Lane) : (s.modLane n g).out = s.out := rfl
@[simp] theorem State.modLane_pending (s : State) (n : LaneNo) (g : Lane → Lane) : (s.modLane n g).pending = s.pending := rfl

end Sys2Proof.Machine
end

