-- ==== Sys2Proof/Laws/Tab.lean ====
section
/-! SUPPORT. Sparse tables: read after write, and that every write keeps the canonical form. -/

namespace Sys2Proof

theorem Tab.get_del_same {α : Type} (t : Tab α) (k : Nat) (d : α) : (t.del k).get k d = d := by
  induction t with
  | nil => rfl
  | cons e r ih =>
    unfold Tab.del at ih ⊢
    by_cases h : e.1 = k
    · simpa [List.filter_cons, h] using ih
    · simp [h, Tab.get, ih]

theorem Tab.get_del_ne {α : Type} (t : Tab α) {k j : Nat} (h : j ≠ k) (d : α) : (t.del k).get j d = t.get j d := by
  induction t with
  | nil => rfl
  | cons e r ih =>
    unfold Tab.del at ih ⊢
    by_cases he : e.1 = k
    · simp [he, Tab.get, ih, Ne.symm h]
    · by_cases hj : e.1 = j <;> simp [he, Tab.get, hj, ih, h]

theorem Tab.get_ins_same {α : Type} (t : Tab α) (k : Nat) (v d : α) (h : ∀ e ∈ t, e.1 ≠ k) : (t.ins k v).get k d = v := by
  induction t with
  | nil => simp [Tab.ins, Tab.get]
  | cons e r ih =>
    have he : e.1 ≠ k := h e (by simp)
    by_cases hk : k < e.1
    · simp [Tab.ins, hk, Tab.get]
    · simp [Tab.ins, hk, Tab.get, he, ih (fun x hx => h x (by simp [hx]))]

theorem Tab.get_ins_ne {α : Type} (t : Tab α) {k j : Nat} (h : j ≠ k) (v d : α) : (t.ins k v).get j d = t.get j d := by
  induction t with
  | nil => simp [Tab.ins, Tab.get, Ne.symm h]
  | cons e r ih =>
    by_cases hk : k < e.1
    · simp [Tab.ins, hk, Tab.get, Ne.symm h]
    · by_cases hj : e.1 = j
      · subst hj
        simp [Tab.ins, hk, Tab.get]
      · simp [Tab.ins, hk, Tab.get, hj, ih]

theorem Tab.ne_of_mem_del {α : Type} {t : Tab α} {k : Nat} {e : Nat × α} (h : e ∈ t.del k) : e.1 ≠ k := by
  simpa using (List.mem_filter.mp h).2

/-- Reading what was written. -/
@[simp] theorem Tab.get_set_same {α : Type} [DecidableEq α] (t : Tab α) (k : Nat) (v d : α) :
    (t.set k v d).get k d = v := by
  unfold Tab.set
  split
  · next h => rw [Tab.get_del_same, h]
  · exact Tab.get_ins_same _ _ _ _ (fun e he => Tab.ne_of_mem_del he)

/-- A write leaves every other key alone. -/
theorem Tab.get_set_ne {α : Type} [DecidableEq α] (t : Tab α) {k j : Nat} (h : j ≠ k) (v d d' : α) :
    (t.set k v d).get j d' = t.get j d' := by
  unfold Tab.set
  split
  · exact Tab.get_del_ne _ h _
  · rw [Tab.get_ins_ne _ h, Tab.get_del_ne _ h]

theorem Tab.mem_ins {α : Type} {t : Tab α} {k : Nat} {v : α} {e : Nat × α} (h : e ∈ t.ins k v) : e = (k, v) ∨ e ∈ t := by
  induction t with
  | nil => simpa [Tab.ins] using h
  | cons x r ih =>
    by_cases hk : k < x.1
    · simpa [Tab.ins, hk] using h
    · rw [Tab.ins, if_neg hk, List.mem_cons] at h
      rcases h with h | h
      · exact .inr (by simp [h])
      · exact (ih h).imp id (fun h => by simp [h])

theorem Tab.pairwise_ins {α : Type} {t : Tab α} {k : Nat} {v : α} (h : t.Pairwise (fun a b => a.1 < b.1))
    (hk : ∀ e ∈ t, e.1 ≠ k) : (t.ins k v).Pairwise (fun a b => a.1 < b.1) := by
  induction t with
  | nil => simp [Tab.ins]
  | cons x r ih =>
    have hx := List.pairwise_cons.mp h
    by_cases hlt : k < x.1
    · rw [Tab.ins, if_pos hlt]
      refine List.pairwise_cons.mpr ⟨fun e he => ?_, h⟩
      rcases List.mem_cons.mp he with he | he
      · simpa [he] using hlt
      · exact Nat.lt_trans hlt (hx.1 e he)
    · rw [Tab.ins, if_neg hlt]
      refine List.pairwise_cons.mpr ⟨fun e he => ?_, ih hx.2 (fun e he => hk e (by simp [he]))⟩
      rcases Tab.mem_ins he with he | he
      · have := hk x (by simp)
        simp only [he]
        omega
      · exact hx.1 e he

/-- Every write keeps the canonical form. -/
theorem Tab.wf_set {α : Type} [DecidableEq α] {t : Tab α} {d : Nat → α} (h : Tab.wf t d) (k : Nat) (v : α) :
    Tab.wf (t.set k v (d k)) d := by
  have hd : Tab.wf (t.del k) d :=
    ⟨h.1.filter _, fun e he => h.2 e ((List.mem_filter.mp he).1)⟩
  unfold Tab.set
  split
  · exact hd
  · next hv =>
    refine ⟨Tab.pairwise_ins hd.1 (fun e he => Tab.ne_of_mem_del he), fun e he => ?_⟩
    rcases Tab.mem_ins he with he | he
    · simpa [he] using hv
    · exact hd.2 e he

theorem Tab.wf_nil {α : Type} (d : Nat → α) : Tab.wf ([] : Tab α) d := by
  simp [Tab.wf]

end Sys2Proof
end

