-- ==== Sys2Proof/Laws/Words.lean ====
section
/-! SUPPORT. Words and fields: what a read gives after a write. -/

namespace Sys2Proof

/-! ### Bit fields of numbers -/

theorem setBits_lt {x lo w v n : Nat} (hx : x < 2 ^ n) (h : lo + w ≤ n) : setBits x lo w v < 2 ^ n := by
  unfold setBits
  obtain ⟨k, rfl⟩ := Nat.exists_eq_add_of_le h
  have h1 : x % 2 ^ lo < 2 ^ lo := Nat.mod_lt _ (Nat.two_pow_pos _)
  have h2 : v % 2 ^ w < 2 ^ w := Nat.mod_lt _ (Nat.two_pow_pos _)
  have h3 : x / 2 ^ (lo + w) < 2 ^ k := by
    rw [Nat.div_lt_iff_lt_mul (Nat.two_pow_pos _), ← Nat.pow_add, Nat.add_comm k]
    exact hx
  have h4 : v % 2 ^ w * 2 ^ lo ≤ (2 ^ w - 1) * 2 ^ lo := Nat.mul_le_mul_right _ (by omega)
  have h5 : x / 2 ^ (lo + w) * 2 ^ (lo + w) ≤ (2 ^ k - 1) * 2 ^ (lo + w) := Nat.mul_le_mul_right _ (by omega)
  have h6 : (2 ^ w - 1) * 2 ^ lo = 2 ^ (lo + w) - 2 ^ lo := by rw [Nat.sub_mul, Nat.one_mul, ← Nat.pow_add, Nat.add_comm w]
  have h7 : (2 ^ k - 1) * 2 ^ (lo + w) = 2 ^ (lo + w + k) - 2 ^ (lo + w) := by
    rw [Nat.sub_mul, Nat.one_mul, ← Nat.pow_add, Nat.add_comm k]
  have h8 : 2 ^ lo ≤ 2 ^ (lo + w) := Nat.pow_le_pow_right (by decide) (by omega)
  have h9 : 2 ^ (lo + w) ≤ 2 ^ (lo + w + k) := Nat.pow_le_pow_right (by decide) (by omega)
  omega

/-- A field reads what was put into it. -/
theorem bits_setBits_same (x lo w v : Nat) : bits (setBits x lo w v) lo w = v % 2 ^ w := by
  unfold bits setBits
  have h1 : x % 2 ^ lo < 2 ^ lo := Nat.mod_lt _ (Nat.two_pow_pos _)
  have h : x % 2 ^ lo + v % 2 ^ w * 2 ^ lo + x / 2 ^ (lo + w) * 2 ^ (lo + w) =
      x % 2 ^ lo + 2 ^ lo * (v % 2 ^ w + 2 ^ w * (x / 2 ^ (lo + w))) := by
    generalize x / _ = q
    ring
  rw [h, Nat.add_mul_div_left _ _ (Nat.two_pow_pos _), Nat.div_eq_of_lt h1, Nat.zero_add, Nat.add_mul_mod_self_left,
    Nat.mod_mod]

/-- A field below the one written keeps its value. -/
theorem bits_setBits_below (x v : Nat) {lo w lo' w' : Nat} (h : lo' + w' ≤ lo) :
    bits (setBits x lo w v) lo' w' = bits x lo' w' := by
  unfold bits setBits
  obtain ⟨k, rfl⟩ := Nat.exists_eq_add_of_le h
  have e : x % 2 ^ (lo' + w' + k) + v % 2 ^ w * 2 ^ (lo' + w' + k) + x / 2 ^ (lo' + w' + k + w) * 2 ^ (lo' + w' + k + w) =
      x % 2 ^ (lo' + w' + k) + 2 ^ lo' * (2 ^ w' * (2 ^ k * (v % 2 ^ w) + 2 ^ (k + w) * (x / 2 ^ (lo' + w' + k + w)))) := by
    generalize x / _ = q
    ring
  rw [e, Nat.add_mul_div_left _ _ (Nat.two_pow_pos _), Nat.add_mul_mod_self_left]
  have m : x % 2 ^ (lo' + w' + k) / 2 ^ lo' % 2 ^ w' = x / 2 ^ lo' % 2 ^ w' := by
    have e2 : 2 ^ (lo' + w' + k) = 2 ^ lo' * (2 ^ w' * 2 ^ k) := by
      simp only [Nat.pow_add, Nat.mul_assoc]
    rw [e2, Nat.mod_mul_right_div_self, Nat.mod_mul_right_mod]
  exact m

/-- A field above the one written keeps its value. -/
theorem bits_setBits_above (x v : Nat) {lo w lo' w' : Nat} (h : lo + w ≤ lo') :
    bits (setBits x lo w v) lo' w' = bits x lo' w' := by
  unfold bits setBits
  obtain ⟨k, rfl⟩ := Nat.exists_eq_add_of_le h
  have h1 : x % 2 ^ lo < 2 ^ lo := Nat.mod_lt _ (Nat.two_pow_pos _)
  have h2 : v % 2 ^ w < 2 ^ w := Nat.mod_lt _ (Nat.two_pow_pos _)
  have h4 : v % 2 ^ w * 2 ^ lo ≤ (2 ^ w - 1) * 2 ^ lo := Nat.mul_le_mul_right _ (by omega)
  have h6 : (2 ^ w - 1) * 2 ^ lo = 2 ^ (lo + w) - 2 ^ lo := by rw [Nat.sub_mul, Nat.one_mul, ← Nat.pow_add, Nat.add_comm w]
  have h8 : 2 ^ lo ≤ 2 ^ (lo + w) := Nat.pow_le_pow_right (by decide) (by omega)
  have h9 : x % 2 ^ lo + v % 2 ^ w * 2 ^ lo < 2 ^ (lo + w) := by omega
  have d : (x % 2 ^ lo + v % 2 ^ w * 2 ^ lo + x / 2 ^ (lo + w) * 2 ^ (lo + w)) / 2 ^ (lo + w) = x / 2 ^ (lo + w) := by
    rw [Nat.add_mul_div_right _ _ (Nat.two_pow_pos _), Nat.div_eq_of_lt h9, Nat.zero_add]
  rw [Nat.pow_add 2 (lo + w) k, ← Nat.div_div_eq_div_mul, d, Nat.div_div_eq_div_mul]

/-- The word that holds a field written reads as that word. -/
theorem Fld.toNat_into (f : Fld) (w : Word) (v : Nat) (h : f.lo + f.w ≤ 32) :
    (f.into w v).toNat = setBits w.toNat f.lo f.w v := by
  rw [Fld.into, BitVec.toNat_ofNat, Nat.mod_eq_of_lt (setBits_lt w.isLt h)]

namespace Machine

/-! ### Words -/

@[simp] theorem State.word_setWord_same (s : State) (a : Nat) (v : Word) : (s.setWord a v).word a = v := by
  simp [State.word, State.setWord]

theorem State.word_setWord_ne (s : State) {a b : Nat} (h : b ≠ a) (v : Word) : (s.setWord a v).word b = s.word b := by
  simp [State.word, State.setWord, Tab.get_set_ne _ h]

@[simp] theorem State.lword_setLword_same (s : State) (a : Nat) (v : Word) : (s.setLword a v).lword a = v := by
  simp [State.lword, State.setLword]

theorem State.lword_setLword_ne (s : State) {a b : Nat} (h : b ≠ a) (v : Word) : (s.setLword a v).lword b = s.lword b := by
  simp [State.lword, State.setLword, Tab.get_set_ne _ h]

@[simp] theorem State.lword_setWord (s : State) (a b : Nat) (v : Word) : (s.setWord a v).lword b = s.lword b := rfl
@[simp] theorem State.word_setLword (s : State) (a b : Nat) (v : Word) : (s.setLword a v).word b = s.word b := rfl
@[simp] theorem State.lword_put (s : State) (p : Page) (f : Fld) (v b : Nat) : (s.put p f v).lword b = s.lword b := rfl
@[simp] theorem State.word_putLive (s : State) (p : Page) (f : Fld) (v b : Nat) : (s.putLive p f v).word b = s.word b := rfl
@[simp] theorem State.live_put (s : State) (p q : Page) (f g : Fld) (v : Nat) : (s.put p f v).live q g = s.live q g := rfl
@[simp] theorem State.get_putLive (s : State) (p q : Page) (f g : Fld) (v : Nat) : (s.putLive p f v).get q g = s.get q g := rfl

theorem State.word_put_ne (s : State) (p : Page) (f : Fld) (v : Nat) {b : Nat} (h : b ≠ p.base + f.off) :
    (s.put p f v).word b = s.word b := State.word_setWord_ne s h _

theorem State.lword_putLive_ne (s : State) (p : Page) (f : Fld) (v : Nat) {b : Nat} (h : b ≠ p.base + f.off) :
    (s.putLive p f v).lword b = s.lword b := State.lword_setLword_ne s h _

/-- A write of a word keeps the canonical form. -/
theorem State.canonical_setWord {s : State} (h : Tab.wf s.sh resetOf) (a : Nat) (v : Word) :
    Tab.wf (s.setWord a v).sh resetOf := Tab.wf_set h a v

theorem State.canonical_setLword {s : State} (h : Tab.wf s.lv resetOf) (a : Nat) (v : Word) :
    Tab.wf (s.setLword a v).lv resetOf := Tab.wf_set h a v

/-- Bytes written to GDDR6 keep the canonical form. -/
theorem State.canonical_gddrWrite {s : State} (h : Tab.wf s.gddr (fun _ => 0)) (a : Nat) (bs : List Nat) :
    Tab.wf (s.gddrWrite a bs).gddr (fun _ => 0) := by
  suffices H : ∀ (l : List Nat) (acc : Tab Byte × Nat), Tab.wf acc.1 (fun _ => 0) →
      Tab.wf (l.foldl (fun (acc : Tab Byte × Nat) b => (acc.1.set (acc.2 % 2 ^ 35) (BitVec.ofNat 8 b) 0, acc.2 + 1)) acc).1
        (fun _ => 0) from H bs (s.gddr, a) h
  intro l
  induction l with
  | nil => intro acc h; exact h
  | cons b r ih => intro acc h; exact ih _ (Tab.wf_set (d := fun _ => 0) h _ _)

/-! ### Fields -/

/-- A field reads what was put into it, cut to its width. -/
theorem State.get_put_same (s : State) (p : Page) (f : Fld) (v : Nat) (h : f.lo + f.w ≤ 32) :
    (s.put p f v).get p f = v % 2 ^ f.w := by
  rw [State.get, State.put, State.word_setWord_same, Fld.toNat_into f _ v h, bits_setBits_same]

/-- A field of another word keeps its value. -/
theorem State.get_put_word (s : State) (p q : Page) (f g : Fld) (v : Nat) (h : q.base + g.off ≠ p.base + f.off) :
    (s.put p f v).get q g = s.get q g := by
  rw [State.get, State.word_put_ne s p f v h, State.get]

/-- Another field of the same word keeps its value. -/
theorem State.get_put_field (s : State) (p : Page) (f g : Fld) (v : Nat) (ho : g.off = f.off) (hf : f.lo + f.w ≤ 32)
    (h : g.lo + g.w ≤ f.lo ∨ f.lo + f.w ≤ g.lo) : (s.put p f v).get p g = s.get p g := by
  rw [State.get, State.put, ho, State.word_setWord_same, Fld.toNat_into f _ v hf, State.get, ho]
  rcases h with h | h
  · exact bits_setBits_below _ _ h
  · exact bits_setBits_above _ _ h

/-- A live field reads what was put into it, cut to its width. -/
theorem State.live_putLive_same (s : State) (p : Page) (f : Fld) (v : Nat) (h : f.lo + f.w ≤ 32) :
    (s.putLive p f v).live p f = v % 2 ^ f.w := by
  rw [State.live, State.putLive, State.lword_setLword_same, Fld.toNat_into f _ v h, bits_setBits_same]

/-- A live field of another word keeps its value. -/
theorem State.live_putLive_word (s : State) (p q : Page) (f g : Fld) (v : Nat) (h : q.base + g.off ≠ p.base + f.off) :
    (s.putLive p f v).live q g = s.live q g := by
  rw [State.live, State.lword_putLive_ne s p f v h, State.live]

/-- A table field reads what was put into it, cut to its width. -/
theorem State.tget_tput_same (s : State) (f : Fld) (v : Nat) (h : f.lo + f.w ≤ 32) : (s.tput f v).tget f = v % 2 ^ f.w := by
  rw [State.tget, State.tput, State.word_setWord_same, Fld.toNat_into f _ v h, bits_setBits_same]

end Machine

/-! ### Pages -/

/-- Pages start at multiples of 4 KiB. -/
theorem Page.base_mod (p : Page) : p.base % 4096 = 0 := by
  cases p <;> simp only [Page.base, bayBase] <;> (try split) <;> omega

end Sys2Proof
end

