-- ==== Sys2Proof/Laws/Step.lean ====
section
/-! SUPPORT. What the shared operations of a command do: setting fields, offering events, recording faults, refusing
accesses, the beginning and the end of every command. -/

namespace Sys2Proof.Machine

/-- What holds of a list's first state and is kept by each element holds after the list. -/
theorem foldl_keeps {α β γ : Type} (g : α → γ) (f : α → β → α) (h : ∀ a b, g (f a b) = g a) (l : List β) (a : α) :
    g (l.foldl f a) = g a := by
  induction l generalizing a with
  | nil => rfl
  | cons b r ih => rw [List.foldl_cons, ih, h]

/-! ### Fields set by other names -/

theorem State.raise_eq (s : State) (p : Page) (f : Fld) : s.raise p f = s.put p f 1 := rfl
theorem State.add_eq (s : State) (p : Page) (f : Fld) (n : Nat) : s.add p f n = s.put p f (s.get p f + n) := rfl
theorem State.addSat_eq (s : State) (p : Page) (f : Fld) (n : Nat) :
    s.addSat p f n = s.put p f (sat f.w (s.get p f + n)) := rfl
@[simp] theorem State.puts_nil (s : State) (p : Page) : s.puts p [] = s := rfl
@[simp] theorem State.puts_cons (s : State) (p : Page) (e : Fld × Nat) (l : List (Fld × Nat)) :
    s.puts p (e :: l) = (s.put p e.1 e.2).puts p l := rfl

/-- Several fields of a page written change no word outside their words. -/
theorem State.word_puts_ne (s : State) (p : Page) (l : List (Fld × Nat)) {b : Nat} (h : ∀ e ∈ l, b ≠ p.base + e.1.off) :
    (s.puts p l).word b = s.word b := by
  induction l generalizing s with
  | nil => rfl
  | cons e r ih =>
    rw [State.puts_cons, ih _ (fun x hx => h x (List.mem_cons_of_mem _ hx)), State.word_put_ne _ _ _ _ (h e List.mem_cons_self)]

/-- A counter field after an addition that wraps. -/
theorem State.get_add_same (s : State) (p : Page) (f : Fld) (n : Nat) (h : f.lo + f.w ≤ 32) :
    (s.add p f n).get p f = (s.get p f + n) % 2 ^ f.w := by
  rw [State.add_eq, State.get_put_same s p f _ h]

/-- A counter field after an addition that saturates. -/
theorem State.get_addSat_same (s : State) (p : Page) (f : Fld) (n : Nat) (h : f.lo + f.w ≤ 32) :
    (s.addSat p f n).get p f = min (s.get p f + n) (2 ^ f.w - 1) := by
  rw [State.addSat_eq, State.get_put_same s p f _ h, sat, Nat.mod_eq_of_lt]
  have := Nat.two_pow_pos f.w
  omega

/-- A cause that is raised is set. -/
theorem State.get_raise_same (s : State) (p : Page) (f : Fld) (hw : 0 < f.w) (h : f.lo + f.w ≤ 32) :
    (s.raise p f).get p f = 1 := by
  rw [State.raise_eq, State.get_put_same s p f _ h, Nat.mod_eq_of_lt (Nat.one_lt_two_pow (by omega))]

/-! ### What the passage of time changes (R211, R214, R223) -/

/-- A state that differs from another in its core cycle, its clocks and its register words alone. -/
def State.Timed (s u : State) : Prop := ∃ n c w, u = { s with now := n, clk := c, sh := w }

theorem State.Timed.trans {s u v : State} (a : s.Timed u) (b : u.Timed v) : s.Timed v := by
  obtain ⟨_, _, _, rfl⟩ := a
  obtain ⟨_, _, _, rfl⟩ := b
  exact ⟨_, _, _, rfl⟩

theorem State.glide_timed (s : State) (t : Nat) : s.Timed (s.glide t) := by
  unfold State.glide
  simp only
  split <;> exact ⟨_, _, _, rfl⟩

theorem State.stepBy_timed (s : State) (t : Nat) (d : Fin 2) (c : Option Nat) : s.Timed (s.stepBy t d c) := by
  have a : ∀ u : State, u.Timed (u.applyStep d) := fun u => by
    unfold State.applyStep
    split <;> exact ⟨_, _, _, rfl⟩
  unfold State.stepBy
  split
  · split
    · exact (State.glide_timed s _).trans (a _)
    · exact ⟨_, _, _, rfl⟩
  · exact ⟨_, _, _, rfl⟩

theorem State.advance_timed (s : State) (t : Nat) : s.Timed (s.advance t) := by
  unfold State.advance
  simp only
  refine State.Timed.trans ?_ (State.glide_timed _ t)
  split <;> exact (State.stepBy_timed _ _ _ _).trans (State.stepBy_timed _ _ _ _)

/-! ### Setting a cause -/

@[simp] theorem State.raise_now (s : State) (p : Page) (f : Fld) : (s.raise p f).now = s.now := rfl
@[simp] theorem State.raise_resetCycle (s : State) (p : Page) (f : Fld) : (s.raise p f).resetCycle = s.resetCycle := rfl
@[simp] theorem State.raise_lv (s : State) (p : Page) (f : Fld) : (s.raise p f).lv = s.lv := rfl
@[simp] theorem State.raise_arms (s : State) (p : Page) (f : Fld) : (s.raise p f).arms = s.arms := rfl
@[simp] theorem State.raise_groups (s : State) (p : Page) (f : Fld) : (s.raise p f).groups = s.groups := rfl
@[simp] theorem State.raise_freed (s : State) (p : Page) (f : Fld) : (s.raise p f).freed = s.freed := rfl
@[simp] theorem State.raise_freedAt (s : State) (p : Page) (f : Fld) : (s.raise p f).freedAt = s.freedAt := rfl
@[simp] theorem State.raise_undo (s : State) (p : Page) (f : Fld) : (s.raise p f).undo = s.undo := rfl
@[simp] theorem State.raise_undoAt (s : State) (p : Page) (f : Fld) : (s.raise p f).undoAt = s.undoAt := rfl
@[simp] theorem State.raise_busy (s : State) (p : Page) (f : Fld) : (s.raise p f).busy = s.busy := rfl
@[simp] theorem State.raise_pools (s : State) (p : Page) (f : Fld) : (s.raise p f).pools = s.pools := rfl
@[simp] theorem State.raise_fatal (s : State) (p : Page) (f : Fld) : (s.raise p f).fatal = s.fatal := rfl
@[simp] theorem State.raise_fatalSrc (s : State) (p : Page) (f : Fld) : (s.raise p f).fatalSrc = s.fatalSrc := rfl
@[simp] theorem State.raise_normal (s : State) (p : Page) (f : Fld) : (s.raise p f).normal = s.normal := rfl
@[simp] theorem State.raise_committed (s : State) (p : Page) (f : Fld) : (s.raise p f).committed = s.committed := rfl
@[simp] theorem State.raise_evr (s : State) (p : Page) (f : Fld) : (s.raise p f).evr = s.evr := rfl
@[simp] theorem State.raise_bbx (s : State) (p : Page) (f : Fld) : (s.raise p f).bbx = s.bbx := rfl
@[simp] theorem State.raise_insvc (s : State) (p : Page) (f : Fld) : (s.raise p f).insvc = s.insvc := rfl
@[simp] theorem State.raise_lanes (s : State) (p : Page) (f : Fld) : (s.raise p f).lanes = s.lanes := rfl
@[simp] theorem State.raise_xbp (s : State) (p : Page) (f : Fld) : (s.raise p f).xbp = s.xbp := rfl
@[simp] theorem State.raise_brace (s : State) (p : Page) (f : Fld) : (s.raise p f).brace = s.brace := rfl
@[simp] theorem State.raise_xwp (s : State) (p : Page) (f : Fld) : (s.raise p f).xwp = s.xwp := rfl
@[simp] theorem State.raise_eth (s : State) (p : Page) (f : Fld) : (s.raise p f).eth = s.eth := rfl
@[simp] theorem State.raise_saGen (s : State) (p : Page) (f : Fld) : (s.raise p f).saGen = s.saGen := rfl
@[simp] theorem State.raise_rxPn (s : State) (p : Page) (f : Fld) : (s.raise p f).rxPn = s.rxPn := rfl
@[simp] theorem State.raise_saWritten (s : State) (p : Page) (f : Fld) : (s.raise p f).saWritten = s.saWritten := rfl
@[simp] theorem State.raise_rxs (s : State) (p : Page) (f : Fld) : (s.raise p f).rxs = s.rxs := rfl
@[simp] theorem State.raise_txs (s : State) (p : Page) (f : Fld) : (s.raise p f).txs = s.txs := rfl
@[simp] theorem State.raise_clk (s : State) (p : Page) (f : Fld) : (s.raise p f).clk = s.clk := rfl
@[simp] theorem State.raise_cands (s : State) (p : Page) (f : Fld) : (s.raise p f).cands = s.cands := rfl
@[simp] theorem State.raise_dplls (s : State) (p : Page) (f : Fld) : (s.raise p f).dplls = s.dplls := rfl
@[simp] theorem State.raise_vtgs (s : State) (p : Page) (f : Fld) : (s.raise p f).vtgs = s.vtgs := rfl
@[simp] theorem State.raise_refo (s : State) (p : Page) (f : Fld) : (s.raise p f).refo = s.refo := rfl
@[simp] theorem State.raise_refoAt (s : State) (p : Page) (f : Fld) : (s.raise p f).refoAt = s.refoAt := rfl
@[simp] theorem State.raise_aud (s : State) (p : Page) (f : Fld) : (s.raise p f).aud = s.aud := rfl
@[simp] theorem State.raise_audRx (s : State) (p : Page) (f : Fld) : (s.raise p f).audRx = s.audRx := rfl
@[simp] theorem State.raise_audTx (s : State) (p : Page) (f : Fld) : (s.raise p f).audTx = s.audTx := rfl
@[simp] theorem State.raise_tdm (s : State) (p : Page) (f : Fld) : (s.raise p f).tdm = s.tdm := rfl
@[simp] theorem State.raise_gddr (s : State) (p : Page) (f : Fld) : (s.raise p f).gddr = s.gddr := rfl
@[simp] theorem State.raise_engs (s : State) (p : Page) (f : Fld) : (s.raise p f).engs = s.engs := rfl
@[simp] theorem State.raise_ringLost (s : State) (p : Page) (f : Fld) : (s.raise p f).ringLost = s.ringLost := rfl
@[simp] theorem State.raise_retrainAt (s : State) (p : Page) (f : Fld) : (s.raise p f).retrainAt = s.retrainAt := rfl
@[simp] theorem State.raise_bus (s : State) (p : Page) (f : Fld) : (s.raise p f).bus = s.bus := rfl
@[simp] theorem State.raise_spi (s : State) (p : Page) (f : Fld) : (s.raise p f).spi = s.spi := rfl
@[simp] theorem State.raise_mbx (s : State) (p : Page) (f : Fld) : (s.raise p f).mbx = s.mbx := rfl
@[simp] theorem State.raise_mbxAt (s : State) (p : Page) (f : Fld) : (s.raise p f).mbxAt = s.mbxAt := rfl
@[simp] theorem State.raise_pcieReady (s : State) (p : Page) (f : Fld) : (s.raise p f).pcieReady = s.pcieReady := rfl
@[simp] theorem State.raise_msixMask (s : State) (p : Page) (f : Fld) : (s.raise p f).msixMask = s.msixMask := rfl
@[simp] theorem State.raise_otp (s : State) (p : Page) (f : Fld) : (s.raise p f).otp = s.otp := rfl
@[simp] theorem State.raise_vbat (s : State) (p : Page) (f : Fld) : (s.raise p f).vbat = s.vbat := rfl
@[simp] theorem State.raise_keys (s : State) (p : Page) (f : Fld) : (s.raise p f).keys = s.keys := rfl
@[simp] theorem State.raise_identity (s : State) (p : Page) (f : Fld) : (s.raise p f).identity = s.identity := rfl
@[simp] theorem State.raise_powered (s : State) (p : Page) (f : Fld) : (s.raise p f).powered = s.powered := rfl
@[simp] theorem State.raise_flash (s : State) (p : Page) (f : Fld) : (s.raise p f).flash = s.flash := rfl
@[simp] theorem State.raise_boot (s : State) (p : Page) (f : Fld) : (s.raise p f).boot = s.boot := rfl
@[simp] theorem State.raise_upd (s : State) (p : Page) (f : Fld) : (s.raise p f).upd = s.upd := rfl
@[simp] theorem State.raise_bbxRun (s : State) (p : Page) (f : Fld) : (s.raise p f).bbxRun = s.bbxRun := rfl
@[simp] theorem State.raise_free (s : State) (p : Page) (f : Fld) : (s.raise p f).free = s.free := rfl
@[simp] theorem State.raise_out (s : State) (p : Page) (f : Fld) : (s.raise p f).out = s.out := rfl
@[simp] theorem State.raise_pending (s : State) (p : Page) (f : Fld) : (s.raise p f).pending = s.pending := rfl

/-! ### Counting -/

@[simp] theorem State.add_now (s : State) (p : Page) (f : Fld) (n : Nat) : (s.add p f n).now = s.now := rfl
@[simp] theorem State.add_resetCycle (s : State) (p : Page) (f : Fld) (n : Nat) : (s.add p f n).resetCycle = s.resetCycle := rfl
@[simp] theorem State.add_lv (s : State) (p : Page) (f : Fld) (n : Nat) : (s.add p f n).lv = s.lv := rfl
@[simp] theorem State.add_arms (s : State) (p : Page) (f : Fld) (n : Nat) : (s.add p f n).arms = s.arms := rfl
@[simp] theorem State.add_groups (s : State) (p : Page) (f : Fld) (n : Nat) : (s.add p f n).groups = s.groups := rfl
@[simp] theorem State.add_freed (s : State) (p : Page) (f : Fld) (n : Nat) : (s.add p f n).freed = s.freed := rfl
@[simp] theorem State.add_freedAt (s : State) (p : Page) (f : Fld) (n : Nat) : (s.add p f n).freedAt = s.freedAt := rfl
@[simp] theorem State.add_undo (s : State) (p : Page) (f : Fld) (n : Nat) : (s.add p f n).undo = s.undo := rfl
@[simp] theorem State.add_undoAt (s : State) (p : Page) (f : Fld) (n : Nat) : (s.add p f n).undoAt = s.undoAt := rfl
@[simp] theorem State.add_busy (s : State) (p : Page) (f : Fld) (n : Nat) : (s.add p f n).busy = s.busy := rfl
@[simp] theorem State.add_pools (s : State) (p : Page) (f : Fld) (n : Nat) : (s.add p f n).pools = s.pools := rfl
@[simp] theorem State.add_fatal (s : State) (p : Page) (f : Fld) (n : Nat) : (s.add p f n).fatal = s.fatal := rfl
@[simp] theorem State.add_fatalSrc (s : State) (p : Page) (f : Fld) (n : Nat) : (s.add p f n).fatalSrc = s.fatalSrc := rfl
@[simp] theorem State.add_normal (s : State) (p : Page) (f : Fld) (n : Nat) : (s.add p f n).normal = s.normal := rfl
@[simp] theorem State.add_committed (s : State) (p : Page) (f : Fld) (n : Nat) : (s.add p f n).committed = s.committed := rfl
@[simp] theorem State.add_evr (s : State) (p : Page) (f : Fld) (n : Nat) : (s.add p f n).evr = s.evr := rfl
@[simp] theorem State.add_bbx (s : State) (p : Page) (f : Fld) (n : Nat) : (s.add p f n).bbx = s.bbx := rfl
@[simp] theorem State.add_insvc (s : State) (p : Page) (f : Fld) (n : Nat) : (s.add p f n).insvc = s.insvc := rfl
@[simp] theorem State.add_lanes (s : State) (p : Page) (f : Fld) (n : Nat) : (s.add p f n).lanes = s.lanes := rfl
@[simp] theorem State.add_xbp (s : State) (p : Page) (f : Fld) (n : Nat) : (s.add p f n).xbp = s.xbp := rfl
@[simp] theorem State.add_brace (s : State) (p : Page) (f : Fld) (n : Nat) : (s.add p f n).brace = s.brace := rfl
@[simp] theorem State.add_xwp (s : State) (p : Page) (f : Fld) (n : Nat) : (s.add p f n).xwp = s.xwp := rfl
@[simp] theorem State.add_eth (s : State) (p : Page) (f : Fld) (n : Nat) : (s.add p f n).eth = s.eth := rfl
@[simp] theorem State.add_saGen (s : State) (p : Page) (f : Fld) (n : Nat) : (s.add p f n).saGen = s.saGen := rfl
@[simp] theorem State.add_rxPn (s : State) (p : Page) (f : Fld) (n : Nat) : (s.add p f n).rxPn = s.rxPn := rfl
@[simp] theorem State.add_saWritten (s : State) (p : Page) (f : Fld) (n : Nat) : (s.add p f n).saWritten = s.saWritten := rfl
@[simp] theorem State.add_rxs (s : State) (p : Page) (f : Fld) (n : Nat) : (s.add p f n).rxs = s.rxs := rfl
@[simp] theorem State.add_txs (s : State) (p : Page) (f : Fld) (n : Nat) : (s.add p f n).txs = s.txs := rfl
@[simp] theorem State.add_clk (s : State) (p : Page) (f : Fld) (n : Nat) : (s.add p f n).clk = s.clk := rfl
@[simp] theorem State.add_cands (s : State) (p : Page) (f : Fld) (n : Nat) : (s.add p f n).cands = s.cands := rfl
@[simp] theorem State.add_dplls (s : State) (p : Page) (f : Fld) (n : Nat) : (s.add p f n).dplls = s.dplls := rfl
@[simp] theorem State.add_vtgs (s : State) (p : Page) (f : Fld) (n : Nat) : (s.add p f n).vtgs = s.vtgs := rfl
@[simp] theorem State.add_refo (s : State) (p : Page) (f : Fld) (n : Nat) : (s.add p f n).refo = s.refo := rfl
@[simp] theorem State.add_refoAt (s : State) (p : Page) (f : Fld) (n : Nat) : (s.add p f n).refoAt = s.refoAt := rfl
@[simp] theorem State.add_aud (s : State) (p : Page) (f : Fld) (n : Nat) : (s.add p f n).aud = s.aud := rfl
@[simp] theorem State.add_audRx (s : State) (p : Page) (f : Fld) (n : Nat) : (s.add p f n).audRx = s.audRx := rfl
@[simp] theorem State.add_audTx (s : State) (p : Page) (f : Fld) (n : Nat) : (s.add p f n).audTx = s.audTx := rfl
@[simp] theorem State.add_tdm (s : State) (p : Page) (f : Fld) (n : Nat) : (s.add p f n).tdm = s.tdm := rfl
@[simp] theorem State.add_gddr (s : State) (p : Page) (f : Fld) (n : Nat) : (s.add p f n).gddr = s.gddr := rfl
@[simp] theorem State.add_engs (s : State) (p : Page) (f : Fld) (n : Nat) : (s.add p f n).engs = s.engs := rfl
@[simp] theorem State.add_ringLost (s : State) (p : Page) (f : Fld) (n : Nat) : (s.add p f n).ringLost = s.ringLost := rfl
@[simp] theorem State.add_retrainAt (s : State) (p : Page) (f : Fld) (n : Nat) : (s.add p f n).retrainAt = s.retrainAt := rfl
@[simp] theorem State.add_bus (s : State) (p : Page) (f : Fld) (n : Nat) : (s.add p f n).bus = s.bus := rfl
@[simp] theorem State.add_spi (s : State) (p : Page) (f : Fld) (n : Nat) : (s.add p f n).spi = s.spi := rfl
@[simp] theorem State.add_mbx (s : State) (p : Page) (f : Fld) (n : Nat) : (s.add p f n).mbx = s.mbx := rfl
@[simp] theorem State.add_mbxAt (s : State) (p : Page) (f : Fld) (n : Nat) : (s.add p f n).mbxAt = s.mbxAt := rfl
@[simp] theorem State.add_pcieReady (s : State) (p : Page) (f : Fld) (n : Nat) : (s.add p f n).pcieReady = s.pcieReady := rfl
@[simp] theorem State.add_msixMask (s : State) (p : Page) (f : Fld) (n : Nat) : (s.add p f n).msixMask = s.msixMask := rfl
@[simp] theorem State.add_otp (s : State) (p : Page) (f : Fld) (n : Nat) : (s.add p f n).otp = s.otp := rfl
@[simp] theorem State.add_vbat (s : State) (p : Page) (f : Fld) (n : Nat) : (s.add p f n).vbat = s.vbat := rfl
@[simp] theorem State.add_keys (s : State) (p : Page) (f : Fld) (n : Nat) : (s.add p f n).keys = s.keys := rfl
@[simp] theorem State.add_identity (s : State) (p : Page) (f : Fld) (n : Nat) : (s.add p f n).identity = s.identity := rfl
@[simp] theorem State.add_powered (s : State) (p : Page) (f : Fld) (n : Nat) : (s.add p f n).powered = s.powered := rfl
@[simp] theorem State.add_flash (s : State) (p : Page) (f : Fld) (n : Nat) : (s.add p f n).flash = s.flash := rfl
@[simp] theorem State.add_boot (s : State) (p : Page) (f : Fld) (n : Nat) : (s.add p f n).boot = s.boot := rfl
@[simp] theorem State.add_upd (s : State) (p : Page) (f : Fld) (n : Nat) : (s.add p f n).upd = s.upd := rfl
@[simp] theorem State.add_bbxRun (s : State) (p : Page) (f : Fld) (n : Nat) : (s.add p f n).bbxRun = s.bbxRun := rfl
@[simp] theorem State.add_free (s : State) (p : Page) (f : Fld) (n : Nat) : (s.add p f n).free = s.free := rfl
@[simp] theorem State.add_out (s : State) (p : Page) (f : Fld) (n : Nat) : (s.add p f n).out = s.out := rfl
@[simp] theorem State.add_pending (s : State) (p : Page) (f : Fld) (n : Nat) : (s.add p f n).pending = s.pending := rfl

/-! ### Counting with saturation -/

@[simp] theorem State.addSat_now (s : State) (p : Page) (f : Fld) (n : Nat) : (s.addSat p f n).now = s.now := rfl
@[simp] theorem State.addSat_resetCycle (s : State) (p : Page) (f : Fld) (n : Nat) : (s.addSat p f n).resetCycle = s.resetCycle := rfl
@[simp] theorem State.addSat_lv (s : State) (p : Page) (f : Fld) (n : Nat) : (s.addSat p f n).lv = s.lv := rfl
@[simp] theorem State.addSat_arms (s : State) (p : Page) (f : Fld) (n : Nat) : (s.addSat p f n).arms = s.arms := rfl
@[simp] theorem State.addSat_groups (s : State) (p : Page) (f : Fld) (n : Nat) : (s.addSat p f n).groups = s.groups := rfl
@[simp] theorem State.addSat_freed (s : State) (p : Page) (f : Fld) (n : Nat) : (s.addSat p f n).freed = s.freed := rfl
@[simp] theorem State.addSat_freedAt (s : State) (p : Page) (f : Fld) (n : Nat) : (s.addSat p f n).freedAt = s.freedAt := rfl
@[simp] theorem State.addSat_undo (s : State) (p : Page) (f : Fld) (n : Nat) : (s.addSat p f n).undo = s.undo := rfl
@[simp] theorem State.addSat_undoAt (s : State) (p : Page) (f : Fld) (n : Nat) : (s.addSat p f n).undoAt = s.undoAt := rfl
@[simp] theorem State.addSat_busy (s : State) (p : Page) (f : Fld) (n : Nat) : (s.addSat p f n).busy = s.busy := rfl
@[simp] theorem State.addSat_pools (s : State) (p : Page) (f : Fld) (n : Nat) : (s.addSat p f n).pools = s.pools := rfl
@[simp] theorem State.addSat_fatal (s : State) (p : Page) (f : Fld) (n : Nat) : (s.addSat p f n).fatal = s.fatal := rfl
@[simp] theorem State.addSat_fatalSrc (s : State) (p : Page) (f : Fld) (n : Nat) : (s.addSat p f n).fatalSrc = s.fatalSrc := rfl
@[simp] theorem State.addSat_normal (s : State) (p : Page) (f : Fld) (n : Nat) : (s.addSat p f n).normal = s.normal := rfl
@[simp] theorem State.addSat_committed (s : State) (p : Page) (f : Fld) (n : Nat) : (s.addSat p f n).committed = s.committed := rfl
@[simp] theorem State.addSat_evr (s : State) (p : Page) (f : Fld) (n : Nat) : (s.addSat p f n).evr = s.evr := rfl
@[simp] theorem State.addSat_bbx (s : State) (p : Page) (f : Fld) (n : Nat) : (s.addSat p f n).bbx = s.bbx := rfl
@[simp] theorem State.addSat_insvc (s : State) (p : Page) (f : Fld) (n : Nat) : (s.addSat p f n).insvc = s.insvc := rfl
@[simp] theorem State.addSat_lanes (s : State) (p : Page) (f : Fld) (n : Nat) : (s.addSat p f n).lanes = s.lanes := rfl
@[simp] theorem State.addSat_xbp (s : State) (p : Page) (f : Fld) (n : Nat) : (s.addSat p f n).xbp = s.xbp := rfl
@[simp] theorem State.addSat_brace (s : State) (p : Page) (f : Fld) (n : Nat) : (s.addSat p f n).brace = s.brace := rfl
@[simp] theorem State.addSat_xwp (s : State) (p : Page) (f : Fld) (n : Nat) : (s.addSat p f n).xwp = s.xwp := rfl
@[simp] theorem State.addSat_eth (s : State) (p : Page) (f : Fld) (n : Nat) : (s.addSat p f n).eth = s.eth := rfl
@[simp] theorem State.addSat_saGen (s : State) (p : Page) (f : Fld) (n : Nat) : (s.addSat p f n).saGen = s.saGen := rfl
@[simp] theorem State.addSat_rxPn (s : State) (p : Page) (f : Fld) (n : Nat) : (s.addSat p f n).rxPn = s.rxPn := rfl
@[simp] theorem State.addSat_saWritten (s : State) (p : Page) (f : Fld) (n : Nat) : (s.addSat p f n).saWritten = s.saWritten := rfl
@[simp] theorem State.addSat_rxs (s : State) (p : Page) (f : Fld) (n : Nat) : (s.addSat p f n).rxs = s.rxs := rfl
@[simp] theorem State.addSat_txs (s : State) (p : Page) (f : Fld) (n : Nat) : (s.addSat p f n).txs = s.txs := rfl
@[simp] theorem State.addSat_clk (s : State) (p : Page) (f : Fld) (n : Nat) : (s.addSat p f n).clk = s.clk := rfl
@[simp] theorem State.addSat_cands (s : State) (p : Page) (f : Fld) (n : Nat) : (s.addSat p f n).cands = s.cands := rfl
@[simp] theorem State.addSat_dplls (s : State) (p : Page) (f : Fld) (n : Nat) : (s.addSat p f n).dplls = s.dplls := rfl
@[simp] theorem State.addSat_vtgs (s : State) (p : Page) (f : Fld) (n : Nat) : (s.addSat p f n).vtgs = s.vtgs := rfl
@[simp] theorem State.addSat_refo (s : State) (p : Page) (f : Fld) (n : Nat) : (s.addSat p f n).refo = s.refo := rfl
@[simp] theorem State.addSat_refoAt (s : State) (p : Page) (f : Fld) (n : Nat) : (s.addSat p f n).refoAt = s.refoAt := rfl
@[simp] theorem State.addSat_aud (s : State) (p : Page) (f : Fld) (n : Nat) : (s.addSat p f n).aud = s.aud := rfl
@[simp] theorem State.addSat_audRx (s : State) (p : Page) (f : Fld) (n : Nat) : (s.addSat p f n).audRx = s.audRx := rfl
@[simp] theorem State.addSat_audTx (s : State) (p : Page) (f : Fld) (n : Nat) : (s.addSat p f n).audTx = s.audTx := rfl
@[simp] theorem State.addSat_tdm (s : State) (p : Page) (f : Fld) (n : Nat) : (s.addSat p f n).tdm = s.tdm := rfl
@[simp] theorem State.addSat_gddr (s : State) (p : Page) (f : Fld) (n : Nat) : (s.addSat p f n).gddr = s.gddr := rfl
@[simp] theorem State.addSat_engs (s : State) (p : Page) (f : Fld) (n : Nat) : (s.addSat p f n).engs = s.engs := rfl
@[simp] theorem State.addSat_ringLost (s : State) (p : Page) (f : Fld) (n : Nat) : (s.addSat p f n).ringLost = s.ringLost := rfl
@[simp] theorem State.addSat_retrainAt (s : State) (p : Page) (f : Fld) (n : Nat) : (s.addSat p f n).retrainAt = s.retrainAt := rfl
@[simp] theorem State.addSat_bus (s : State) (p : Page) (f : Fld) (n : Nat) : (s.addSat p f n).bus = s.bus := rfl
@[simp] theorem State.addSat_spi (s : State) (p : Page) (f : Fld) (n : Nat) : (s.addSat p f n).spi = s.spi := rfl
@[simp] theorem State.addSat_mbx (s : State) (p : Page) (f : Fld) (n : Nat) : (s.addSat p f n).mbx = s.mbx := rfl
@[simp] theorem State.addSat_mbxAt (s : State) (p : Page) (f : Fld) (n : Nat) : (s.addSat p f n).mbxAt = s.mbxAt := rfl
@[simp] theorem State.addSat_pcieReady (s : State) (p : Page) (f : Fld) (n : Nat) : (s.addSat p f n).pcieReady = s.pcieReady := rfl
@[simp] theorem State.addSat_msixMask (s : State) (p : Page) (f : Fld) (n : Nat) : (s.addSat p f n).msixMask = s.msixMask := rfl
@[simp] theorem State.addSat_otp (s : State) (p : Page) (f : Fld) (n : Nat) : (s.addSat p f n).otp = s.otp := rfl
@[simp] theorem State.addSat_vbat (s : State) (p : Page) (f : Fld) (n : Nat) : (s.addSat p f n).vbat = s.vbat := rfl
@[simp] theorem State.addSat_keys (s : State) (p : Page) (f : Fld) (n : Nat) : (s.addSat p f n).keys = s.keys := rfl
@[simp] theorem State.addSat_identity (s : State) (p : Page) (f : Fld) (n : Nat) : (s.addSat p f n).identity = s.identity := rfl
@[simp] theorem State.addSat_powered (s : State) (p : Page) (f : Fld) (n : Nat) : (s.addSat p f n).powered = s.powered := rfl
@[simp] theorem State.addSat_flash (s : State) (p : Page) (f : Fld) (n : Nat) : (s.addSat p f n).flash = s.flash := rfl
@[simp] theorem State.addSat_boot (s : State) (p : Page) (f : Fld) (n : Nat) : (s.addSat p f n).boot = s.boot := rfl
@[simp] theorem State.addSat_upd (s : State) (p : Page) (f : Fld) (n : Nat) : (s.addSat p f n).upd = s.upd := rfl
@[simp] theorem State.addSat_bbxRun (s : State) (p : Page) (f : Fld) (n : Nat) : (s.addSat p f n).bbxRun = s.bbxRun := rfl
@[simp] theorem State.addSat_free (s : State) (p : Page) (f : Fld) (n : Nat) : (s.addSat p f n).free = s.free := rfl
@[simp] theorem State.addSat_out (s : State) (p : Page) (f : Fld) (n : Nat) : (s.addSat p f n).out = s.out := rfl
@[simp] theorem State.addSat_pending (s : State) (p : Page) (f : Fld) (n : Nat) : (s.addSat p f n).pending = s.pending := rfl

/-! ### Setting several fields -/

@[simp] theorem State.puts_now (s : State) (p : Page) (l : List (Fld × Nat)) : (s.puts p l).now = s.now := by
  induction l generalizing s with
  | nil => rfl
  | cons e r ih => exact (ih (s.put p e.1 e.2)).trans (s.put_now p e.1 e.2)
@[simp] theorem State.puts_resetCycle (s : State) (p : Page) (l : List (Fld × Nat)) : (s.puts p l).resetCycle = s.resetCycle := by
  induction l generalizing s with
  | nil => rfl
  | cons e r ih => exact (ih (s.put p e.1 e.2)).trans (s.put_resetCycle p e.1 e.2)
@[simp] theorem State.puts_lv (s : State) (p : Page) (l : List (Fld × Nat)) : (s.puts p l).lv = s.lv := by
  induction l generalizing s with
  | nil => rfl
  | cons e r ih => exact (ih (s.put p e.1 e.2)).trans (s.put_lv p e.1 e.2)
@[simp] theorem State.puts_arms (s : State) (p : Page) (l : List (Fld × Nat)) : (s.puts p l).arms = s.arms := by
  induction l generalizing s with
  | nil => rfl
  | cons e r ih => exact (ih (s.put p e.1 e.2)).trans (s.put_arms p e.1 e.2)
@[simp] theorem State.puts_groups (s : State) (p : Page) (l : List (Fld × Nat)) : (s.puts p l).groups = s.groups := by
  induction l generalizing s with
  | nil => rfl
  | cons e r ih => exact (ih (s.put p e.1 e.2)).trans (s.put_groups p e.1 e.2)
@[simp] theorem State.puts_freed (s : State) (p : Page) (l : List (Fld × Nat)) : (s.puts p l).freed = s.freed := by
  induction l generalizing s with
  | nil => rfl
  | cons e r ih => exact (ih (s.put p e.1 e.2)).trans (s.put_freed p e.1 e.2)
@[simp] theorem State.puts_freedAt (s : State) (p : Page) (l : List (Fld × Nat)) : (s.puts p l).freedAt = s.freedAt := by
  induction l generalizing s with
  | nil => rfl
  | cons e r ih => exact (ih (s.put p e.1 e.2)).trans (s.put_freedAt p e.1 e.2)
@[simp] theorem State.puts_undo (s : State) (p : Page) (l : List (Fld × Nat)) : (s.puts p l).undo = s.undo := by
  induction l generalizing s with
  | nil => rfl
  | cons e r ih => exact (ih (s.put p e.1 e.2)).trans (s.put_undo p e.1 e.2)
@[simp] theorem State.puts_undoAt (s : State) (p : Page) (l : List (Fld × Nat)) : (s.puts p l).undoAt = s.undoAt := by
  induction l generalizing s with
  | nil => rfl
  | cons e r ih => exact (ih (s.put p e.1 e.2)).trans (s.put_undoAt p e.1 e.2)
@[simp] theorem State.puts_busy (s : State) (p : Page) (l : List (Fld × Nat)) : (s.puts p l).busy = s.busy := by
  induction l generalizing s with
  | nil => rfl
  | cons e r ih => exact (ih (s.put p e.1 e.2)).trans (s.put_busy p e.1 e.2)
@[simp] theorem State.puts_pools (s : State) (p : Page) (l : List (Fld × Nat)) : (s.puts p l).pools = s.pools := by
  induction l generalizing s with
  | nil => rfl
  | cons e r ih => exact (ih (s.put p e.1 e.2)).trans (s.put_pools p e.1 e.2)
@[simp] theorem State.puts_fatal (s : State) (p : Page) (l : List (Fld × Nat)) : (s.puts p l).fatal = s.fatal := by
  induction l generalizing s with
  | nil => rfl
  | cons e r ih => exact (ih (s.put p e.1 e.2)).trans (s.put_fatal p e.1 e.2)
@[simp] theorem State.puts_fatalSrc (s : State) (p : Page) (l : List (Fld × Nat)) : (s.puts p l).fatalSrc = s.fatalSrc := by
  induction l generalizing s with
  | nil => rfl
  | cons e r ih => exact (ih (s.put p e.1 e.2)).trans (s.put_fatalSrc p e.1 e.2)
@[simp] theorem State.puts_normal (s : State) (p : Page) (l : List (Fld × Nat)) : (s.puts p l).normal = s.normal := by
  induction l generalizing s with
  | nil => rfl
  | cons e r ih => exact (ih (s.put p e.1 e.2)).trans (s.put_normal p e.1 e.2)
@[simp] theorem State.puts_committed (s : State) (p : Page) (l : List (Fld × Nat)) : (s.puts p l).committed = s.committed := by
  induction l generalizing s with
  | nil => rfl
  | cons e r ih => exact (ih (s.put p e.1 e.2)).trans (s.put_committed p e.1 e.2)
@[simp] theorem State.puts_evr (s : State) (p : Page) (l : List (Fld × Nat)) : (s.puts p l).evr = s.evr := by
  induction l generalizing s with
  | nil => rfl
  | cons e r ih => exact (ih (s.put p e.1 e.2)).trans (s.put_evr p e.1 e.2)
@[simp] theorem State.puts_bbx (s : State) (p : Page) (l : List (Fld × Nat)) : (s.puts p l).bbx = s.bbx := by
  induction l generalizing s with
  | nil => rfl
  | cons e r ih => exact (ih (s.put p e.1 e.2)).trans (s.put_bbx p e.1 e.2)
@[simp] theorem State.puts_insvc (s : State) (p : Page) (l : List (Fld × Nat)) : (s.puts p l).insvc = s.insvc := by
  induction l generalizing s with
  | nil => rfl
  | cons e r ih => exact (ih (s.put p e.1 e.2)).trans (s.put_insvc p e.1 e.2)
@[simp] theorem State.puts_lanes (s : State) (p : Page) (l : List (Fld × Nat)) : (s.puts p l).lanes = s.lanes := by
  induction l generalizing s with
  | nil => rfl
  | cons e r ih => exact (ih (s.put p e.1 e.2)).trans (s.put_lanes p e.1 e.2)
@[simp] theorem State.puts_xbp (s : State) (p : Page) (l : List (Fld × Nat)) : (s.puts p l).xbp = s.xbp := by
  induction l generalizing s with
  | nil => rfl
  | cons e r ih => exact (ih (s.put p e.1 e.2)).trans (s.put_xbp p e.1 e.2)
@[simp] theorem State.puts_brace (s : State) (p : Page) (l : List (Fld × Nat)) : (s.puts p l).brace = s.brace := by
  induction l generalizing s with
  | nil => rfl
  | cons e r ih => exact (ih (s.put p e.1 e.2)).trans (s.put_brace p e.1 e.2)
@[simp] theorem State.puts_xwp (s : State) (p : Page) (l : List (Fld × Nat)) : (s.puts p l).xwp = s.xwp := by
  induction l generalizing s with
  | nil => rfl
  | cons e r ih => exact (ih (s.put p e.1 e.2)).trans (s.put_xwp p e.1 e.2)
@[simp] theorem State.puts_eth (s : State) (p : Page) (l : List (Fld × Nat)) : (s.puts p l).eth = s.eth := by
  induction l generalizing s with
  | nil => rfl
  | cons e r ih => exact (ih (s.put p e.1 e.2)).trans (s.put_eth p e.1 e.2)
@[simp] theorem State.puts_saGen (s : State) (p : Page) (l : List (Fld × Nat)) : (s.puts p l).saGen = s.saGen := by
  induction l generalizing s with
  | nil => rfl
  | cons e r ih => exact (ih (s.put p e.1 e.2)).trans (s.put_saGen p e.1 e.2)
@[simp] theorem State.puts_rxPn (s : State) (p : Page) (l : List (Fld × Nat)) : (s.puts p l).rxPn = s.rxPn := by
  induction l generalizing s with
  | nil => rfl
  | cons e r ih => exact (ih (s.put p e.1 e.2)).trans (s.put_rxPn p e.1 e.2)
@[simp] theorem State.puts_saWritten (s : State) (p : Page) (l : List (Fld × Nat)) : (s.puts p l).saWritten = s.saWritten := by
  induction l generalizing s with
  | nil => rfl
  | cons e r ih => exact (ih (s.put p e.1 e.2)).trans (s.put_saWritten p e.1 e.2)
@[simp] theorem State.puts_rxs (s : State) (p : Page) (l : List (Fld × Nat)) : (s.puts p l).rxs = s.rxs := by
  induction l generalizing s with
  | nil => rfl
  | cons e r ih => exact (ih (s.put p e.1 e.2)).trans (s.put_rxs p e.1 e.2)
@[simp] theorem State.puts_txs (s : State) (p : Page) (l : List (Fld × Nat)) : (s.puts p l).txs = s.txs := by
  induction l generalizing s with
  | nil => rfl
  | cons e r ih => exact (ih (s.put p e.1 e.2)).trans (s.put_txs p e.1 e.2)
@[simp] theorem State.puts_clk (s : State) (p : Page) (l : List (Fld × Nat)) : (s.puts p l).clk = s.clk := by
  induction l generalizing s with
  | nil => rfl
  | cons e r ih => exact (ih (s.put p e.1 e.2)).trans (s.put_clk p e.1 e.2)
@[simp] theorem State.puts_cands (s : State) (p : Page) (l : List (Fld × Nat)) : (s.puts p l).cands = s.cands := by
  induction l generalizing s with
  | nil => rfl
  | cons e r ih => exact (ih (s.put p e.1 e.2)).trans (s.put_cands p e.1 e.2)
@[simp] theorem State.puts_dplls (s : State) (p : Page) (l : List (Fld × Nat)) : (s.puts p l).dplls = s.dplls := by
  induction l generalizing s with
  | nil => rfl
  | cons e r ih => exact (ih (s.put p e.1 e.2)).trans (s.put_dplls p e.1 e.2)
@[simp] theorem State.puts_vtgs (s : State) (p : Page) (l : List (Fld × Nat)) : (s.puts p l).vtgs = s.vtgs := by
  induction l generalizing s with
  | nil => rfl
  | cons e r ih => exact (ih (s.put p e.1 e.2)).trans (s.put_vtgs p e.1 e.2)
@[simp] theorem State.puts_refo (s : State) (p : Page) (l : List (Fld × Nat)) : (s.puts p l).refo = s.refo := by
  induction l generalizing s with
  | nil => rfl
  | cons e r ih => exact (ih (s.put p e.1 e.2)).trans (s.put_refo p e.1 e.2)
@[simp] theorem State.puts_refoAt (s : State) (p : Page) (l : List (Fld × Nat)) : (s.puts p l).refoAt = s.refoAt := by
  induction l generalizing s with
  | nil => rfl
  | cons e r ih => exact (ih (s.put p e.1 e.2)).trans (s.put_refoAt p e.1 e.2)
@[simp] theorem State.puts_aud (s : State) (p : Page) (l : List (Fld × Nat)) : (s.puts p l).aud = s.aud := by
  induction l generalizing s with
  | nil => rfl
  | cons e r ih => exact (ih (s.put p e.1 e.2)).trans (s.put_aud p e.1 e.2)
@[simp] theorem State.puts_audRx (s : State) (p : Page) (l : List (Fld × Nat)) : (s.puts p l).audRx = s.audRx := by
  induction l generalizing s with
  | nil => rfl
  | cons e r ih => exact (ih (s.put p e.1 e.2)).trans (s.put_audRx p e.1 e.2)
@[simp] theorem State.puts_audTx (s : State) (p : Page) (l : List (Fld × Nat)) : (s.puts p l).audTx = s.audTx := by
  induction l generalizing s with
  | nil => rfl
  | cons e r ih => exact (ih (s.put p e.1 e.2)).trans (s.put_audTx p e.1 e.2)
@[simp] theorem State.puts_tdm (s : State) (p : Page) (l : List (Fld × Nat)) : (s.puts p l).tdm = s.tdm := by
  induction l generalizing s with
  | nil => rfl
  | cons e r ih => exact (ih (s.put p e.1 e.2)).trans (s.put_tdm p e.1 e.2)
@[simp] theorem State.puts_gddr (s : State) (p : Page) (l : List (Fld × Nat)) : (s.puts p l).gddr = s.gddr := by
  induction l generalizing s with
  | nil => rfl
  | cons e r ih => exact (ih (s.put p e.1 e.2)).trans (s.put_gddr p e.1 e.2)
@[simp] theorem State.puts_engs (s : State) (p : Page) (l : List (Fld × Nat)) : (s.puts p l).engs = s.engs := by
  induction l generalizing s with
  | nil => rfl
  | cons e r ih => exact (ih (s.put p e.1 e.2)).trans (s.put_engs p e.1 e.2)
@[simp] theorem State.puts_ringLost (s : State) (p : Page) (l : List (Fld × Nat)) : (s.puts p l).ringLost = s.ringLost := by
  induction l generalizing s with
  | nil => rfl
  | cons e r ih => exact (ih (s.put p e.1 e.2)).trans (s.put_ringLost p e.1 e.2)
@[simp] theorem State.puts_retrainAt (s : State) (p : Page) (l : List (Fld × Nat)) : (s.puts p l).retrainAt = s.retrainAt := by
  induction l generalizing s with
  | nil => rfl
  | cons e r ih => exact (ih (s.put p e.1 e.2)).trans (s.put_retrainAt p e.1 e.2)
@[simp] theorem State.puts_bus (s : State) (p : Page) (l : List (Fld × Nat)) : (s.puts p l).bus = s.bus := by
  induction l generalizing s with
  | nil => rfl
  | cons e r ih => exact (ih (s.put p e.1 e.2)).trans (s.put_bus p e.1 e.2)
@[simp] theorem State.puts_spi (s : State) (p : Page) (l : List (Fld × Nat)) : (s.puts p l).spi = s.spi := by
  induction l generalizing s with
  | nil => rfl
  | cons e r ih => exact (ih (s.put p e.1 e.2)).trans (s.put_spi p e.1 e.2)
@[simp] theorem State.puts_mbx (s : State) (p : Page) (l : List (Fld × Nat)) : (s.puts p l).mbx = s.mbx := by
  induction l generalizing s with
  | nil => rfl
  | cons e r ih => exact (ih (s.put p e.1 e.2)).trans (s.put_mbx p e.1 e.2)
@[simp] theorem State.puts_mbxAt (s : State) (p : Page) (l : List (Fld × Nat)) : (s.puts p l).mbxAt = s.mbxAt := by
  induction l generalizing s with
  | nil => rfl
  | cons e r ih => exact (ih (s.put p e.1 e.2)).trans (s.put_mbxAt p e.1 e.2)
@[simp] theorem State.puts_pcieReady (s : State) (p : Page) (l : List (Fld × Nat)) : (s.puts p l).pcieReady = s.pcieReady := by
  induction l generalizing s with
  | nil => rfl
  | cons e r ih => exact (ih (s.put p e.1 e.2)).trans (s.put_pcieReady p e.1 e.2)
@[simp] theorem State.puts_msixMask (s : State) (p : Page) (l : List (Fld × Nat)) : (s.puts p l).msixMask = s.msixMask := by
  induction l generalizing s with
  | nil => rfl
  | cons e r ih => exact (ih (s.put p e.1 e.2)).trans (s.put_msixMask p e.1 e.2)
@[simp] theorem State.puts_otp (s : State) (p : Page) (l : List (Fld × Nat)) : (s.puts p l).otp = s.otp := by
  induction l generalizing s with
  | nil => rfl
  | cons e r ih => exact (ih (s.put p e.1 e.2)).trans (s.put_otp p e.1 e.2)
@[simp] theorem State.puts_vbat (s : State) (p : Page) (l : List (Fld × Nat)) : (s.puts p l).vbat = s.vbat := by
  induction l generalizing s with
  | nil => rfl
  | cons e r ih => exact (ih (s.put p e.1 e.2)).trans (s.put_vbat p e.1 e.2)
@[simp] theorem State.puts_keys (s : State) (p : Page) (l : List (Fld × Nat)) : (s.puts p l).keys = s.keys := by
  induction l generalizing s with
  | nil => rfl
  | cons e r ih => exact (ih (s.put p e.1 e.2)).trans (s.put_keys p e.1 e.2)
@[simp] theorem State.puts_identity (s : State) (p : Page) (l : List (Fld × Nat)) : (s.puts p l).identity = s.identity := by
  induction l generalizing s with
  | nil => rfl
  | cons e r ih => exact (ih (s.put p e.1 e.2)).trans (s.put_identity p e.1 e.2)
@[simp] theorem State.puts_powered (s : State) (p : Page) (l : List (Fld × Nat)) : (s.puts p l).powered = s.powered := by
  induction l generalizing s with
  | nil => rfl
  | cons e r ih => exact (ih (s.put p e.1 e.2)).trans (s.put_powered p e.1 e.2)
@[simp] theorem State.puts_flash (s : State) (p : Page) (l : List (Fld × Nat)) : (s.puts p l).flash = s.flash := by
  induction l generalizing s with
  | nil => rfl
  | cons e r ih => exact (ih (s.put p e.1 e.2)).trans (s.put_flash p e.1 e.2)
@[simp] theorem State.puts_boot (s : State) (p : Page) (l : List (Fld × Nat)) : (s.puts p l).boot = s.boot := by
  induction l generalizing s with
  | nil => rfl
  | cons e r ih => exact (ih (s.put p e.1 e.2)).trans (s.put_boot p e.1 e.2)
@[simp] theorem State.puts_upd (s : State) (p : Page) (l : List (Fld × Nat)) : (s.puts p l).upd = s.upd := by
  induction l generalizing s with
  | nil => rfl
  | cons e r ih => exact (ih (s.put p e.1 e.2)).trans (s.put_upd p e.1 e.2)
@[simp] theorem State.puts_bbxRun (s : State) (p : Page) (l : List (Fld × Nat)) : (s.puts p l).bbxRun = s.bbxRun := by
  induction l generalizing s with
  | nil => rfl
  | cons e r ih => exact (ih (s.put p e.1 e.2)).trans (s.put_bbxRun p e.1 e.2)
@[simp] theorem State.puts_free (s : State) (p : Page) (l : List (Fld × Nat)) : (s.puts p l).free = s.free := by
  induction l generalizing s with
  | nil => rfl
  | cons e r ih => exact (ih (s.put p e.1 e.2)).trans (s.put_free p e.1 e.2)
@[simp] theorem State.puts_out (s : State) (p : Page) (l : List (Fld × Nat)) : (s.puts p l).out = s.out := by
  induction l generalizing s with
  | nil => rfl
  | cons e r ih => exact (ih (s.put p e.1 e.2)).trans (s.put_out p e.1 e.2)
@[simp] theorem State.puts_pending (s : State) (p : Page) (l : List (Fld × Nat)) : (s.puts p l).pending = s.pending := by
  induction l generalizing s with
  | nil => rfl
  | cons e r ih => exact (ih (s.put p e.1 e.2)).trans (s.put_pending p e.1 e.2)

/-! ### Offering an event changes the recorder and LOST_CNT (R437) -/

@[simp] theorem State.offer_now (s : State) (p : Page) (c x y : Nat) : (s.offer p c x y).now = s.now := by
  unfold State.offer; split
  · rfl
  · rw [State.addSat_now]
@[simp] theorem State.offer_resetCycle (s : State) (p : Page) (c x y : Nat) : (s.offer p c x y).resetCycle = s.resetCycle := by
  unfold State.offer; split
  · rfl
  · rw [State.addSat_resetCycle]
@[simp] theorem State.offer_lv (s : State) (p : Page) (c x y : Nat) : (s.offer p c x y).lv = s.lv := by
  unfold State.offer; split
  · rfl
  · rw [State.addSat_lv]
@[simp] theorem State.offer_arms (s : State) (p : Page) (c x y : Nat) : (s.offer p c x y).arms = s.arms := by
  unfold State.offer; split
  · rfl
  · rw [State.addSat_arms]
@[simp] theorem State.offer_groups (s : State) (p : Page) (c x y : Nat) : (s.offer p c x y).groups = s.groups := by
  unfold State.offer; split
  · rfl
  · rw [State.addSat_groups]
@[simp] theorem State.offer_freed (s : State) (p : Page) (c x y : Nat) : (s.offer p c x y).freed = s.freed := by
  unfold State.offer; split
  · rfl
  · rw [State.addSat_freed]
@[simp] theorem State.offer_freedAt (s : State) (p : Page) (c x y : Nat) : (s.offer p c x y).freedAt = s.freedAt := by
  unfold State.offer; split
  · rfl
  · rw [State.addSat_freedAt]
@[simp] theorem State.offer_undo (s : State) (p : Page) (c x y : Nat) : (s.offer p c x y).undo = s.undo := by
  unfold State.offer; split
  · rfl
  · rw [State.addSat_undo]
@[simp] theorem State.offer_undoAt (s : State) (p : Page) (c x y : Nat) : (s.offer p c x y).undoAt = s.undoAt := by
  unfold State.offer; split
  · rfl
  · rw [State.addSat_undoAt]
@[simp] theorem State.offer_busy (s : State) (p : Page) (c x y : Nat) : (s.offer p c x y).busy = s.busy := by
  unfold State.offer; split
  · rfl
  · rw [State.addSat_busy]
@[simp] theorem State.offer_pools (s : State) (p : Page) (c x y : Nat) : (s.offer p c x y).pools = s.pools := by
  unfold State.offer; split
  · rfl
  · rw [State.addSat_pools]
@[simp] theorem State.offer_fatal (s : State) (p : Page) (c x y : Nat) : (s.offer p c x y).fatal = s.fatal := by
  unfold State.offer; split
  · rfl
  · rw [State.addSat_fatal]
@[simp] theorem State.offer_fatalSrc (s : State) (p : Page) (c x y : Nat) : (s.offer p c x y).fatalSrc = s.fatalSrc := by
  unfold State.offer; split
  · rfl
  · rw [State.addSat_fatalSrc]
@[simp] theorem State.offer_normal (s : State) (p : Page) (c x y : Nat) : (s.offer p c x y).normal = s.normal := by
  unfold State.offer; split
  · rfl
  · rw [State.addSat_normal]
@[simp] theorem State.offer_committed (s : State) (p : Page) (c x y : Nat) : (s.offer p c x y).committed = s.committed := by
  unfold State.offer; split
  · rfl
  · rw [State.addSat_committed]
@[simp] theorem State.offer_bbx (s : State) (p : Page) (c x y : Nat) : (s.offer p c x y).bbx = s.bbx := by
  unfold State.offer; split
  · rfl
  · rw [State.addSat_bbx]
@[simp] theorem State.offer_insvc (s : State) (p : Page) (c x y : Nat) : (s.offer p c x y).insvc = s.insvc := by
  unfold State.offer; split
  · rfl
  · rw [State.addSat_insvc]
@[simp] theorem State.offer_lanes (s : State) (p : Page) (c x y : Nat) : (s.offer p c x y).lanes = s.lanes := by
  unfold State.offer; split
  · rfl
  · rw [State.addSat_lanes]
@[simp] theorem State.offer_xbp (s : State) (p : Page) (c x y : Nat) : (s.offer p c x y).xbp = s.xbp := by
  unfold State.offer; split
  · rfl
  · rw [State.addSat_xbp]
@[simp] theorem State.offer_brace (s : State) (p : Page) (c x y : Nat) : (s.offer p c x y).brace = s.brace := by
  unfold State.offer; split
  · rfl
  · rw [State.addSat_brace]
@[simp] theorem State.offer_xwp (s : State) (p : Page) (c x y : Nat) : (s.offer p c x y).xwp = s.xwp := by
  unfold State.offer; split
  · rfl
  · rw [State.addSat_xwp]
@[simp] theorem State.offer_eth (s : State) (p : Page) (c x y : Nat) : (s.offer p c x y).eth = s.eth := by
  unfold State.offer; split
  · rfl
  · rw [State.addSat_eth]
@[simp] theorem State.offer_saGen (s : State) (p : Page) (c x y : Nat) : (s.offer p c x y).saGen = s.saGen := by
  unfold State.offer; split
  · rfl
  · rw [State.addSat_saGen]
@[simp] theorem State.offer_rxPn (s : State) (p : Page) (c x y : Nat) : (s.offer p c x y).rxPn = s.rxPn := by
  unfold State.offer; split
  · rfl
  · rw [State.addSat_rxPn]
@[simp] theorem State.offer_saWritten (s : State) (p : Page) (c x y : Nat) : (s.offer p c x y).saWritten = s.saWritten := by
  unfold State.offer; split
  · rfl
  · rw [State.addSat_saWritten]
@[simp] theorem State.offer_rxs (s : State) (p : Page) (c x y : Nat) : (s.offer p c x y).rxs = s.rxs := by
  unfold State.offer; split
  · rfl
  · rw [State.addSat_rxs]
@[simp] theorem State.offer_txs (s : State) (p : Page) (c x y : Nat) : (s.offer p c x y).txs = s.txs := by
  unfold State.offer; split
  · rfl
  · rw [State.addSat_txs]
@[simp] theorem State.offer_clk (s : State) (p : Page) (c x y : Nat) : (s.offer p c x y).clk = s.clk := by
  unfold State.offer; split
  · rfl
  · rw [State.addSat_clk]
@[simp] theorem State.offer_cands (s : State) (p : Page) (c x y : Nat) : (s.offer p c x y).cands = s.cands := by
  unfold State.offer; split
  · rfl
  · rw [State.addSat_cands]
@[simp] theorem State.offer_dplls (s : State) (p : Page) (c x y : Nat) : (s.offer p c x y).dplls = s.dplls := by
  unfold State.offer; split
  · rfl
  · rw [State.addSat_dplls]
@[simp] theorem State.offer_vtgs (s : State) (p : Page) (c x y : Nat) : (s.offer p c x y).vtgs = s.vtgs := by
  unfold State.offer; split
  · rfl
  · rw [State.addSat_vtgs]
@[simp] theorem State.offer_refo (s : State) (p : Page) (c x y : Nat) : (s.offer p c x y).refo = s.refo := by
  unfold State.offer; split
  · rfl
  · rw [State.addSat_refo]
@[simp] theorem State.offer_refoAt (s : State) (p : Page) (c x y : Nat) : (s.offer p c x y).refoAt = s.refoAt := by
  unfold State.offer; split
  · rfl
  · rw [State.addSat_refoAt]
@[simp] theorem State.offer_aud (s : State) (p : Page) (c x y : Nat) : (s.offer p c x y).aud = s.aud := by
  unfold State.offer; split
  · rfl
  · rw [State.addSat_aud]
@[simp] theorem State.offer_audRx (s : State) (p : Page) (c x y : Nat) : (s.offer p c x y).audRx = s.audRx := by
  unfold State.offer; split
  · rfl
  · rw [State.addSat_audRx]
@[simp] theorem State.offer_audTx (s : State) (p : Page) (c x y : Nat) : (s.offer p c x y).audTx = s.audTx := by
  unfold State.offer; split
  · rfl
  · rw [State.addSat_audTx]
@[simp] theorem State.offer_tdm (s : State) (p : Page) (c x y : Nat) : (s.offer p c x y).tdm = s.tdm := by
  unfold State.offer; split
  · rfl
  · rw [State.addSat_tdm]
@[simp] theorem State.offer_gddr (s : State) (p : Page) (c x y : Nat) : (s.offer p c x y).gddr = s.gddr := by
  unfold State.offer; split
  · rfl
  · rw [State.addSat_gddr]
@[simp] theorem State.offer_engs (s : State) (p : Page) (c x y : Nat) : (s.offer p c x y).engs = s.engs := by
  unfold State.offer; split
  · rfl
  · rw [State.addSat_engs]
@[simp] theorem State.offer_ringLost (s : State) (p : Page) (c x y : Nat) : (s.offer p c x y).ringLost = s.ringLost := by
  unfold State.offer; split
  · rfl
  · rw [State.addSat_ringLost]
@[simp] theorem State.offer_retrainAt (s : State) (p : Page) (c x y : Nat) : (s.offer p c x y).retrainAt = s.retrainAt := by
  unfold State.offer; split
  · rfl
  · rw [State.addSat_retrainAt]
@[simp] theorem State.offer_bus (s : State) (p : Page) (c x y : Nat) : (s.offer p c x y).bus = s.bus := by
  unfold State.offer; split
  · rfl
  · rw [State.addSat_bus]
@[simp] theorem State.offer_spi (s : State) (p : Page) (c x y : Nat) : (s.offer p c x y).spi = s.spi := by
  unfold State.offer; split
  · rfl
  · rw [State.addSat_spi]
@[simp] theorem State.offer_mbx (s : State) (p : Page) (c x y : Nat) : (s.offer p c x y).mbx = s.mbx := by
  unfold State.offer; split
  · rfl
  · rw [State.addSat_mbx]
@[simp] theorem State.offer_mbxAt (s : State) (p : Page) (c x y : Nat) : (s.offer p c x y).mbxAt = s.mbxAt := by
  unfold State.offer; split
  · rfl
  · rw [State.addSat_mbxAt]
@[simp] theorem State.offer_pcieReady (s : State) (p : Page) (c x y : Nat) : (s.offer p c x y).pcieReady = s.pcieReady := by
  unfold State.offer; split
  · rfl
  · rw [State.addSat_pcieReady]
@[simp] theorem State.offer_msixMask (s : State) (p : Page) (c x y : Nat) : (s.offer p c x y).msixMask = s.msixMask := by
  unfold State.offer; split
  · rfl
  · rw [State.addSat_msixMask]
@[simp] theorem State.offer_otp (s : State) (p : Page) (c x y : Nat) : (s.offer p c x y).otp = s.otp := by
  unfold State.offer; split
  · rfl
  · rw [State.addSat_otp]
@[simp] theorem State.offer_vbat (s : State) (p : Page) (c x y : Nat) : (s.offer p c x y).vbat = s.vbat := by
  unfold State.offer; split
  · rfl
  · rw [State.addSat_vbat]
@[simp] theorem State.offer_keys (s : State) (p : Page) (c x y : Nat) : (s.offer p c x y).keys = s.keys := by
  unfold State.offer; split
  · rfl
  · rw [State.addSat_keys]
@[simp] theorem State.offer_identity (s : State) (p : Page) (c x y : Nat) : (s.offer p c x y).identity = s.identity := by
  unfold State.offer; split
  · rfl
  · rw [State.addSat_identity]
@[simp] theorem State.offer_powered (s : State) (p : Page) (c x y : Nat) : (s.offer p c x y).powered = s.powered := by
  unfold State.offer; split
  · rfl
  · rw [State.addSat_powered]
@[simp] theorem State.offer_flash (s : State) (p : Page) (c x y : Nat) : (s.offer p c x y).flash = s.flash := by
  unfold State.offer; split
  · rfl
  · rw [State.addSat_flash]
@[simp] theorem State.offer_boot (s : State) (p : Page) (c x y : Nat) : (s.offer p c x y).boot = s.boot := by
  unfold State.offer; split
  · rfl
  · rw [State.addSat_boot]
@[simp] theorem State.offer_upd (s : State) (p : Page) (c x y : Nat) : (s.offer p c x y).upd = s.upd := by
  unfold State.offer; split
  · rfl
  · rw [State.addSat_upd]
@[simp] theorem State.offer_bbxRun (s : State) (p : Page) (c x y : Nat) : (s.offer p c x y).bbxRun = s.bbxRun := by
  unfold State.offer; split
  · rfl
  · rw [State.addSat_bbxRun]
@[simp] theorem State.offer_free (s : State) (p : Page) (c x y : Nat) : (s.offer p c x y).free = s.free := by
  unfold State.offer; split
  · rfl
  · rw [State.addSat_free]
@[simp] theorem State.offer_out (s : State) (p : Page) (c x y : Nat) : (s.offer p c x y).out = s.out := by
  unfold State.offer; split
  · rfl
  · rw [State.addSat_out]
@[simp] theorem State.offer_pending (s : State) (p : Page) (c x y : Nat) : (s.offer p c x y).pending = s.pending := by
  unfold State.offer; split
  · rfl
  · rw [State.addSat_pending]

/-! ### Recording a fault (R427 to R432) -/

@[simp] theorem State.fault_now (s : State) (p : Page) (c : FaultClass) (x y : Nat) : (s.fault p c x y).now = s.now := by
  cases c
  · rw [State.fault, State.offer_now, State.addSat_now, State.put_now]
  · rw [State.fault, State.unusual_now, State.offer_now, State.addSat_now, State.put_now]
  · rw [State.fault, State.unusual_now, State.offer_now]
@[simp] theorem State.fault_resetCycle (s : State) (p : Page) (c : FaultClass) (x y : Nat) : (s.fault p c x y).resetCycle = s.resetCycle := by
  cases c
  · rw [State.fault, State.offer_resetCycle, State.addSat_resetCycle, State.put_resetCycle]
  · rw [State.fault, State.unusual_resetCycle, State.offer_resetCycle, State.addSat_resetCycle, State.put_resetCycle]
  · rw [State.fault, State.unusual_resetCycle, State.offer_resetCycle]
@[simp] theorem State.fault_lv (s : State) (p : Page) (c : FaultClass) (x y : Nat) : (s.fault p c x y).lv = s.lv := by
  cases c
  · rw [State.fault, State.offer_lv, State.addSat_lv, State.put_lv]
  · rw [State.fault, State.unusual_lv, State.offer_lv, State.addSat_lv, State.put_lv]
  · rw [State.fault, State.unusual_lv, State.offer_lv]
@[simp] theorem State.fault_arms (s : State) (p : Page) (c : FaultClass) (x y : Nat) : (s.fault p c x y).arms = s.arms := by
  cases c
  · rw [State.fault, State.offer_arms, State.addSat_arms, State.put_arms]
  · rw [State.fault, State.unusual_arms, State.offer_arms, State.addSat_arms, State.put_arms]
  · rw [State.fault, State.unusual_arms, State.offer_arms]
@[simp] theorem State.fault_groups (s : State) (p : Page) (c : FaultClass) (x y : Nat) : (s.fault p c x y).groups = s.groups := by
  cases c
  · rw [State.fault, State.offer_groups, State.addSat_groups, State.put_groups]
  · rw [State.fault, State.unusual_groups, State.offer_groups, State.addSat_groups, State.put_groups]
  · rw [State.fault, State.unusual_groups, State.offer_groups]
@[simp] theorem State.fault_freed (s : State) (p : Page) (c : FaultClass) (x y : Nat) : (s.fault p c x y).freed = s.freed := by
  cases c
  · rw [State.fault, State.offer_freed, State.addSat_freed, State.put_freed]
  · rw [State.fault, State.unusual_freed, State.offer_freed, State.addSat_freed, State.put_freed]
  · rw [State.fault, State.unusual_freed, State.offer_freed]
@[simp] theorem State.fault_freedAt (s : State) (p : Page) (c : FaultClass) (x y : Nat) : (s.fault p c x y).freedAt = s.freedAt := by
  cases c
  · rw [State.fault, State.offer_freedAt, State.addSat_freedAt, State.put_freedAt]
  · rw [State.fault, State.unusual_freedAt, State.offer_freedAt, State.addSat_freedAt, State.put_freedAt]
  · rw [State.fault, State.unusual_freedAt, State.offer_freedAt]
@[simp] theorem State.fault_undo (s : State) (p : Page) (c : FaultClass) (x y : Nat) : (s.fault p c x y).undo = s.undo := by
  cases c
  · rw [State.fault, State.offer_undo, State.addSat_undo, State.put_undo]
  · rw [State.fault, State.unusual_undo, State.offer_undo, State.addSat_undo, State.put_undo]
  · rw [State.fault, State.unusual_undo, State.offer_undo]
@[simp] theorem State.fault_undoAt (s : State) (p : Page) (c : FaultClass) (x y : Nat) : (s.fault p c x y).undoAt = s.undoAt := by
  cases c
  · rw [State.fault, State.offer_undoAt, State.addSat_undoAt, State.put_undoAt]
  · rw [State.fault, State.unusual_undoAt, State.offer_undoAt, State.addSat_undoAt, State.put_undoAt]
  · rw [State.fault, State.unusual_undoAt, State.offer_undoAt]
@[simp] theorem State.fault_busy (s : State) (p : Page) (c : FaultClass) (x y : Nat) : (s.fault p c x y).busy = s.busy := by
  cases c
  · rw [State.fault, State.offer_busy, State.addSat_busy, State.put_busy]
  · rw [State.fault, State.unusual_busy, State.offer_busy, State.addSat_busy, State.put_busy]
  · rw [State.fault, State.unusual_busy, State.offer_busy]
@[simp] theorem State.fault_pools (s : State) (p : Page) (c : FaultClass) (x y : Nat) : (s.fault p c x y).pools = s.pools := by
  cases c
  · rw [State.fault, State.offer_pools, State.addSat_pools, State.put_pools]
  · rw [State.fault, State.unusual_pools, State.offer_pools, State.addSat_pools, State.put_pools]
  · rw [State.fault, State.unusual_pools, State.offer_pools]
@[simp] theorem State.fault_committed (s : State) (p : Page) (c : FaultClass) (x y : Nat) : (s.fault p c x y).committed = s.committed := by
  cases c
  · rw [State.fault, State.offer_committed, State.addSat_committed, State.put_committed]
  · rw [State.fault, State.unusual_committed, State.offer_committed, State.addSat_committed, State.put_committed]
  · rw [State.fault, State.unusual_committed, State.offer_committed]
@[simp] theorem State.fault_insvc (s : State) (p : Page) (c : FaultClass) (x y : Nat) : (s.fault p c x y).insvc = s.insvc := by
  cases c
  · rw [State.fault, State.offer_insvc, State.addSat_insvc, State.put_insvc]
  · rw [State.fault, State.unusual_insvc, State.offer_insvc, State.addSat_insvc, State.put_insvc]
  · rw [State.fault, State.unusual_insvc, State.offer_insvc]
@[simp] theorem State.fault_lanes (s : State) (p : Page) (c : FaultClass) (x y : Nat) : (s.fault p c x y).lanes = s.lanes := by
  cases c
  · rw [State.fault, State.offer_lanes, State.addSat_lanes, State.put_lanes]
  · rw [State.fault, State.unusual_lanes, State.offer_lanes, State.addSat_lanes, State.put_lanes]
  · rw [State.fault, State.unusual_lanes, State.offer_lanes]
@[simp] theorem State.fault_xbp (s : State) (p : Page) (c : FaultClass) (x y : Nat) : (s.fault p c x y).xbp = s.xbp := by
  cases c
  · rw [State.fault, State.offer_xbp, State.addSat_xbp, State.put_xbp]
  · rw [State.fault, State.unusual_xbp, State.offer_xbp, State.addSat_xbp, State.put_xbp]
  · rw [State.fault, State.unusual_xbp, State.offer_xbp]
@[simp] theorem State.fault_brace (s : State) (p : Page) (c : FaultClass) (x y : Nat) : (s.fault p c x y).brace = s.brace := by
  cases c
  · rw [State.fault, State.offer_brace, State.addSat_brace, State.put_brace]
  · rw [State.fault, State.unusual_brace, State.offer_brace, State.addSat_brace, State.put_brace]
  · rw [State.fault, State.unusual_brace, State.offer_brace]
@[simp] theorem State.fault_xwp (s : State) (p : Page) (c : FaultClass) (x y : Nat) : (s.fault p c x y).xwp = s.xwp := by
  cases c
  · rw [State.fault, State.offer_xwp, State.addSat_xwp, State.put_xwp]
  · rw [State.fault, State.unusual_xwp, State.offer_xwp, State.addSat_xwp, State.put_xwp]
  · rw [State.fault, State.unusual_xwp, State.offer_xwp]
@[simp] theorem State.fault_eth (s : State) (p : Page) (c : FaultClass) (x y : Nat) : (s.fault p c x y).eth = s.eth := by
  cases c
  · rw [State.fault, State.offer_eth, State.addSat_eth, State.put_eth]
  · rw [State.fault, State.unusual_eth, State.offer_eth, State.addSat_eth, State.put_eth]
  · rw [State.fault, State.unusual_eth, State.offer_eth]
@[simp] theorem State.fault_saGen (s : State) (p : Page) (c : FaultClass) (x y : Nat) : (s.fault p c x y).saGen = s.saGen := by
  cases c
  · rw [State.fault, State.offer_saGen, State.addSat_saGen, State.put_saGen]
  · rw [State.fault, State.unusual_saGen, State.offer_saGen, State.addSat_saGen, State.put_saGen]
  · rw [State.fault, State.unusual_saGen, State.offer_saGen]
@[simp] theorem State.fault_rxPn (s : State) (p : Page) (c : FaultClass) (x y : Nat) : (s.fault p c x y).rxPn = s.rxPn := by
  cases c
  · rw [State.fault, State.offer_rxPn, State.addSat_rxPn, State.put_rxPn]
  · rw [State.fault, State.unusual_rxPn, State.offer_rxPn, State.addSat_rxPn, State.put_rxPn]
  · rw [State.fault, State.unusual_rxPn, State.offer_rxPn]
@[simp] theorem State.fault_saWritten (s : State) (p : Page) (c : FaultClass) (x y : Nat) : (s.fault p c x y).saWritten = s.saWritten := by
  cases c
  · rw [State.fault, State.offer_saWritten, State.addSat_saWritten, State.put_saWritten]
  · rw [State.fault, State.unusual_saWritten, State.offer_saWritten, State.addSat_saWritten, State.put_saWritten]
  · rw [State.fault, State.unusual_saWritten, State.offer_saWritten]
@[simp] theorem State.fault_rxs (s : State) (p : Page) (c : FaultClass) (x y : Nat) : (s.fault p c x y).rxs = s.rxs := by
  cases c
  · rw [State.fault, State.offer_rxs, State.addSat_rxs, State.put_rxs]
  · rw [State.fault, State.unusual_rxs, State.offer_rxs, State.addSat_rxs, State.put_rxs]
  · rw [State.fault, State.unusual_rxs, State.offer_rxs]
@[simp] theorem State.fault_txs (s : State) (p : Page) (c : FaultClass) (x y : Nat) : (s.fault p c x y).txs = s.txs := by
  cases c
  · rw [State.fault, State.offer_txs, State.addSat_txs, State.put_txs]
  · rw [State.fault, State.unusual_txs, State.offer_txs, State.addSat_txs, State.put_txs]
  · rw [State.fault, State.unusual_txs, State.offer_txs]
@[simp] theorem State.fault_clk (s : State) (p : Page) (c : FaultClass) (x y : Nat) : (s.fault p c x y).clk = s.clk := by
  cases c
  · rw [State.fault, State.offer_clk, State.addSat_clk, State.put_clk]
  · rw [State.fault, State.unusual_clk, State.offer_clk, State.addSat_clk, State.put_clk]
  · rw [State.fault, State.unusual_clk, State.offer_clk]
@[simp] theorem State.fault_cands (s : State) (p : Page) (c : FaultClass) (x y : Nat) : (s.fault p c x y).cands = s.cands := by
  cases c
  · rw [State.fault, State.offer_cands, State.addSat_cands, State.put_cands]
  · rw [State.fault, State.unusual_cands, State.offer_cands, State.addSat_cands, State.put_cands]
  · rw [State.fault, State.unusual_cands, State.offer_cands]
@[simp] theorem State.fault_dplls (s : State) (p : Page) (c : FaultClass) (x y : Nat) : (s.fault p c x y).dplls = s.dplls := by
  cases c
  · rw [State.fault, State.offer_dplls, State.addSat_dplls, State.put_dplls]
  · rw [State.fault, State.unusual_dplls, State.offer_dplls, State.addSat_dplls, State.put_dplls]
  · rw [State.fault, State.unusual_dplls, State.offer_dplls]
@[simp] theorem State.fault_vtgs (s : State) (p : Page) (c : FaultClass) (x y : Nat) : (s.fault p c x y).vtgs = s.vtgs := by
  cases c
  · rw [State.fault, State.offer_vtgs, State.addSat_vtgs, State.put_vtgs]
  · rw [State.fault, State.unusual_vtgs, State.offer_vtgs, State.addSat_vtgs, State.put_vtgs]
  · rw [State.fault, State.unusual_vtgs, State.offer_vtgs]
@[simp] theorem State.fault_refo (s : State) (p : Page) (c : FaultClass) (x y : Nat) : (s.fault p c x y).refo = s.refo := by
  cases c
  · rw [State.fault, State.offer_refo, State.addSat_refo, State.put_refo]
  · rw [State.fault, State.unusual_refo, State.offer_refo, State.addSat_refo, State.put_refo]
  · rw [State.fault, State.unusual_refo, State.offer_refo]
@[simp] theorem State.fault_refoAt (s : State) (p : Page) (c : FaultClass) (x y : Nat) : (s.fault p c x y).refoAt = s.refoAt := by
  cases c
  · rw [State.fault, State.offer_refoAt, State.addSat_refoAt, State.put_refoAt]
  · rw [State.fault, State.unusual_refoAt, State.offer_refoAt, State.addSat_refoAt, State.put_refoAt]
  · rw [State.fault, State.unusual_refoAt, State.offer_refoAt]
@[simp] theorem State.fault_aud (s : State) (p : Page) (c : FaultClass) (x y : Nat) : (s.fault p c x y).aud = s.aud := by
  cases c
  · rw [State.fault, State.offer_aud, State.addSat_aud, State.put_aud]
  · rw [State.fault, State.unusual_aud, State.offer_aud, State.addSat_aud, State.put_aud]
  · rw [State.fault, State.unusual_aud, State.offer_aud]
@[simp] theorem State.fault_audRx (s : State) (p : Page) (c : FaultClass) (x y : Nat) : (s.fault p c x y).audRx = s.audRx := by
  cases c
  · rw [State.fault, State.offer_audRx, State.addSat_audRx, State.put_audRx]
  · rw [State.fault, State.unusual_audRx, State.offer_audRx, State.addSat_audRx, State.put_audRx]
  · rw [State.fault, State.unusual_audRx, State.offer_audRx]
@[simp] theorem State.fault_audTx (s : State) (p : Page) (c : FaultClass) (x y : Nat) : (s.fault p c x y).audTx = s.audTx := by
  cases c
  · rw [State.fault, State.offer_audTx, State.addSat_audTx, State.put_audTx]
  · rw [State.fault, State.unusual_audTx, State.offer_audTx, State.addSat_audTx, State.put_audTx]
  · rw [State.fault, State.unusual_audTx, State.offer_audTx]
@[simp] theorem State.fault_tdm (s : State) (p : Page) (c : FaultClass) (x y : Nat) : (s.fault p c x y).tdm = s.tdm := by
  cases c
  · rw [State.fault, State.offer_tdm, State.addSat_tdm, State.put_tdm]
  · rw [State.fault, State.unusual_tdm, State.offer_tdm, State.addSat_tdm, State.put_tdm]
  · rw [State.fault, State.unusual_tdm, State.offer_tdm]
@[simp] theorem State.fault_gddr (s : State) (p : Page) (c : FaultClass) (x y : Nat) : (s.fault p c x y).gddr = s.gddr := by
  cases c
  · rw [State.fault, State.offer_gddr, State.addSat_gddr, State.put_gddr]
  · rw [State.fault, State.unusual_gddr, State.offer_gddr, State.addSat_gddr, State.put_gddr]
  · rw [State.fault, State.unusual_gddr, State.offer_gddr]
@[simp] theorem State.fault_engs (s : State) (p : Page) (c : FaultClass) (x y : Nat) : (s.fault p c x y).engs = s.engs := by
  cases c
  · rw [State.fault, State.offer_engs, State.addSat_engs, State.put_engs]
  · rw [State.fault, State.unusual_engs, State.offer_engs, State.addSat_engs, State.put_engs]
  · rw [State.fault, State.unusual_engs, State.offer_engs]
@[simp] theorem State.fault_ringLost (s : State) (p : Page) (c : FaultClass) (x y : Nat) : (s.fault p c x y).ringLost = s.ringLost := by
  cases c
  · rw [State.fault, State.offer_ringLost, State.addSat_ringLost, State.put_ringLost]
  · rw [State.fault, State.unusual_ringLost, State.offer_ringLost, State.addSat_ringLost, State.put_ringLost]
  · rw [State.fault, State.unusual_ringLost, State.offer_ringLost]
@[simp] theorem State.fault_retrainAt (s : State) (p : Page) (c : FaultClass) (x y : Nat) : (s.fault p c x y).retrainAt = s.retrainAt := by
  cases c
  · rw [State.fault, State.offer_retrainAt, State.addSat_retrainAt, State.put_retrainAt]
  · rw [State.fault, State.unusual_retrainAt, State.offer_retrainAt, State.addSat_retrainAt, State.put_retrainAt]
  · rw [State.fault, State.unusual_retrainAt, State.offer_retrainAt]
@[simp] theorem State.fault_bus (s : State) (p : Page) (c : FaultClass) (x y : Nat) : (s.fault p c x y).bus = s.bus := by
  cases c
  · rw [State.fault, State.offer_bus, State.addSat_bus, State.put_bus]
  · rw [State.fault, State.unusual_bus, State.offer_bus, State.addSat_bus, State.put_bus]
  · rw [State.fault, State.unusual_bus, State.offer_bus]
@[simp] theorem State.fault_spi (s : State) (p : Page) (c : FaultClass) (x y : Nat) : (s.fault p c x y).spi = s.spi := by
  cases c
  · rw [State.fault, State.offer_spi, State.addSat_spi, State.put_spi]
  · rw [State.fault, State.unusual_spi, State.offer_spi, State.addSat_spi, State.put_spi]
  · rw [State.fault, State.unusual_spi, State.offer_spi]
@[simp] theorem State.fault_mbx (s : State) (p : Page) (c : FaultClass) (x y : Nat) : (s.fault p c x y).mbx = s.mbx := by
  cases c
  · rw [State.fault, State.offer_mbx, State.addSat_mbx, State.put_mbx]
  · rw [State.fault, State.unusual_mbx, State.offer_mbx, State.addSat_mbx, State.put_mbx]
  · rw [State.fault, State.unusual_mbx, State.offer_mbx]
@[simp] theorem State.fault_mbxAt (s : State) (p : Page) (c : FaultClass) (x y : Nat) : (s.fault p c x y).mbxAt = s.mbxAt := by
  cases c
  · rw [State.fault, State.offer_mbxAt, State.addSat_mbxAt, State.put_mbxAt]
  · rw [State.fault, State.unusual_mbxAt, State.offer_mbxAt, State.addSat_mbxAt, State.put_mbxAt]
  · rw [State.fault, State.unusual_mbxAt, State.offer_mbxAt]
@[simp] theorem State.fault_pcieReady (s : State) (p : Page) (c : FaultClass) (x y : Nat) : (s.fault p c x y).pcieReady = s.pcieReady := by
  cases c
  · rw [State.fault, State.offer_pcieReady, State.addSat_pcieReady, State.put_pcieReady]
  · rw [State.fault, State.unusual_pcieReady, State.offer_pcieReady, State.addSat_pcieReady, State.put_pcieReady]
  · rw [State.fault, State.unusual_pcieReady, State.offer_pcieReady]
@[simp] theorem State.fault_msixMask (s : State) (p : Page) (c : FaultClass) (x y : Nat) : (s.fault p c x y).msixMask = s.msixMask := by
  cases c
  · rw [State.fault, State.offer_msixMask, State.addSat_msixMask, State.put_msixMask]
  · rw [State.fault, State.unusual_msixMask, State.offer_msixMask, State.addSat_msixMask, State.put_msixMask]
  · rw [State.fault, State.unusual_msixMask, State.offer_msixMask]
@[simp] theorem State.fault_otp (s : State) (p : Page) (c : FaultClass) (x y : Nat) : (s.fault p c x y).otp = s.otp := by
  cases c
  · rw [State.fault, State.offer_otp, State.addSat_otp, State.put_otp]
  · rw [State.fault, State.unusual_otp, State.offer_otp, State.addSat_otp, State.put_otp]
  · rw [State.fault, State.unusual_otp, State.offer_otp]
@[simp] theorem State.fault_vbat (s : State) (p : Page) (c : FaultClass) (x y : Nat) : (s.fault p c x y).vbat = s.vbat := by
  cases c
  · rw [State.fault, State.offer_vbat, State.addSat_vbat, State.put_vbat]
  · rw [State.fault, State.unusual_vbat, State.offer_vbat, State.addSat_vbat, State.put_vbat]
  · rw [State.fault, State.unusual_vbat, State.offer_vbat]
@[simp] theorem State.fault_keys (s : State) (p : Page) (c : FaultClass) (x y : Nat) : (s.fault p c x y).keys = s.keys := by
  cases c
  · rw [State.fault, State.offer_keys, State.addSat_keys, State.put_keys]
  · rw [State.fault, State.unusual_keys, State.offer_keys, State.addSat_keys, State.put_keys]
  · rw [State.fault, State.unusual_keys, State.offer_keys]
@[simp] theorem State.fault_identity (s : State) (p : Page) (c : FaultClass) (x y : Nat) : (s.fault p c x y).identity = s.identity := by
  cases c
  · rw [State.fault, State.offer_identity, State.addSat_identity, State.put_identity]
  · rw [State.fault, State.unusual_identity, State.offer_identity, State.addSat_identity, State.put_identity]
  · rw [State.fault, State.unusual_identity, State.offer_identity]
@[simp] theorem State.fault_powered (s : State) (p : Page) (c : FaultClass) (x y : Nat) : (s.fault p c x y).powered = s.powered := by
  cases c
  · rw [State.fault, State.offer_powered, State.addSat_powered, State.put_powered]
  · rw [State.fault, State.unusual_powered, State.offer_powered, State.addSat_powered, State.put_powered]
  · rw [State.fault, State.unusual_powered, State.offer_powered]
@[simp] theorem State.fault_flash (s : State) (p : Page) (c : FaultClass) (x y : Nat) : (s.fault p c x y).flash = s.flash := by
  cases c
  · rw [State.fault, State.offer_flash, State.addSat_flash, State.put_flash]
  · rw [State.fault, State.unusual_flash, State.offer_flash, State.addSat_flash, State.put_flash]
  · rw [State.fault, State.unusual_flash, State.offer_flash]
@[simp] theorem State.fault_boot (s : State) (p : Page) (c : FaultClass) (x y : Nat) : (s.fault p c x y).boot = s.boot := by
  cases c
  · rw [State.fault, State.offer_boot, State.addSat_boot, State.put_boot]
  · rw [State.fault, State.unusual_boot, State.offer_boot, State.addSat_boot, State.put_boot]
  · rw [State.fault, State.unusual_boot, State.offer_boot]
@[simp] theorem State.fault_upd (s : State) (p : Page) (c : FaultClass) (x y : Nat) : (s.fault p c x y).upd = s.upd := by
  cases c
  · rw [State.fault, State.offer_upd, State.addSat_upd, State.put_upd]
  · rw [State.fault, State.unusual_upd, State.offer_upd, State.addSat_upd, State.put_upd]
  · rw [State.fault, State.unusual_upd, State.offer_upd]
@[simp] theorem State.fault_bbxRun (s : State) (p : Page) (c : FaultClass) (x y : Nat) : (s.fault p c x y).bbxRun = s.bbxRun := by
  cases c
  · rw [State.fault, State.offer_bbxRun, State.addSat_bbxRun, State.put_bbxRun]
  · rw [State.fault, State.unusual_bbxRun, State.offer_bbxRun, State.addSat_bbxRun, State.put_bbxRun]
  · rw [State.fault, State.unusual_bbxRun, State.offer_bbxRun]
@[simp] theorem State.fault_free (s : State) (p : Page) (c : FaultClass) (x y : Nat) : (s.fault p c x y).free = s.free := by
  cases c
  · rw [State.fault, State.offer_free, State.addSat_free, State.put_free]
  · rw [State.fault, State.unusual_free, State.offer_free, State.addSat_free, State.put_free]
  · rw [State.fault, State.unusual_free, State.offer_free]
@[simp] theorem State.fault_out (s : State) (p : Page) (c : FaultClass) (x y : Nat) : (s.fault p c x y).out = s.out := by
  cases c
  · rw [State.fault, State.offer_out, State.addSat_out, State.put_out]
  · rw [State.fault, State.unusual_out, State.offer_out, State.addSat_out, State.put_out]
  · rw [State.fault, State.unusual_out, State.offer_out]
@[simp] theorem State.fault_pending (s : State) (p : Page) (c : FaultClass) (x y : Nat) : (s.fault p c x y).pending = s.pending := by
  cases c
  · rw [State.fault, State.offer_pending, State.addSat_pending, State.put_pending]
  · rw [State.fault, State.unusual_pending, State.offer_pending, State.addSat_pending, State.put_pending]
  · rw [State.fault, State.unusual_pending, State.offer_pending]

/-! ### Refusing an access (R376 to R378) -/

@[simp] theorem State.refuse_now (s : State) (m : Master) (w : Bool) (a r x y : Nat) : (s.refuse m w a r x y).now = s.now := by
  unfold State.refuse; rw [State.emit_now]
  split <;> (try rw [State.addSat_now]) <;> split <;> (try rw [State.puts_now]) <;> rw [State.raise_now, State.addSat_now]
@[simp] theorem State.refuse_resetCycle (s : State) (m : Master) (w : Bool) (a r x y : Nat) : (s.refuse m w a r x y).resetCycle = s.resetCycle := by
  unfold State.refuse; rw [State.emit_resetCycle]
  split <;> (try rw [State.addSat_resetCycle]) <;> split <;> (try rw [State.puts_resetCycle]) <;> rw [State.raise_resetCycle, State.addSat_resetCycle]
@[simp] theorem State.refuse_lv (s : State) (m : Master) (w : Bool) (a r x y : Nat) : (s.refuse m w a r x y).lv = s.lv := by
  unfold State.refuse; rw [State.emit_lv]
  split <;> (try rw [State.addSat_lv]) <;> split <;> (try rw [State.puts_lv]) <;> rw [State.raise_lv, State.addSat_lv]
@[simp] theorem State.refuse_arms (s : State) (m : Master) (w : Bool) (a r x y : Nat) : (s.refuse m w a r x y).arms = s.arms := by
  unfold State.refuse; rw [State.emit_arms]
  split <;> (try rw [State.addSat_arms]) <;> split <;> (try rw [State.puts_arms]) <;> rw [State.raise_arms, State.addSat_arms]
@[simp] theorem State.refuse_groups (s : State) (m : Master) (w : Bool) (a r x y : Nat) : (s.refuse m w a r x y).groups = s.groups := by
  unfold State.refuse; rw [State.emit_groups]
  split <;> (try rw [State.addSat_groups]) <;> split <;> (try rw [State.puts_groups]) <;> rw [State.raise_groups, State.addSat_groups]
@[simp] theorem State.refuse_freed (s : State) (m : Master) (w : Bool) (a r x y : Nat) : (s.refuse m w a r x y).freed = s.freed := by
  unfold State.refuse; rw [State.emit_freed]
  split <;> (try rw [State.addSat_freed]) <;> split <;> (try rw [State.puts_freed]) <;> rw [State.raise_freed, State.addSat_freed]
@[simp] theorem State.refuse_freedAt (s : State) (m : Master) (w : Bool) (a r x y : Nat) : (s.refuse m w a r x y).freedAt = s.freedAt := by
  unfold State.refuse; rw [State.emit_freedAt]
  split <;> (try rw [State.addSat_freedAt]) <;> split <;> (try rw [State.puts_freedAt]) <;> rw [State.raise_freedAt, State.addSat_freedAt]
@[simp] theorem State.refuse_undo (s : State) (m : Master) (w : Bool) (a r x y : Nat) : (s.refuse m w a r x y).undo = s.undo := by
  unfold State.refuse; rw [State.emit_undo]
  split <;> (try rw [State.addSat_undo]) <;> split <;> (try rw [State.puts_undo]) <;> rw [State.raise_undo, State.addSat_undo]
@[simp] theorem State.refuse_undoAt (s : State) (m : Master) (w : Bool) (a r x y : Nat) : (s.refuse m w a r x y).undoAt = s.undoAt := by
  unfold State.refuse; rw [State.emit_undoAt]
  split <;> (try rw [State.addSat_undoAt]) <;> split <;> (try rw [State.puts_undoAt]) <;> rw [State.raise_undoAt, State.addSat_undoAt]
@[simp] theorem State.refuse_busy (s : State) (m : Master) (w : Bool) (a r x y : Nat) : (s.refuse m w a r x y).busy = s.busy := by
  unfold State.refuse; rw [State.emit_busy]
  split <;> (try rw [State.addSat_busy]) <;> split <;> (try rw [State.puts_busy]) <;> rw [State.raise_busy, State.addSat_busy]
@[simp] theorem State.refuse_pools (s : State) (m : Master) (w : Bool) (a r x y : Nat) : (s.refuse m w a r x y).pools = s.pools := by
  unfold State.refuse; rw [State.emit_pools]
  split <;> (try rw [State.addSat_pools]) <;> split <;> (try rw [State.puts_pools]) <;> rw [State.raise_pools, State.addSat_pools]
@[simp] theorem State.refuse_fatal (s : State) (m : Master) (w : Bool) (a r x y : Nat) : (s.refuse m w a r x y).fatal = s.fatal := by
  unfold State.refuse; rw [State.emit_fatal]
  split <;> (try rw [State.addSat_fatal]) <;> split <;> (try rw [State.puts_fatal]) <;> rw [State.raise_fatal, State.addSat_fatal]
@[simp] theorem State.refuse_fatalSrc (s : State) (m : Master) (w : Bool) (a r x y : Nat) : (s.refuse m w a r x y).fatalSrc = s.fatalSrc := by
  unfold State.refuse; rw [State.emit_fatalSrc]
  split <;> (try rw [State.addSat_fatalSrc]) <;> split <;> (try rw [State.puts_fatalSrc]) <;> rw [State.raise_fatalSrc, State.addSat_fatalSrc]
@[simp] theorem State.refuse_normal (s : State) (m : Master) (w : Bool) (a r x y : Nat) : (s.refuse m w a r x y).normal = s.normal := by
  unfold State.refuse; rw [State.emit_normal]
  split <;> (try rw [State.addSat_normal]) <;> split <;> (try rw [State.puts_normal]) <;> rw [State.raise_normal, State.addSat_normal]
@[simp] theorem State.refuse_committed (s : State) (m : Master) (w : Bool) (a r x y : Nat) : (s.refuse m w a r x y).committed = s.committed := by
  unfold State.refuse; rw [State.emit_committed]
  split <;> (try rw [State.addSat_committed]) <;> split <;> (try rw [State.puts_committed]) <;> rw [State.raise_committed, State.addSat_committed]
@[simp] theorem State.refuse_evr (s : State) (m : Master) (w : Bool) (a r x y : Nat) : (s.refuse m w a r x y).evr = s.evr := by
  unfold State.refuse; rw [State.emit_evr]
  split <;> (try rw [State.addSat_evr]) <;> split <;> (try rw [State.puts_evr]) <;> rw [State.raise_evr, State.addSat_evr]
@[simp] theorem State.refuse_bbx (s : State) (m : Master) (w : Bool) (a r x y : Nat) : (s.refuse m w a r x y).bbx = s.bbx := by
  unfold State.refuse; rw [State.emit_bbx]
  split <;> (try rw [State.addSat_bbx]) <;> split <;> (try rw [State.puts_bbx]) <;> rw [State.raise_bbx, State.addSat_bbx]
@[simp] theorem State.refuse_insvc (s : State) (m : Master) (w : Bool) (a r x y : Nat) : (s.refuse m w a r x y).insvc = s.insvc := by
  unfold State.refuse; rw [State.emit_insvc]
  split <;> (try rw [State.addSat_insvc]) <;> split <;> (try rw [State.puts_insvc]) <;> rw [State.raise_insvc, State.addSat_insvc]
@[simp] theorem State.refuse_lanes (s : State) (m : Master) (w : Bool) (a r x y : Nat) : (s.refuse m w a r x y).lanes = s.lanes := by
  unfold State.refuse; rw [State.emit_lanes]
  split <;> (try rw [State.addSat_lanes]) <;> split <;> (try rw [State.puts_lanes]) <;> rw [State.raise_lanes, State.addSat_lanes]
@[simp] theorem State.refuse_xbp (s : State) (m : Master) (w : Bool) (a r x y : Nat) : (s.refuse m w a r x y).xbp = s.xbp := by
  unfold State.refuse; rw [State.emit_xbp]
  split <;> (try rw [State.addSat_xbp]) <;> split <;> (try rw [State.puts_xbp]) <;> rw [State.raise_xbp, State.addSat_xbp]
@[simp] theorem State.refuse_brace (s : State) (m : Master) (w : Bool) (a r x y : Nat) : (s.refuse m w a r x y).brace = s.brace := by
  unfold State.refuse; rw [State.emit_brace]
  split <;> (try rw [State.addSat_brace]) <;> split <;> (try rw [State.puts_brace]) <;> rw [State.raise_brace, State.addSat_brace]
@[simp] theorem State.refuse_xwp (s : State) (m : Master) (w : Bool) (a r x y : Nat) : (s.refuse m w a r x y).xwp = s.xwp := by
  unfold State.refuse; rw [State.emit_xwp]
  split <;> (try rw [State.addSat_xwp]) <;> split <;> (try rw [State.puts_xwp]) <;> rw [State.raise_xwp, State.addSat_xwp]
@[simp] theorem State.refuse_eth (s : State) (m : Master) (w : Bool) (a r x y : Nat) : (s.refuse m w a r x y).eth = s.eth := by
  unfold State.refuse; rw [State.emit_eth]
  split <;> (try rw [State.addSat_eth]) <;> split <;> (try rw [State.puts_eth]) <;> rw [State.raise_eth, State.addSat_eth]
@[simp] theorem State.refuse_saGen (s : State) (m : Master) (w : Bool) (a r x y : Nat) : (s.refuse m w a r x y).saGen = s.saGen := by
  unfold State.refuse; rw [State.emit_saGen]
  split <;> (try rw [State.addSat_saGen]) <;> split <;> (try rw [State.puts_saGen]) <;> rw [State.raise_saGen, State.addSat_saGen]
@[simp] theorem State.refuse_rxPn (s : State) (m : Master) (w : Bool) (a r x y : Nat) : (s.refuse m w a r x y).rxPn = s.rxPn := by
  unfold State.refuse; rw [State.emit_rxPn]
  split <;> (try rw [State.addSat_rxPn]) <;> split <;> (try rw [State.puts_rxPn]) <;> rw [State.raise_rxPn, State.addSat_rxPn]
@[simp] theorem State.refuse_saWritten (s : State) (m : Master) (w : Bool) (a r x y : Nat) : (s.refuse m w a r x y).saWritten = s.saWritten := by
  unfold State.refuse; rw [State.emit_saWritten]
  split <;> (try rw [State.addSat_saWritten]) <;> split <;> (try rw [State.puts_saWritten]) <;> rw [State.raise_saWritten, State.addSat_saWritten]
@[simp] theorem State.refuse_rxs (s : State) (m : Master) (w : Bool) (a r x y : Nat) : (s.refuse m w a r x y).rxs = s.rxs := by
  unfold State.refuse; rw [State.emit_rxs]
  split <;> (try rw [State.addSat_rxs]) <;> split <;> (try rw [State.puts_rxs]) <;> rw [State.raise_rxs, State.addSat_rxs]
@[simp] theorem State.refuse_txs (s : State) (m : Master) (w : Bool) (a r x y : Nat) : (s.refuse m w a r x y).txs = s.txs := by
  unfold State.refuse; rw [State.emit_txs]
  split <;> (try rw [State.addSat_txs]) <;> split <;> (try rw [State.puts_txs]) <;> rw [State.raise_txs, State.addSat_txs]
@[simp] theorem State.refuse_clk (s : State) (m : Master) (w : Bool) (a r x y : Nat) : (s.refuse m w a r x y).clk = s.clk := by
  unfold State.refuse; rw [State.emit_clk]
  split <;> (try rw [State.addSat_clk]) <;> split <;> (try rw [State.puts_clk]) <;> rw [State.raise_clk, State.addSat_clk]
@[simp] theorem State.refuse_cands (s : State) (m : Master) (w : Bool) (a r x y : Nat) : (s.refuse m w a r x y).cands = s.cands := by
  unfold State.refuse; rw [State.emit_cands]
  split <;> (try rw [State.addSat_cands]) <;> split <;> (try rw [State.puts_cands]) <;> rw [State.raise_cands, State.addSat_cands]
@[simp] theorem State.refuse_dplls (s : State) (m : Master) (w : Bool) (a r x y : Nat) : (s.refuse m w a r x y).dplls = s.dplls := by
  unfold State.refuse; rw [State.emit_dplls]
  split <;> (try rw [State.addSat_dplls]) <;> split <;> (try rw [State.puts_dplls]) <;> rw [State.raise_dplls, State.addSat_dplls]
@[simp] theorem State.refuse_vtgs (s : State) (m : Master) (w : Bool) (a r x y : Nat) : (s.refuse m w a r x y).vtgs = s.vtgs := by
  unfold State.refuse; rw [State.emit_vtgs]
  split <;> (try rw [State.addSat_vtgs]) <;> split <;> (try rw [State.puts_vtgs]) <;> rw [State.raise_vtgs, State.addSat_vtgs]
@[simp] theorem State.refuse_refo (s : State) (m : Master) (w : Bool) (a r x y : Nat) : (s.refuse m w a r x y).refo = s.refo := by
  unfold State.refuse; rw [State.emit_refo]
  split <;> (try rw [State.addSat_refo]) <;> split <;> (try rw [State.puts_refo]) <;> rw [State.raise_refo, State.addSat_refo]
@[simp] theorem State.refuse_refoAt (s : State) (m : Master) (w : Bool) (a r x y : Nat) : (s.refuse m w a r x y).refoAt = s.refoAt := by
  unfold State.refuse; rw [State.emit_refoAt]
  split <;> (try rw [State.addSat_refoAt]) <;> split <;> (try rw [State.puts_refoAt]) <;> rw [State.raise_refoAt, State.addSat_refoAt]
@[simp] theorem State.refuse_aud (s : State) (m : Master) (w : Bool) (a r x y : Nat) : (s.refuse m w a r x y).aud = s.aud := by
  unfold State.refuse; rw [State.emit_aud]
  split <;> (try rw [State.addSat_aud]) <;> split <;> (try rw [State.puts_aud]) <;> rw [State.raise_aud, State.addSat_aud]
@[simp] theorem State.refuse_audRx (s : State) (m : Master) (w : Bool) (a r x y : Nat) : (s.refuse m w a r x y).audRx = s.audRx := by
  unfold State.refuse; rw [State.emit_audRx]
  split <;> (try rw [State.addSat_audRx]) <;> split <;> (try rw [State.puts_audRx]) <;> rw [State.raise_audRx, State.addSat_audRx]
@[simp] theorem State.refuse_audTx (s : State) (m : Master) (w : Bool) (a r x y : Nat) : (s.refuse m w a r x y).audTx = s.audTx := by
  unfold State.refuse; rw [State.emit_audTx]
  split <;> (try rw [State.addSat_audTx]) <;> split <;> (try rw [State.puts_audTx]) <;> rw [State.raise_audTx, State.addSat_audTx]
@[simp] theorem State.refuse_tdm (s : State) (m : Master) (w : Bool) (a r x y : Nat) : (s.refuse m w a r x y).tdm = s.tdm := by
  unfold State.refuse; rw [State.emit_tdm]
  split <;> (try rw [State.addSat_tdm]) <;> split <;> (try rw [State.puts_tdm]) <;> rw [State.raise_tdm, State.addSat_tdm]
@[simp] theorem State.refuse_gddr (s : State) (m : Master) (w : Bool) (a r x y : Nat) : (s.refuse m w a r x y).gddr = s.gddr := by
  unfold State.refuse; rw [State.emit_gddr]
  split <;> (try rw [State.addSat_gddr]) <;> split <;> (try rw [State.puts_gddr]) <;> rw [State.raise_gddr, State.addSat_gddr]
@[simp] theorem State.refuse_engs (s : State) (m : Master) (w : Bool) (a r x y : Nat) : (s.refuse m w a r x y).engs = s.engs := by
  unfold State.refuse; rw [State.emit_engs]
  split <;> (try rw [State.addSat_engs]) <;> split <;> (try rw [State.puts_engs]) <;> rw [State.raise_engs, State.addSat_engs]
@[simp] theorem State.refuse_ringLost (s : State) (m : Master) (w : Bool) (a r x y : Nat) : (s.refuse m w a r x y).ringLost = s.ringLost := by
  unfold State.refuse; rw [State.emit_ringLost]
  split <;> (try rw [State.addSat_ringLost]) <;> split <;> (try rw [State.puts_ringLost]) <;> rw [State.raise_ringLost, State.addSat_ringLost]
@[simp] theorem State.refuse_retrainAt (s : State) (m : Master) (w : Bool) (a r x y : Nat) : (s.refuse m w a r x y).retrainAt = s.retrainAt := by
  unfold State.refuse; rw [State.emit_retrainAt]
  split <;> (try rw [State.addSat_retrainAt]) <;> split <;> (try rw [State.puts_retrainAt]) <;> rw [State.raise_retrainAt, State.addSat_retrainAt]
@[simp] theorem State.refuse_bus (s : State) (m : Master) (w : Bool) (a r x y : Nat) : (s.refuse m w a r x y).bus = s.bus := by
  unfold State.refuse; rw [State.emit_bus]
  split <;> (try rw [State.addSat_bus]) <;> split <;> (try rw [State.puts_bus]) <;> rw [State.raise_bus, State.addSat_bus]
@[simp] theorem State.refuse_spi (s : State) (m : Master) (w : Bool) (a r x y : Nat) : (s.refuse m w a r x y).spi = s.spi := by
  unfold State.refuse; rw [State.emit_spi]
  split <;> (try rw [State.addSat_spi]) <;> split <;> (try rw [State.puts_spi]) <;> rw [State.raise_spi, State.addSat_spi]
@[simp] theorem State.refuse_mbx (s : State) (m : Master) (w : Bool) (a r x y : Nat) : (s.refuse m w a r x y).mbx = s.mbx := by
  unfold State.refuse; rw [State.emit_mbx]
  split <;> (try rw [State.addSat_mbx]) <;> split <;> (try rw [State.puts_mbx]) <;> rw [State.raise_mbx, State.addSat_mbx]
@[simp] theorem State.refuse_mbxAt (s : State) (m : Master) (w : Bool) (a r x y : Nat) : (s.refuse m w a r x y).mbxAt = s.mbxAt := by
  unfold State.refuse; rw [State.emit_mbxAt]
  split <;> (try rw [State.addSat_mbxAt]) <;> split <;> (try rw [State.puts_mbxAt]) <;> rw [State.raise_mbxAt, State.addSat_mbxAt]
@[simp] theorem State.refuse_pcieReady (s : State) (m : Master) (w : Bool) (a r x y : Nat) : (s.refuse m w a r x y).pcieReady = s.pcieReady := by
  unfold State.refuse; rw [State.emit_pcieReady]
  split <;> (try rw [State.addSat_pcieReady]) <;> split <;> (try rw [State.puts_pcieReady]) <;> rw [State.raise_pcieReady, State.addSat_pcieReady]
@[simp] theorem State.refuse_msixMask (s : State) (m : Master) (w : Bool) (a r x y : Nat) : (s.refuse m w a r x y).msixMask = s.msixMask := by
  unfold State.refuse; rw [State.emit_msixMask]
  split <;> (try rw [State.addSat_msixMask]) <;> split <;> (try rw [State.puts_msixMask]) <;> rw [State.raise_msixMask, State.addSat_msixMask]
@[simp] theorem State.refuse_otp (s : State) (m : Master) (w : Bool) (a r x y : Nat) : (s.refuse m w a r x y).otp = s.otp := by
  unfold State.refuse; rw [State.emit_otp]
  split <;> (try rw [State.addSat_otp]) <;> split <;> (try rw [State.puts_otp]) <;> rw [State.raise_otp, State.addSat_otp]
@[simp] theorem State.refuse_vbat (s : State) (m : Master) (w : Bool) (a r x y : Nat) : (s.refuse m w a r x y).vbat = s.vbat := by
  unfold State.refuse; rw [State.emit_vbat]
  split <;> (try rw [State.addSat_vbat]) <;> split <;> (try rw [State.puts_vbat]) <;> rw [State.raise_vbat, State.addSat_vbat]
@[simp] theorem State.refuse_keys (s : State) (m : Master) (w : Bool) (a r x y : Nat) : (s.refuse m w a r x y).keys = s.keys := by
  unfold State.refuse; rw [State.emit_keys]
  split <;> (try rw [State.addSat_keys]) <;> split <;> (try rw [State.puts_keys]) <;> rw [State.raise_keys, State.addSat_keys]
@[simp] theorem State.refuse_identity (s : State) (m : Master) (w : Bool) (a r x y : Nat) : (s.refuse m w a r x y).identity = s.identity := by
  unfold State.refuse; rw [State.emit_identity]
  split <;> (try rw [State.addSat_identity]) <;> split <;> (try rw [State.puts_identity]) <;> rw [State.raise_identity, State.addSat_identity]
@[simp] theorem State.refuse_powered (s : State) (m : Master) (w : Bool) (a r x y : Nat) : (s.refuse m w a r x y).powered = s.powered := by
  unfold State.refuse; rw [State.emit_powered]
  split <;> (try rw [State.addSat_powered]) <;> split <;> (try rw [State.puts_powered]) <;> rw [State.raise_powered, State.addSat_powered]
@[simp] theorem State.refuse_flash (s : State) (m : Master) (w : Bool) (a r x y : Nat) : (s.refuse m w a r x y).flash = s.flash := by
  unfold State.refuse; rw [State.emit_flash]
  split <;> (try rw [State.addSat_flash]) <;> split <;> (try rw [State.puts_flash]) <;> rw [State.raise_flash, State.addSat_flash]
@[simp] theorem State.refuse_boot (s : State) (m : Master) (w : Bool) (a r x y : Nat) : (s.refuse m w a r x y).boot = s.boot := by
  unfold State.refuse; rw [State.emit_boot]
  split <;> (try rw [State.addSat_boot]) <;> split <;> (try rw [State.puts_boot]) <;> rw [State.raise_boot, State.addSat_boot]
@[simp] theorem State.refuse_upd (s : State) (m : Master) (w : Bool) (a r x y : Nat) : (s.refuse m w a r x y).upd = s.upd := by
  unfold State.refuse; rw [State.emit_upd]
  split <;> (try rw [State.addSat_upd]) <;> split <;> (try rw [State.puts_upd]) <;> rw [State.raise_upd, State.addSat_upd]
@[simp] theorem State.refuse_bbxRun (s : State) (m : Master) (w : Bool) (a r x y : Nat) : (s.refuse m w a r x y).bbxRun = s.bbxRun := by
  unfold State.refuse; rw [State.emit_bbxRun]
  split <;> (try rw [State.addSat_bbxRun]) <;> split <;> (try rw [State.puts_bbxRun]) <;> rw [State.raise_bbxRun, State.addSat_bbxRun]
@[simp] theorem State.refuse_free (s : State) (m : Master) (w : Bool) (a r x y : Nat) : (s.refuse m w a r x y).free = s.free := by
  unfold State.refuse; rw [State.emit_free]
  split <;> (try rw [State.addSat_free]) <;> split <;> (try rw [State.puts_free]) <;> rw [State.raise_free, State.addSat_free]
@[simp] theorem State.refuse_pending (s : State) (m : Master) (w : Bool) (a r x y : Nat) : (s.refuse m w a r x y).pending = s.pending := by
  unfold State.refuse; rw [State.emit_pending]
  split <;> (try rw [State.addSat_pending]) <;> split <;> (try rw [State.puts_pending]) <;> rw [State.raise_pending, State.addSat_pending]

/-! ### The beginning of a command: the clocks advance and the outputs of the last command go -/

@[simp] theorem State.begin_resetCycle (s : State) (t : Nat) : (s.begin t).resetCycle = s.resetCycle := by
  obtain ⟨_, _, _, e⟩ := State.advance_timed ({ s with out := [] } : State) t
  rw [State.begin, e]
@[simp] theorem State.begin_lv (s : State) (t : Nat) : (s.begin t).lv = s.lv := by
  obtain ⟨_, _, _, e⟩ := State.advance_timed ({ s with out := [] } : State) t
  rw [State.begin, e]
@[simp] theorem State.begin_arms (s : State) (t : Nat) : (s.begin t).arms = s.arms := by
  obtain ⟨_, _, _, e⟩ := State.advance_timed ({ s with out := [] } : State) t
  rw [State.begin, e]
@[simp] theorem State.begin_groups (s : State) (t : Nat) : (s.begin t).groups = s.groups := by
  obtain ⟨_, _, _, e⟩ := State.advance_timed ({ s with out := [] } : State) t
  rw [State.begin, e]
@[simp] theorem State.begin_freed (s : State) (t : Nat) : (s.begin t).freed = s.freed := by
  obtain ⟨_, _, _, e⟩ := State.advance_timed ({ s with out := [] } : State) t
  rw [State.begin, e]
@[simp] theorem State.begin_freedAt (s : State) (t : Nat) : (s.begin t).freedAt = s.freedAt := by
  obtain ⟨_, _, _, e⟩ := State.advance_timed ({ s with out := [] } : State) t
  rw [State.begin, e]
@[simp] theorem State.begin_undo (s : State) (t : Nat) : (s.begin t).undo = s.undo := by
  obtain ⟨_, _, _, e⟩ := State.advance_timed ({ s with out := [] } : State) t
  rw [State.begin, e]
@[simp] theorem State.begin_undoAt (s : State) (t : Nat) : (s.begin t).undoAt = s.undoAt := by
  obtain ⟨_, _, _, e⟩ := State.advance_timed ({ s with out := [] } : State) t
  rw [State.begin, e]
@[simp] theorem State.begin_busy (s : State) (t : Nat) : (s.begin t).busy = s.busy := by
  obtain ⟨_, _, _, e⟩ := State.advance_timed ({ s with out := [] } : State) t
  rw [State.begin, e]
@[simp] theorem State.begin_pools (s : State) (t : Nat) : (s.begin t).pools = s.pools := by
  obtain ⟨_, _, _, e⟩ := State.advance_timed ({ s with out := [] } : State) t
  rw [State.begin, e]
@[simp] theorem State.begin_fatal (s : State) (t : Nat) : (s.begin t).fatal = s.fatal := by
  obtain ⟨_, _, _, e⟩ := State.advance_timed ({ s with out := [] } : State) t
  rw [State.begin, e]
@[simp] theorem State.begin_fatalSrc (s : State) (t : Nat) : (s.begin t).fatalSrc = s.fatalSrc := by
  obtain ⟨_, _, _, e⟩ := State.advance_timed ({ s with out := [] } : State) t
  rw [State.begin, e]
@[simp] theorem State.begin_normal (s : State) (t : Nat) : (s.begin t).normal = s.normal := by
  obtain ⟨_, _, _, e⟩ := State.advance_timed ({ s with out := [] } : State) t
  rw [State.begin, e]
@[simp] theorem State.begin_committed (s : State) (t : Nat) : (s.begin t).committed = s.committed := by
  obtain ⟨_, _, _, e⟩ := State.advance_timed ({ s with out := [] } : State) t
  rw [State.begin, e]
@[simp] theorem State.begin_evr (s : State) (t : Nat) : (s.begin t).evr = s.evr := by
  obtain ⟨_, _, _, e⟩ := State.advance_timed ({ s with out := [] } : State) t
  rw [State.begin, e]
@[simp] theorem State.begin_bbx (s : State) (t : Nat) : (s.begin t).bbx = s.bbx := by
  obtain ⟨_, _, _, e⟩ := State.advance_timed ({ s with out := [] } : State) t
  rw [State.begin, e]
@[simp] theorem State.begin_insvc (s : State) (t : Nat) : (s.begin t).insvc = s.insvc := by
  obtain ⟨_, _, _, e⟩ := State.advance_timed ({ s with out := [] } : State) t
  rw [State.begin, e]
@[simp] theorem State.begin_lanes (s : State) (t : Nat) : (s.begin t).lanes = s.lanes := by
  obtain ⟨_, _, _, e⟩ := State.advance_timed ({ s with out := [] } : State) t
  rw [State.begin, e]
@[simp] theorem State.begin_xbp (s : State) (t : Nat) : (s.begin t).xbp = s.xbp := by
  obtain ⟨_, _, _, e⟩ := State.advance_timed ({ s with out := [] } : State) t
  rw [State.begin, e]
@[simp] theorem State.begin_brace (s : State) (t : Nat) : (s.begin t).brace = s.brace := by
  obtain ⟨_, _, _, e⟩ := State.advance_timed ({ s with out := [] } : State) t
  rw [State.begin, e]
@[simp] theorem State.begin_xwp (s : State) (t : Nat) : (s.begin t).xwp = s.xwp := by
  obtain ⟨_, _, _, e⟩ := State.advance_timed ({ s with out := [] } : State) t
  rw [State.begin, e]
@[simp] theorem State.begin_eth (s : State) (t : Nat) : (s.begin t).eth = s.eth := by
  obtain ⟨_, _, _, e⟩ := State.advance_timed ({ s with out := [] } : State) t
  rw [State.begin, e]
@[simp] theorem State.begin_saGen (s : State) (t : Nat) : (s.begin t).saGen = s.saGen := by
  obtain ⟨_, _, _, e⟩ := State.advance_timed ({ s with out := [] } : State) t
  rw [State.begin, e]
@[simp] theorem State.begin_rxPn (s : State) (t : Nat) : (s.begin t).rxPn = s.rxPn := by
  obtain ⟨_, _, _, e⟩ := State.advance_timed ({ s with out := [] } : State) t
  rw [State.begin, e]
@[simp] theorem State.begin_saWritten (s : State) (t : Nat) : (s.begin t).saWritten = s.saWritten := by
  obtain ⟨_, _, _, e⟩ := State.advance_timed ({ s with out := [] } : State) t
  rw [State.begin, e]
@[simp] theorem State.begin_rxs (s : State) (t : Nat) : (s.begin t).rxs = s.rxs := by
  obtain ⟨_, _, _, e⟩ := State.advance_timed ({ s with out := [] } : State) t
  rw [State.begin, e]
@[simp] theorem State.begin_txs (s : State) (t : Nat) : (s.begin t).txs = s.txs := by
  obtain ⟨_, _, _, e⟩ := State.advance_timed ({ s with out := [] } : State) t
  rw [State.begin, e]
@[simp] theorem State.begin_cands (s : State) (t : Nat) : (s.begin t).cands = s.cands := by
  obtain ⟨_, _, _, e⟩ := State.advance_timed ({ s with out := [] } : State) t
  rw [State.begin, e]
@[simp] theorem State.begin_dplls (s : State) (t : Nat) : (s.begin t).dplls = s.dplls := by
  obtain ⟨_, _, _, e⟩ := State.advance_timed ({ s with out := [] } : State) t
  rw [State.begin, e]
@[simp] theorem State.begin_vtgs (s : State) (t : Nat) : (s.begin t).vtgs = s.vtgs := by
  obtain ⟨_, _, _, e⟩ := State.advance_timed ({ s with out := [] } : State) t
  rw [State.begin, e]
@[simp] theorem State.begin_refo (s : State) (t : Nat) : (s.begin t).refo = s.refo := by
  obtain ⟨_, _, _, e⟩ := State.advance_timed ({ s with out := [] } : State) t
  rw [State.begin, e]
@[simp] theorem State.begin_refoAt (s : State) (t : Nat) : (s.begin t).refoAt = s.refoAt := by
  obtain ⟨_, _, _, e⟩ := State.advance_timed ({ s with out := [] } : State) t
  rw [State.begin, e]
@[simp] theorem State.begin_aud (s : State) (t : Nat) : (s.begin t).aud = s.aud := by
  obtain ⟨_, _, _, e⟩ := State.advance_timed ({ s with out := [] } : State) t
  rw [State.begin, e]
@[simp] theorem State.begin_audRx (s : State) (t : Nat) : (s.begin t).audRx = s.audRx := by
  obtain ⟨_, _, _, e⟩ := State.advance_timed ({ s with out := [] } : State) t
  rw [State.begin, e]
@[simp] theorem State.begin_audTx (s : State) (t : Nat) : (s.begin t).audTx = s.audTx := by
  obtain ⟨_, _, _, e⟩ := State.advance_timed ({ s with out := [] } : State) t
  rw [State.begin, e]
@[simp] theorem State.begin_tdm (s : State) (t : Nat) : (s.begin t).tdm = s.tdm := by
  obtain ⟨_, _, _, e⟩ := State.advance_timed ({ s with out := [] } : State) t
  rw [State.begin, e]
@[simp] theorem State.begin_gddr (s : State) (t : Nat) : (s.begin t).gddr = s.gddr := by
  obtain ⟨_, _, _, e⟩ := State.advance_timed ({ s with out := [] } : State) t
  rw [State.begin, e]
@[simp] theorem State.begin_engs (s : State) (t : Nat) : (s.begin t).engs = s.engs := by
  obtain ⟨_, _, _, e⟩ := State.advance_timed ({ s with out := [] } : State) t
  rw [State.begin, e]
@[simp] theorem State.begin_ringLost (s : State) (t : Nat) : (s.begin t).ringLost = s.ringLost := by
  obtain ⟨_, _, _, e⟩ := State.advance_timed ({ s with out := [] } : State) t
  rw [State.begin, e]
@[simp] theorem State.begin_retrainAt (s : State) (t : Nat) : (s.begin t).retrainAt = s.retrainAt := by
  obtain ⟨_, _, _, e⟩ := State.advance_timed ({ s with out := [] } : State) t
  rw [State.begin, e]
@[simp] theorem State.begin_bus (s : State) (t : Nat) : (s.begin t).bus = s.bus := by
  obtain ⟨_, _, _, e⟩ := State.advance_timed ({ s with out := [] } : State) t
  rw [State.begin, e]
@[simp] theorem State.begin_spi (s : State) (t : Nat) : (s.begin t).spi = s.spi := by
  obtain ⟨_, _, _, e⟩ := State.advance_timed ({ s with out := [] } : State) t
  rw [State.begin, e]
@[simp] theorem State.begin_mbx (s : State) (t : Nat) : (s.begin t).mbx = s.mbx := by
  obtain ⟨_, _, _, e⟩ := State.advance_timed ({ s with out := [] } : State) t
  rw [State.begin, e]
@[simp] theorem State.begin_mbxAt (s : State) (t : Nat) : (s.begin t).mbxAt = s.mbxAt := by
  obtain ⟨_, _, _, e⟩ := State.advance_timed ({ s with out := [] } : State) t
  rw [State.begin, e]
@[simp] theorem State.begin_pcieReady (s : State) (t : Nat) : (s.begin t).pcieReady = s.pcieReady := by
  obtain ⟨_, _, _, e⟩ := State.advance_timed ({ s with out := [] } : State) t
  rw [State.begin, e]
@[simp] theorem State.begin_msixMask (s : State) (t : Nat) : (s.begin t).msixMask = s.msixMask := by
  obtain ⟨_, _, _, e⟩ := State.advance_timed ({ s with out := [] } : State) t
  rw [State.begin, e]
@[simp] theorem State.begin_otp (s : State) (t : Nat) : (s.begin t).otp = s.otp := by
  obtain ⟨_, _, _, e⟩ := State.advance_timed ({ s with out := [] } : State) t
  rw [State.begin, e]
@[simp] theorem State.begin_vbat (s : State) (t : Nat) : (s.begin t).vbat = s.vbat := by
  obtain ⟨_, _, _, e⟩ := State.advance_timed ({ s with out := [] } : State) t
  rw [State.begin, e]
@[simp] theorem State.begin_keys (s : State) (t : Nat) : (s.begin t).keys = s.keys := by
  obtain ⟨_, _, _, e⟩ := State.advance_timed ({ s with out := [] } : State) t
  rw [State.begin, e]
@[simp] theorem State.begin_identity (s : State) (t : Nat) : (s.begin t).identity = s.identity := by
  obtain ⟨_, _, _, e⟩ := State.advance_timed ({ s with out := [] } : State) t
  rw [State.begin, e]
@[simp] theorem State.begin_powered (s : State) (t : Nat) : (s.begin t).powered = s.powered := by
  obtain ⟨_, _, _, e⟩ := State.advance_timed ({ s with out := [] } : State) t
  rw [State.begin, e]
@[simp] theorem State.begin_flash (s : State) (t : Nat) : (s.begin t).flash = s.flash := by
  obtain ⟨_, _, _, e⟩ := State.advance_timed ({ s with out := [] } : State) t
  rw [State.begin, e]
@[simp] theorem State.begin_boot (s : State) (t : Nat) : (s.begin t).boot = s.boot := by
  obtain ⟨_, _, _, e⟩ := State.advance_timed ({ s with out := [] } : State) t
  rw [State.begin, e]
@[simp] theorem State.begin_upd (s : State) (t : Nat) : (s.begin t).upd = s.upd := by
  obtain ⟨_, _, _, e⟩ := State.advance_timed ({ s with out := [] } : State) t
  rw [State.begin, e]
@[simp] theorem State.begin_bbxRun (s : State) (t : Nat) : (s.begin t).bbxRun = s.bbxRun := by
  obtain ⟨_, _, _, e⟩ := State.advance_timed ({ s with out := [] } : State) t
  rw [State.begin, e]
@[simp] theorem State.begin_free (s : State) (t : Nat) : (s.begin t).free = s.free := by
  obtain ⟨_, _, _, e⟩ := State.advance_timed ({ s with out := [] } : State) t
  rw [State.begin, e]
@[simp] theorem State.begin_pending (s : State) (t : Nat) : (s.begin t).pending = s.pending := by
  obtain ⟨_, _, _, e⟩ := State.advance_timed ({ s with out := [] } : State) t
  rw [State.begin, e]

/-! ### Sending one interrupt message -/

@[simp] theorem State.sendVec_now (s : State) (v : Nat) : (s.sendVec v).now = s.now := by
  unfold State.sendVec; split
  · rw [State.emit_now, State.add_now]
  · rfl
@[simp] theorem State.sendVec_resetCycle (s : State) (v : Nat) : (s.sendVec v).resetCycle = s.resetCycle := by
  unfold State.sendVec; split
  · rw [State.emit_resetCycle, State.add_resetCycle]
  · rfl
@[simp] theorem State.sendVec_lv (s : State) (v : Nat) : (s.sendVec v).lv = s.lv := by
  unfold State.sendVec; split
  · rw [State.emit_lv, State.add_lv]
  · rfl
@[simp] theorem State.sendVec_arms (s : State) (v : Nat) : (s.sendVec v).arms = s.arms := by
  unfold State.sendVec; split
  · rw [State.emit_arms, State.add_arms]
  · rfl
@[simp] theorem State.sendVec_groups (s : State) (v : Nat) : (s.sendVec v).groups = s.groups := by
  unfold State.sendVec; split
  · rw [State.emit_groups, State.add_groups]
  · rfl
@[simp] theorem State.sendVec_freed (s : State) (v : Nat) : (s.sendVec v).freed = s.freed := by
  unfold State.sendVec; split
  · rw [State.emit_freed, State.add_freed]
  · rfl
@[simp] theorem State.sendVec_freedAt (s : State) (v : Nat) : (s.sendVec v).freedAt = s.freedAt := by
  unfold State.sendVec; split
  · rw [State.emit_freedAt, State.add_freedAt]
  · rfl
@[simp] theorem State.sendVec_undo (s : State) (v : Nat) : (s.sendVec v).undo = s.undo := by
  unfold State.sendVec; split
  · rw [State.emit_undo, State.add_undo]
  · rfl
@[simp] theorem State.sendVec_undoAt (s : State) (v : Nat) : (s.sendVec v).undoAt = s.undoAt := by
  unfold State.sendVec; split
  · rw [State.emit_undoAt, State.add_undoAt]
  · rfl
@[simp] theorem State.sendVec_busy (s : State) (v : Nat) : (s.sendVec v).busy = s.busy := by
  unfold State.sendVec; split
  · rw [State.emit_busy, State.add_busy]
  · rfl
@[simp] theorem State.sendVec_pools (s : State) (v : Nat) : (s.sendVec v).pools = s.pools := by
  unfold State.sendVec; split
  · rw [State.emit_pools, State.add_pools]
  · rfl
@[simp] theorem State.sendVec_fatal (s : State) (v : Nat) : (s.sendVec v).fatal = s.fatal := by
  unfold State.sendVec; split
  · rw [State.emit_fatal, State.add_fatal]
  · rfl
@[simp] theorem State.sendVec_fatalSrc (s : State) (v : Nat) : (s.sendVec v).fatalSrc = s.fatalSrc := by
  unfold State.sendVec; split
  · rw [State.emit_fatalSrc, State.add_fatalSrc]
  · rfl
@[simp] theorem State.sendVec_normal (s : State) (v : Nat) : (s.sendVec v).normal = s.normal := by
  unfold State.sendVec; split
  · rw [State.emit_normal, State.add_normal]
  · rfl
@[simp] theorem State.sendVec_committed (s : State) (v : Nat) : (s.sendVec v).committed = s.committed := by
  unfold State.sendVec; split
  · rw [State.emit_committed, State.add_committed]
  · rfl
@[simp] theorem State.sendVec_evr (s : State) (v : Nat) : (s.sendVec v).evr = s.evr := by
  unfold State.sendVec; split
  · rw [State.emit_evr, State.add_evr]
  · rfl
@[simp] theorem State.sendVec_bbx (s : State) (v : Nat) : (s.sendVec v).bbx = s.bbx := by
  unfold State.sendVec; split
  · rw [State.emit_bbx, State.add_bbx]
  · rfl
@[simp] theorem State.sendVec_lanes (s : State) (v : Nat) : (s.sendVec v).lanes = s.lanes := by
  unfold State.sendVec; split
  · rw [State.emit_lanes, State.add_lanes]
  · rfl
@[simp] theorem State.sendVec_xbp (s : State) (v : Nat) : (s.sendVec v).xbp = s.xbp := by
  unfold State.sendVec; split
  · rw [State.emit_xbp, State.add_xbp]
  · rfl
@[simp] theorem State.sendVec_brace (s : State) (v : Nat) : (s.sendVec v).brace = s.brace := by
  unfold State.sendVec; split
  · rw [State.emit_brace, State.add_brace]
  · rfl
@[simp] theorem State.sendVec_xwp (s : State) (v : Nat) : (s.sendVec v).xwp = s.xwp := by
  unfold State.sendVec; split
  · rw [State.emit_xwp, State.add_xwp]
  · rfl
@[simp] theorem State.sendVec_eth (s : State) (v : Nat) : (s.sendVec v).eth = s.eth := by
  unfold State.sendVec; split
  · rw [State.emit_eth, State.add_eth]
  · rfl
@[simp] theorem State.sendVec_saGen (s : State) (v : Nat) : (s.sendVec v).saGen = s.saGen := by
  unfold State.sendVec; split
  · rw [State.emit_saGen, State.add_saGen]
  · rfl
@[simp] theorem State.sendVec_rxPn (s : State) (v : Nat) : (s.sendVec v).rxPn = s.rxPn := by
  unfold State.sendVec; split
  · rw [State.emit_rxPn, State.add_rxPn]
  · rfl
@[simp] theorem State.sendVec_saWritten (s : State) (v : Nat) : (s.sendVec v).saWritten = s.saWritten := by
  unfold State.sendVec; split
  · rw [State.emit_saWritten, State.add_saWritten]
  · rfl
@[simp] theorem State.sendVec_rxs (s : State) (v : Nat) : (s.sendVec v).rxs = s.rxs := by
  unfold State.sendVec; split
  · rw [State.emit_rxs, State.add_rxs]
  · rfl
@[simp] theorem State.sendVec_txs (s : State) (v : Nat) : (s.sendVec v).txs = s.txs := by
  unfold State.sendVec; split
  · rw [State.emit_txs, State.add_txs]
  · rfl
@[simp] theorem State.sendVec_clk (s : State) (v : Nat) : (s.sendVec v).clk = s.clk := by
  unfold State.sendVec; split
  · rw [State.emit_clk, State.add_clk]
  · rfl
@[simp] theorem State.sendVec_cands (s : State) (v : Nat) : (s.sendVec v).cands = s.cands := by
  unfold State.sendVec; split
  · rw [State.emit_cands, State.add_cands]
  · rfl
@[simp] theorem State.sendVec_dplls (s : State) (v : Nat) : (s.sendVec v).dplls = s.dplls := by
  unfold State.sendVec; split
  · rw [State.emit_dplls, State.add_dplls]
  · rfl
@[simp] theorem State.sendVec_vtgs (s : State) (v : Nat) : (s.sendVec v).vtgs = s.vtgs := by
  unfold State.sendVec; split
  · rw [State.emit_vtgs, State.add_vtgs]
  · rfl
@[simp] theorem State.sendVec_refo (s : State) (v : Nat) : (s.sendVec v).refo = s.refo := by
  unfold State.sendVec; split
  · rw [State.emit_refo, State.add_refo]
  · rfl
@[simp] theorem State.sendVec_refoAt (s : State) (v : Nat) : (s.sendVec v).refoAt = s.refoAt := by
  unfold State.sendVec; split
  · rw [State.emit_refoAt, State.add_refoAt]
  · rfl
@[simp] theorem State.sendVec_aud (s : State) (v : Nat) : (s.sendVec v).aud = s.aud := by
  unfold State.sendVec; split
  · rw [State.emit_aud, State.add_aud]
  · rfl
@[simp] theorem State.sendVec_audRx (s : State) (v : Nat) : (s.sendVec v).audRx = s.audRx := by
  unfold State.sendVec; split
  · rw [State.emit_audRx, State.add_audRx]
  · rfl
@[simp] theorem State.sendVec_audTx (s : State) (v : Nat) : (s.sendVec v).audTx = s.audTx := by
  unfold State.sendVec; split
  · rw [State.emit_audTx, State.add_audTx]
  · rfl
@[simp] theorem State.sendVec_tdm (s : State) (v : Nat) : (s.sendVec v).tdm = s.tdm := by
  unfold State.sendVec; split
  · rw [State.emit_tdm, State.add_tdm]
  · rfl
@[simp] theorem State.sendVec_gddr (s : State) (v : Nat) : (s.sendVec v).gddr = s.gddr := by
  unfold State.sendVec; split
  · rw [State.emit_gddr, State.add_gddr]
  · rfl
@[simp] theorem State.sendVec_engs (s : State) (v : Nat) : (s.sendVec v).engs = s.engs := by
  unfold State.sendVec; split
  · rw [State.emit_engs, State.add_engs]
  · rfl
@[simp] theorem State.sendVec_ringLost (s : State) (v : Nat) : (s.sendVec v).ringLost = s.ringLost := by
  unfold State.sendVec; split
  · rw [State.emit_ringLost, State.add_ringLost]
  · rfl
@[simp] theorem State.sendVec_retrainAt (s : State) (v : Nat) : (s.sendVec v).retrainAt = s.retrainAt := by
  unfold State.sendVec; split
  · rw [State.emit_retrainAt, State.add_retrainAt]
  · rfl
@[simp] theorem State.sendVec_bus (s : State) (v : Nat) : (s.sendVec v).bus = s.bus := by
  unfold State.sendVec; split
  · rw [State.emit_bus, State.add_bus]
  · rfl
@[simp] theorem State.sendVec_spi (s : State) (v : Nat) : (s.sendVec v).spi = s.spi := by
  unfold State.sendVec; split
  · rw [State.emit_spi, State.add_spi]
  · rfl
@[simp] theorem State.sendVec_mbx (s : State) (v : Nat) : (s.sendVec v).mbx = s.mbx := by
  unfold State.sendVec; split
  · rw [State.emit_mbx, State.add_mbx]
  · rfl
@[simp] theorem State.sendVec_mbxAt (s : State) (v : Nat) : (s.sendVec v).mbxAt = s.mbxAt := by
  unfold State.sendVec; split
  · rw [State.emit_mbxAt, State.add_mbxAt]
  · rfl
@[simp] theorem State.sendVec_pcieReady (s : State) (v : Nat) : (s.sendVec v).pcieReady = s.pcieReady := by
  unfold State.sendVec; split
  · rw [State.emit_pcieReady, State.add_pcieReady]
  · rfl
@[simp] theorem State.sendVec_msixMask (s : State) (v : Nat) : (s.sendVec v).msixMask = s.msixMask := by
  unfold State.sendVec; split
  · rw [State.emit_msixMask, State.add_msixMask]
  · rfl
@[simp] theorem State.sendVec_otp (s : State) (v : Nat) : (s.sendVec v).otp = s.otp := by
  unfold State.sendVec; split
  · rw [State.emit_otp, State.add_otp]
  · rfl
@[simp] theorem State.sendVec_vbat (s : State) (v : Nat) : (s.sendVec v).vbat = s.vbat := by
  unfold State.sendVec; split
  · rw [State.emit_vbat, State.add_vbat]
  · rfl
@[simp] theorem State.sendVec_keys (s : State) (v : Nat) : (s.sendVec v).keys = s.keys := by
  unfold State.sendVec; split
  · rw [State.emit_keys, State.add_keys]
  · rfl
@[simp] theorem State.sendVec_identity (s : State) (v : Nat) : (s.sendVec v).identity = s.identity := by
  unfold State.sendVec; split
  · rw [State.emit_identity, State.add_identity]
  · rfl
@[simp] theorem State.sendVec_powered (s : State) (v : Nat) : (s.sendVec v).powered = s.powered := by
  unfold State.sendVec; split
  · rw [State.emit_powered, State.add_powered]
  · rfl
@[simp] theorem State.sendVec_flash (s : State) (v : Nat) : (s.sendVec v).flash = s.flash := by
  unfold State.sendVec; split
  · rw [State.emit_flash, State.add_flash]
  · rfl
@[simp] theorem State.sendVec_boot (s : State) (v : Nat) : (s.sendVec v).boot = s.boot := by
  unfold State.sendVec; split
  · rw [State.emit_boot, State.add_boot]
  · rfl
@[simp] theorem State.sendVec_upd (s : State) (v : Nat) : (s.sendVec v).upd = s.upd := by
  unfold State.sendVec; split
  · rw [State.emit_upd, State.add_upd]
  · rfl
@[simp] theorem State.sendVec_bbxRun (s : State) (v : Nat) : (s.sendVec v).bbxRun = s.bbxRun := by
  unfold State.sendVec; split
  · rw [State.emit_bbxRun, State.add_bbxRun]
  · rfl
@[simp] theorem State.sendVec_free (s : State) (v : Nat) : (s.sendVec v).free = s.free := by
  unfold State.sendVec; split
  · rw [State.emit_free, State.add_free]
  · rfl
@[simp] theorem State.sendVec_pending (s : State) (v : Nat) : (s.sendVec v).pending = s.pending := by
  unfold State.sendVec; split
  · rw [State.emit_pending, State.add_pending]
  · rfl

/-! ### The end of a command: due interrupt messages go out (R364) -/

@[simp] theorem State.settle_now (s : State) : (s.settle).now = s.now := by
  unfold State.settle; exact foldl_keeps State.now State.sendVec (fun u v => State.sendVec_now u v) _ s
@[simp] theorem State.settle_resetCycle (s : State) : (s.settle).resetCycle = s.resetCycle := by
  unfold State.settle; exact foldl_keeps State.resetCycle State.sendVec (fun u v => State.sendVec_resetCycle u v) _ s
@[simp] theorem State.settle_lv (s : State) : (s.settle).lv = s.lv := by
  unfold State.settle; exact foldl_keeps State.lv State.sendVec (fun u v => State.sendVec_lv u v) _ s
@[simp] theorem State.settle_arms (s : State) : (s.settle).arms = s.arms := by
  unfold State.settle; exact foldl_keeps State.arms State.sendVec (fun u v => State.sendVec_arms u v) _ s
@[simp] theorem State.settle_groups (s : State) : (s.settle).groups = s.groups := by
  unfold State.settle; exact foldl_keeps State.groups State.sendVec (fun u v => State.sendVec_groups u v) _ s
@[simp] theorem State.settle_freed (s : State) : (s.settle).freed = s.freed := by
  unfold State.settle; exact foldl_keeps State.freed State.sendVec (fun u v => State.sendVec_freed u v) _ s
@[simp] theorem State.settle_freedAt (s : State) : (s.settle).freedAt = s.freedAt := by
  unfold State.settle; exact foldl_keeps State.freedAt State.sendVec (fun u v => State.sendVec_freedAt u v) _ s
@[simp] theorem State.settle_undo (s : State) : (s.settle).undo = s.undo := by
  unfold State.settle; exact foldl_keeps State.undo State.sendVec (fun u v => State.sendVec_undo u v) _ s
@[simp] theorem State.settle_undoAt (s : State) : (s.settle).undoAt = s.undoAt := by
  unfold State.settle; exact foldl_keeps State.undoAt State.sendVec (fun u v => State.sendVec_undoAt u v) _ s
@[simp] theorem State.settle_busy (s : State) : (s.settle).busy = s.busy := by
  unfold State.settle; exact foldl_keeps State.busy State.sendVec (fun u v => State.sendVec_busy u v) _ s
@[simp] theorem State.settle_pools (s : State) : (s.settle).pools = s.pools := by
  unfold State.settle; exact foldl_keeps State.pools State.sendVec (fun u v => State.sendVec_pools u v) _ s
@[simp] theorem State.settle_fatal (s : State) : (s.settle).fatal = s.fatal := by
  unfold State.settle; exact foldl_keeps State.fatal State.sendVec (fun u v => State.sendVec_fatal u v) _ s
@[simp] theorem State.settle_fatalSrc (s : State) : (s.settle).fatalSrc = s.fatalSrc := by
  unfold State.settle; exact foldl_keeps State.fatalSrc State.sendVec (fun u v => State.sendVec_fatalSrc u v) _ s
@[simp] theorem State.settle_normal (s : State) : (s.settle).normal = s.normal := by
  unfold State.settle; exact foldl_keeps State.normal State.sendVec (fun u v => State.sendVec_normal u v) _ s
@[simp] theorem State.settle_committed (s : State) : (s.settle).committed = s.committed := by
  unfold State.settle; exact foldl_keeps State.committed State.sendVec (fun u v => State.sendVec_committed u v) _ s
@[simp] theorem State.settle_evr (s : State) : (s.settle).evr = s.evr := by
  unfold State.settle; exact foldl_keeps State.evr State.sendVec (fun u v => State.sendVec_evr u v) _ s
@[simp] theorem State.settle_bbx (s : State) : (s.settle).bbx = s.bbx := by
  unfold State.settle; exact foldl_keeps State.bbx State.sendVec (fun u v => State.sendVec_bbx u v) _ s
@[simp] theorem State.settle_lanes (s : State) : (s.settle).lanes = s.lanes := by
  unfold State.settle; exact foldl_keeps State.lanes State.sendVec (fun u v => State.sendVec_lanes u v) _ s
@[simp] theorem State.settle_xbp (s : State) : (s.settle).xbp = s.xbp := by
  unfold State.settle; exact foldl_keeps State.xbp State.sendVec (fun u v => State.sendVec_xbp u v) _ s
@[simp] theorem State.settle_brace (s : State) : (s.settle).brace = s.brace := by
  unfold State.settle; exact foldl_keeps State.brace State.sendVec (fun u v => State.sendVec_brace u v) _ s
@[simp] theorem State.settle_xwp (s : State) : (s.settle).xwp = s.xwp := by
  unfold State.settle; exact foldl_keeps State.xwp State.sendVec (fun u v => State.sendVec_xwp u v) _ s
@[simp] theorem State.settle_eth (s : State) : (s.settle).eth = s.eth := by
  unfold State.settle; exact foldl_keeps State.eth State.sendVec (fun u v => State.sendVec_eth u v) _ s
@[simp] theorem State.settle_saGen (s : State) : (s.settle).saGen = s.saGen := by
  unfold State.settle; exact foldl_keeps State.saGen State.sendVec (fun u v => State.sendVec_saGen u v) _ s
@[simp] theorem State.settle_rxPn (s : State) : (s.settle).rxPn = s.rxPn := by
  unfold State.settle; exact foldl_keeps State.rxPn State.sendVec (fun u v => State.sendVec_rxPn u v) _ s
@[simp] theorem State.settle_saWritten (s : State) : (s.settle).saWritten = s.saWritten := by
  unfold State.settle; exact foldl_keeps State.saWritten State.sendVec (fun u v => State.sendVec_saWritten u v) _ s
@[simp] theorem State.settle_rxs (s : State) : (s.settle).rxs = s.rxs := by
  unfold State.settle; exact foldl_keeps State.rxs State.sendVec (fun u v => State.sendVec_rxs u v) _ s
@[simp] theorem State.settle_txs (s : State) : (s.settle).txs = s.txs := by
  unfold State.settle; exact foldl_keeps State.txs State.sendVec (fun u v => State.sendVec_txs u v) _ s
@[simp] theorem State.settle_clk (s : State) : (s.settle).clk = s.clk := by
  unfold State.settle; exact foldl_keeps State.clk State.sendVec (fun u v => State.sendVec_clk u v) _ s
@[simp] theorem State.settle_cands (s : State) : (s.settle).cands = s.cands := by
  unfold State.settle; exact foldl_keeps State.cands State.sendVec (fun u v => State.sendVec_cands u v) _ s
@[simp] theorem State.settle_dplls (s : State) : (s.settle).dplls = s.dplls := by
  unfold State.settle; exact foldl_keeps State.dplls State.sendVec (fun u v => State.sendVec_dplls u v) _ s
@[simp] theorem State.settle_vtgs (s : State) : (s.settle).vtgs = s.vtgs := by
  unfold State.settle; exact foldl_keeps State.vtgs State.sendVec (fun u v => State.sendVec_vtgs u v) _ s
@[simp] theorem State.settle_refo (s : State) : (s.settle).refo = s.refo := by
  unfold State.settle; exact foldl_keeps State.refo State.sendVec (fun u v => State.sendVec_refo u v) _ s
@[simp] theorem State.settle_refoAt (s : State) : (s.settle).refoAt = s.refoAt := by
  unfold State.settle; exact foldl_keeps State.refoAt State.sendVec (fun u v => State.sendVec_refoAt u v) _ s
@[simp] theorem State.settle_aud (s : State) : (s.settle).aud = s.aud := by
  unfold State.settle; exact foldl_keeps State.aud State.sendVec (fun u v => State.sendVec_aud u v) _ s
@[simp] theorem State.settle_audRx (s : State) : (s.settle).audRx = s.audRx := by
  unfold State.settle; exact foldl_keeps State.audRx State.sendVec (fun u v => State.sendVec_audRx u v) _ s
@[simp] theorem State.settle_audTx (s : State) : (s.settle).audTx = s.audTx := by
  unfold State.settle; exact foldl_keeps State.audTx State.sendVec (fun u v => State.sendVec_audTx u v) _ s
@[simp] theorem State.settle_tdm (s : State) : (s.settle).tdm = s.tdm := by
  unfold State.settle; exact foldl_keeps State.tdm State.sendVec (fun u v => State.sendVec_tdm u v) _ s
@[simp] theorem State.settle_gddr (s : State) : (s.settle).gddr = s.gddr := by
  unfold State.settle; exact foldl_keeps State.gddr State.sendVec (fun u v => State.sendVec_gddr u v) _ s
@[simp] theorem State.settle_engs (s : State) : (s.settle).engs = s.engs := by
  unfold State.settle; exact foldl_keeps State.engs State.sendVec (fun u v => State.sendVec_engs u v) _ s
@[simp] theorem State.settle_ringLost (s : State) : (s.settle).ringLost = s.ringLost := by
  unfold State.settle; exact foldl_keeps State.ringLost State.sendVec (fun u v => State.sendVec_ringLost u v) _ s
@[simp] theorem State.settle_retrainAt (s : State) : (s.settle).retrainAt = s.retrainAt := by
  unfold State.settle; exact foldl_keeps State.retrainAt State.sendVec (fun u v => State.sendVec_retrainAt u v) _ s
@[simp] theorem State.settle_bus (s : State) : (s.settle).bus = s.bus := by
  unfold State.settle; exact foldl_keeps State.bus State.sendVec (fun u v => State.sendVec_bus u v) _ s
@[simp] theorem State.settle_spi (s : State) : (s.settle).spi = s.spi := by
  unfold State.settle; exact foldl_keeps State.spi State.sendVec (fun u v => State.sendVec_spi u v) _ s
@[simp] theorem State.settle_mbx (s : State) : (s.settle).mbx = s.mbx := by
  unfold State.settle; exact foldl_keeps State.mbx State.sendVec (fun u v => State.sendVec_mbx u v) _ s
@[simp] theorem State.settle_mbxAt (s : State) : (s.settle).mbxAt = s.mbxAt := by
  unfold State.settle; exact foldl_keeps State.mbxAt State.sendVec (fun u v => State.sendVec_mbxAt u v) _ s
@[simp] theorem State.settle_pcieReady (s : State) : (s.settle).pcieReady = s.pcieReady := by
  unfold State.settle; exact foldl_keeps State.pcieReady State.sendVec (fun u v => State.sendVec_pcieReady u v) _ s
@[simp] theorem State.settle_msixMask (s : State) : (s.settle).msixMask = s.msixMask := by
  unfold State.settle; exact foldl_keeps State.msixMask State.sendVec (fun u v => State.sendVec_msixMask u v) _ s
@[simp] theorem State.settle_otp (s : State) : (s.settle).otp = s.otp := by
  unfold State.settle; exact foldl_keeps State.otp State.sendVec (fun u v => State.sendVec_otp u v) _ s
@[simp] theorem State.settle_vbat (s : State) : (s.settle).vbat = s.vbat := by
  unfold State.settle; exact foldl_keeps State.vbat State.sendVec (fun u v => State.sendVec_vbat u v) _ s
@[simp] theorem State.settle_keys (s : State) : (s.settle).keys = s.keys := by
  unfold State.settle; exact foldl_keeps State.keys State.sendVec (fun u v => State.sendVec_keys u v) _ s
@[simp] theorem State.settle_identity (s : State) : (s.settle).identity = s.identity := by
  unfold State.settle; exact foldl_keeps State.identity State.sendVec (fun u v => State.sendVec_identity u v) _ s
@[simp] theorem State.settle_powered (s : State) : (s.settle).powered = s.powered := by
  unfold State.settle; exact foldl_keeps State.powered State.sendVec (fun u v => State.sendVec_powered u v) _ s
@[simp] theorem State.settle_flash (s : State) : (s.settle).flash = s.flash := by
  unfold State.settle; exact foldl_keeps State.flash State.sendVec (fun u v => State.sendVec_flash u v) _ s
@[simp] theorem State.settle_boot (s : State) : (s.settle).boot = s.boot := by
  unfold State.settle; exact foldl_keeps State.boot State.sendVec (fun u v => State.sendVec_boot u v) _ s
@[simp] theorem State.settle_upd (s : State) : (s.settle).upd = s.upd := by
  unfold State.settle; exact foldl_keeps State.upd State.sendVec (fun u v => State.sendVec_upd u v) _ s
@[simp] theorem State.settle_bbxRun (s : State) : (s.settle).bbxRun = s.bbxRun := by
  unfold State.settle; exact foldl_keeps State.bbxRun State.sendVec (fun u v => State.sendVec_bbxRun u v) _ s
@[simp] theorem State.settle_free (s : State) : (s.settle).free = s.free := by
  unfold State.settle; exact foldl_keeps State.free State.sendVec (fun u v => State.sendVec_free u v) _ s
@[simp] theorem State.settle_pending (s : State) : (s.settle).pending = s.pending := by
  unfold State.settle; exact foldl_keeps State.pending State.sendVec (fun u v => State.sendVec_pending u v) _ s

/-! ### Words -/

/-- Offering an event changes LOST_CNT alone. -/
theorem State.word_offer_ne (s : State) (p : Page) (c x y : Nat) {b : Nat} (h : b ≠ Page.base .evr + EVR.LOST_CNT.off) :
    (s.offer p c x y).word b = s.word b := by
  unfold State.offer
  split
  · rfl
  · rw [State.addSat_eq, State.word_put_ne _ _ _ _ h]; rfl

/-- A fault changes FAULT_STAT and FAULT_CNT of its page and LOST_CNT alone. -/
theorem State.word_fault_ne (s : State) (p : Page) (c : FaultClass) (x y : Nat) {b : Nat}
    (h0 : b ≠ Page.base .evr + EVR.LOST_CNT.off) (h1 : b ≠ p.base + HDR.FAULT_STAT_CORR_REAL.off)
    (h2 : b ≠ p.base + HDR.FAULT_CNT_CORRECTED.off) : (s.fault p c x y).word b = s.word b := by
  cases c with
  | corrected =>
    simp only [State.fault, State.addSat_eq]
    rw [State.word_offer_ne _ _ _ _ _ h0, State.word_put_ne _ _ _ _ h2, State.word_put_ne _ _ _ _ h1]
    rfl
  | contained =>
    simp only [State.fault, State.addSat_eq]
    rw [show ∀ u : State, u.unusual.word b = u.word b from fun _ => rfl, State.word_offer_ne _ _ _ _ _ h0,
      State.word_put_ne _ _ _ _ (by exact h2), State.word_put_ne _ _ _ _ (by exact h1)]
    rfl
  | fatal =>
    simp only [State.fault]
    rw [show ∀ u : State, u.unusual.word b = u.word b from fun _ => rfl, State.word_offer_ne _ _ _ _ _ h0]
    rfl

/-- The words that the passage of time can change: INT_STAT of the TIME page and the DOM_STAT words (R214, R223). -/
def timeWords : List Nat :=
  [Page.base .time + TIME.INT_STAT_SLEW_DONE.off, Page.base .time + (TIME.DOM_STAT_STEP_PEND.at 0).off,
   Page.base .time + (TIME.DOM_STAT_STEP_PEND.at 1).off]

theorem State.word_glide_ne (s : State) (t : Nat) {b : Nat} (h : b ∉ timeWords) : (s.glide t).word b = s.word b := by
  unfold State.glide
  simp only
  split
  · rw [State.raise_eq, State.word_put_ne _ _ _ _ (fun e => h (by rw [e]; exact List.mem_cons_self))]; rfl
  · rfl

theorem State.word_applyStep_ne (s : State) (d : Fin 2) {b : Nat} (h : b ∉ timeWords) : (s.applyStep d).word b = s.word b := by
  unfold State.applyStep
  split
  · rfl
  · have h0 : b ≠ Page.base .time + TIME.INT_STAT_SLEW_DONE.off := fun e => h (by rw [e]; exact List.mem_cons_self)
    have h1 : b ≠ Page.base .time + (TIME.DOM_STAT_STEP_PEND.at d.val).off := fun e => h (by
      rw [e]; rcases d with ⟨_ | _ | n, hn⟩
      · exact List.mem_cons_of_mem _ List.mem_cons_self
      · exact List.mem_cons_of_mem _ (List.mem_cons_of_mem _ List.mem_cons_self)
      · omega)
    simp only [State.raise_eq]
    rw [State.word_put_ne _ _ _ _ (by split <;> exact h0), State.word_put_ne _ _ _ _ h1]
    rfl

theorem State.word_stepBy_ne (s : State) (t : Nat) (d : Fin 2) (c : Option Nat) {b : Nat} (h : b ∉ timeWords) :
    (s.stepBy t d c).word b = s.word b := by
  unfold State.stepBy
  split
  · split
    · rw [State.word_applyStep_ne _ _ h, State.word_glide_ne _ _ h]
    · rfl
  · rfl

/-- The beginning of a command changes INT_STAT and DOM_STAT of the TIME page alone (R214, R223). -/
theorem State.word_begin_ne (s : State) (t : Nat) {b : Nat} (h : b ∉ timeWords) : (s.begin t).word b = s.word b := by
  unfold State.begin State.advance
  simp only
  split <;> rw [State.word_glide_ne _ _ h, State.word_stepBy_ne _ _ _ _ h, State.word_stepBy_ne _ _ _ _ h] <;> rfl

/-- An interrupt message changes MSIX_SENT alone (R364). -/
theorem State.word_sendVec_ne (s : State) (v : Nat) {b : Nat} (h : b ≠ Page.base .hif + HIF.MSIX_SENT.off) :
    (s.sendVec v).word b = s.word b := by
  unfold State.sendVec
  split
  · show ((State.add _ _ _ _).emit _).word b = _
    rw [State.add_eq, show ∀ (u : State) (e : Emit), (u.emit e).word b = u.word b from fun _ _ => rfl,
      State.word_put_ne _ _ _ _ h]
    rfl
  · rfl

/-- The end of a command changes MSIX_SENT alone (R364). -/
theorem State.word_settle_ne (s : State) {b : Nat} (h : b ≠ Page.base .hif + HIF.MSIX_SENT.off) :
    s.settle.word b = s.word b :=
  foldl_keeps (fun u : State => u.word b) _ (fun u v => State.word_sendVec_ne u v h) _ s

@[simp] theorem State.lword_begin (s : State) (t b : Nat) : (s.begin t).lword b = s.lword b := by
  simp [State.lword]

@[simp] theorem State.lword_settle (s : State) (b : Nat) : s.settle.lword b = s.lword b := by
  simp [State.lword]

/-! ### The clock -/

@[simp] theorem State.glide_now (s : State) (t : Nat) : (s.glide t).now = max s.now t := by
  unfold State.glide; simp only; split <;> rfl

/-- A step that falls due by the core cycle does not move past it. -/
theorem State.stepBy_now_le (s : State) (t : Nat) (d : Fin 2) (c : Option Nat) : max (s.stepBy t d c).now t = max s.now t := by
  unfold State.stepBy
  split
  · split
    · rw [show ∀ u : State, (u.applyStep d).now = u.now from fun u => by unfold State.applyStep; split <;> rfl, State.glide_now]; omega
    · rfl
  · rfl

/-- A core cycle is reached. -/
@[simp] theorem State.advance_now (s : State) (t : Nat) : (s.advance t).now = max s.now t := by
  unfold State.advance
  simp only
  split <;> rw [State.glide_now, State.stepBy_now_le, State.stepBy_now_le]

/-- A command reaches its core cycle. -/
@[simp] theorem State.begin_now (s : State) (t : Nat) : (s.begin t).now = max s.now t := by
  unfold State.begin; rw [State.advance_now]

/-- Nothing is emitted before the command acts. -/
@[simp] theorem State.begin_out (s : State) (t : Nat) : (s.begin t).out = [] := by
  obtain ⟨_, _, _, e⟩ := State.advance_timed ({ s with out := [] } : State) t
  rw [State.begin, e]

/-! ### The canonical form -/

theorem State.canonical_put {s : State} (h : s.canonical) (p : Page) (f : Fld) (v : Nat) : (s.put p f v).canonical :=
  ⟨State.canonical_setWord h.1 _ _, h.2.1, h.2.2⟩

theorem State.canonical_putLive {s : State} (h : s.canonical) (p : Page) (f : Fld) (v : Nat) : (s.putLive p f v).canonical :=
  ⟨h.1, State.canonical_setLword h.2.1 _ _, h.2.2⟩

theorem State.canonical_glide {s : State} (h : s.canonical) (t : Nat) : (s.glide t).canonical := by
  unfold State.glide
  simp only
  split
  · exact State.canonical_put (s := { s with now := _, clk := _ }) h _ _ _
  · exact h

theorem State.canonical_stepBy {s : State} (h : s.canonical) (t : Nat) (d : Fin 2) (c : Option Nat) :
    (s.stepBy t d c).canonical := by
  unfold State.stepBy
  split
  · split
    · unfold State.applyStep
      split
      · exact State.canonical_glide h _
      · have g := State.canonical_glide h (t := ‹Nat›)
        exact State.canonical_put (State.canonical_put (s := { State.glide s _ with clk := _ }) g _ _ _) _ _ _
    · exact h
  · exact h

theorem State.canonical_begin {s : State} (h : s.canonical) (t : Nat) : (s.begin t).canonical := by
  have h : ({ s with out := [] } : State).canonical := h
  unfold State.begin State.advance
  simp only
  split
  · exact State.canonical_glide (State.canonical_stepBy (State.canonical_stepBy h _ _ _) _ _ _) _
  · exact State.canonical_glide (State.canonical_stepBy (State.canonical_stepBy h _ _ _) _ _ _) _

theorem State.canonical_sendVec {s : State} (h : s.canonical) (v : Nat) : (s.sendVec v).canonical := by
  unfold State.sendVec
  split
  · exact State.canonical_put (s := { s with insvc := _ }) h _ _ _
  · exact h

theorem State.canonical_settle {s : State} (h : s.canonical) : s.settle.canonical := by
  unfold State.settle
  generalize s.vecReq = l
  induction l generalizing s with
  | nil => exact h
  | cons v r ih => exact ih (State.canonical_sendVec h v)

/-- Offering an event keeps the canonical form. -/
theorem State.canonical_offer {s : State} (h : s.canonical) (p : Page) (c x y : Nat) : (s.offer p c x y).canonical := by
  unfold State.offer
  split
  · exact h
  · exact State.canonical_put (s := { s with evr := _ }) h _ _ _

/-! ### Every command -/

/-- Every command is the common frame around its own effect: with the hold check, or without it. -/
theorem exec_shape (c : Instr) (s : State) :
    ∃ f, exec c s = .next (s.run c.cycle f) ∨ exec c s = .next (s.always c.cycle f) := by
  cases c <;> first | exact ⟨_, .inl rfl⟩ | exact ⟨_, .inr rfl⟩

/-- A command that does not act while the device is held in reset has the hold check. -/
theorem exec_run (c : Instr) (s : State) (h : c.alwaysActs = false) : ∃ f, exec c s = .next (s.run c.cycle f) := by
  cases c <;> first | exact Bool.noConfusion h | exact ⟨_, rfl⟩

/-- On a running device the frame is: begin, act, send what is due. -/
theorem State.run_eq {s : State} (h : s.boot.hold = 0) (t : Nat) (f : State → State) : s.run t f = (f (s.begin t)).settle := by
  simp [State.run, h]

/-- While the device is held in reset only its clocks advance (R407, R458 to R461). -/
theorem State.run_held {s : State} (h : s.boot.hold ≠ 0) (t : Nat) (f : State → State) : s.run t f = s.begin t := by
  simp [State.run, h]

/-- The frame keeps the canonical form where the effect does. -/
theorem State.canonical_run {s : State} (h : s.canonical) (t : Nat) (f : State → State)
    (hf : (s.begin t).canonical → (f (s.begin t)).canonical) : (s.run t f).canonical := by
  unfold State.run
  simp only
  split
  · exact State.canonical_settle (hf (State.canonical_begin h t))
  · exact State.canonical_begin h t

end Sys2Proof.Machine
end

