-- ==== Sys2Proof/Machine/Pins.lean ====
section
/-! DEFINITION. The slow output pins as functions of the state, and the names of the ball rows (chapter 18). -/

namespace Sys2Proof.Machine

/-! ### The slow output pins (R453, Tables 16.3 and 18.4) -/

/-- A pin that the device can leave alone. -/
inductive Pin where
  /-- Not driven: an input, or an open drain released. -/
  | released
  | low
  | high
  deriving DecidableEq, Repr

/-- A level that is driven. -/
def Pin.of (b : Bool) : Pin := if b then .high else .low

/-- An open drain pin, active low. -/
def Pin.drain (b : Bool) : Pin := if b then .low else .released

/-- The device drives its slow pins: VDDIO is there. -/
def State.driven (s : State) : Bool := s.boot.hold ≠ 3 && s.boot.hold ≠ 4

/-- READY: low until RUN (R407). -/
def State.readyPin (s : State) : Pin := if s.driven then .of s.ready else .released

/-- FATAL_N: open drain, driven low under R430. -/
def State.fatalPin (s : State) : Pin := .drain (s.driven && s.fatalN)

/-- IRQ_N: open drain, driven low under R365. -/
def State.irqPin (s : State) : Pin := .drain (s.driven && s.irqN)

/-- REFP_OUT[j]: low until READY, then under R248. -/
def State.refoPin (s : State) (j : Nat) : Pin := if s.driven then .of (s.ready && s.refoLevel j) else .released

/-- PPS_OUT: low until READY, then under R226. -/
def State.ppsPin (s : State) : Pin := if s.driven then .of (s.ready && s.clk.ppsOut) else .released

/-- AUn_BCLK and AUn_FSYNC are driven: low in OFF by a master port, and by one that runs; inputs of a slave (R291, R292). The
level is none where the clock runs. -/
def State.tdmPin (s : State) (b : TdmNo) : Option Pin :=
  if !s.driven || s.live (.tdm b) TDM.TDM_CTRL_MASTER = 0 then some .released
  else if s.tdmClocks b then none
  else some .low

/-! ### Ball rows (R450) -/

/-- The row alphabet: A to Y without I, O, Q, R, S and X. -/
def rowAlphabet : List Char :=
  ['A', 'B', 'C', 'D', 'E', 'F', 'G', 'H', 'J', 'K', 'L', 'M', 'N', 'P', 'T', 'U', 'V', 'W', 'Y']

/-- The name of ball row `r`, 1 to 104. -/
def rowName (r : Nat) : List Char :=
  let letter := fun (k : Nat) => nth rowAlphabet (k - 1) 'A'
  if r < 20 then [letter r] else [letter ((r - 20) / 19 + 1), letter ((r - 20) % 19 + 1)]

/-- Ball region of a row and column (Table 18.2): the lanes of a row band, GDDR6 devices, slow I/O, or the core supplies. -/
inductive Region where
  | xpointLow
  | xpointHigh
  | xpointLeft
  | xpointRight
  | etherLow
  | etherHigh
  | gddrLow
  | gddrHigh
  | slow
  | core
  deriving DecidableEq, Repr

/-- The region of row `r` and column `c`. -/
def region (r c : Nat) : Region :=
  if r < 25 then .xpointLow
  else if 80 < r then .xpointHigh
  else if c < 17 then .xpointLeft
  else if 88 < c then .xpointRight
  else if c < 29 then .etherLow
  else if 76 < c then .etherHigh
  else if r < 37 then .gddrLow
  else if 68 < r then .gddrHigh
  else if r < 41 then .slow
  else .core

end Sys2Proof.Machine
end

