-- ==== Sys2Proof/WellFormed.lean ====
section
/-! DEFINITION. Which commands can be sent: an operand that is a plain number lies in the range the spec gives it (BAR0 of
64 MiB, R355; mailbox requests of at most 63 words, R370; and so on). The machine's meanings do not rest on it. -/

namespace Sys2Proof

/-- The command's operands lie in their ranges. -/
def Instr.wf (i : Instr) : Bool :=
  match i with
  | .registerWrite _ _ addr strobes _ _ => addr < 0x4000000 && strobes < 16
  | .diagClr _ _ _ => true
  | .tickSmp _ => true
  | .tickFrm _ _ => true
  | .stcTick _ _ => true
  | .commitArm _ _ _ _ => true
  | .commitDisarm _ _ _ _ => true
  | .commitFire _ _ => true
  | .groupMembershipWrite _ _ _ _ => true
  | .cgrpArm _ _ _ _ => true
  | .cgrpDisarm _ _ _ _ => true
  | .cgrpFire _ _ => true
  | .routeEntryApply _ entry => entry != .aud
  | .funcInit _ _ _ => true
  | .funcInitComplete _ _ => true
  | .auditSnap _ _ _ _ => true
  | .sigFound _ _ => true
  | .sigLost _ _ => true
  | .cdrLockGained _ _ => true
  | .cdrLockLost _ _ => true
  | .sdiHuntDwellExpiry _ _ => true
  | .lockGained _ _ _ _ _ => true
  | .lockLost _ _ => true
  | .elasticBufferFault _ _ => true
  | .ignadaTenonBlock _ _ _ _ _ => true
  | .superframeHeader _ _ _ _ => true
  | .superframeLockLost _ _ => true
  | .sidebandBlock _ _ _ _ => true
  | .trainingBlock _ _ _ _ => true
  | .ignTrainComplete _ _ => true
  | .ignEnergyPresent _ _ => true
  | .ignEnergyLost _ _ => true
  | .ignAttemptTimeout _ _ => true
  | .ignTrainingTimeout _ _ => true
  | .ignBackoffExpiry _ _ => true
  | .ignListenExit _ _ => true
  | .ignResyncTimeout _ _ => true
  | .laneIgnRestart _ _ _ _ => true
  | .adaptWindow _ _ density => density ≤ 1024
  | .lanePrbsGenWrite _ _ _ _ => true
  | .lanePrbsChkWrite _ _ _ _ => true
  | .prbsLocked _ _ => true
  | .prbsLockLost _ _ nbits errs => errs ≤ nbits
  | .laneBitCntLoRead _ _ _ nbits errs => errs ≤ nbits
  | .tallyRxLoRead _ _ _ => true
  | .errInjShot _ _ _ _ => true
  | .errInjPeriodic _ _ => true
  | .eyeScanStart _ _ _ _ => true
  | .eyeScanDone _ _ _ => true
  | .xbpSuperframeSwitch _ _ => true
  | .xbpPgenWrite _ _ _ _ => true
  | .braceTickSend _ => true
  | .braceTickMessage _ _ payload => payload.bits.toNat % 16 = 1
  | .braceRecordSend _ full v => !full || v.val = 0
  | .braceFrameRecord _ _ payload => payload.bits.toNat % 16 = 2
  | .braceFullRecord _ _ payload => payload.bits.toNat % 16 = 3
  | .braceRecordTimeout _ _ _ _ => true
  | .brcRealign _ _ _ => true
  | .deembAudioPacket _ _ _ samples _ => samples.all (fun x => x.1 < 4)
  | .embedSample _ _ _ => true
  | .ethRestart _ _ _ _ => true
  | .anComplete _ _ _ _ => true
  | .ethTrainComplete _ _ taps => taps.length ≤ 4
  | .ethTrainTimeout _ _ => true
  | .ethEnergyLost _ _ => true
  | .ethAlignLock _ _ => true
  | .ethAlignTimeout _ _ => true
  | .ethLinkLoss _ _ => true
  | .ethBackoffExpiry _ _ => true
  | .remoteFault _ _ => true
  | .ethFrameRx _ _ frame _ => frame.dst < 2 ^ 48 && frame.line.lanes.length ≤ 4
  | .pauseExpiry _ _ _ => true
  | .ethFrameTx _ _ _ held _ _ => held.length ≤ 8
  | .txUnderrun _ _ _ => true
  | .hqEnable _ _ _ _ => true
  | .hqDisable _ _ _ _ => true
  | .hqTxDescriptor _ _ frame => frame.host
  | .cntSnap _ _ _ => true
  | .vtgFrameStart _ _ _ => true
  | .rxLinePlay _ _ _ _ _ => true
  | .videoPathTimeout _ _ _ => true
  | .skewOverClear _ _ => true
  | .videoPacketTx _ _ _ => true
  | .ancPacketTx _ _ _ => true
  | .domAdjWrite _ _ _ _ => true
  | .domStepWrite _ _ _ _ => true
  | .domStepApply _ _ => true
  | .servoMeasurement _ _ _ _ _ _ => true
  | .servoSyncTimeout _ _ => true
  | .mtSlewDone _ => true
  | .ppsOutEdge _ => true
  | .ppsInEdge _ _ => true
  | .timeCap _ _ => true
  | .stcLiveLoRead _ _ => true
  | .mtOffLoRead _ _ => true
  | .refpInEdge _ _ _ => true
  | .refActivityTimeout _ _ => true
  | .candFreqUpdate _ _ _ => true
  | .wtrExpiry _ _ => true
  | .holdMinExpiry _ _ => true
  | .dpllLockTimer _ _ => true
  | .dpllUnlockTimer _ _ => true
  | .disagreeClear _ _ => true
  | .refpOutPulse _ _ => true
  | .refoFly _ _ => true
  | .audTableSwap _ => true
  | .meterSnapWrite _ _ => true
  | .meterSnap _ => true
  | .audioFlowTimeout _ _ => true
  | .audioPathTimeout _ _ _ => true
  | .foreignDetect _ _ _ => true
  | .audioPacketTx _ _ _ => true
  | .tdmFrameStart _ _ _ => true
  | .tdmFrameRx _ _ _ _ _ => true
  | .tdmPreDone _ _ => true
  | .tdmPostDone _ _ => true
  | .tdmRestart _ _ _ => true
  | .tdmFifoFault _ _ _ => true
  | .tdmClockStop _ _ _ => true
  | .tdmClockBack _ _ => true
  | .tdmRateMeasure _ _ _ => true
  | .asrcTrack _ a lock => a < 256 && lock.ratio < 2 ^ 32
  | .frameBufferComplete _ _ _ _ _ _ _ => true
  | .gddr6TrainingDone _ _ => true
  | .gddr6Retrain _ => true
  | .edcError _ _ _ => true
  | .pcieReset _ _ => true
  | .pcieReady _ => true
  | .pcieUp _ width speed => (width = 1 || width = 2 || width = 4) && 1 ≤ speed && speed ≤ 4
  | .pcieDown _ => true
  | .bar2Access _ off _ dwords => off.toNat % 4 = 0 && dwords.all (fun d => d.1 < 16)
  | .hifEoi _ _ _ => true
  | .msixUnmask _ _ _ _ => true
  | .spiRead _ addr _ => addr < 0x4000000 && addr % 4 = 0
  | .spiWrite _ addr _ _ => addr < 0x4000000 && addr % 4 = 0
  | .spiStatus _ => true
  | .spiCsRise _ _ _ => true
  | .echo _ _ _ words _ => words.length < 64
  | .getVersions _ _ _ words _ => words.length < 64
  | .getHealth _ _ _ words _ => words.length < 64
  | .cfgRead _ _ _ words _ => words.length < 64
  | .cfgWrite _ _ _ words _ => words.length < 64
  | .calRead _ _ _ words _ => words.length < 64
  | .calWrite _ _ _ words _ => words.length < 64
  | .mbxAbort _ _ => true
  | .mbxResponse _ _ => true
  | .fwHeartbeat _ => true
  | .busGrant _ _ waiting => waiting.all (fun x => x.m < 9 && x.kind < 3)
  | .lockBreak _ _ => true
  | .mreset _ _ _ _ => true
  | .coreWatchdog _ _ _ => true
  | .tamperTrip _ _ => true
  | .nodeDefine _ _ _ _ _ _ => true
  | .nodeInvalidate _ _ _ _ _ _ => true
  | .nodeDelete _ _ _ _ _ _ => true
  | .generate _ _ _ _ _ _ => true
  | .exportKey _ _ _ _ _ _ => true
  | .load _ _ _ _ _ _ => true
  | .derive _ _ _ _ _ _ => true
  | .importKey _ _ _ _ _ _ => true
  | .unwrapKw _ _ _ _ _ _ => true
  | .unload _ _ _ _ _ _ => true
  | .getIdentity _ _ _ _ _ _ => true
  | .attest _ _ _ _ _ _ => true
  | .genIdentity _ _ _ _ _ _ => true
  | .lcAdvance _ _ _ _ _ _ => true
  | .custkeySet _ _ _ _ _ _ => true
  | .revoke _ _ _ _ _ _ => true
  | .tamperConfig _ _ _ _ _ _ => true
  | .dbgChallenge _ _ _ _ _ _ => true
  | .dbgUnlock _ _ _ _ _ _ => true
  | .keyCommandComplete _ => true
  | .powerGood _ _ => true
  | .resetNAssert _ => true
  | .resetNRelease _ _ => true
  | .bootPhaseEnd _ _ _ => true
  | .readyRise _ => true
  | .bootWdExpiry _ => true
  | .openSession _ _ _ _ _ => true
  | .close _ _ _ _ _ => true
  | .stageBegin _ _ _ _ _ => true
  | .stageData _ _ _ _ _ => true
  | .stageEnd _ _ _ _ _ => true
  | .activate _ _ _ _ _ => true
  | .revertNext _ _ _ _ _ => true
  | .manifestBegin _ _ _ _ _ => true
  | .manifestActivate _ _ _ _ _ => true
  | .confirm _ _ _ _ _ => true
  | .updCommandComplete _ _ => true
  | .updSessionTimeout _ => true
  | .faultInjFire _ _ _ _ => true
  | .softReset _ _ _ => true
  | .softResetExecute _ => true
  | .eventRecordWrite _ => true
  | .evrWinRead _ _ => true
  | .evrWinLastRead _ _ => true
  | .evrClrArm _ _ => true
  | .evrClrClear _ _ => true
  | .evrArmLapse _ => true
  | .bbxEntryWrite _ _ => true
  | .bbxHealth _ => true
  | .bbxRead _ _ _ _ _ => true
  | .eraseChallenge _ _ _ _ _ => true
  | .erase _ _ _ _ _ => true
  | .snapshot _ _ _ _ _ => true
  | .bbxCommandComplete _ _ => true
  | .powerCycle _ _ => true
  | .railFault _ => true
  | .vddioLow _ => true
  | .sysclkStop _ => true
  | .overTemperature _ temp => 1100 ≤ temp
  | .fillBlock _ _ _ _ => true
  | .rxReady _ _ => true
  | .remoteFaultCleared _ _ => true
  | .announceReceiptTimeout _ _ => true
  | .ppsOutPulseEnd _ => true
  | .refpOutPulseEnd _ _ => true
  | .overTemperatureClear _ _ => true
  | .tapInstructionLoad _ _ => true

/-- A well-formed command. -/
abbrev Instr.WellFormed (i : Instr) : Prop := i.wf = true

end Sys2Proof
end

