-- ==== Sys2Proof/Tests/Slice0.lean ====
section
/-! SUPPORT. The model's own tests: ill-formed commands are refused, and states that meet the hypotheses of the statements.
Expected values come from the spec's tables and rules. -/

namespace Sys2Proof.Tests

open Machine

set_option Elab.async false

/-! ### Ill-formed commands are refused -/

theorem test_wf_registerWrite : (Instr.registerWrite 0 .pcie 0x4000000 15 0 ⟨true, true⟩).wf = false ∧
    (Instr.registerWrite 0 .pcie 0 16 0 ⟨true, true⟩).wf = false ∧
    (Instr.registerWrite 0 .pcie 0x3FFFFFC 15 0 ⟨true, true⟩).wf = true := by decide

theorem test_wf_routeEntryApply : (Instr.routeEntryApply 0 .aud).wf = false ∧ (Instr.routeEntryApply 0 (.xbp 3)).wf = true := by
  decide

theorem test_wf_adaptWindow : (Instr.adaptWindow 0 3 1025).wf = false ∧ (Instr.adaptWindow 0 3 1024).wf = true := by decide

theorem test_wf_prbsLockLost : (Instr.prbsLockLost 0 3 5 6).wf = false := by decide

theorem test_wf_laneBitCntLoRead : (Instr.laneBitCntLoRead 0 .pcie 3 5 6).wf = false := by decide

theorem test_wf_brace : (Instr.braceTickMessage 0 3 ⟨2, []⟩).wf = false ∧ (Instr.braceFrameRecord 0 3 ⟨1, []⟩).wf = false ∧
    (Instr.braceFullRecord 0 3 ⟨1, []⟩).wf = false ∧ (Instr.braceRecordSend 0 true 5).wf = false := by decide

theorem test_wf_asrcTrack : (Instr.asrcTrack 0 256 ⟨0x01000000, 0, 0⟩).wf = false ∧
    (Instr.asrcTrack 0 255 ⟨0x01000000, 0, 0⟩).wf = true := by decide

theorem test_wf_deembAudioPacket : (Instr.deembAudioPacket 0 3 1 [(4, 0)] true).wf = false := by decide

theorem test_wf_ethTrainComplete : (Instr.ethTrainComplete 0 3 (List.replicate 5 (1, 2, 3))).wf = false := by decide

theorem test_wf_ethFrameTx : (Instr.ethFrameTx 0 3 0 (List.replicate 9 0) none true).wf = false := by decide

theorem test_wf_pcieUp : (Instr.pcieUp 0 3 1).wf = false ∧ (Instr.pcieUp 0 4 5).wf = false ∧
    (Instr.pcieUp 0 4 4).wf = true := by decide

theorem test_wf_bar2Access : (Instr.bar2Access 0 1 true []).wf = false ∧
    (Instr.bar2Access 0 4 true [(16, 0)]).wf = false := by decide

theorem test_wf_spi : (Instr.spiRead 0 2 1).wf = false ∧ (Instr.spiWrite 0 0x4000000 [] ⟨true, true⟩).wf = false := by decide

theorem test_wf_mailbox : ([Instr.echo 0 0 0 (List.replicate 64 0) ⟨true, true⟩, .getVersions 0 0 0 (List.replicate 64 0) ⟨true, true⟩,
    .getHealth 0 0 0 (List.replicate 64 0) ⟨true, true⟩, .cfgRead 0 0 0 (List.replicate 64 0) ⟨true, true⟩,
    .cfgWrite 0 0 0 (List.replicate 64 0) ⟨true, true⟩, .calRead 0 0 0 (List.replicate 64 0) ⟨true, true⟩,
    .calWrite 0 0 0 (List.replicate 64 0) ⟨true, true⟩].all (fun i => !i.wf)) = true := by decide

theorem test_wf_busGrant : (Instr.busGrant 0 1 [⟨9, 0, 0⟩]).wf = false ∧ (Instr.busGrant 0 1 [⟨8, 0, 3⟩]).wf = false := by
  decide

theorem test_wf_overTemperature : (Instr.overTemperature 0 1099).wf = false ∧ (Instr.overTemperature 0 1100).wf = true := by
  decide

theorem test_no_word_spells_a_command : decodeTableWord 32 0 = none ∧ decodeTableWord 8 255 = none := by decide

/-! ### Values of the spec and of the published functions it names -/

/-- The header bytes of Table 3.4 carry the CHECK bits of R69. -/
theorem test_header_checks : headerBytes.all (fun h => h / 16 = headerCheck (h % 16)) = true := by decide

/-- Addresses of Table 14.1. -/
theorem test_page_addresses : pageOf 0x480 = some (.lane 1024) ∧ (Page.lane 65).base = 0x01101000 ∧
    (Page.eth 4).base = 0x01142000 ∧ pageOf 0x1144 = some (.eth 5) := by decide

/-- SHA-256 of "abc" (FIPS 180-4). -/
theorem test_sha256_abc : sha256 [0x61, 0x62, 0x63] =
    beBytes 0xba7816bf8f01cfea414140de5dae2223b00361a396177a9cb410ff61f20015ad 32 := by decide +kernel

/-- The examples of FIPS 197, appendix C. -/
theorem test_aes : aesEnc (List.range 16) ((List.range 16).map (· * 17)) = beBytes 0x69c4e0d86a7b0430d8cdb78070b4c55a 16 ∧
    aesDec (List.range 32) (beBytes 0x8ea2b7ca516745bfeafc49904b496089 16) = (List.range 16).map (· * 17) := by decide +kernel

/-- The wrap example of RFC 3394, section 4.1. -/
theorem test_key_unwrap : kwUnwrap (List.range 16) (beBytes 0x1FA68B0A8112B447AEF34BD8FB5A7B829D3E862371D2CFE5 24) =
    some ((List.range 16).map (· * 17)) := by decide +kernel

/-! ### States that meet the hypotheses of the statements -/

/-- The state after reset with edits made one after the other. -/
def wit (l : List (State → State)) : State := l.foldl (fun s f => f s) State.reset

/-- A superframe header with a seed. -/
def goodHeader (seed : Nat) : Nat := braceSeal (seed + 5 * 2 ^ 48 + 3 * 2 ^ 56 + 0x1234 * 2 ^ 104)

/-- A sideband block with a tally, scrambled. -/
def goodSideband (tally scr : Nat) : Nat :=
  let y := 3 * 2 ^ 8 + tally * 2 ^ 16
  (y + crc16 y 240 * 2 ^ 240) ^^^ (scrBits scr 256).1

def witRec : BraceRec :=
  { full := true, vtg := 0, tnum := 5, cmt := 9, crcs := [1, 2, 3], audValid := true, audCrc := 4 }

def witFrame : RxFrame := 
  { len := 64, fcsOk := true, dst := 0, sec := none, etherType := 0x0800, vlan := none, flow := 0, quanta := [], ip := 4,
    proto := 17, icmp := 0, csumOk := true, fragment := false, ipDst := 0, udpDst := 0, upper := 17, ptp := none,
    video := ⟨0, 0, 0, 0, true⟩, anc := ⟨0, 0, 0, []⟩, audio := ⟨0, 0, 0, 0, []⟩, line := ⟨0, 0, 0, [], 0⟩ }

def witTx : TxFrame :=
  { len := 100, cls := 2, dest := 0, vlan := false, flow := 0, eapol := true, ptp := none, bypass := false, host := false, media := none }

/-- Format code 0x38, the reset value of a VTG. -/
def witFormat : Format := ⟨50, 1, 1125, 7, 1, 1920, 1080, false⟩

/-- Frames of 1,125,000 cycles and as many lines as hundred thousandths, whose line 5 begins at cycle 4,000. -/
def witVtg : Vtg := { Vtg.init with start := some 0, period := 1125000, lines := 1125, sw := 5 }

def witRun : TxRun :=
  { ts := 9, sent := 3, total := 9, fmt := 0x38, pm := 0, plen := 1200, black := false, first := true, tf := 0, tro := 0 }

/-- Lane 0 brings a video signal on tenon 0, whose group 5 is de-embedded. -/
def deembState : State :=
  wit [fun s => s.put .upd UPD.BOOT_STAT_PHASE 7, fun s => s.tputLive (TBL.XWP_DEEMB_EN.at 0) 1, fun s => s.tputLive (TBL.XWP_DEEMB_GSET.at 0) 1,
    fun s => s.tputLive (TBL.XWP_SRC_TMAP_V.at2 0 0) 1,
    fun s => s.tputLive (TBL.XWP_DEEMB_GRP_EN.at 0) 2, fun s => s.putLive (.lane 0) LANE.LANE_MODE_RX_MODE 2,
    fun s => s.putLive (.lane 0) LANE.LANE_MODE_WORD_EN 1, fun s => s.put (.lane 0) LANE.LANE_STAT_WORD_LOCK 1,
    fun s => s.modLane 0 (fun l => { l with fill := 0 }), fun s => s.put (.lane 0) LANE.LANE_STAT_DET_SDI 6]

/-- The modulus of an RSA-3072 key, and signatures made with it outside the model. -/
def witModulus : List Nat := beBytes 0xddeec65e4540af2ef920b1e584ac475e34ff1220ab37548613a197296ec402624d629042c93509d535fb09676fcabc3fb8173e43608d72d8b4cca31cf05ccc6149fae3f7d9c5297c955e9ebb8067553c800ddd0ee5c009c863406ec4fd4b6a8cff7a990e0e1ba5ed99dd25c0a024855d5a2a1c06c686909649848416ae5c7dc12499e93dc0fe872bc3bcac1549d44ec9ab4294e0da2164d731f6ad1d2edce590d913bc52f658f566147d5793ba89169dbcf8ce17cdf5d7109751ed7a342c7c31ea03e601262875c8e80a9a76f7853f823bbd4bd30da37ca7301ba626e11c45c16a2be85b8df7dadf6d45273ba3e2e2fc8b67278da657cb608b090d61c665f7f2346d8aa80d35fd657e1615ba261b62c7c4cec3d46be213fb3a267b05ef69ae670b22ce355407e1654c546d133279fcb37e3d6179db80e261fc297f765665e5ad9a5e44b22bde8557c49b806c7d56ad48a39d04bdfeb39f5538cb8e6aa939c29842fa3e8e4c2f1da0939052734e595fd751bc54a87d6dbd4e1413c8cdf451c02b 384

def witHash : List Nat := beBytes 0x6f2c7c8ab81517e02d7d07f843fe400812541f8fc52285f781a3975d97886a44 32

def witUnlockSig : Nat := 0x9df2f9a519e0b8c84575f30ac90c6111988905114b0b237093407e75cb3d3a793a65b3cba66549cce7d01cce57ee2ec4bfa4aa23ee7f9d3be5d47d537837f8568cf1c26dfe9ea3202f5f1c06a996919d17d2f807ac7ffdcd8726130afbef8b170c6d6de013fde5ba34613721bdaa293a3bfa9894983eaf7743ead4f1a33d9a9dd6c2cdc08dad76508ea02640c3ac9ad96dac94fff7f81d2f331393d9dc740c4adc9179cd350f350fb4240bab4832730931ec668fea055cd12f187dd7e6b78c106ecc63928ddcbc68af0347d3b56c36006b1cf3e6c15976fab6073074c1d888baff275a2b6afb18691be92e98fa853fe53a1ea377a1bc87ebc6fe54d3de84e97e1232ef032b6b42d8a564d62f0db874635c0959875d86ff95da11894e8ac45736c1504cfb4dbe39e1d43b60f9bccf87b28366f9112a1da035c2c8392530b1621ab0e270dae1da544611c12f5900173cd3aab242545582cb72da496103ffc54a10d4a490cbe135f0c5bd16aec9e568fc96a21788ffc443ac846892ed3fe68c9825

def witRevokeSig : Nat := 0x934f9a4297fb0a8e84c7fe57cfc0dc7ea9f0fd180d918cbfeee9519ec01fd2911c194b6e8dc5ba2df91ce102831c9b818bb068447f173f8f4c182c3954be50521792686ee93fb88a2c0e1513d4456e595cd0e7b5e1580a13a91618fc84e9b419875bc464489c7200df0b242bb01e6a351ce7474272943cccc7a984860850ca9344bb9849673438046f0f1f121084d8de7a170d739f192b2247f760715efe839d1ae234b903ff06d818a17dbaabf47a6a0f735c436a2117e8435051105902ee97a601fbd61c063c49e0439e7a6f939731230f5542705b6dbe1cecd4e1bab12506621b1541db6ca3bc7ed8301345294f41d1d85def6f132eedc7ef85c7c201f0e621ba7b447626eb383acf98f88b324d100462e11702ceb27608f0d2c8efc09309cd14c03e6a9832556ce58f50e8e92ee6d9c2ef5bc64bb81185ea7b29113314475917251c8f662d4d0dcf248e429f86846b02eb596b5ad58384d5354408905f01b8ccf7ec92b9162ea1b9fbaf9adba54fe92aceec085ffc5569c5c50bb328e5ba

def witEraseSig : Nat := 0xd6a1bfe95e0b2a027fc2cc79b35ac213a479d9ad4a239730e259e5de9459ff156e11d8b021057dc2938481caf18333282eb8388cd182468948f1874032ea759cfb996dd6c049e080b6f175003e9f51c138a7d2f8c6fa4b6511466d5a3a6c1b6611caf13126d0725c7a5857cb4430a938be4f3716d843c587787ea87d5b1b4ee0041f1ff0145b859178b19515e219cf0c1d4d08b7b08235cf3162058bcccf3d41fb2b4d982420a27921ef9c9294a2996fa70fcc10a6a611af12da78ed27f31c930a7be9263b052c46a86d839525f4a499e6c8e09029bb33bb889e3bb024de8e8c819a4f6d1e18ec42ca197683655a4abed0a2c51e128d214af48c42e1855816e8f06adc75018aab8c3051d17a54908b6490c05245b3b5bb9d78142e661cc3cdc5b84e2c9c01af81a0a41f95e80422cc2fb92dad213ab0819d03c14946ab7cf76e4938ada02f28994cec9030a0fc33f653160eeca5ef7aff93fedd6abd4fc9c75064d3903643052d753b60b90417b7a62f2ec1dc5e73fb920b35bf952103d506ee

def witImageSig : Nat := 0x834f7ea2b8b4243458f4999d9628b92738d352c10819ab393c40a3ce335904712e37fc9d09c416a8e50f86e846081a466701231e9aacc28d3ec9df9dfa690dca480ac67d9ebf334362dec30e0a85a5957f365d8ec2ca7d7a8707f2a00245e130a18b50d7923f124a1849683ee381d85f1d0e1499fc18d824739d1a1188ce6fdae1da0c44c0609ffa8c0f23733c4962880917a0598dfe8611b8259f5b33838851baf1d8e8f6f101513e7f3339523faf694a1cb0281f23b9082366a97301bd461b02a9eea482a5027de9c97677d9c9437679579429d854284751a5f1c06d216370c6b34b56ea00c49fe167236a014288944a532cd13788a59b4ba1b66768d6cecd0ac9267842d601ea12a095830ccc8c97cec1bf22b4567555e32fdf5f90867eb056b195a290c5e81c922f3f76ea560060588eb75577ef892af988feafa9399e49bf47ee2057a5c5cf0248634515ecde18775845c451030aa3b026a344a6a61e0f0b893f22cb875d6893a7cfd8e572d01cd2dc5d9547033e3a2b5c9af32f7fddb1

def witManifestSig : Nat := 0x4751fcc08497f8534b29ec8eeaf8eba2f02c130d16b707d88f2eb4f4b096461a51beb359b31f97f1590178fec4c7a1749d08ccee5d421fe323ef163536ef3d84e829dc07922a888f46f0f37c2eac90f93eab8da950a4f6c3c59b989b19efb89497f7c34e0352df4ea7db1ffdc9842b0b55abf13e632e1e9de5abe72624821ddd064ed3237b564a790e38eccb674d906a7133b6b74f4768d131b2880242cc30bdab1982051796ae69415c8e8341e6056e4db8b7e3715b3b4f29e1ed5010014ccc9ca044a75dbc5d85519c0d8a05cd987706dcda15c8321524f99a478698083a1252e5ba62db61475c5eebc362c54dc9b7319746c8f9bcc0d2feddc5cd823c4c6c470b30330b4f5351f19476708a2df59d98dbd9b93b37641c6c67c5d407af0756c2272e068ae39ebc87c3107ec15c8eb8925b1296e81a71d97496c5fbb724f4c2166a536914248f291d9fcbf749d6f4c4c8f8575749ce3ae161f5bcf5b1310891fdea4f2e15b80d585e1a18d3449c4dc7c631c0904c3df574495a901681118ef4

/-- The key is that of key hash slot 0. -/
def witKeyed (s : State) : State := { s with otp := { s.otp with keyHash := [some witHash, none, none, none] } }

/-- Bytes as the words of a buffer whose first word lies at `base`. -/
def bufWords (base : Nat) (l : List Nat) : Tab Word :=
  (List.zip (List.range 256) (chunks 4 256 l)).map (fun e => (base + 4 * e.1, BitVec.ofNat 32 (packBytes e.2)))

/-- The registers below the buffer at `base` stay, and the buffer holds the bytes. -/
def withBuf (s : State) (base : Nat) (l : List Nat) : State :=
  { s with sh := s.sh.filter (fun e => e.1 < base) ++ bufWords base l ++ s.sh.filter (fun e => base + 0x400 ≤ e.1) }

def witSigner (s : State) (sig : Nat) : State := withBuf (witKeyed s) 0x600C00 (witModulus ++ beBytes sig 384)

def witEraseBuf (s : State) : State := withBuf (witKeyed s) 0x702800 (witModulus ++ beBytes witEraseSig 384)

def witImage : List Nat :=
  [84, 90, 73, 77, 2, 1, 0, 0, 5, 0, 0, 0, 0, 0, 0, 0, 0, 0, 0, 0] ++ beBytes 0xe3b0c44298fc1c149afbf4c8996fb92427ae41e4649b934ca495991b7852b855 32 ++ List.replicate 32 0 ++ [0, 4, 0xA0] ++ List.replicate 41 0 ++
    witModulus ++ beBytes witImageSig 384

def witManifest : List Nat :=
  [87, 79, 84, 82, 1, 0, 4, 0, 0, 0, 0, 0, 0, 0, 0, 0] ++ (List.range 4).flatMap (fun i => i :: List.replicate 47 0) ++ List.replicate 48 0 ++ witModulus ++
    beBytes witManifestSig 384

def witHeaderBuf (s : State) : State := withBuf (witKeyed s) 0x700800 witImage

def witManifestBuf (s : State) : State := withBuf (witKeyed s) 0x700800 witManifest

def witChallenge : List Nat := List.replicate 32 7

/-- The header and the wrapped body of a key blob of node 5, wrapped outside the model. -/
def witHeader : List Nat := [90, 75, 1, 2, 5, 0, 7, 0, 181, 162, 121, 208, 9, 0, 0, 0, 136, 119, 102, 85, 68, 51, 34, 17] ++ List.replicate 8 0

def witWrapped : List Nat := 
  [136, 185, 67, 133, 222, 135, 10, 147, 236, 5, 134, 254, 205, 63, 128, 92, 209, 6, 225, 120, 98, 201, 188, 246, 241,
   106, 196, 4] ++
  [66, 64, 122, 231, 221, 101, 29, 18, 25, 73, 102, 219, 116, 52, 238, 219, 3, 61, 187, 82, 127, 116, 119, 19, 62, 165,
   252, 89]

def witBlob (s : State) : State := withBuf s 0x600C00 (witHeader ++ witWrapped)

def witKw : List Nat := 
  [207, 171, 110, 178, 182, 102, 85, 137, 157, 33, 200, 149, 238, 38, 25, 23, 53, 125, 73, 253, 213, 166, 29, 95]

theorem witness_RegisterWritesActByFieldType :
    (∃ (s : State) (t : Nat) (m : Master) (addr : Nat) (p : Page), s.boot.hold = 0 ∧ s.owesError m = false ∧ s.denied
      m true addr 15 = none ∧ 0x02000000 ≤ addr ∧ ownerOf addr = some p ∧ s.busy.contains p = false ∧ (s.begin
      t).locked p = false) ∧
    (∃ (s : State) (t : Nat) (m : Master) (addr : Nat) (p : Page), s.boot.hold = 0 ∧ s.owesError m = false ∧ s.denied
      m true addr 15 = none ∧ ownerOf addr = some p ∧ plainPage p = true ∧ (0x02000000 ≤ addr ∨ 0x040 ≤ addr % 4096) ∧
      (diagOf p).all (fun d => d.1 != addr % 4096) = true ∧ logWords p (addr % 4096) = [] ∧ s.busy.contains p = false
      ∧ (s.begin t).locked p = true ∧ rwsMask addr ≠ 0) ∧
    (∃ (s : State) (t : Nat) (m : Master) (addr : Nat) (p : Page), s.boot.hold = 0 ∧ s.owesError m = false ∧ s.denied
      m true addr 15 = none ∧ addr < 0x02000000 ∧ 0x040 ≤ addr % 4096 ∧ inMsix addr = false ∧ ownerOf addr = some p ∧
      plainPage p = true ∧ (diagOf p).all (fun d => d.1 != addr % 4096) = true ∧ logWords p (addr % 4096) = [] ∧
      s.busy.contains p = false ∧ (s.begin t).locked p = false) ∧
    (∃ (s : State) (m : Master) (addr : Nat), s.boot.hold = 0 ∧ s.owesError m = false ∧ s.denied m true addr 15 = none
      ∧ inMsix addr = true) ∧
    (∃ (s : State) (m : Master) (addr : Nat) (value : Word) (p : Page), s.boot.hold = 0 ∧ s.owesError m = false ∧
      s.denied m true addr 15 = none ∧ inMsix addr = false ∧ addr < 0x02000000 ∧ pageOf (addr / 4096) = some p ∧ addr
      % 4096 = 0x028 ∧ bits value.toNat 31 1 = 1 ∧ bits value.toNat 0 2 = 1) ∧
    (∃ (s : State) (m : Master) (addr : Nat) (value : Word) (p : Page), s.boot.hold = 0 ∧ s.owesError m = false ∧
      s.denied m true addr 15 = none ∧ inMsix addr = false ∧ addr < 0x02000000 ∧ pageOf (addr / 4096) = some p ∧ addr
      % 4096 = 0x028 ∧ bits value.toNat 31 1 = 1 ∧ bits value.toNat 0 2 = 2) ∧
    (∃ (s : State) (m : Master) (addr : Nat) (value : Word) (p : Page), s.boot.hold = 0 ∧ s.owesError m = false ∧
      s.denied m true addr 15 = none ∧ inMsix addr = false ∧ addr < 0x02000000 ∧ pageOf (addr / 4096) = some p ∧ addr
      % 4096 = 0x028 ∧ bits value.toNat 31 1 = 1 ∧ bits value.toNat 0 2 = 3) :=
  ⟨
    by refine ⟨wit [fun s => s.put .upd UPD.BOOT_STAT_PHASE 7], 7, .pcie, 0x02000008, .xbp, ?_⟩; decide +kernel,
    by refine ⟨wit [fun s => s.put .upd UPD.BOOT_STAT_PHASE 7, fun s => s.setArm ⟨.tick, 0, 0x20, 1, none, 3, none,
        false, []⟩], 7, .pcie, 0x1044, .tick, ?_⟩; decide +kernel,
    by refine ⟨wit [fun s => s.put .upd UPD.BOOT_STAT_PHASE 7, fun s => s.put .tick TICK.STC_FIRED_FIRED 0xFF], 7,
        .pcie, 0x1048, .tick, ?_⟩; decide +kernel,
    by refine ⟨wit [fun s => s.put .upd UPD.BOOT_STAT_PHASE 7], .pcie, 0x400C, ?_⟩; decide +kernel,
    by refine ⟨wit [fun s => s.put .upd UPD.BOOT_STAT_PHASE 7], .pcie, 0x1028, 0x80000501, .tick, ?_⟩; decide +kernel,
    by refine ⟨wit [fun s => s.put .upd UPD.BOOT_STAT_PHASE 7], .pcie, 0x1028, 0x80000502, .tick, ?_⟩; decide +kernel,
    by refine ⟨wit [fun s => s.put .upd UPD.BOOT_STAT_PHASE 7], .pcie, 0x1028, 0x80000503, .tick, ?_⟩; decide +kernel⟩

theorem witness_DeniedAccessesAreErrors :
    (∃ (s : State) (m : Master) (addr : Nat) (strobes : Nat) (reason : Nat) (target : Nat), s.boot.hold = 0 ∧
      s.owesError m = false ∧ s.denied m true addr strobes = some (reason, target)) ∧
    (∃ (s : State) (m : Master), s.boot.hold = 0 ∧ s.owesError m = true) :=
  ⟨
    by refine ⟨wit [fun s => s.put .upd UPD.BOOT_STAT_PHASE 7, fun s =>
        { s with otp := { s.otp with lc := 2, debugLock := true } }], .debug, 0x1044, 15, 2, 0, ?_⟩; decide +kernel,
    by refine ⟨wit [fun s => s.put .upd UPD.BOOT_STAT_PHASE 7, fun s =>
        { s with bus := { s.bus with errNext := [6] } }], .efner, ?_⟩; decide +kernel⟩

theorem witness_DiagClearZeroesItsCounters :
    (∃ (s : State) (m : Master) (page : Page) (d : Nat × List (Nat × Nat)) (r : Nat × Nat) (a : Nat), diagOf page =
      some d ∧ page ≠ .hif ∧ s.takes m page d.1 ∧ r ∈ d.2 ∧ r.1 ≤ a ∧ a < r.2) ∧
    (∃ (s : State) (m : Master), s.takes m .glb 0x640 ∧ s.busy.contains .glb = false) :=
  ⟨
    by refine ⟨wit [fun s => s.put .upd UPD.BOOT_STAT_PHASE 7, fun s => s.put (.vtg 5) VTG.REALIGN_CNT 77], .pcie,
        .vtg 5, (0x1FC, [(0x10C, 0x110)]), (0x10C, 0x110), 0x10C, ?_⟩; decide +kernel,
    by refine ⟨wit [fun s => s.put .upd UPD.BOOT_STAT_PHASE 7, fun s => s.setPool 10 7 ⟨9, 4, 5⟩], .pcie, ?_⟩; decide
        +kernel⟩

theorem witness_ArmsLatchLockAndWithdraw :
    (∃ (s : State) (t : Nat) (m : Master) (page : Page) (value : Word), s.takes m page 0x020 ∧ s.busy.contains page =
      false ∧ s.armOf page = none ∧ (s.begin t).justFreed page = none ∧ s.grpBusy (s.get page HDR.COMMIT_GROUP) =
      false ∧ s.grpBusy (bits value.toNat 23 6) = false ∧ uncheckedPage page = true ∧ bits value.toNat 29 1 = 0 ∧ page
      ≠ .tick ∧ bits value.toNat 16 6 < 0x28 ∧ s.selOk (bits value.toNat 16 6) = true) ∧
    (∃ (s : State) (t : Nat) (m : Master) (value : Word), s.takes m .tick 0x020 ∧ s.busy.contains .tick = false ∧
      s.armOf .tick = none ∧ (s.begin t).justFreed .tick = none ∧ s.grpBusy (s.get .tick HDR.COMMIT_GROUP) = false ∧
      s.grpBusy (bits value.toNat 23 6) = false ∧ bits value.toNat 29 1 = 0) ∧
    (∃ (s : State) (t : Nat) (m : Master) (page : Page) (value : Word), s.takes m page 0x020 ∧ s.busy.contains page =
      false ∧ s.armOf page = none ∧ (s.begin t).justFreed page = none ∧ s.grpBusy (s.get page HDR.COMMIT_GROUP) =
      false ∧ s.grpBusy (bits value.toNat 23 6) = false ∧ uncheckedPage page = true ∧ bits value.toNat 29 1 = 0 ∧ page
      ≠ .tick ∧ s.selOk (bits value.toNat 16 6) = false) ∧
    (∃ (s : State) (m : Master) (page : Page) (a : Arm), s.takes m page 0x020 ∧ s.busy.contains page = false ∧ s.armOf
      page = some a ∧ a.grp = none ∧ a.draining = false) ∧
    (∃ (s : State) (t : Nat) (m : Master) (page : Page) (value : Word), s.takes m page 0x020 ∧ s.busy.contains page =
      false ∧ s.armOf page = none ∧ (s.begin t).justFreed page = none ∧ s.grpBusy (s.get page HDR.COMMIT_GROUP) =
      false ∧ s.grpBusy (bits value.toNat 23 6) = false) ∧
    (∃ (s : State) (t : Nat) (m : Master) (page : Page) (value : Word), s.takes m page 0x020 ∧ s.busy.contains page =
      false ∧ s.armOf page = none ∧ (s.begin t).justFreed page = none ∧ bits value.toNat 29 1 = 1 ∧ s.get page
      HDR.COMMIT_GRP_JOIN = 0 ∧ s.grpBusy (bits value.toNat 23 6) = true) ∧
    (∃ (s : State) (m : Master) (g : Fin 64) (value : Word), s.takes m .glb (0x400 + 4 * g.val) ∧ s.grpOf g.val = none
      ∧ (∀ p ∈ s.membersOf g.val, uncheckedPage p = true) ∧ bits value.toNat 16 6 < 0x28 ∧ s.selOk (bits value.toNat
      16 6) = true) ∧
    (∃ (s : State) (m : Master) (g : Fin 64) (value : Word), s.takes m .glb (0x400 + 4 * g.val) ∧ s.grpOf g.val = none
      ∧ (∀ p ∈ s.membersOf g.val, uncheckedPage p = true) ∧ s.selOk (bits value.toNat 16 6) = false) :=
  ⟨
    by refine ⟨wit [fun s => s.put .upd UPD.BOOT_STAT_PHASE 7], 7, .pcie, .gmc, 0x80203007, ?_⟩; decide +kernel,
    by refine ⟨wit [fun s => s.put .upd UPD.BOOT_STAT_PHASE 7], 7, .pcie, 0x80203007, ?_⟩; decide +kernel,
    by refine ⟨wit [fun s => s.put .upd UPD.BOOT_STAT_PHASE 7], 7, .pcie, .gmc, 0x80003007, ?_⟩; decide +kernel,
    by refine ⟨wit [fun s => s.put .upd UPD.BOOT_STAT_PHASE 7, fun s => s.setArm ⟨.gmc, 0, 0x20, 1, none, 3, none,
        false, []⟩], .pcie, .gmc, ⟨.gmc, 0, 0x20, 1, none, 3, none, false, []⟩, ?_⟩; decide +kernel,
    by refine ⟨wit [fun s => s.put .upd UPD.BOOT_STAT_PHASE 7], 7, .pcie, .lane 1031, 0xFFFFFFFF, ?_⟩; decide +kernel,
    by refine ⟨wit [fun s => s.put .upd UPD.BOOT_STAT_PHASE 7, fun s => s.setGrp 5 ⟨0, 0x20, 1, none, 3, false, []⟩],
        7, .pcie, .gmc, 0x22800000, ?_⟩; decide +kernel,
    by refine ⟨wit [fun s => s.put .upd UPD.BOOT_STAT_PHASE 7, fun s => s.put .gmc HDR.COMMIT_GRP_JOIN 1], .pcie, 0,
        0x80203007, ?_⟩; decide +kernel,
    by refine ⟨wit [fun s => s.put .upd UPD.BOOT_STAT_PHASE 7, fun s => s.put .gmc HDR.COMMIT_GRP_JOIN 1], .pcie, 0,
        0x80013007, ?_⟩; decide +kernel⟩

theorem witness_FiresMakeTheShadowLive :
    (∃ (s : State) (t : Nat) (page : Page) (a : Arm), s.boot.hold = 0 ∧ s.armsKeyed ∧ quietPage page = true ∧ s.armOf
      page = some a ∧ a.grp = none ∧ (∀ e ∈ s.groups, page ∉ e.2.members) ∧ a.draining = false ∧ a.left = 1 ∧ a.smp =
      none ∧ a.at_ + guard a.sel ≤ max s.now t ∧ (a.sel ≤ 0x20 ∨ 0x28 ≤ a.sel)) ∧
    (∃ (s : State) (t : Nat) (g : Fin 64) (x : Grp), s.boot.hold = 0 ∧ s.armsKeyed ∧ s.grpOf g.val = some x ∧ (∀ p ∈
      x.members, quietPage p = true) ∧ (∀ e ∈ s.arms, e.2.grp = some g.val → e.2.page ∈ x.members ∧ e.2.draining =
      false ∧ e.2.waits = []) ∧ (∀ p ∈ x.members, (s.armOf p).any (fun a => a.grp == some g.val) = true) ∧ (∀ e ∈
      s.groups, e.1 ≠ g.val → ∀ p ∈ x.members, p ∉ e.2.members) ∧ x.draining = false ∧ x.left = 1 ∧ x.smp = none ∧
      x.at_ + guard x.sel ≤ max s.now t ∧ (x.sel ≤ 0x20 ∨ 0x28 ≤ x.sel)) ∧
    (∃ (s : State) (entry : Entry) (a : Nat), s.boot.hold = 0 ∧ entry ≠ .aud ∧ s.waitsFor entry (fun _ => true) = true
      ∧ a ∈ entryWords entry) ∧
    (∃ (s : State) (t : Nat) (x : Nat), s.boot.hold = 0 ∧ (s.begin t).smpDue = true ∧ s.waitsFor .aud (fun c => c.any
      (fun d => d ≤ max s.now t)) = true ∧ ((0x02050000 ≤ x ∧ x < 0x020B8000) ∨ inPage .aud x = true)) :=
  ⟨
    by refine ⟨wit [fun s => s.put .upd UPD.BOOT_STAT_PHASE 7, fun s => s.setArm ⟨.gmc, 0, 0x20, 1, none, 3, none,
        false, []⟩, fun s => s.setWord 0x500004 0], 5000, .gmc, ⟨.gmc, 0, 0x20, 1, none, 3, none, false, []⟩, ?_⟩;
        decide +kernel,
    by refine ⟨wit [fun s => s.put .upd UPD.BOOT_STAT_PHASE 7, fun s => s.setArm ⟨.gmc, 0, 0x20, 1, none, 3, some 5,
        false, []⟩, fun s => s.setGrp 5 ⟨0, 0x20, 1, none, 3, false, [.gmc]⟩, fun s => s.setWord 0x500004 0], 5000, 5,
        ⟨0, 0x20, 1, none, 3, false, [.gmc]⟩, ?_⟩; decide +kernel,
    by refine ⟨wit [fun s => s.put .upd UPD.BOOT_STAT_PHASE 7, fun s => s.setArm ⟨.xbp, 0, 0x20, 1, none, 3, none,
        true, [(.xbp 7, none)]⟩, fun s => s.tput (TBL.XBP_ROUTE_SRC.at 7) 9], .xbp 7, 0x0200001C, ?_⟩; decide +kernel,
    by refine ⟨wit [fun s => s.put .upd UPD.BOOT_STAT_PHASE 7, fun s => s.setArm ⟨.aud, 0, 0x20, 1, none, 3, none,
        true, [(.aud, some 0)]⟩, fun s => s.setWord 0x02050000 9], 74250, 0x02050000, ?_⟩; decide +kernel⟩

theorem witness_TicksAdvanceTheirCounters :
    (∃ (s : State) (t : Nat), s.boot.hold = 0 ∧ (s.begin t).smpDue = true) ∧
    (∃ (s : State) (t : Nat) (v : Fin 32), s.boot.hold = 0 ∧ s.vtgEn v.val = true ∧ s.running (.vtg v) = true ∧
      (s.begin t).frmDue v = true) ∧
    (∃ (s : State) (t : Nat) (k : Fin 8), s.boot.hold = 0 ∧ (s.begin t).stcLive k.val = true ∧ 0 ≤ (s.begin t).stcPast
      k.val) :=
  ⟨
    by refine ⟨wit [fun s => s.put .upd UPD.BOOT_STAT_PHASE 7, fun s => s.put .tick TICK.SMP_COUNT_COUNT 0xFFFFFFFF,
        fun s => { s with aud := { s.aud with outs := [(3, 9)] } }], 74250, ?_⟩; decide +kernel,
    by refine ⟨wit [fun s => s.put .upd UPD.BOOT_STAT_PHASE 7, fun s => s.putLive (.vtg 31) VTG.VTG_CTRL_EN 1, fun s
        => s.setVtg 31 witVtg], 4000, 31, ?_⟩; decide +kernel,
    by refine ⟨wit [fun s => s.put .upd UPD.BOOT_STAT_PHASE 7, fun s => s.putLive .tick (TICK.STC_EN_EN.bit 7) 1],
        1000, 7, ?_⟩; decide +kernel⟩

theorem witness_FuncInitEmptiesAPage :
    (∃ (s : State) (m : Master) (page : Page), s.takes m page 0x004 ∧ s.busy.contains page = false) ∧
    (∃ (s : State) (page : Page), s.boot.hold = 0 ∧ page ∈ s.busy) :=
  ⟨
    by refine ⟨wit [fun s => s.put .upd UPD.BOOT_STAT_PHASE 7, fun s => s.setArm ⟨.gmc, 0, 0x20, 1, none, 3, none,
        false, []⟩], .pcie, .gmc, ?_⟩; decide +kernel,
    by refine ⟨wit [fun s => s.put .upd UPD.BOOT_STAT_PHASE 7, fun s => { s with busy := [.tick] }, fun s => s.setWord
        0x1044 0xFF, fun s => s.setLword 0x1044 0xFF], .tick, ?_⟩; decide +kernel⟩

theorem witness_LaneSignalEventsSetTheirStatus :
    (∃ (s : State) (n : Fin 1032), s.boot.hold = 0 ∧ s.running (.lane n) = true ∧ s.rxMode true n ≠ 0 ∧ s.get (.lane
      n) LANE.LANE_STAT_SIG_DET = 0) ∧
    (∃ (s : State) (n : Fin 1032), s.boot.hold = 0 ∧ s.running (.lane n) = true ∧ s.get (.lane n)
      LANE.LANE_STAT_SIG_DET = 1) ∧
    (∃ (s : State) (n : Fin 1032), s.boot.hold = 0 ∧ s.running (.lane n) = true ∧ s.rxMode true n ≠ 0) ∧
    (∃ (s : State) (n : Fin 1032), s.boot.hold = 0 ∧ s.running (.lane n) = true) :=
  ⟨
    by refine ⟨wit [fun s => s.putLive (.lane 5) LANE.LANE_MODE_RX_MODE 1], 5, ?_⟩; decide +kernel,
    by refine ⟨wit [fun s => s.put (.lane 5) LANE.LANE_STAT_SIG_DET 1], 5, ?_⟩; decide +kernel,
    by refine ⟨wit [fun s => s.putLive (.lane 5) LANE.LANE_MODE_RX_MODE 2], 5, ?_⟩; decide +kernel,
    by refine ⟨wit [fun s => s.putLive (.lane 5) LANE.LANE_MODE_RX_MODE 2, fun s => s.put (.lane 5)
        LANE.LANE_STAT_WORD_LOCK 1], 5, ?_⟩; decide +kernel⟩

theorem witness_SdiReceptionHuntsLocksAndFails :
    (∃ (s : State) (n : Fin 1032) (i : Fin 8), s.boot.hold = 0 ∧ s.running (.lane n) = true ∧ s.rxMode true n = 2 ∧
      s.live (.lane n) LANE.LANE_MODE_RX_SDI < 3 ∧ s.get (.lane n) LANE.LANE_STAT_WORD_LOCK = 0 ∧ (s.lane n).hunt =
      [0xA, 0xB, 0x8, 0x9, 0x6, 0x7, 0x4, 0x5, 0x3].getD i.val 0) ∧
    (∃ (s : State) (n : Fin 1032) (rate : Fin 16), s.boot.hold = 0 ∧ s.running (.lane n) = true ∧ s.rxMode true n = 2
      ∧ s.get (.lane n) LANE.LANE_STAT_WORD_LOCK = 0 ∧ s.get (.lane n) LANE.LANE_STAT_CDR_LOCK = 1 ∧ rate.val =
      (s.lane n).hunt ∧ 3 ≤ rate.val ∧ rate.val ≤ 0xB) ∧
    (∃ (s : State) (n : Fin 1032), s.boot.hold = 0 ∧ s.running (.lane n) = true ∧ s.rxMode true n = 2 ∧ s.get (.lane
      n) LANE.LANE_STAT_WORD_LOCK = 1) ∧
    (∃ (s : State) (n : Fin 1032), s.boot.hold = 0 ∧ s.running (.lane n) = true ∧ s.live (.lane n)
      LANE.LANE_MODE_WORD_EN = 1 ∧ 2 ≤ s.rxMode true n ∧ isBrace n = false) :=
  ⟨
    by refine ⟨wit [fun s => s.putLive (.lane 5) LANE.LANE_MODE_RX_MODE 2, fun s => s.modLane 5 (fun l =>
        { l with hunt := 0x3 + 2 })], 5, 7, ?_⟩; decide +kernel,
    by refine ⟨wit [fun s => s.putLive (.lane 5) LANE.LANE_MODE_RX_MODE 2, fun s => s.put (.lane 5)
        LANE.LANE_STAT_CDR_LOCK 1, fun s => s.modLane 5 (fun l => { l with lastRate := 6, hunt := 8 })], 5, 8, ?_⟩;
        decide +kernel,
    by refine ⟨wit [fun s => s.putLive (.lane 5) LANE.LANE_MODE_RX_MODE 2, fun s => s.put (.lane 5)
        LANE.LANE_STAT_WORD_LOCK 1], 5, ?_⟩; decide +kernel,
    by refine ⟨wit [fun s => s.putLive (.lane 5) LANE.LANE_MODE_WORD_EN 1, fun s => s.putLive (.lane 5)
        LANE.LANE_MODE_RX_MODE 2], 5, ?_⟩; decide +kernel⟩

theorem witness_IgnadaBringUpFollowsItsTable :
    (∃ (s : State) (n : Fin 1032), s.boot.hold = 0 ∧ s.running (.lane n) = true ∧ s.rxIgn n = true ∧ s.ign n = 1 ∧
      s.squelched = false) ∧
    (∃ (s : State) (n : Fin 1032), s.boot.hold = 0 ∧ s.running (.lane n) = true ∧ s.rxIgn n = true ∧ s.ign n = 2 ∧
      (s.lane n).rxReady = true ∧ 8 ≤ (s.lane n).readyRun) ∧
    (∃ (s : State) (n : Fin 1032), s.boot.hold = 0 ∧ s.running (.lane n) = true ∧ s.rxIgn n = true ∧ (s.ign n = 2 ∨
      s.ign n = 3) ∧ s.get (.lane n) LANE.LANE_STAT_ATTEMPT < 7) ∧
    (∃ (s : State) (n : Fin 1032), s.boot.hold = 0 ∧ s.running (.lane n) = true ∧ s.rxIgn n = true ∧ (s.ign n = 2 ∨
      s.ign n = 3) ∧ s.get (.lane n) LANE.LANE_STAT_ATTEMPT = 7) ∧
    (∃ (s : State) (t : Nat) (n : Fin 1032), s.boot.hold = 0 ∧ s.running (.lane n) = true ∧ s.rxIgn n = true ∧
      s.squelched = false ∧ (s.ign n = 1 ∨ s.ign n = 2 ∨ s.ign n = 3) ∧ (s.lane n).attemptAt + 118800000 ≤ max s.now t
      ∧ s.get (.lane n) LANE.LANE_STAT_ATTEMPT < 7) ∧
    (∃ (s : State) (t : Nat) (n : Fin 1032), s.boot.hold = 0 ∧ s.running (.lane n) = true ∧ s.rxIgn n = true ∧
      s.squelched = false ∧ (s.ign n = 1 ∨ s.ign n = 2 ∨ s.ign n = 3) ∧ (s.lane n).attemptAt + 118800000 ≤ max s.now t
      ∧ s.get (.lane n) LANE.LANE_STAT_ATTEMPT = 7) ∧
    (∃ (s : State) (t : Nat) (n : Fin 1032), s.boot.hold = 0 ∧ s.running (.lane n) = true ∧ s.rxIgn n = true ∧ s.ign n
      = 2 ∧ (s.lane n).trainAt + 71280000 ≤ max s.now t ∧ s.get (.lane n) LANE.LANE_STAT_ATTEMPT < 7) ∧
    (∃ (s : State) (t : Nat) (n : Fin 1032), s.boot.hold = 0 ∧ s.running (.lane n) = true ∧ s.rxIgn n = true ∧ s.ign n
      = 2 ∧ (s.lane n).trainAt + 71280000 ≤ max s.now t ∧ s.get (.lane n) LANE.LANE_STAT_ATTEMPT = 7) ∧
    (∃ (s : State) (n : Fin 1032), s.boot.hold = 0 ∧ s.running (.lane n) = true ∧ s.rxIgn n = true ∧ (s.ign n = 4 ∨
      s.ign n = 7)) :=
  ⟨
    by refine ⟨wit [fun s => s.putLive (.lane 5) LANE.LANE_MODE_RX_MODE 3, fun s => s.put (.lane 5)
        LANE.LANE_STAT_IGN_STATE 1, fun s => s.put .upd UPD.BOOT_STAT_PHASE 7], 5, ?_⟩; decide +kernel,
    by refine ⟨wit [fun s => s.putLive (.lane 5) LANE.LANE_MODE_RX_MODE 3, fun s => s.put (.lane 5)
        LANE.LANE_STAT_IGN_STATE 2, fun s => s.modLane 5 (fun l => { l with rxReady := true, readyRun := 8 })], 5,
        ?_⟩; decide +kernel,
    by refine ⟨wit [fun s => s.putLive (.lane 5) LANE.LANE_MODE_RX_MODE 3, fun s => s.put (.lane 5)
        LANE.LANE_STAT_IGN_STATE 3], 5, ?_⟩; decide +kernel,
    by refine ⟨wit [fun s => s.putLive (.lane 5) LANE.LANE_MODE_RX_MODE 3, fun s => s.put (.lane 5)
        LANE.LANE_STAT_IGN_STATE 3, fun s => s.put (.lane 5) LANE.LANE_STAT_ATTEMPT 7], 5, ?_⟩; decide +kernel,
    by refine ⟨wit [fun s => s.putLive (.lane 5) LANE.LANE_MODE_RX_MODE 3, fun s => s.put (.lane 5)
        LANE.LANE_STAT_IGN_STATE 1, fun s => s.put .upd UPD.BOOT_STAT_PHASE 7], 118800000, 5, ?_⟩; decide +kernel,
    by refine ⟨wit [fun s => s.putLive (.lane 5) LANE.LANE_MODE_RX_MODE 3, fun s => s.put (.lane 5)
        LANE.LANE_STAT_IGN_STATE 1, fun s => s.put (.lane 5) LANE.LANE_STAT_ATTEMPT 7, fun s => s.put .upd
        UPD.BOOT_STAT_PHASE 7], 118800000, 5, ?_⟩; decide +kernel,
    by refine ⟨wit [fun s => s.putLive (.lane 5) LANE.LANE_MODE_RX_MODE 3, fun s => s.put (.lane 5)
        LANE.LANE_STAT_IGN_STATE 2], 118800000, 5, ?_⟩; decide +kernel,
    by refine ⟨wit [fun s => s.putLive (.lane 5) LANE.LANE_MODE_RX_MODE 3, fun s => s.put (.lane 5)
        LANE.LANE_STAT_IGN_STATE 2, fun s => s.put (.lane 5) LANE.LANE_STAT_ATTEMPT 7], 118800000, 5, ?_⟩; decide
        +kernel,
    by refine ⟨wit [fun s => s.putLive (.lane 5) LANE.LANE_MODE_RX_MODE 3, fun s => s.put (.lane 5)
        LANE.LANE_STAT_IGN_STATE 4], 5, ?_⟩; decide +kernel⟩

theorem witness_IgnadaBringUpFollowsItsTable_part2 :
    (∃ (s : State) (t : Nat) (n : Fin 1032), s.boot.hold = 0 ∧ s.running (.lane n) = true ∧ s.rxIgn n = true ∧ s.ign n
      = 5 ∧ (s.lane n).ignAt + backoffMs (s.get (.lane n) LANE.LANE_STAT_ATTEMPT) * 1188000 ≤ max s.now t) ∧
    (∃ (s : State) (t : Nat) (n : Fin 1032), s.boot.hold = 0 ∧ s.running (.lane n) = true ∧ s.rxIgn n = true ∧ s.ign n
      = 6 ∧ (s.lane n).ignAt + 1188000 ≤ max s.now t) ∧
    (∃ (s : State) (t : Nat) (n : Fin 1032), s.boot.hold = 0 ∧ s.running (.lane n) = true ∧ s.rxIgn n = true ∧ s.ign n
      = 7 ∧ (s.lane n).ignAt + 11880000 ≤ max s.now t) ∧
    (∃ (s : State) (n : Fin 1032), s.boot.hold = 0 ∧ s.running (.lane n) = true ∧ s.rxIgn n = true ∧ s.ign n = 4) ∧
    (∃ (s : State) (n : Fin 1032), s.boot.hold = 0 ∧ s.running (.lane n) = true ∧ s.rxIgn n = true ∧ s.ign n = 2) ∧
    (∃ (s : State) (m : Master) (n : Fin 1032), s.takes m (.lane n) 0x180 ∧ s.rxIgn n = true ∧ s.ign n ≠ 0) :=
  ⟨
    by refine ⟨wit [fun s => s.putLive (.lane 5) LANE.LANE_MODE_RX_MODE 3, fun s => s.put (.lane 5)
        LANE.LANE_STAT_IGN_STATE 5, fun s => s.put (.lane 5) LANE.LANE_STAT_ATTEMPT 3], 475200000, 5, ?_⟩; decide
        +kernel,
    by refine ⟨wit [fun s => s.putLive (.lane 5) LANE.LANE_MODE_RX_MODE 3, fun s => s.put (.lane 5)
        LANE.LANE_STAT_IGN_STATE 6, fun s => s.put (.lane 5) LANE.LANE_STAT_NO_PARTNER 1], 1188000, 5, ?_⟩; decide
        +kernel,
    by refine ⟨wit [fun s => s.putLive (.lane 5) LANE.LANE_MODE_RX_MODE 3, fun s => s.put (.lane 5)
        LANE.LANE_STAT_IGN_STATE 7], 11880000, 5, ?_⟩; decide +kernel,
    by refine ⟨wit [fun s => s.putLive (.lane 5) LANE.LANE_MODE_RX_MODE 3, fun s => s.put (.lane 5)
        LANE.LANE_STAT_IGN_STATE 4], 5, ?_⟩; decide +kernel,
    by refine ⟨wit [fun s => s.putLive (.lane 5) LANE.LANE_MODE_RX_MODE 3, fun s => s.put (.lane 5)
        LANE.LANE_STAT_IGN_STATE 2], 5, ?_⟩; decide +kernel,
    by refine ⟨wit [fun s => s.putLive (.lane 5) LANE.LANE_MODE_RX_MODE 3, fun s => s.put (.lane 5)
        LANE.LANE_STAT_IGN_STATE 5, fun s => s.put (.lane 5) LANE.LANE_STAT_ATTEMPT 3, fun s => s.put .upd
        UPD.BOOT_STAT_PHASE 7], .pcie, 5, ?_⟩; decide +kernel⟩

theorem witness_IgnadaBlocksActByTheirType :
    (∃ (s : State) (n : Fin 1032) (payload : LineBlock), s.boot.hold = 0 ∧ s.running (.lane n) = true ∧ s.rxIgn n =
      true ∧ (s.ign n = 3 ∨ s.ign n = 4 ∨ s.ign n = 7) ∧ crc32 payload.bits.toNat 224 = bits payload.bits.toNat 224 32
      ∧ bits payload.bits.toNat 0 31 ≠ 0) ∧
    (∃ (s : State) (n : Fin 1032) (ten : Fin 8), s.boot.hold = 0 ∧ s.running (.lane n) = true ∧ s.rxIgn n = true ∧
      isBrace n = false ∧ s.ign n = 4 ∧ s.live (.lane n) LANE.LANE_MODE_WORD_EN = 1 ∧ ten.val < s.live (.lane n)
      LANE.LANE_MODE_RX_IGN_TEN ∧ ((s.lane n).tens.getD ten.val ⟨false, 0, 0, 0⟩).aligned = true ∧ (s.lane n).pos <
      1023 ∧ bitAt (s.lane n).fill ten.val = 0 ∧ ((s.lane n).hdrWin.filter id).length < 32) ∧
    (∃ (s : State) (n : Fin 1032) (hdr : Byte), s.boot.hold = 0 ∧ s.running (.lane n) = true ∧ s.rxIgn n = true ∧
      s.ign n ≠ 0 ∧ headerType hdr.toNat = none) ∧
    (∃ (s : State) (n : Fin 1032) (payload : SideBlock), s.boot.hold = 0 ∧ s.running (.lane n) = true ∧ s.rxIgn n =
      true ∧ (s.ign n = 3 ∨ s.ign n = 4 ∨ s.ign n = 7) ∧ isBrace n = false ∧ crc16 (payload.bits.toNat ^^^ (scrBits
      (s.lane n).scr 256).1) 240 = bits (payload.bits.toNat ^^^ (scrBits (s.lane n).scr 256).1) 240 16) ∧
    (∃ (s : State) (n : Fin 1032), s.boot.hold = 0 ∧ s.running (.lane n) = true ∧ s.rxIgn n = true ∧ s.ign n = 2) ∧
    (∃ (s : State) (n : Fin 1032), s.boot.hold = 0 ∧ s.running (.lane n) = true ∧ s.rxIgn n = true ∧ (s.ign n = 3 ∨
      s.ign n = 4 ∨ s.ign n = 7)) :=
  ⟨
    by refine ⟨wit [fun s => s.putLive (.lane 5) LANE.LANE_MODE_RX_MODE 3, fun s => s.put (.lane 5)
        LANE.LANE_STAT_IGN_STATE 3, fun s => s.modLane 5 (fun l =>
        { l with sfSeen := 1, pos := 1023, hdrRun := 63 })], 5, ⟨BitVec.ofNat 256 (goodHeader 12345), []⟩, ?_⟩; decide
        +kernel,
    by refine ⟨wit [fun s => s.putLive (.lane 5) LANE.LANE_MODE_RX_MODE 3, fun s => s.put (.lane 5)
        LANE.LANE_STAT_IGN_STATE 4, fun s => s.putLive (.lane 5) LANE.LANE_MODE_WORD_EN 1, fun s => s.putLive (.lane
        5) LANE.LANE_MODE_RX_IGN_TEN 4, fun s => s.modLane 5 (fun l =>
        { l with tens := List.replicate 8 ⟨true, 0, 0, 0⟩, scr := 77, fill := 0 })], 5, 3, ?_⟩; decide +kernel,
    by refine ⟨wit [fun s => s.putLive (.lane 5) LANE.LANE_MODE_RX_MODE 3, fun s => s.put (.lane 5)
        LANE.LANE_STAT_IGN_STATE 4, fun s => s.modLane 5 (fun l => { l with fill := 0 })], 5, 0xFF, ?_⟩; decide
        +kernel,
    by refine ⟨wit [fun s => s.putLive (.lane 5) LANE.LANE_MODE_RX_MODE 3, fun s => s.put (.lane 5)
        LANE.LANE_STAT_IGN_STATE 4, fun s => s.modLane 5 (fun l => { l with scr := 77 })], 5, ⟨BitVec.ofNat 256
        (goodSideband 777 77), [], none⟩, ?_⟩; decide +kernel,
    by refine ⟨wit [fun s => s.putLive (.lane 5) LANE.LANE_MODE_RX_MODE 3, fun s => s.put (.lane 5)
        LANE.LANE_STAT_IGN_STATE 2, fun s => s.modLane 5 (fun l => { l with base := (1, 2, 3) })], 5, ?_⟩; decide
        +kernel,
    by refine ⟨wit [fun s => s.putLive (.lane 5) LANE.LANE_MODE_RX_MODE 3, fun s => s.put (.lane 5)
        LANE.LANE_STAT_IGN_STATE 4, fun s => s.modLane 5 (fun l => { l with scr := 5 })], 5, ?_⟩; decide +kernel⟩

theorem witness_LaneTestsCountAndInject :
    (∃ (s : State) (n : Fin 1032) (density : Nat), s.boot.hold = 0 ∧ s.running (.lane n) = true ∧ s.rxMode true n ≠ 0
      ∧ density < 32) ∧
    (∃ (s : State) (m : Master) (n : Fin 1032), s.takes m (.lane n) 0x100 ∧ s.busy.contains (.lane n) = false) ∧
    (∃ (s : State) (m : Master) (n : Fin 1032) (value : Word), s.takes m (.lane n) 0x104 ∧ s.busy.contains (.lane n) =
      false ∧ s.get (.lane n) LANE.LANE_PRBS_CHK_EN = 0 ∧ bits value.toNat 0 1 = 1) ∧
    (∃ (s : State) (x : LaneLine), s.boot.hold = 0 ∧ s.running (.lane x.lane) = true ∧ s.get (.lane x.lane)
      LANE.LANE_PRBS_CHK_EN = 1 ∧ s.rxMode true x.lane ≠ 0 ∧ followsPattern (s.get (.lane x.lane)
      LANE.LANE_PRBS_CHK_PAT) (s.lane x.lane).userChk (s.get (.lane x.lane) LANE.LANE_PRBS_CHK_INV = 1) x.line = true) ∧
    (∃ (s : State) (n : Fin 1032) (errs : Nat), s.boot.hold = 0 ∧ s.running (.lane n) = true ∧ s.get (.lane n)
      LANE.LANE_PRBS_CHK_LOCKED = 1 ∧ 16 ≤ errs) ∧
    (∃ (s : State) (m : Master) (n : Fin 1032), s.takes m (.lane n) 0x11C) ∧
    (∃ (s : State) (n : Fin 1032), s.boot.hold = 0 ∧ s.running (.lane n) = true ∧ 4 ≤ s.get (.lane n)
      LANE.LANE_ERR_INJ_K) ∧
    (∃ (s : State) (m : Master) (n : Fin 1032), s.takes m (.lane n) 0x140) ∧
    (∃ (s : State) (n : Fin 1032), s.boot.hold = 0 ∧ s.running (.lane n) = true ∧ s.get (.lane n)
      LANE.LANE_EYE_STAT_BUSY = 1) :=
  ⟨
    by refine ⟨wit [fun s => s.putLive (.lane 5) LANE.LANE_MODE_RX_MODE 1], 5, 31, ?_⟩; decide +kernel,
    by refine ⟨wit [fun s => s.put .upd UPD.BOOT_STAT_PHASE 7], .pcie, 5, ?_⟩; decide +kernel,
    by refine ⟨wit [fun s => s.put .upd UPD.BOOT_STAT_PHASE 7, fun s => s.put (.lane 5) LANE.LANE_ERR_CNT_ERR 9],
        .pcie, 5, 1, ?_⟩; decide +kernel,
    by refine ⟨wit [fun s => s.put (.lane 5) LANE.LANE_PRBS_CHK_EN 1, fun s => s.putLive (.lane 5)
        LANE.LANE_MODE_RX_MODE 1, fun s => s.put (.lane 5) LANE.LANE_PRBS_CHK_PAT 6], ⟨5, List.replicate 64 false⟩,
        ?_⟩; decide +kernel,
    by refine ⟨wit [fun s => s.put (.lane 5) LANE.LANE_PRBS_CHK_LOCKED 1], 5, 17, ?_⟩; decide +kernel,
    by refine ⟨wit [fun s => s.put .upd UPD.BOOT_STAT_PHASE 7], .pcie, 5, ?_⟩; decide +kernel,
    by refine ⟨wit [fun s => s.put (.lane 5) LANE.LANE_ERR_INJ_K 4], 5, ?_⟩; decide +kernel,
    by refine ⟨wit [fun s => s.put .upd UPD.BOOT_STAT_PHASE 7, fun s => s.put (.lane 5) LANE.LANE_STAT_CDR_LOCK 1],
        .pcie, 5, ?_⟩; decide +kernel,
    by refine ⟨wit [fun s => s.put (.lane 5) LANE.LANE_EYE_STAT_BUSY 1], 5, ?_⟩; decide +kernel⟩

theorem witness_BitPlaneSwitchesAndPatterns :
    (∃ (s : State) (out : Fin 1024), s.boot.hold = 0 ∧ s.running .xbp = true ∧ s.xbp.waits.get out.val 0 ≠ 0 ∧
      (s.xbpWanted out.val = srcSerialiser → s.serTrains (outLane out) = false)) ∧
    (∃ (s : State) (m : Master) (k : Fin 8), s.takes m .xbp (0x280 + 12 * k.val) ∧ s.busy.contains .xbp = false ∧
      s.xbp.user.length = 8) :=
  ⟨
    by refine ⟨wit [fun s => { s with xbp := { s.xbp with waits := [(3, 9)] } }, fun s => s.tputLive
        (TBL.XBP_ROUTE_SRC.at 3) 5], 3, ?_⟩; decide +kernel,
    by refine ⟨wit [fun s => s.put .upd UPD.BOOT_STAT_PHASE 7, fun s => s.put .xbp (XBP.XBP_PGEN_USER_HI_PAT.at 7) 6],
        .pcie, 7, ?_⟩; decide +kernel⟩

theorem witness_BraceMessagesAreSentAndTakenIn :
    (∃ (s : State) (k : Fin 8), s.boot.hold = 0 ∧ s.running .brc = true ∧ 2 ≤ s.linkState ∧ k ∈ s.braceUp) ∧
    (∃ (s : State) (full : Bool) (v : Fin 32) (e : Bool × BraceRec), s.boot.hold = 0 ∧ s.running .brc = true ∧ 2 ≤
      s.linkState ∧ s.brace.made.find? (fun x => x.2.full == full && (full || x.2.vtg = v.val)) = some e) ∧
    (∃ (s : State) (k : Fin 8) (payload : LineBlock), s.boot.hold = 0 ∧ s.running .brc = true ∧ s.running (.lane
      (braceLane k)) = true ∧ s.braceUsable k = true ∧ (s.lane (braceLane k)).pos < 1023 ∧ ((s.lane (braceLane
      k)).hdrWin.filter id).length < 32 ∧ (crc32 payload.bits.toNat 224 ≠ bits payload.bits.toNat 224 32 ∨ bits
      payload.bits.toNat 8 8 ≠ k.val)) ∧
    (∃ (s : State) (k : Fin 8) (payload : LineBlock), s.boot.hold = 0 ∧ s.running .brc = true ∧ s.running (.lane
      (braceLane k)) = true ∧ s.braceUsable k = true ∧ (s.lane (braceLane k)).pos < 1023 ∧ ((s.lane (braceLane
      k)).hdrWin.filter id).length < 32 ∧ (crc32 payload.bits.toNat 224 ≠ bits payload.bits.toNat 224 32 ∨ bits
      payload.bits.toNat 8 8 ≠ k.val)) ∧
    (∃ (s : State) (k : Fin 8) (payload : LineBlock), s.boot.hold = 0 ∧ s.running .brc = true ∧ s.running (.lane
      (braceLane k)) = true ∧ s.braceUsable k = true ∧ (s.lane (braceLane k)).pos < 1023 ∧ ((s.lane (braceLane
      k)).hdrWin.filter id).length < 32 ∧ (crc32 payload.bits.toNat 224 ≠ bits payload.bits.toNat 224 32 ∨ bits
      payload.bits.toNat 8 8 ≠ k.val)) ∧
    (∃ (s : State) (k : Fin 8) (payload : LineBlock), s.boot.hold = 0 ∧ s.running .brc = true ∧ s.running (.lane
      (braceLane k)) = true ∧ s.braceUsable k = true ∧ (s.lane (braceLane k)).pos < 1023 ∧ ((s.lane (braceLane
      k)).hdrWin.filter id).length < 32 ∧ crc32 payload.bits.toNat 224 = bits payload.bits.toNat 224 32 ∧ bits
      payload.bits.toNat 8 8 = k.val ∧ s.get .brc BRC.BRC_CTRL_EN = 1 ∧ s.linkState = 3 ∧ bits payload.bits.toNat 4 1
      ≠ s.role ∧ bits payload.bits.toNat 0 4 = 1 ∧ bits payload.bits.toNat 96 64 ≠ 0) ∧
    (∃ (s : State) (k : Fin 8) (payload : LineBlock), s.boot.hold = 0 ∧ s.running .brc = true ∧ s.running (.lane
      (braceLane k)) = true ∧ s.braceUsable k = true ∧ (s.lane (braceLane k)).pos < 1023 ∧ ((s.lane (braceLane
      k)).hdrWin.filter id).length < 32 ∧ crc32 payload.bits.toNat 224 = bits payload.bits.toNat 224 32 ∧ bits
      payload.bits.toNat 8 8 = k.val ∧ s.get .brc BRC.BRC_CTRL_EN = 1 ∧ s.linkState = 3 ∧ bits payload.bits.toNat 4 1
      ≠ s.role ∧ bits payload.bits.toNat 0 4 = 2) ∧
    (∃ (s : State) (k : Fin 8) (payload : LineBlock), s.boot.hold = 0 ∧ s.running .brc = true ∧ s.running (.lane
      (braceLane k)) = true ∧ s.braceUsable k = true ∧ (s.lane (braceLane k)).pos < 1023 ∧ ((s.lane (braceLane
      k)).hdrWin.filter id).length < 32 ∧ crc32 payload.bits.toNat 224 = bits payload.bits.toNat 224 32 ∧ bits
      payload.bits.toNat 8 8 = k.val ∧ s.get .brc BRC.BRC_CTRL_EN = 1 ∧ s.linkState = 3 ∧ bits payload.bits.toNat 4 1
      ≠ s.role ∧ bits payload.bits.toNat 0 4 = 3) ∧
    (∃ (s : State) (m : Master) (value : Word), s.takes m .brc 0x040 ∧ s.busy.contains .brc = false ∧ bits value.toNat
      0 1 = 1 ∧ bits value.toNat 1 1 = s.role ∧ 2 ≤ s.linkState ∧ s.braceUp ≠ []) :=
  ⟨
    by refine ⟨wit [fun s => s.put (.lane (braceLane 0)) LANE.LANE_STAT_IGN_STATE 4, fun s => s.put (.lane (braceLane
        0)) LANE.LANE_IGN_RXINFO_RXTAG 0xB100, fun s => s.put .brc BRC.BRC_CTRL_EN 1, fun s => s.put .brc
        BRC.BRC_STAT_LINK_STATE 2], 0, ?_⟩; decide +kernel,
    by refine ⟨wit [fun s => s.put (.lane (braceLane 0)) LANE.LANE_STAT_IGN_STATE 4, fun s => s.put (.lane (braceLane
        0)) LANE.LANE_IGN_RXINFO_RXTAG 0xB100, fun s => s.put .brc BRC.BRC_CTRL_EN 1, fun s => s.put .brc
        BRC.BRC_STAT_LINK_STATE 2, fun s => { s with brace := { s.brace with made := [(false, witRec)] } }], true, 0,
        (false, witRec), ?_⟩; decide +kernel,
    by refine ⟨wit [fun s => s.put (.lane (braceLane 0)) LANE.LANE_STAT_IGN_STATE 4, fun s => s.put (.lane (braceLane
        0)) LANE.LANE_IGN_RXINFO_RXTAG 0xB100, fun s => s.put .brc BRC.BRC_CTRL_EN 1, fun s => s.put .brc
        BRC.BRC_STAT_LINK_STATE 3], 0, ⟨1, []⟩, ?_⟩; decide +kernel,
    by refine ⟨wit [fun s => s.put (.lane (braceLane 0)) LANE.LANE_STAT_IGN_STATE 4, fun s => s.put (.lane (braceLane
        0)) LANE.LANE_IGN_RXINFO_RXTAG 0xB100, fun s => s.put .brc BRC.BRC_CTRL_EN 1, fun s => s.put .brc
        BRC.BRC_STAT_LINK_STATE 3], 0, ⟨1, []⟩, ?_⟩; decide +kernel,
    by refine ⟨wit [fun s => s.put (.lane (braceLane 0)) LANE.LANE_STAT_IGN_STATE 4, fun s => s.put (.lane (braceLane
        0)) LANE.LANE_IGN_RXINFO_RXTAG 0xB100, fun s => s.put .brc BRC.BRC_CTRL_EN 1, fun s => s.put .brc
        BRC.BRC_STAT_LINK_STATE 3], 0, ⟨1, []⟩, ?_⟩; decide +kernel,
    by refine ⟨wit [fun s => s.put (.lane (braceLane 0)) LANE.LANE_STAT_IGN_STATE 4, fun s => s.put (.lane (braceLane
        0)) LANE.LANE_IGN_RXINFO_RXTAG 0xB100, fun s => s.put .brc BRC.BRC_CTRL_EN 1, fun s => s.put .brc
        BRC.BRC_STAT_LINK_STATE 3], 0, ⟨BitVec.ofNat 256 (braceSeal (1 + 16 + 99 * 2 ^ 64 + 5 * 2 ^ 96)), []⟩, ?_⟩;
        decide +kernel,
    by refine ⟨wit [fun s => s.put (.lane (braceLane 0)) LANE.LANE_STAT_IGN_STATE 4, fun s => s.put (.lane (braceLane
        0)) LANE.LANE_IGN_RXINFO_RXTAG 0xB100, fun s => s.put .brc BRC.BRC_CTRL_EN 1, fun s => s.put .brc
        BRC.BRC_STAT_LINK_STATE 3], 0, ⟨BitVec.ofNat 256 (braceSeal (2 + 16 + 5 * 2 ^ 32)), []⟩, ?_⟩; decide +kernel,
    by refine ⟨wit [fun s => s.put (.lane (braceLane 0)) LANE.LANE_STAT_IGN_STATE 4, fun s => s.put (.lane (braceLane
        0)) LANE.LANE_IGN_RXINFO_RXTAG 0xB100, fun s => s.put .brc BRC.BRC_CTRL_EN 1, fun s => s.put .brc
        BRC.BRC_STAT_LINK_STATE 3], 0, ⟨BitVec.ofNat 256 (braceSeal (3 + 16 + 5 * 2 ^ 32)), []⟩, ?_⟩; decide +kernel,
    by refine ⟨wit [fun s => s.put (.lane (braceLane 0)) LANE.LANE_STAT_IGN_STATE 4, fun s => s.put (.lane (braceLane
        0)) LANE.LANE_IGN_RXINFO_RXTAG 0xB100, fun s => s.put .brc BRC.BRC_CTRL_EN 1, fun s => s.put .brc
        BRC.BRC_STAT_LINK_STATE 3, fun s => s.put .upd UPD.BOOT_STAT_PHASE 7], .pcie, 1, ?_⟩; decide +kernel⟩

theorem witness_BraceMismatchIsDivergence :
    (∃ (s : State) (k : Fin 8) (payload : LineBlock) (own : BraceRec), s.boot.hold = 0 ∧ s.running .brc = true ∧
      s.running (.lane (braceLane k)) = true ∧ s.braceUsable k = true ∧ (s.lane (braceLane k)).pos < 1023 ∧ ((s.lane
      (braceLane k)).hdrWin.filter id).length < 32 ∧ crc32 payload.bits.toNat 224 = bits payload.bits.toNat 224 32 ∧
      bits payload.bits.toNat 8 8 = k.val ∧ s.get .brc BRC.BRC_CTRL_EN = 1 ∧ s.linkState = 3 ∧ bits payload.bits.toNat
      4 1 ≠ s.role ∧ bits payload.bits.toNat 0 4 = 3 ∧ s.brace.seen.contains (true, 0, bits payload.bits.toNat 32 32)
      = false ∧ s.brace.own.find? (fun x => x.same (readRec payload.bits.toNat)) = some own ∧ own.cmt ≠ bits
      payload.bits.toNat 64 32) ∧
    (∃ (s : State) (k : Fin 8) (payload : LineBlock) (own : BraceRec), s.boot.hold = 0 ∧ s.running .brc = true ∧
      s.running (.lane (braceLane k)) = true ∧ s.braceUsable k = true ∧ (s.lane (braceLane k)).pos < 1023 ∧ ((s.lane
      (braceLane k)).hdrWin.filter id).length < 32 ∧ crc32 payload.bits.toNat 224 = bits payload.bits.toNat 224 32 ∧
      bits payload.bits.toNat 8 8 = k.val ∧ s.get .brc BRC.BRC_CTRL_EN = 1 ∧ s.linkState = 3 ∧ bits payload.bits.toNat
      4 1 ≠ s.role ∧ bits payload.bits.toNat 0 4 = 2 ∧ s.brace.seen.contains (false, bits payload.bits.toNat 16 5,
      bits payload.bits.toNat 32 32) = false ∧ s.compared (readRec payload.bits.toNat) = true ∧ s.vtgEn (bits
      payload.bits.toNat 16 5) = true ∧ s.brace.own.find? (fun x => x.same (readRec payload.bits.toNat)) = some own ∧
      own.cmt ≠ bits payload.bits.toNat 64 32) ∧
    (∃ (s : State) (full : Bool) (v : Fin 32) (tnum : Word) (r : BraceRec), s.boot.hold = 0 ∧ s.running .brc = true ∧
      s.brace.own.find? (fun x => x.full == full && x.vtg = v.val && x.tnum = tnum.toNat) = some r ∧ s.compared r =
      true) :=
  ⟨
    by refine ⟨wit [fun s => s.put (.lane (braceLane 0)) LANE.LANE_STAT_IGN_STATE 4, fun s => s.put (.lane (braceLane
        0)) LANE.LANE_IGN_RXINFO_RXTAG 0xB100, fun s => s.put .brc BRC.BRC_CTRL_EN 1, fun s => s.put .brc
        BRC.BRC_STAT_LINK_STATE 3, fun s => { s with brace := { s.brace with own := [witRec] } }], 0, ⟨BitVec.ofNat
        256 (braceSeal (3 + 16 + 5 * 2 ^ 32)), []⟩, witRec, ?_⟩; decide +kernel,
    by refine ⟨wit [fun s => s.put (.lane (braceLane 0)) LANE.LANE_STAT_IGN_STATE 4, fun s => s.put (.lane (braceLane
        0)) LANE.LANE_IGN_RXINFO_RXTAG 0xB100, fun s => s.put .brc BRC.BRC_CTRL_EN 1, fun s => s.put .brc
        BRC.BRC_STAT_LINK_STATE 3, fun s =>
        { s with brace := { s.brace with own := [{ witRec with full := false }], started := [(0, 5)] } }, fun s =>
        s.putLive (.vtg 0) VTG.VTG_CTRL_EN 1], 0, ⟨BitVec.ofNat 256 (braceSeal (2 + 16 + 5 * 2 ^ 32)), []⟩,
        { witRec with full := false }, ?_⟩; decide +kernel,
    by refine ⟨wit [fun s => s.put .brc BRC.BRC_STAT_LINK_STATE 3, fun s =>
        { s with brace := { s.brace with own := [witRec] } }], true, 0, 5, witRec, ?_⟩; decide +kernel⟩

theorem witness_AudioEdgesOfTheWordPlane :
    (∃ (s : State) (tenon : Fin 2048) (grp : Fin 8) (samples : List (Nat × Nat)), s.boot.hold = 0 ∧ s.running .xwpMap
      = true ∧ s.deembReads tenon.val grp.val = true ∧ (samples.map Prod.fst).Nodup ∧ (∀ x ∈ samples, x.1 < 4)) ∧
    (∃ (s : State) (tenon : Fin 2048) (grp : Fin 8), s.boot.hold = 0 ∧ s.running .xwpMap = true ∧ s.deembReads
      tenon.val grp.val = true) ∧
    (∃ (s : State) (t : Nat) (dest : Fin 2048) (took : Nat) (cons : Tab Nat), s.boot.hold = 0 ∧ s.running .xwpRoute =
      true ∧ s.tlive (TBL.XWP_EMB_EN.at dest.val) = 1 ∧ (s.begin t).embedNext dest.val = some (took, cons)) :=
  ⟨
    by refine ⟨deembState, 0, 5, [(3, 11), (0, 7)], ?_⟩; decide +kernel,
    by refine ⟨deembState, 0, 5, ?_⟩; decide +kernel,
    by refine ⟨wit [fun s => s.tputLive (TBL.XWP_EMB_GRP_EN.at 9) 3, fun s => s.tputLive (TBL.XWP_EMB_EN.at 9) 1, fun
        s => { s with aud := { s.aud with past := [(4, [(150, 77)])] } }], 2380, 9, 4, [(150, 77)], ?_⟩; decide
        +kernel⟩

theorem witness_EthernetLinkFollowsItsTable :
    (∃ (s : State) (p : Fin 48) (high : BitVec 16) (low : Word), s.boot.hold = 0 ∧ s.running (.eth p) = true ∧ s.link
      p = 1 ∧ s.anResolves p (low.toNat + high.toNat * 2 ^ 32) = true) ∧
    (∃ (s : State) (p : Fin 48) (high : BitVec 16) (low : Word), s.boot.hold = 0 ∧ s.running (.eth p) = true ∧ s.link
      p = 1 ∧ s.anResolves p (low.toNat + high.toNat * 2 ^ 32) = false) ∧
    (∃ (s : State) (p : Fin 48), s.boot.hold = 0 ∧ s.running (.eth p) = true ∧ s.link p = 2) ∧
    (∃ (s : State) (t : Nat) (p : Fin 48), s.boot.hold = 0 ∧ s.running (.eth p) = true ∧ s.link p = 2 ∧ (s.port
      p).linkAt + 594000000 ≤ max s.now t) ∧
    (∃ (s : State) (x : PortEnergy), s.boot.hold = 0 ∧ s.running (.eth x.port) = true ∧ s.usedLanes x.port &&&
      x.lanes.toNat ≠ s.usedLanes x.port ∧ s.link x.port = 2) ∧
    (∃ (s : State) (x : PortEnergy), s.boot.hold = 0 ∧ s.running (.eth x.port) = true ∧ s.usedLanes x.port &&&
      x.lanes.toNat ≠ s.usedLanes x.port ∧ s.link x.port = 3) ∧
    (∃ (s : State) (x : PortEnergy), s.boot.hold = 0 ∧ s.running (.eth x.port) = true ∧ s.usedLanes x.port &&&
      x.lanes.toNat ≠ s.usedLanes x.port ∧ s.link x.port = 4) ∧
    (∃ (s : State) (p : Fin 48), s.boot.hold = 0 ∧ s.running (.eth p) = true ∧ s.link p = 3) ∧
    (∃ (s : State) (t : Nat) (p : Fin 48), s.boot.hold = 0 ∧ s.running (.eth p) = true ∧ s.link p = 3 ∧ (s.port
      p).linkAt + 59400000 ≤ max s.now t) :=
  ⟨
    by refine ⟨wit [fun s => s.put (.eth 4) ETH.ETH_STAT_LINK_STATE 1, fun s => s.putLive (.eth 4) ETH.ETH_MODE_MODE
        1], 4, 0, BitVec.ofNat 32 (2 ^ 28 + 1), ?_⟩; decide +kernel,
    by refine ⟨wit [fun s => s.put (.eth 4) ETH.ETH_STAT_LINK_STATE 1], 4, 0, 0, ?_⟩; decide +kernel,
    by refine ⟨wit [fun s => s.put (.eth 4) ETH.ETH_STAT_LINK_STATE 2], 4, ?_⟩; decide +kernel,
    by refine ⟨wit [fun s => s.put (.eth 4) ETH.ETH_STAT_LINK_STATE 2], 594000000, 4, ?_⟩; decide +kernel,
    by refine ⟨wit [fun s => s.put (.eth 4) ETH.ETH_STAT_LINK_STATE 2, fun s => s.putLive (.eth 4) ETH.ETH_MODE_MODE
        1], ⟨4, 7⟩, ?_⟩; decide +kernel,
    by refine ⟨wit [fun s => s.put (.eth 4) ETH.ETH_STAT_LINK_STATE 3, fun s => s.putLive (.eth 4) ETH.ETH_MODE_MODE
        1], ⟨4, 0⟩, ?_⟩; decide +kernel,
    by refine ⟨wit [fun s => s.put (.eth 4) ETH.ETH_STAT_LINK_STATE 4, fun s => s.putLive (.eth 4) ETH.ETH_MODE_MODE
        1], ⟨4, 7⟩, ?_⟩; decide +kernel,
    by refine ⟨wit [fun s => s.put (.eth 4) ETH.ETH_STAT_LINK_STATE 3], 4, ?_⟩; decide +kernel,
    by refine ⟨wit [fun s => s.put (.eth 4) ETH.ETH_STAT_LINK_STATE 3], 59400000, 4, ?_⟩; decide +kernel⟩

theorem witness_EthernetLinkFollowsItsTable_part2 :
    (∃ (s : State) (p : Fin 48), s.boot.hold = 0 ∧ s.running (.eth p) = true ∧ s.link p = 4) ∧
    (∃ (s : State) (t : Nat) (p : Fin 48), s.boot.hold = 0 ∧ s.running (.eth p) = true ∧ s.link p = 5 ∧ (s.port
      p).linkAt + backoffMs (s.get (.eth p) ETH.ETH_STAT_FAIL_CNT) * 1188000 ≤ max s.now t) ∧
    (∃ (s : State) (p : Fin 48), s.boot.hold = 0 ∧ s.running (.eth p) = true ∧ s.link p = 4) ∧
    (∃ (s : State) (p : Fin 48), s.boot.hold = 0 ∧ s.running (.eth p) = true ∧ s.link p = 4) ∧
    (∃ (s : State) (m : Master) (p : Fin 48), s.takes m (.eth p) 0x04C) :=
  ⟨
    by refine ⟨wit [fun s => s.put (.eth 4) ETH.ETH_STAT_LINK_STATE 4], 4, ?_⟩; decide +kernel,
    by refine ⟨wit [fun s => s.put (.eth 4) ETH.ETH_STAT_LINK_STATE 5, fun s => s.putLive (.eth 4) ETH.ETH_MODE_MODE
        3, fun s => s.put .upd UPD.BOOT_STAT_PHASE 7], 118800000, 4, ?_⟩; decide +kernel,
    by refine ⟨wit [fun s => s.put (.eth 4) ETH.ETH_STAT_LINK_STATE 4], 4, ?_⟩; decide +kernel,
    by refine ⟨wit [fun s => s.put (.eth 4) ETH.ETH_STAT_LINK_STATE 4, fun s => s.put (.eth 4) ETH.ETH_STAT_RF_RX 1],
        4, ?_⟩; decide +kernel,
    by refine ⟨wit [fun s => s.put (.eth 4) ETH.ETH_STAT_LINK_STATE 5, fun s => s.put .upd UPD.BOOT_STAT_PHASE 7, fun
        s => s.put (.eth 4) ETH.ETH_STAT_FAIL_CNT 3], .pcie, 4, ?_⟩; decide +kernel⟩

theorem witness_EthernetReceiveFollowsItsOrder :
    (∃ (s : State) (p : Fin 48) (frame : RxFrame), s.boot.hold = 0 ∧ s.running (.eth p) = true ∧ s.link p = 4 ∧
      frame.len < 64) ∧
    (∃ (s : State) (p : Fin 48) (frame : RxFrame), s.boot.hold = 0 ∧ s.running (.eth p) = true ∧ s.link p = 4 ∧ min
      9216 (max 1522 (s.live (.eth p) ETH.ETH_CTRL_MAX_LEN)) < frame.len) ∧
    (∃ (s : State) (p : Fin 48) (frame : RxFrame), s.boot.hold = 0 ∧ s.running (.eth p) = true ∧ s.link p = 4 ∧ 64 ≤
      frame.len ∧ frame.len ≤ min 9216 (max 1522 (s.live (.eth p) ETH.ETH_CTRL_MAX_LEN)) ∧ frame.fcsOk = false) ∧
    (∃ (s : State) (p : Fin 48) (frame : RxFrame), s.boot.hold = 0 ∧ s.running (.eth p) = true ∧ s.link p = 4 ∧ 64 ≤
      frame.len ∧ frame.len ≤ min 9216 (max 1522 (s.live (.eth p) ETH.ETH_CTRL_MAX_LEN)) ∧ frame.fcsOk = true ∧
      (s.live (.eth p) ETH.ETH_CTRL_RX_EN = 0 ∨ s.ready = false)) ∧
    (∃ (s : State) (p : Fin 48) (frame : RxFrame), s.boot.hold = 0 ∧ s.running (.eth p) = true ∧ s.link p = 4 ∧ 64 ≤
      frame.len ∧ frame.len ≤ min 9216 (max 1522 (s.live (.eth p) ETH.ETH_CTRL_MAX_LEN)) ∧ frame.fcsOk = true ∧ s.live
      (.eth p) ETH.ETH_CTRL_RX_EN = 1 ∧ s.ready = true ∧ s.live (.msec p) MSEC.MSEC_CTRL_EN = 0 ∧ frame.sec = none ∧
      frame.etherType ≠ 0x8808 ∧ frame.dst ≠ s.macOf p ∧ isGroup frame.dst = false) ∧
    (∃ (s : State) (p : Fin 48) (frame : RxFrame), s.boot.hold = 0 ∧ s.running (.eth p) = true ∧ s.link p = 4 ∧ 64 ≤
      frame.len ∧ frame.len ≤ min 9216 (max 1522 (s.live (.eth p) ETH.ETH_CTRL_MAX_LEN)) ∧ frame.fcsOk = true ∧ s.live
      (.eth p) ETH.ETH_CTRL_RX_EN = 1 ∧ s.ready = true ∧ s.live (.msec p) MSEC.MSEC_CTRL_EN = 0 ∧ frame.sec = none ∧
      frame.etherType = 0x8808 ∧ frame.flow = 1 ∧ (s.port p).pause.length = 8) ∧
    (∃ (s : State) (p : Fin 48) (frame : RxFrame) (desc : Nat × Nat) (r : Nat), s.boot.hold = 0 ∧ s.running (.eth p) =
      true ∧ s.link p = 4 ∧ 64 ≤ frame.len ∧ frame.len ≤ min 9216 (max 1522 (s.live (.eth p) ETH.ETH_CTRL_MAX_LEN)) ∧
      frame.fcsOk = true ∧ s.live (.eth p) ETH.ETH_CTRL_RX_EN = 1 ∧ s.ready = true ∧ s.live (.msec p)
      MSEC.MSEC_CTRL_EN = 0 ∧ frame.sec = none ∧ frame.etherType ≠ 0x8808 ∧ (frame.dst = s.macOf p ∨ isGroup frame.dst
      = true) ∧ isPtp frame = false ∧ hostReason frame = some r ∧ s.hqReady p false = true ∧ stripped frame ≤ desc.2) ∧
    (∃ (s : State) (p : Fin 48) (frame : RxFrame) (r : Nat), s.boot.hold = 0 ∧ s.running (.eth p) = true ∧ s.link p =
      4 ∧ 64 ≤ frame.len ∧ frame.len ≤ min 9216 (max 1522 (s.live (.eth p) ETH.ETH_CTRL_MAX_LEN)) ∧ frame.fcsOk = true
      ∧ s.live (.eth p) ETH.ETH_CTRL_RX_EN = 1 ∧ s.ready = true ∧ s.live (.msec p) MSEC.MSEC_CTRL_EN = 0 ∧ frame.sec =
      none ∧ frame.etherType ≠ 0x8808 ∧ (frame.dst = s.macOf p ∨ isGroup frame.dst = true) ∧ isPtp frame = false ∧
      hostReason frame = some r ∧ s.hqReady p false = false) ∧
    (∃ (s : State) (p : Fin 48) (frame : RxFrame), s.boot.hold = 0 ∧ s.running (.eth p) = true ∧ s.link p = 4 ∧ 64 ≤
      frame.len ∧ frame.len ≤ min 9216 (max 1522 (s.live (.eth p) ETH.ETH_CTRL_MAX_LEN)) ∧ frame.fcsOk = true ∧ s.live
      (.eth p) ETH.ETH_CTRL_RX_EN = 1 ∧ s.ready = true ∧ s.live (.msec p) MSEC.MSEC_CTRL_EN = 0 ∧ frame.sec = none ∧
      frame.etherType ≠ 0x8808 ∧ (frame.dst = s.macOf p ∨ isGroup frame.dst = true) ∧ isPtp frame = false ∧ hostReason
      frame = none ∧ (frame.ip ≠ 4 ∨ frame.csumOk = true) ∧ s.clsFind p frame = none ∧ s.live (.eth p)
      ETH.ETH_CTRL_NOMATCH_HOST = 0) :=
  ⟨
    by refine ⟨wit [fun s => s.put (.eth 4) ETH.ETH_STAT_LINK_STATE 4], 4, { witFrame with len := 63 }, ?_⟩; decide
        +kernel,
    by refine ⟨wit [fun s => s.put (.eth 4) ETH.ETH_STAT_LINK_STATE 4], 4, { witFrame with len := 9900 }, ?_⟩; decide
        +kernel,
    by refine ⟨wit [fun s => s.put (.eth 4) ETH.ETH_STAT_LINK_STATE 4], 4,
        { witFrame with len := 64, fcsOk := false }, ?_⟩; decide +kernel,
    by refine ⟨wit [fun s => s.put (.eth 4) ETH.ETH_STAT_LINK_STATE 4], 4, { witFrame with len := 64 }, ?_⟩; decide
        +kernel,
    by refine ⟨wit [fun s => s.put (.eth 4) ETH.ETH_STAT_LINK_STATE 4, fun s => s.putLive (.eth 4) ETH.ETH_CTRL_RX_EN
        1, fun s => s.put .upd UPD.BOOT_STAT_PHASE 7], 4, { witFrame with len := 64, dst := 0x0A0000000000 }, ?_⟩;
        decide +kernel,
    by refine ⟨wit [fun s => s.put (.eth 4) ETH.ETH_STAT_LINK_STATE 4, fun s => s.putLive (.eth 4) ETH.ETH_CTRL_RX_EN
        1, fun s => s.put .upd UPD.BOOT_STAT_PHASE 7, fun s => s.putLive (.eth 4) ETH.ETH_FC_RX_FC_MODE 1], 4,
        { witFrame with etherType := 0x8808, flow := 1, quanta := [(0, 9)] }, ?_⟩; decide +kernel,
    by refine ⟨wit [fun s => s.put (.eth 4) ETH.ETH_STAT_LINK_STATE 4, fun s => s.putLive (.eth 4) ETH.ETH_CTRL_RX_EN
        1, fun s => s.put .upd UPD.BOOT_STAT_PHASE 7, fun s => s.put (.eth 4) ETH.HQ_RX_CTRL_EN 1, fun s => s.put
        (.eth 4) ETH.HQ_RX_TAIL_TAIL 5], 4, { witFrame with etherType := 0x88CC, dst := broadcast }, (4096, 2048), 0,
        ?_⟩; decide +kernel,
    by refine ⟨wit [fun s => s.put (.eth 4) ETH.ETH_STAT_LINK_STATE 4, fun s => s.putLive (.eth 4) ETH.ETH_CTRL_RX_EN
        1, fun s => s.put .upd UPD.BOOT_STAT_PHASE 7], 4, { witFrame with etherType := 0x88CC, dst := broadcast }, 0,
        ?_⟩; decide +kernel,
    by refine ⟨wit [fun s => s.put (.eth 4) ETH.ETH_STAT_LINK_STATE 4, fun s => s.putLive (.eth 4) ETH.ETH_CTRL_RX_EN
        1, fun s => s.put .upd UPD.BOOT_STAT_PHASE 7], 4, { witFrame with dst := broadcast }, ?_⟩; decide +kernel⟩

theorem witness_EthernetReceiveFollowsItsOrder_part2 :
    (∃ (s : State) (p : Fin 48) (frame : RxFrame) (e : Nat) (i : Nat), s.boot.hold = 0 ∧ s.running (.eth p) = true ∧
      s.link p = 4 ∧ 64 ≤ frame.len ∧ frame.len ≤ min 9216 (max 1522 (s.live (.eth p) ETH.ETH_CTRL_MAX_LEN)) ∧
      frame.fcsOk = true ∧ s.live (.eth p) ETH.ETH_CTRL_RX_EN = 1 ∧ s.ready = true ∧ s.live (.msec p)
      MSEC.MSEC_CTRL_EN = 0 ∧ frame.sec = none ∧ frame.etherType ≠ 0x8808 ∧ (frame.dst = s.macOf p ∨ isGroup frame.dst
      = true) ∧ isPtp frame = false ∧ hostReason frame = none ∧ (frame.ip ≠ 4 ∨ frame.csumOk = true) ∧ s.clsFind p
      frame = some (e, i) ∧ s.cls TBL.CLS_KIND e = 7) ∧
    (∃ (s : State) (p : Fin 48) (frame : RxFrame) (e : Nat) (i : Nat) (n : Fin 1024), s.boot.hold = 0 ∧ s.running
      (.eth p) = true ∧ s.link p = 4 ∧ 64 ≤ frame.len ∧ frame.len ≤ min 9216 (max 1522 (s.live (.eth p)
      ETH.ETH_CTRL_MAX_LEN)) ∧ frame.fcsOk = true ∧ s.live (.eth p) ETH.ETH_CTRL_RX_EN = 1 ∧ s.ready = true ∧ s.live
      (.msec p) MSEC.MSEC_CTRL_EN = 0 ∧ frame.sec = none ∧ frame.etherType ≠ 0x8808 ∧ (frame.dst = s.macOf p ∨ isGroup
      frame.dst = true) ∧ isPtp frame = false ∧ hostReason frame = none ∧ (frame.ip ≠ 4 ∨ frame.csumOk = true) ∧
      s.clsFind p frame = some (e, i) ∧ s.cls TBL.CLS_KIND e < 2 ∧ n.val = s.cls TBL.CLS_TARGET e + i ∧ s.live
      (.rxSlot n) RXS.RX_CTRL_EN = 1) :=
  ⟨
    by refine ⟨wit [fun s => s.put (.eth 4) ETH.ETH_STAT_LINK_STATE 4, fun s => s.putLive (.eth 4) ETH.ETH_CTRL_RX_EN
        1, fun s => s.put .upd UPD.BOOT_STAT_PHASE 7, fun s => s.tputLive (TBL.CLS_V.at 7) 1, fun s => s.tputLive
        (TBL.CLS_UDP_PORT.at 7) 5004, fun s => s.tputLive (TBL.CLS_PORT_ANY.at 7) 1, fun s => s.tputLive
        (TBL.CLS_KIND.at 7) 7, fun s => s.tputLive (TBL.CLS_TARGET.at 7) 0, fun s => s.tputLive (TBL.CLS_DST_IP.at2 7
        0) 0xE0000100], 4, { witFrame with dst := broadcast, udpDst := 5004, ipDst := 0xE0000100 }, 7, 0, ?_⟩; decide
        +kernel,
    by refine ⟨wit [fun s => s.put (.eth 4) ETH.ETH_STAT_LINK_STATE 4, fun s => s.putLive (.eth 4) ETH.ETH_CTRL_RX_EN
        1, fun s => s.put .upd UPD.BOOT_STAT_PHASE 7, fun s => s.tputLive (TBL.CLS_V.at 7) 1, fun s => s.tputLive
        (TBL.CLS_UDP_PORT.at 7) 5004, fun s => s.tputLive (TBL.CLS_PORT_ANY.at 7) 1, fun s => s.tputLive
        (TBL.CLS_KIND.at 7) 0, fun s => s.tputLive (TBL.CLS_TARGET.at 7) 9, fun s => s.tputLive (TBL.CLS_DST_IP.at2 7
        0) 0xE0000100, fun s => s.putLive (.rxSlot 9) RXS.RX_CTRL_EN 1], 4,
        { witFrame with dst := broadcast, udpDst := 5004, ipDst := 0xE0000100 }, 7, 0, 9, ?_⟩; decide +kernel⟩

theorem witness_EthernetSendsPausesAndSnapshots :
    (∃ (s : State) (t : Nat) (p : Fin 48) (slack : Nat) (held : List Nat) (own : Option TxFrame) (f : TxFrame),
      s.boot.hold = 0 ∧ s.running (.eth p) = true ∧
      (match own with | some x => (s.begin t).enqueue p { x with host := false, bypass := false } | none => s.begin t).txPick
      p slack held = some f ∧ s.canSend p = true ∧ s.live (.msec p) MSEC.MSEC_CTRL_EN = 0 ∧ f.ptp = none) ∧
    (∃ (s : State) (t : Nat) (p : Fin 48) (slack : Nat) (held : List Nat) (own : Option TxFrame) (f : TxFrame),
      s.boot.hold = 0 ∧ s.running (.eth p) = true ∧
      (match own with | some x => (s.begin t).enqueue p { x with host := false, bypass := false } | none => s.begin t).txPick
      p slack held = some f ∧ s.link p = 4 ∧ s.get (.eth p) ETH.ETH_STAT_RF_RX = 1) ∧
    (∃ (s : State) (p : Fin 48), s.boot.hold = 0 ∧ s.running (.eth p) = true) ∧
    (∃ (s : State) (t : Nat) (p : Fin 48) (cls : Fin 8), s.boot.hold = 0 ∧ s.running (.eth p) = true ∧ (s.begin
      t).paused p cls.val = false) ∧
    (∃ (s : State) (m : Master) (p : Fin 48), s.takes m (.eth p) 0x04C) :=
  ⟨
    by refine ⟨wit [fun s => s.put (.eth 4) ETH.ETH_STAT_LINK_STATE 4, fun s => s.putLive (.eth 4) ETH.ETH_CTRL_TX_EN
        1], 7, 4, 100000, [100, 100, 100, 100, 100, 100, 100, 100], some witTx, witTx, ?_⟩; decide +kernel,
    by refine ⟨wit [fun s => s.put (.eth 4) ETH.ETH_STAT_LINK_STATE 4, fun s => s.put (.eth 4) ETH.ETH_STAT_RF_RX 1],
        7, 4, 100000, [100, 100, 100, 100, 100, 100, 100, 100], some witTx, witTx, ?_⟩; decide +kernel,
    by refine ⟨wit [fun s => s.putLive (.eth 4) ETH.TXQ_THR_HI_THR3 63], 4, ?_⟩; decide +kernel,
    by refine ⟨wit [fun s => s.pauseClass 4 3 9], 90000, 4, 3, ?_⟩; decide +kernel,
    by refine ⟨wit [fun s => s.put .upd UPD.BOOT_STAT_PHASE 7, fun s => s.put (.eth 4) (ETH.CNT_COUNT.at 63) 9],
        .pcie, 4, ?_⟩; decide +kernel⟩

theorem witness_HostQueuesRunAndReturnDescriptors :
    (∃ (s : State) (m : Master) (p : Fin 48) (tx : Bool), s.takes m (.eth p) (if tx then 0x220 else 0x200) ∧
      s.busy.contains (.eth p) = false) ∧
    (∃ (s : State) (m : Master) (p : Fin 48) (tx : Bool), s.takes m (.eth p) (if tx then 0x220 else 0x200) ∧
      s.busy.contains (.eth p) = false) ∧
    (∃ (s : State) (p : Fin 48) (frame : TxFrame), s.boot.hold = 0 ∧ s.running (.eth p) = true ∧ s.hqReady p true =
      true ∧ (frame.bypass = false ∨ frame.eapol = true)) ∧
    (∃ (s : State) (p : Fin 48) (frame : TxFrame), s.boot.hold = 0 ∧ s.running (.eth p) = true ∧ s.hqReady p true =
      true ∧ frame.bypass = true ∧ frame.eapol = false) :=
  ⟨
    by refine ⟨wit [fun s => s.put .upd UPD.BOOT_STAT_PHASE 7, fun s => s.put (.eth 4) ETH.HQ_TX_CTRL_EN 0, fun s =>
        s.put (.eth 4) ETH.HQ_TX_HEAD_HEAD 5], .pcie, 4, true, ?_⟩; decide +kernel,
    by refine ⟨wit [fun s => s.put .upd UPD.BOOT_STAT_PHASE 7, fun s => s.put (.eth 4) ETH.HQ_TX_CTRL_EN 1, fun s =>
        s.put (.eth 4) ETH.HQ_TX_HEAD_HEAD 5], .pcie, 4, true, ?_⟩; decide +kernel,
    by refine ⟨wit [fun s => s.put (.eth 4) ETH.HQ_TX_CTRL_EN 1, fun s => s.put (.eth 4) ETH.HQ_TX_TAIL_TAIL 5], 4,
        { witTx with cls := 6, host := true }, ?_⟩; decide +kernel,
    by refine ⟨wit [fun s => s.put (.eth 4) ETH.HQ_TX_CTRL_EN 1, fun s => s.put (.eth 4) ETH.HQ_TX_TAIL_TAIL 5], 4,
        { witTx with bypass := true, eapol := false }, ?_⟩; decide +kernel⟩

theorem witness_FrameStartsOpenANewFrame :
    (∃ (s : State) (t : Nat) (v : Fin 32) (f : Format), s.boot.hold = 0 ∧ s.running (.vtg v) = true ∧ s.vtgEn v.val =
      true ∧ s.vtgFormat v.val = some f ∧ (s.begin t).frameDue v f false = true) :=
    by refine ⟨wit [fun s => s.putLive (.vtg 3) VTG.VTG_CTRL_EN 1, fun s => s.setVtg 3
        { Vtg.init with start := some 2 }], 23760000, 3, witFormat, ?_⟩; decide +kernel

theorem witness_ReceiveSlotsPlayAndReportPaths :
    (∃ (s : State) (n : Fin 1024) (ts : Nat) (f : Format), s.boot.hold = 0 ∧ s.running (.rxSlot n) = true ∧ (s.rx
      n).ts = some ts ∧ s.rxFormat true n = some f ∧ s.rxState n = 2) ∧
    (∃ (s : State) (t : Nat) (n : Fin 1024) (pathB : Bool), s.boot.hold = 0 ∧ s.running (.rxSlot n) = true ∧ s.live
      (.rxSlot n) RXS.RX_CTRL_EN = 1 ∧ (pathB = true → s.live (.rxSlot n) RXS.RX_CTRL_PAIR = 1) ∧ s.get (.rxSlot n)
      (if pathB then RXS.RX_STAT_PATH_B_DOWN else RXS.RX_STAT_PATH_A_DOWN) = 0 ∧ (if pathB then (s.rx n).heardB else
      (s.rx n).heardA) + 11880000 ≤ max s.now t) ∧
    (∃ (s : State) (t : Nat) (n : Fin 1024) (d : Int) (c : Nat), s.boot.hold = 0 ∧ s.running (.rxSlot n) = true ∧
      (s.rx n).skews.head? = some d ∧ d.natAbs + 100 * 1188 ≤ min 2000 (s.live (.rxSlot n) RXS.RX_SKEW_MAX) * 1188 ∧
      (s.rx n).skewOk = some c ∧ c + 1188000000 ≤ max s.now t) :=
  ⟨
    by refine ⟨wit [fun s => s.put (.rxSlot 70) RXS.RX_STAT_STATE 2, fun s => s.setRx 70
        { RxSlot.init with ts := some 90, pkts := [(1, 90)], anc := [(8, 90, { c := false, line := 42, offset := 0, did := 0x61, sdid := 1, bytes := [1] })] }],
        70, 90, witFormat, ?_⟩; decide +kernel,
    by refine ⟨wit [fun s => s.putLive (.rxSlot 70) RXS.RX_CTRL_EN 1, fun s => s.putLive (.rxSlot 70) RXS.RX_CTRL_PAIR
        1], 11880000, 70, true, ?_⟩; decide +kernel,
    by refine ⟨wit [fun s => s.put (.rxSlot 70) RXS.RX_STAT_SKEW_OVER 1, fun s => s.putLive (.rxSlot 70)
        RXS.RX_SKEW_MAX 300, fun s => s.setRx 70 { RxSlot.init with skews := [-5], skewOk := some 3 }], 1188000003,
        70, -5, 3, ?_⟩; decide +kernel⟩

theorem witness_SendSlotsNumberTheirPackets :
    (∃ (s : State) (t : Nat) (n : Fin 1024) (fr : TxRun) (rest : List TxRun) (f : Format), s.boot.hold = 0 ∧ s.running
      (.txSlot n) = true ∧ (s.tx n).frames = fr :: rest ∧ format? fr.fmt = some f ∧ (fr.due f fr.sent).le ⟨max s.now
      t, 1⟩ = true) ∧
    (∃ (s : State) (t : Nat) (n : Fin 1024) (pkts : List AncPkt) (i : Nat) (r : AncRun), s.boot.hold = 0 ∧ s.running
      (.txSlot n) = true ∧ s.live (.txSlot n) TXS.TX_CTRL_ANC_EN = 1 ∧ pkts ≠ [] ∧ (∀ a ∈ pkts, ancWithheld a = false)
      ∧ (s.tx n).ancRuns.findIdx? (fun r => pkts.all (fun a => r.ended (max s.now t) a.line)) = some i ∧ (s.tx
      n).ancRuns[i]? = some r ∧ ancBytes pkts ≤ 1200 ∧ r.sent < s.live (.txSlot n) TXS.TX_CTRL_ANC_PKTS) ∧
    (∃ (s : State) (t : Nat) (n : Fin 1024) (pkts : List AncPkt) (i : Nat) (r : AncRun), s.boot.hold = 0 ∧ s.running
      (.txSlot n) = true ∧ s.live (.txSlot n) TXS.TX_CTRL_ANC_EN = 1 ∧ pkts ≠ [] ∧ (∀ a ∈ pkts, ancWithheld a = false)
      ∧ (s.tx n).ancRuns.findIdx? (fun r => pkts.all (fun a => r.ended (max s.now t) a.line)) = some i ∧ (s.tx
      n).ancRuns[i]? = some r ∧ (1200 < ancBytes pkts ∨ s.live (.txSlot n) TXS.TX_CTRL_ANC_PKTS ≤ r.sent)) :=
  ⟨
    by refine ⟨wit [fun s => s.setTx 70
        { TxSlot.init with run := true, seq := 2 ^ 32 - 1, frames := [{ witRun with first := false }] }, fun s =>
        s.putLive (.eth 4) ETH.ETH_CTRL_TX_EN 1, fun s => s.put (.eth 4) ETH.ETH_STAT_LINK_STATE 4, fun s => s.putLive
        (.txSlot 70) TXS.TX_PORT_PORT_A 4], 23760000, 70, { witRun with first := false }, [], witFormat, ?_⟩; decide
        +kernel,
    by refine ⟨wit [fun s => s.setTx 70
        { TxSlot.init with run := true, ancSeq := 2 ^ 32 - 1, ancRuns := [{ ts := 9, sent := 3, tf := 0, fmt := 0x38, second := false }] },
        fun s => s.putLive (.txSlot 70) TXS.TX_CTRL_ANC_EN 1, fun s => s.putLive (.txSlot 70) TXS.TX_CTRL_ANC_PKTS 4],
        23760000, 70, [{ c := false, line := 42, offset := 0, did := 0x61, sdid := 1, bytes := [1] }], 0,
        { ts := 9, sent := 3, tf := 0, fmt := 0x38, second := false }, ?_⟩; decide +kernel,
    by refine ⟨wit [fun s => s.setTx 70
        { TxSlot.init with run := true, ancSeq := 2 ^ 32 - 1, ancRuns := [{ ts := 9, sent := 3, tf := 0, fmt := 0x38, second := false }] },
        fun s => s.putLive (.txSlot 70) TXS.TX_CTRL_ANC_EN 1], 23760000, 70,
        [{ c := false, line := 42, offset := 0, did := 0x61, sdid := 1, bytes := [1] }], 0,
        { ts := 9, sent := 3, tf := 0, fmt := 0x38, second := false }, ?_⟩; decide +kernel⟩

theorem witness_SteeringObeysTheServoOwner :
    (∃ (s : State) (m : Master) (d : Fin 2), s.takes m .time (0x10C + 0x40 * d.val) ∧ s.ownsServo d (isFirmware m) =
      true) ∧
    (∃ (s : State) (m : Master) (d : Fin 2), s.takes m .time (0x10C + 0x40 * d.val) ∧ s.ownsServo d (isFirmware m) =
      false ∧ isFirmware m = false) ∧
    (∃ (s : State) (m : Master) (d : Fin 2) (value : Word), s.takes m .time (0x110 + 0x40 * d.val) ∧ s.ownsServo d
      (isFirmware m) = true ∧ bits value.toNat 30 2 < 2) ∧
    (∃ (s : State) (m : Master) (d : Fin 2) (value : Word), s.takes m .time (0x110 + 0x40 * d.val) ∧ s.ownsServo d
      (isFirmware m) = true ∧ 2 ≤ bits value.toNat 30 2) ∧
    (∃ (s : State) (m : Master) (d : Fin 2), s.takes m .time (0x110 + 0x40 * d.val) ∧ s.ownsServo d (isFirmware m) =
      false ∧ isFirmware m = false) :=
  ⟨
    by refine ⟨wit [fun s => s.put .upd UPD.BOOT_STAT_PHASE 7, fun s => s.putLive .time (TIME.DOM_CFG_EN.at 1) 1, fun
        s => s.putLive .time (TIME.DOM_CFG_OWNER.at 1) 1], .pcie, 1, ?_⟩; decide +kernel,
    by refine ⟨wit [fun s => s.put .upd UPD.BOOT_STAT_PHASE 7], .pcie, 1, ?_⟩; decide +kernel,
    by refine ⟨wit [fun s => s.put .upd UPD.BOOT_STAT_PHASE 7, fun s => s.putLive .time (TIME.DOM_CFG_OWNER.at 1) 1],
        .pcie, 1, 0x40000005, ?_⟩; decide +kernel,
    by refine ⟨wit [fun s => s.put .upd UPD.BOOT_STAT_PHASE 7, fun s => s.putLive .time (TIME.DOM_CFG_OWNER.at 1) 1],
        .pcie, 1, 0x80000005, ?_⟩; decide +kernel,
    by refine ⟨wit [fun s => s.put .upd UPD.BOOT_STAT_PHASE 7], .pcie, 1, ?_⟩; decide +kernel⟩

theorem witness_DomainStepKeepsMediaTime :
    (∃ (s : State) (t : Nat) (d : Fin 2), s.boot.hold = 0 ∧ s.running .time = true ∧ s.stepAt d = some t ∧ s.stepAt
      (if d = 0 then 1 else 0) = none) ∧
    (∃ (s : State) (t : Nat) (d : Fin 2), s.boot.hold = 0 ∧ s.running .time = true ∧ s.get .time
      (TIME.DOM_STAT_STEP_PEND.at d.val) = 1 ∧ s.get .time (TIME.DOM_STEP_WHEN.at d.val) = 0 ∧ s.stepAt (if d = 0 then
      1 else 0) = none ∧ (s.begin t).smpDue = true) :=
  ⟨
    by refine ⟨wit [fun s => s.put .time (TIME.DOM_STAT_STEP_PEND.at 1) 1, fun s => s.put .time
        (TIME.DOM_STEP_AMOUNT.at 1) 1000, fun s => s.put .time TIME.MT_STAT_SRC_LIVE 1, fun s => s.put .time
        (TIME.DOM_STEP_WHEN.at 1) 1], 1188000001, 1, ?_⟩; decide +kernel,
    by refine ⟨wit [fun s => s.put .time (TIME.DOM_STAT_STEP_PEND.at 1) 1, fun s => s.put .time
        (TIME.DOM_STEP_AMOUNT.at 1) 1000, fun s => s.put .time TIME.MT_STAT_SRC_LIVE 1], 74250, 1, ?_⟩; decide +kernel⟩

theorem witness_ServoStatesFollowTheFirmware :
    (∃ (s : State) (d : Fin 2) (port : Fin 64) (seq : BitVec 16), s.boot.hold = 0 ∧ s.running .time = true ∧ s.domEn d
      = true ∧ s.ready = true ∧ (s.clk.master d).isSome = true ∧ port.val = s.get .time (TIME.DOM_STAT_PORT.at d.val)
      ∧ (s.syncStamp d port.val seq.toNat).isSome = true) ∧
    (∃ (s : State) (d : Fin 2), s.boot.hold = 0 ∧ s.running .time = true ∧ s.domEn d = true ∧ s.servo d = 2) ∧
    (∃ (s : State) (d : Fin 2), s.boot.hold = 0 ∧ s.running .time = true ∧ s.domEn d = true) :=
  ⟨
    by refine ⟨wit [fun s => s.put .upd UPD.BOOT_STAT_PHASE 7, fun s => s.putLive .time (TIME.DOM_CFG_EN.at 1) 1, fun
        s => s.put .time (TIME.DOM_STAT_SERVO.at 1) 1, fun s => s.put .time (TIME.DOM_STAT_PORT.at 1) 47, fun s =>
        s.putLive .time (TIME.DOM_CFG_DOM_NUM.at 1) 0, fun s =>
        { s with clk := { s.clk.setMaster 1 (some 7) with runB := 15, stamps := [(47, [⟨true, 0, 0, 9, 1, none, some 2⟩])] } }],
        1, 47, 9, ?_⟩; decide +kernel,
    by refine ⟨wit [fun s => s.putLive .time (TIME.DOM_CFG_EN.at 1) 1, fun s => s.put .time (TIME.DOM_STAT_SERVO.at 1)
        2], 1, ?_⟩; decide +kernel,
    by refine ⟨wit [fun s => s.putLive .time (TIME.DOM_CFG_EN.at 1) 1, fun s => s.put .time (TIME.DOM_STAT_SERVO.at 1)
        1], 1, ?_⟩; decide +kernel⟩

theorem witness_MediaTimeArrivesAndPinsFollow :
    (∃ (s : State) (t : Nat) (k : Nat), s.boot.hold = 0 ∧ s.running .time = true ∧ s.slewing = true ∧ s.stepAt 0 =
      none ∧ s.stepAt 1 = none ∧ s.slewLeft = some k ∧ s.now + k ≤ t) ∧
    (∃ (s : State) (t : Nat), s.boot.hold = 0 ∧ s.running .time = true ∧ s.live .time TIME.PPS_OUT_CTRL_EN = 1 ∧
      s.ready = true ∧ (s.begin t).ppsPasses = true) ∧
    (∃ (s : State) (t : Nat), s.boot.hold = 0 ∧ s.clk.ppsAt + s.ppsWidth ≤ max s.now t) ∧
    (∃ (s : State) (falling : Bool), s.boot.hold = 0 ∧ s.running .time = true ∧ s.get .time TIME.PPS_IN_CTRL_EN = 1 ∧
      s.get .time TIME.PPS_IN_CTRL_FALL = b2n falling ∧ s.get .time TIME.PPSI_VALID_VALID = 0) ∧
    (∃ (s : State) (falling : Bool), s.boot.hold = 0 ∧ s.running .time = true ∧ s.get .time TIME.PPS_IN_CTRL_EN = 1 ∧
      s.get .time TIME.PPS_IN_CTRL_FALL = b2n falling ∧ s.get .time TIME.PPSI_VALID_VALID = 1) ∧
    (∃ (s : State) (m : Master), s.takes m .time 0x040) :=
  ⟨
    by refine ⟨wit [fun s => s.putLive .time TIME.MT_TARGET_TARGET 1000000, fun s => s.putLive .time
        TIME.MT_CTRL_SLEW_RATE 1], 118801904675959, 118801904675959, ?_⟩; decide +kernel,
    by refine ⟨wit [fun s => s.put .upd UPD.BOOT_STAT_PHASE 7, fun s => s.putLive .time TIME.PPS_OUT_CTRL_EN 1],
        1188000001, ?_⟩; decide +kernel,
    by refine ⟨wit [fun s => { s with clk := { s.clk with ppsOut := true, ppsAt := 6 } }], 118800006, ?_⟩; decide
        +kernel,
    by refine ⟨wit [fun s => s.put .time TIME.PPS_IN_CTRL_EN 1], false, ?_⟩; decide +kernel,
    by refine ⟨wit [fun s => s.put .time TIME.PPS_IN_CTRL_EN 1, fun s => s.put .time TIME.PPSI_VALID_VALID 1], false,
        ?_⟩; decide +kernel,
    by refine ⟨wit [fun s => s.put .upd UPD.BOOT_STAT_PHASE 7], .pcie, ?_⟩; decide +kernel⟩

theorem witness_LowWordReadsCaptureHighWords :
    (∃ (s : State) (m : Master) (n : Fin 1032), s.gives m (Page.base (.lane n) + 0x114) ∧ s.running (.lane n) = true ∧
      s.get (.lane n) LANE.LANE_PRBS_CHK_LOCKED = 1) ∧
    (∃ (s : State) (m : Master) (n : Fin 1032), s.gives m (Page.base (.lane n) + 0x18C) ∧ (s.lane n).tally < 2 ^ 64) ∧
    (∃ (s : State) (m : Master), s.gives m (Page.base .time + 0x080)) ∧
    (∃ (s : State) (m : Master), s.gives m (Page.base .time + 0x20C)) :=
  ⟨
    by refine ⟨wit [fun s => s.put .upd UPD.BOOT_STAT_PHASE 7, fun s => s.put (.lane 5) LANE.LANE_PRBS_CHK_LOCKED 1],
        .pcie, 5, ?_⟩; decide +kernel,
    by refine ⟨wit [fun s => s.put .upd UPD.BOOT_STAT_PHASE 7, fun s => s.modLane 5 (fun l =>
        { l with tally := 2 ^ 63 + 9 })], .pcie, 5, ?_⟩; decide +kernel,
    by refine ⟨wit [fun s => s.put .upd UPD.BOOT_STAT_PHASE 7], .pcie, ?_⟩; decide +kernel,
    by refine ⟨wit [fun s => s.put .upd UPD.BOOT_STAT_PHASE 7, fun s => { s with clk := { s.clk with mtOff := -7 } }],
        .pcie, ?_⟩; decide +kernel⟩

theorem witness_ReferencePinsAndCandidates :
    (∃ (s : State) (r : Fin 8) (falling : Bool) (nom : Nat), s.boot.hold = 0 ∧ s.running .ref = true ∧ s.candCfg
      REF.CAND_CFG_POL r.val = b2n falling ∧ s.nominal r.val = some nom) ∧
    (∃ (s : State) (t : Nat) (r : Fin 8) (nom : Nat) (e : Nat), s.boot.hold = 0 ∧ s.running .ref = true ∧ s.nominal
      r.val = some nom ∧ (s.cand r.val).edge = some e ∧ 3 * nom ≤ 2 * (max s.now t - e)) ∧
    (∃ (s : State) (t : Nat) (c : Fin 27) (freq : Int) (sec : Nat) (v : Int), s.boot.hold = 0 ∧ s.running .ref = true
      ∧ s.candCfg REF.CAND_CFG_EN c.val = 1 ∧ (s.begin t).newSecond = some sec ∧ (s.cand c.val).marks.any (fun e =>
      e.1 = sec) = false ∧ (s.begin t).freqMean c.val sec freq = some v) ∧
    (∃ (s : State) (t : Nat) (c : Fin 27), s.boot.hold = 0 ∧ s.running .ref = true ∧ s.get .ref
      (REF.CAND_STAT_WAITING.at c.val) = 1 ∧ s.get .ref (REF.CAND_STAT_QUAL.at c.val) = 1 ∧ (s.cand c.val).waitAt +
      s.candCfg REF.CAND_CFG_WTR c.val * 1188000000 ≤ max s.now t) ∧
    (∃ (s : State) (t : Nat) (j : Fin 8), s.boot.hold = 0 ∧ s.running .ref = true ∧ s.refoOn j.val = true ∧ (s.begin
      t).refoDue j.val = true) ∧
    (∃ (s : State) (t : Nat) (j : Fin 8), s.boot.hold = 0 ∧ s.refoAt.get j.val 0 + s.refoWidth j.val ≤ max s.now t) ∧
    (∃ (s : State) (t : Nat) (r : Fin 8) (e : Nat), s.boot.hold = 0 ∧ s.running .ref = true ∧ s.get .ref
      (REF.REFO_STAT_FLY.bit r.val) = 0 ∧ (s.cand r.val).periods ≠ [] ∧ (s.cand r.val).edge = some e ∧ 3 * flyPeriod
      (s.cand r.val).periods ≤ 512 * (max s.now t - e)) :=
  ⟨
    by refine ⟨wit [fun s => s.modCand 7 (fun c => { c with edge := some 1 })], 7, false, 47520000, ?_⟩; decide
        +kernel,
    by refine ⟨wit [fun s => s.put .ref (REF.CAND_STAT_QUAL.at 7) 1, fun s => s.modCand 7 (fun c =>
        { c with edge := some 1, actSince := some 0 })], 71280001, 7, 47520000, 1, ?_⟩; decide +kernel,
    by refine ⟨wit [fun s => s.putLive .ref (REF.CAND_CFG_EN.at 12) 1, fun s => s.putLive .ref (REF.CAND_CFG_AVG.at
        12) 1, fun s => s.modCand 12 (fun c => { c with actSince := some 0 })], 1188000001, 12, -30000, 1, -30000,
        ?_⟩; decide +kernel,
    by refine ⟨wit [fun s => s.put .ref (REF.CAND_STAT_WAITING.at 3) 1, fun s => s.put .ref (REF.CAND_STAT_QUAL.at 3)
        1, fun s => s.putLive .ref (REF.CAND_CFG_WTR.at 3) 1], 1188000000, 3, ?_⟩; decide +kernel,
    by refine ⟨wit [fun s => s.put .upd UPD.BOOT_STAT_PHASE 7, fun s => s.putLive .ref (REF.REFO_CTRL_EN.at 5) 1, fun
        s => s.modCand 0 (fun c => { c with edge := some 100, fly := 100, periods := [1000] })], 2100, 5, ?_⟩; decide
        +kernel,
    by refine ⟨wit [fun s => { s with refo := [3, 5], refoAt := [(5, 100)] }], 200000000, 5, ?_⟩; decide +kernel,
    by refine ⟨wit [fun s => s.modCand 5 (fun c => { c with edge := some 100, periods := [1000] })], 1600, 5, 100,
        ?_⟩; decide +kernel⟩

theorem witness_DpllsSelectAndLock :
    (∃ (s : State) (t : Nat) (k : Fin 4) (c : Nat) (h : Nat), s.boot.hold = 0 ∧ s.running .ref = true ∧ s.selected
      k.val = none ∧ (s.dpll k.val).held = some h ∧ h + 118800000 ≤ max s.now t ∧ s.bestCand k.val = some c ∧ (s.begin
      t).standing c ∧ s.live .ref (REF.DPLL_CTRL_REVERT.at k.val) = 0) ∧
    (∃ (s : State) (t : Nat) (k : Fin 4) (c : Nat) (a : Nat), s.boot.hold = 0 ∧ s.running .ref = true ∧ s.selected
      k.val = some c ∧ s.eligible k.val c = true ∧ (s.begin t).standing c ∧ s.live .ref (REF.DPLL_CTRL_REVERT.at
      k.val) = 0 ∧ s.dpllState k.val = 1 ∧ (s.dpll k.val).within = some a ∧ a + 1188000000 ≤ max s.now t) ∧
    (∃ (s : State) (t : Nat) (k : Fin 4) (c : Nat) (a : Nat), s.boot.hold = 0 ∧ s.running .ref = true ∧ s.selected
      k.val = some c ∧ s.eligible k.val c = true ∧ (s.begin t).standing c ∧ s.live .ref (REF.DPLL_CTRL_REVERT.at
      k.val) = 0 ∧ s.dpllState k.val = 2 ∧ (s.dpll k.val).beyond = some a ∧ a + 118800000 ≤ max s.now t) ∧
    (∃ (s : State) (t : Nat) (k : Fin 4) (c : Nat), s.boot.hold = 0 ∧ s.running .ref = true ∧ c < 8 ∧ s.selected k.val
      = some c ∧ s.eligible k.val c = true ∧ (s.begin t).standing c ∧ s.live .ref (REF.DPLL_CTRL_REVERT.at k.val) = 0
      ∧ (s.begin t).anyDisagree k.val = false ∧ (s.dpll k.val).disAt + 11880000000 ≤ max s.now t ∧ (∀ d : Fin 27, 8 ≤
      d.val → s.candCfg REF.CAND_CFG_EN d.val = 0 ∧ s.get .ref (REF.CAND_STAT_QUAL.at d.val) = 0)) :=
  ⟨
    by refine ⟨wit [fun s => s.put .ref (REF.CAND_STAT_QUAL.at 3) 1, fun s => s.putLive .ref (REF.PRIO.at2 2 0)
        0x5000, fun s => s.putLive .ref (REF.DPLL_CTRL_REVERT.at 2) 0, fun s => s.modDpll 2 (fun x =>
        { x with held := some 9 })], 118800009, 2, 3, 9, ?_⟩; decide +kernel,
    by refine ⟨wit [fun s => s.put .ref (REF.CAND_STAT_QUAL.at 3) 1, fun s => s.putLive .ref (REF.PRIO.at2 2 0)
        0x5000, fun s => s.putLive .ref (REF.DPLL_CTRL_REVERT.at 2) 0, fun s => s.put .ref (REF.DPLL_STAT_SEL.at 2) 3,
        fun s => s.put .ref (REF.DPLL_STAT_STATE.at 2) 1, fun s => s.modDpll 2 (fun x =>
        { x with within := some 9 })], 1188000009, 2, 3, 9, ?_⟩; decide +kernel,
    by refine ⟨wit [fun s => s.put .ref (REF.CAND_STAT_QUAL.at 3) 1, fun s => s.putLive .ref (REF.PRIO.at2 2 0)
        0x5000, fun s => s.putLive .ref (REF.DPLL_CTRL_REVERT.at 2) 0, fun s => s.put .ref (REF.DPLL_STAT_SEL.at 2) 3,
        fun s => s.put .ref (REF.DPLL_STAT_STATE.at 2) 2, fun s => s.modDpll 2 (fun x =>
        { x with beyond := some 9 })], 118800009, 2, 3, 9, ?_⟩; decide +kernel,
    by refine ⟨wit [fun s => s.put .ref (REF.CAND_STAT_QUAL.at 3) 1, fun s => s.putLive .ref (REF.PRIO.at2 2 0)
        0x5000, fun s => s.putLive .ref (REF.DPLL_CTRL_REVERT.at 2) 0, fun s => s.put .ref (REF.DPLL_STAT_SEL.at 2) 3,
        fun s => s.put .ref (REF.DPLL_STAT_DIS_LIVE.at 2) 1], 11880000000, 2, 3, ?_⟩; decide +kernel⟩

theorem witness_AudioFlowsAndMeters :
    (∃ (s : State) (m : Master), s.takes m .aud 0x054) ∧
    (∃ (s : State) (t : Nat), s.boot.hold = 0 ∧ s.aud.snap = true ∧ (s.begin t).smpDue = true) ∧
    (∃ (s : State) (t : Nat) (n : Fin 4096), s.boot.hold = 0 ∧ s.running (.flowaRx (flowBay n)) = true ∧ s.arxState n
      = 2 ∧ max (s.arx n).heardA (s.arx n).heardB + 11880000 ≤ max s.now t) ∧
    (∃ (s : State) (t : Nat) (n : Fin 4096) (pathB : Bool), s.boot.hold = 0 ∧ s.running (.flowaRx (flowBay n)) = true
      ∧ s.flowEn false true n = true ∧ (pathB = true → s.fa true TBL.FLOWA_RX_PAIR n ≠ 0) ∧ s.tget ((if pathB then
      TBL.FLOWA_RX_PATH_B_DOWN else TBL.FLOWA_RX_PATH_A_DOWN).at n.val) = 0 ∧ (if pathB then (s.arx n).heardB else
      (s.arx n).heardA) + 11880000 ≤ max s.now t) ∧
    (∃ (s : State) (t : Nat) (n : Fin 4096) (foreign : Bool), s.boot.hold = 0 ∧ s.running (.flowaRx (flowBay n)) =
      true ∧ s.flowEn false true n = true ∧ s.fa true TBL.FLOWA_RX_ASRC_EN n ≠ 1 ∧ (s.arx n).meanMoved (max s.now t)
      (!foreign) = true) ∧
    (∃ (s : State) (t : Nat) (n : Fin 4096) (ts : Nat) (words : List Nat) (c : Nat) (rest : List (Nat × List Nat ×
      Option Nat)), s.boot.hold = 0 ∧ s.running (.flowaTx (flowBay n)) = true ∧ (s.atx n).ready = (ts, words, some c)
      :: rest ∧ c ≤ max s.now t) :=
  ⟨
    by refine ⟨wit [fun s => s.put .upd UPD.BOOT_STAT_PHASE 7], .pcie, ?_⟩; decide +kernel,
    by refine ⟨wit [fun s => { s with aud := { s.aud with snap := true, meters := [(4, 99)] } }], 74250, ?_⟩; decide
        +kernel,
    by refine ⟨wit [fun s => s.setArxState 300 2, fun s => s.setArx 300
        { AudRx.init with heardA := 9, heardB := 11 }], 11880011, 300, ?_⟩; decide +kernel,
    by refine ⟨wit [fun s => s.tputLive (TBL.FLOWA_RX_EN.at 300) 1], 11880000, 300, false, ?_⟩; decide +kernel,
    by refine ⟨wit [fun s => s.tputLive (TBL.FLOWA_RX_EN.at 300) 1, fun s => s.setArx 300
        { AudRx.init with slacks := [(7, 2000)], means := [(7, 2000), (3, 400)] }], 7, 300, true, ?_⟩; decide +kernel,
    by refine ⟨wit [fun s => s.setAtx 300 ⟨65535, none, [(7, [1, 2], some 5)]⟩, fun s => s.putLive (.eth 0)
        ETH.ETH_CTRL_TX_EN 1, fun s => s.put (.eth 0) ETH.ETH_STAT_LINK_STATE 4], 7, 300, 7, [1, 2], 5, [], ?_⟩;
        decide +kernel⟩

theorem witness_TdmPortsFollowTheirTable :
    (∃ (s : State) (b : Fin 16), s.boot.hold = 0 ∧ s.running (.tdm b) = true ∧ s.tdmState b = 1 ∧ bits (s.tdmPort
      b).seq 0 13 ≤ (s.tdmPort b).seen ∧ ((s.tdmPort b).asrc = true → ∀ a ∈ s.portChans b, s.asrcState a = 2)) ∧
    (∃ (s : State) (b : Fin 16), s.boot.hold = 0 ∧ s.running (.tdm b) = true ∧ s.tdmState b = 3 ∧ bits (s.tdmPort
      b).seq 16 13 ≤ (s.tdmPort b).seen ∧ (s.tdmPort b).again = false) ∧
    (∃ (s : State) (b : Fin 16), s.boot.hold = 0 ∧ s.running (.tdm b) = true ∧ s.tdmState b = 3 ∧ bits (s.tdmPort
      b).seq 16 13 ≤ (s.tdmPort b).seen ∧ (s.tdmPort b).again = true) ∧
    (∃ (s : State) (m : Master) (b : Fin 16), s.takes m (.tdm b) 0x060 ∧ (s.tdmState b = 1 ∨ s.tdmState b = 5)) ∧
    (∃ (s : State) (b : Fin 16) (full : Bool), s.boot.hold = 0 ∧ s.running (.tdm b) = true ∧ s.tdmState b = 2 ∧
      s.tdmFifoEdge b full = true) ∧
    (∃ (s : State) (t : Nat) (b : Fin 16), s.boot.hold = 0 ∧ s.running (.tdm b) = true ∧ (s.tdmState b = 1 ∨
      s.tdmState b = 2) ∧ (s.tdmPort b).master = false ∧ (s.begin t).tdmSilent b = true) ∧
    (∃ (s : State) (b : Fin 16), s.boot.hold = 0 ∧ s.running (.tdm b) = true ∧ s.tdmState b = 4 ∧ 2 ≤ (s.tdmPort
      b).seen) ∧
    (∃ (s : State) (t : Nat) (b : Fin 16) (k : Nat), s.boot.hold = 0 ∧ s.running (.tdm b) = true ∧ s.tdmState b ≠ 0 ∧
      (s.tdmPort b).measured = false ∧ (s.tdmPort b).nextIv ≤ k ∧ (k + 1) * stcTenth ≤ (s.begin t).stc) ∧
    (∃ (s : State) (a : Nat) (lock : AsrcLock), s.boot.hold = 0 ∧ s.running .asrc = true ∧ a < 256 ∧ s.asrcState a = 1
      ∧ s.asrcSteady a lock = true) :=
  ⟨
    by refine ⟨wit [fun s => s.setTdmState 9 1, fun s => s.setTdm 9 { TdmPort.init with seen := 480 }], 9, ?_⟩; decide
        +kernel,
    by refine ⟨wit [fun s => s.setTdmState 9 3, fun s => s.setTdm 9 { TdmPort.init with seen := 480 }], 9, ?_⟩; decide
        +kernel,
    by refine ⟨wit [fun s => s.setTdmState 9 3, fun s => s.setTdm 9 { TdmPort.init with seen := 480, again := true }],
        9, ?_⟩; decide +kernel,
    by refine ⟨wit [fun s => s.put .upd UPD.BOOT_STAT_PHASE 7, fun s => s.setTdmState 9 5, fun s => s.put (.tdm 9)
        TDM.TDM_STAT_SWAP_RISK 1], .pcie, 9, ?_⟩; decide +kernel,
    by refine ⟨wit [fun s => s.setTdmState 9 2], 9, false, ?_⟩; decide +kernel,
    by refine ⟨wit [fun s => s.setTdmState 9 2, fun s => s.setTdm 9
        { TdmPort.init with ctl := 0x501, start := some 3 }], 49503, 9, ?_⟩; decide +kernel,
    by refine ⟨wit [fun s => s.setTdmState 9 4, fun s => s.setTdm 9 { TdmPort.init with seen := 2 }], 9, ?_⟩; decide
        +kernel,
    by refine ⟨wit [fun s => s.setTdmState 9 2, fun s => s.setTdm 9 { TdmPort.init with starts := [(0, 4801)] }], 10 ^
        10, 9, 0, ?_⟩; decide +kernel,
    by refine ⟨wit [fun s => s.setAsrc 255 1], 255, { ratio := 0x1000001, spread := 16, delay := 0x2000 }, ?_⟩; decide
        +kernel⟩

theorem witness_TdmFramesCarryTheConsumers :
    (∃ (s : State) (t : Nat) (b : Fin 16), s.boot.hold = 0 ∧ s.running (.tdm b) = true ∧ s.tdmState b = 2 ∧ (s.tdmPort
      b).master = true ∧ (s.begin t).tdmDue b = true ∧ (s.tdmPort b).r97 = false) ∧
    (∃ (s : State) (b : Fin 16) (nbits : Nat), s.boot.hold = 0 ∧ s.running (.tdm b) = true ∧ s.tdmState b ≠ 0 ∧
      (s.tdmPort b).master = false ∧ nbits ≠ (s.tdmPort b).slots * 32) ∧
    (∃ (s : State) (b : Fin 16) (began : Nat) (f : List Nat) (rest : List (List Nat)), s.boot.hold = 0 ∧ s.running
      (.tdm b) = true ∧ s.tdmState b = 2 ∧ (s.tdmPort b).master = false ∧ (s.tdmPort b).asrc = false ∧ (s.tdmPort
      b).runAt ≤ began ∧ (s.tdmPort b).din.length < 8 ∧ (s.tdmPort b).dout = f :: rest ∧ (s.tdmPort b).r97 = false) :=
  ⟨
    by refine ⟨wit [fun s => s.setTdmState 9 2, fun s => s.setTdm 9 { TdmPort.init with ctl := 0x503 }, fun s =>
        s.putLive (.tdm 9) TDM.TX_MASK_MASK 0x81, fun s => s.putLive (.tdm 9) TDM.TDM_PHASE_FS_PHASE 1188, fun s =>
        { s with aud := { s.aud with cons := [(0xC000 + 288, 0x12345600)] } }, fun s => s.modDpll 2 (fun d =>
        { d with last := some 5 })], 1193, 9, ?_⟩; decide +kernel,
    by refine ⟨wit [fun s => s.setTdmState 9 2, fun s => s.setTdm 9
        { TdmPort.init with ctl := 0x501, dout := [[4, 5]], rxMask := 0xFF, din := [(1, [])] }], 9, 5, ?_⟩; decide
        +kernel,
    by refine ⟨wit [fun s => s.setTdmState 9 2, fun s => s.setTdm 9
        { TdmPort.init with ctl := 0x501, dout := [[4, 5]], rxMask := 0xFF, din := [(1, [])] }], 9, 3, [4, 5], [],
        ?_⟩; decide +kernel⟩

theorem witness_EnginesAndMemoryReport :
    (∃ (s : State) (e : Fin 64) (l : Fin 16) (det : Nat), s.boot.hold = 0 ∧ s.running (.eng e) = true ∧ (layerCfg
      (s.engWords liveView) e l.val 0).en = true ∧ (layerCfg (s.engWords liveView) e l.val 0).kind = 0 ∧ slotBytes det
      ≤ slotBytes (layerCfg (s.engWords liveView) e l.val 0).fmt ∧ (format? det).isSome = true ∧ ((s.eng e).layer
      l.val).lost = false ∧ ((s.eng e).layer l.val).seqs.length = 4) ∧
    (∃ (s : State) (channels : BitVec 24), s.boot.hold = 0 ∧ s.get .upd UPD.BOOT_STAT_PHASE = 4 ∧ channels.toNat =
      0xFFFFFF) ∧
    (∃ (s : State) (channels : BitVec 24), s.boot.hold = 0 ∧ s.get .upd UPD.BOOT_STAT_PHASE = 4 ∧ channels.toNat ≠
      0xFFFFFF) ∧
    (∃ (s : State) (t : Nat), s.boot.hold = 0 ∧ s.running .gmc = true ∧ s.live .gmc GMC.RETRAIN_CTRL_EN = 1 ∧ (s.begin
      t).retrainDue = true) ∧
    (∃ (s : State), s.boot.hold = 0 ∧ s.running .gmc = true) ∧
    (∃ (s : State), s.boot.hold = 0 ∧ s.running .gmc = true) :=
  ⟨
    by refine ⟨wit [fun s => s.putLive (.eng 5) (ENGI.LAYER_SRC_EN.at 3) 1], 5, 3, 0x10, ?_⟩; decide +kernel,
    by refine ⟨wit [fun s => s.put .upd UPD.BOOT_STAT_PHASE 4], 0xFFFFFF, ?_⟩; decide +kernel,
    by refine ⟨wit [fun s => s.put .upd UPD.BOOT_STAT_PHASE 4], 0x7FFFFF, ?_⟩; decide +kernel,
    by refine ⟨wit [fun s => s.putLive .gmc GMC.RETRAIN_CTRL_EN 1, fun s => s.put .gmc GMC.RETRAIN_STAT_LAST_CH 23,
        fun s => s.put .gmc GMC.RETRAIN_STAT_COUNT 4, fun s => s.putLive .gmc GMC.RETRAIN_CTRL_VTG 3, fun s =>
        s.putLive .gmc GMC.RETRAIN_CTRL_LINE 1, fun s => s.putLive (.vtg 3) VTG.VTG_CTRL_EN 1, fun s =>
        { s.setVtg 3 { witVtg with start := some 71280000000 } with retrainAt := some 0 }], 71280000000, ?_⟩; decide
        +kernel,
    by refine ⟨wit [], ?_⟩; decide +kernel,
    by refine ⟨wit [], ?_⟩; decide +kernel⟩

theorem witness_PcieEndpointAndItsMessages :
    (∃ (s : State), s.boot.hold = 0) ∧
    (∃ (s : State), s.boot.hold = 0 ∧ s.pcieReady = false) ∧
    (∃ (s : State), s.boot.hold = 0) ∧
    (∃ (s : State), s.boot.hold = 0 ∧ s.get .hif HIF.HIF_STAT_LINK_UP = 1) ∧
    (∃ (s : State) (m : Master), s.takes m .hif 0x048) ∧
    (∃ (s : State) (v : Fin 256), s.boot.hold = 0 ∧ s.vecReq.contains v.val = true) ∧
    (∃ (s : State), s.boot.hold = 0) :=
  ⟨
    by refine ⟨wit [fun s => { s with insvc := [4], pcieReady := true }, fun s => s.setWord 0x4FFC 0], ?_⟩; decide
        +kernel,
    by refine ⟨wit [fun s => { s with pcieReady := false }], ?_⟩; decide +kernel,
    by refine ⟨wit [], ?_⟩; decide +kernel,
    by refine ⟨wit [fun s => s.put .hif HIF.HIF_STAT_LINK_UP 1], ?_⟩; decide +kernel,
    by refine ⟨wit [fun s => s.put .upd UPD.BOOT_STAT_PHASE 7, fun s => { s with insvc := [4, 9] }], .pcie, ?_⟩;
        decide +kernel,
    by refine ⟨wit [fun s => s.put .gmc GMC.INT_STAT_RETRAIN_DONE 1, fun s => s.setWord 0x500010 0xFFFFFFFF], 0, ?_⟩;
        decide +kernel,
    by refine ⟨wit [], ?_⟩; decide +kernel⟩

theorem witness_WindowAndSpiAccessesReachTheirTargets :
    (∃ (s : State) (off : BitVec 30), s.boot.hold = 0 ∧ s.owesError .pcie = false ∧ s.get .hif (HIF.BAR2_WIN_TGT.at
      ((off.toNat / 4 * 4) / 2 ^ 28)) = 0 ∧ (s.get .hif (HIF.BAR2_WIN_BASE.at ((off.toNat / 4 * 4) / 2 ^ 28)) * 2 ^ 20
      + (off.toNat / 4 * 4) % 2 ^ 28) < 0x5F4000000) ∧
    (∃ (s : State) (off : BitVec 30), s.boot.hold = 0 ∧ s.owesError .pcie = false ∧ s.get .hif (HIF.BAR2_WIN_TGT.at
      ((off.toNat / 4 * 4) / 2 ^ 28)) = 0 ∧ (s.get .hif (HIF.BAR2_WIN_BASE.at ((off.toNat / 4 * 4) / 2 ^ 28)) * 2 ^ 20
      + (off.toNat / 4 * 4) % 2 ^ 28) < 0x5F4000000) ∧
    (∃ (s : State) (off : BitVec 30), s.boot.hold = 0 ∧ s.owesError .pcie = false ∧ s.get .hif (HIF.BAR2_WIN_TGT.at
      ((off.toNat / 4 * 4) / 2 ^ 28)) = 0 ∧ 0x5F4000000 ≤ (s.get .hif (HIF.BAR2_WIN_BASE.at ((off.toNat / 4 * 4) / 2 ^
      28)) * 2 ^ 20 + (off.toNat / 4 * 4) % 2 ^ 28)) ∧
    (∃ (s : State), s.boot.hold = 0 ∧ s.phase ≠ 1) ∧
    (∃ (s : State) (addr : Nat), s.gives .spi addr ∧ addr % 4 = 0 ∧ s.phase ≠ 1) ∧
    (∃ (s : State), s.boot.hold = 0 ∧ s.phase ≠ 1 ∧ s.spi.queue.length < 64) ∧
    (∃ (s : State), s.boot.hold = 0 ∧ s.phase ≠ 1 ∧ 64 ≤ s.spi.queue.length) ∧
    (∃ (s : State) (e : Nat × Nat), s.boot.hold = 0 ∧ s.spi.queue = [e] ∧ ((s.denied .spi true e.1 15).isSome = true ∨
      s.owesError .spi = true)) ∧
    (∃ (s : State), s.boot.hold = 0 ∧ s.spi.reading = true ∧ s.spi.queue = []) :=
  ⟨
    by refine ⟨wit [fun s => s.put .hif (HIF.BAR2_WIN_BASE.at 1) 3], 0x10000005, ?_⟩; decide +kernel,
    by refine ⟨wit [fun s => s.put .hif (HIF.BAR2_WIN_BASE.at 1) 3, fun s => s.gddrWrite 0x300004 [1, 2, 3]],
        0x10000005, ?_⟩; decide +kernel,
    by refine ⟨wit [fun s => s.put .hif (HIF.BAR2_WIN_BASE.at 1) 0x5F40], 0x10000005, ?_⟩; decide +kernel,
    by refine ⟨wit [fun s => s.put .upd UPD.BOOT_STAT_PHASE 7, fun s => { s with spi := { s.spi with ovf := true } }],
        ?_⟩; decide +kernel,
    by refine ⟨wit [fun s => s.put .upd UPD.BOOT_STAT_PHASE 7], 0x500, ?_⟩; decide +kernel,
    by refine ⟨wit [fun s => s.put .upd UPD.BOOT_STAT_PHASE 7], ?_⟩; decide +kernel,
    by refine ⟨wit [fun s => s.put .upd UPD.BOOT_STAT_PHASE 7, fun s =>
        { s with spi := { s.spi with queue := List.replicate 64 (0, 0) } }], ?_⟩; decide +kernel,
    by refine ⟨wit [fun s => { s with spi := { s.spi with queue := [(0x500040, 3)] } }], (0x500040, 3), ?_⟩; decide
        +kernel,
    by refine ⟨wit [fun s => { s with spi := { s.spi with reading := true } }], ?_⟩; decide +kernel⟩

theorem witness_MailboxCommandsAndResponses :
    (∃ (s : State) (k : Fin 2) (words : List Word), s.boot.hold = 0 ∧ s.owesError (hostMaster k) = false ∧ (k = 1 → 3
      ≤ s.phase) ∧ s.busy.contains .hif = false ∧ words.length ≤ 63 ∧ s.mbx.length = 2 ∧ s.get .hif
      (HIF.MBX_STAT_BUSY.at k.val) = 0 ∧ s.get .hif (HIF.MBX_STAT_FW_READY.at k.val) = 1 ∧ s.get .hif
      (HIF.MBX_STAT_DONE.at k.val) = 0) ∧
    (∃ (s : State) (k : Fin 2) (words : List Word), s.boot.hold = 0 ∧ s.owesError (hostMaster k) = false ∧ (k = 1 → 3
      ≤ s.phase) ∧ s.busy.contains .hif = false ∧ words.length ≤ 63 ∧ s.mbx.length = 2 ∧ s.get .hif
      (HIF.MBX_STAT_BUSY.at k.val) = 0 ∧ s.get .hif (HIF.MBX_STAT_FW_READY.at k.val) = 1 ∧ s.get .hif
      (HIF.MBX_STAT_DONE.at k.val) = 0 ∧ words = []) ∧
    (∃ (s : State) (k : Fin 2) (words : List Word), s.boot.hold = 0 ∧ s.owesError (hostMaster k) = false ∧ (k = 1 → 3
      ≤ s.phase) ∧ s.busy.contains .hif = false ∧ words.length ≤ 63 ∧ s.mbx.length = 2 ∧ s.get .hif
      (HIF.MBX_STAT_BUSY.at k.val) = 0 ∧ s.get .hif (HIF.MBX_STAT_FW_READY.at k.val) = 1 ∧ s.get .hif
      (HIF.MBX_STAT_DONE.at k.val) = 0 ∧ words ≠ []) ∧
    (∃ (s : State) (k : Fin 2) (words : List Word), s.boot.hold = 0 ∧ s.owesError (hostMaster k) = false ∧ (k = 1 → 3
      ≤ s.phase) ∧ s.busy.contains .hif = false ∧ words.length ≤ 63 ∧ s.mbx.length = 2 ∧ s.get .hif
      (HIF.MBX_STAT_BUSY.at k.val) = 0 ∧ s.get .hif (HIF.MBX_STAT_FW_READY.at k.val) = 1 ∧ s.get .hif
      (HIF.MBX_STAT_DONE.at k.val) = 0 ∧ words = []) ∧
    (∃ (s : State) (k : Fin 2) (words : List Word), s.boot.hold = 0 ∧ s.owesError (hostMaster k) = false ∧ (k = 1 → 3
      ≤ s.phase) ∧ s.busy.contains .hif = false ∧ words.length ≤ 63 ∧ s.mbx.length = 2 ∧ s.get .hif
      (HIF.MBX_STAT_BUSY.at k.val) = 0 ∧ s.get .hif (HIF.MBX_STAT_FW_READY.at k.val) = 1 ∧ s.get .hif
      (HIF.MBX_STAT_DONE.at k.val) = 0 ∧ words.length = 1 ∧ cfgKey (nth words 0 0).toNat = true) ∧
    (∃ (s : State) (k : Fin 2) (words : List Word), s.boot.hold = 0 ∧ s.owesError (hostMaster k) = false ∧ (k = 1 → 3
      ≤ s.phase) ∧ s.busy.contains .hif = false ∧ words.length ≤ 63 ∧ s.mbx.length = 2 ∧ s.get .hif
      (HIF.MBX_STAT_BUSY.at k.val) = 0 ∧ s.get .hif (HIF.MBX_STAT_FW_READY.at k.val) = 1 ∧ s.get .hif
      (HIF.MBX_STAT_DONE.at k.val) = 0 ∧ words.length = 1 ∧ calKnown (nth words 0 0).toNat = true) ∧
    (∃ (s : State) (k : Fin 2) (words : List Word) (w : Served), s.boot.hold = 0 ∧ s.owesError (hostMaster k) = false
      ∧ (k = 1 → 3 ≤ s.phase) ∧ s.busy.contains .hif = false ∧ words.length ≤ 63 ∧ s.mbx.length = 2 ∧ s.get .hif
      (HIF.MBX_STAT_BUSY.at k.val) = 0 ∧ s.get .hif (HIF.MBX_STAT_FW_READY.at k.val) = 1 ∧ s.get .hif
      (HIF.MBX_STAT_DONE.at k.val) = 0 ∧ k = 0 ∧ words ≠ [] ∧ s.get .upd UPD.UPD_SESS_OPEN = 0 ∧ w.store = true ∧
      cfgKey (nth words 0 0).toNat = true ∧ cfgBody (nth words 0 0).toNat ((words.drop 1).map (·.toNat)) = true) ∧
    (∃ (s : State) (k : Fin 2) (words : List Word) (w : Served), s.boot.hold = 0 ∧ s.owesError (hostMaster k) = false
      ∧ (k = 1 → 3 ≤ s.phase) ∧ s.busy.contains .hif = false ∧ words.length ≤ 63 ∧ s.mbx.length = 2 ∧ s.get .hif
      (HIF.MBX_STAT_BUSY.at k.val) = 0 ∧ s.get .hif (HIF.MBX_STAT_FW_READY.at k.val) = 1 ∧ s.get .hif
      (HIF.MBX_STAT_DONE.at k.val) = 0 ∧ k = 0 ∧ s.get .upd UPD.UPD_SESS_OPEN = 0 ∧ w.store = true ∧ calKnown (nth
      words 0 0).toNat = true ∧ words.length = 1 + calLen ((nth words 0 0).toNat / 65536) ∧ calValue ((nth words 0
      0).toNat / 65536) ((words.drop 1).map (·.toNat)) = true) ∧
    (∃ (s : State) (k : Fin 2) (words : List Word) (w : Served), s.boot.hold = 0 ∧ s.owesError (hostMaster k) = false
      ∧ (k = 1 → 3 ≤ s.phase) ∧ s.busy.contains .hif = false ∧ words.length ≤ 63 ∧ s.mbx.length = 2 ∧ s.get .hif
      (HIF.MBX_STAT_BUSY.at k.val) = 0 ∧ s.get .hif (HIF.MBX_STAT_FW_READY.at k.val) = 1 ∧ s.get .hif
      (HIF.MBX_STAT_DONE.at k.val) = 0 ∧ k = 1 ∧ words ≠ [] ∧ s.get .upd UPD.UPD_SESS_OPEN = 0 ∧ w.store = true ∧
      cfgKey (nth words 0 0).toNat = true ∧ cfgBody (nth words 0 0).toNat ((words.drop 1).map (·.toNat)) = true) :=
  ⟨
    by refine ⟨wit [fun s => s.put .upd UPD.BOOT_STAT_PHASE 7, fun s => s.put .hif (HIF.MBX_STAT_FW_READY.at 0) 1, fun
        s => s.put .hif (HIF.MBX_STAT_FW_READY.at 1) 1], 1, [3, 4], ?_⟩; decide +kernel,
    by refine ⟨wit [fun s => s.put .upd UPD.BOOT_STAT_PHASE 7, fun s => s.put .hif (HIF.MBX_STAT_FW_READY.at 0) 1, fun
        s => s.put .hif (HIF.MBX_STAT_FW_READY.at 1) 1], 0, [], ?_⟩; decide +kernel,
    by refine ⟨wit [fun s => s.put .upd UPD.BOOT_STAT_PHASE 7, fun s => s.put .hif (HIF.MBX_STAT_FW_READY.at 0) 1, fun
        s => s.put .hif (HIF.MBX_STAT_FW_READY.at 1) 1], 0, [1], ?_⟩; decide +kernel,
    by refine ⟨wit [fun s => s.put .upd UPD.BOOT_STAT_PHASE 7, fun s => s.put .hif (HIF.MBX_STAT_FW_READY.at 0) 1, fun
        s => s.put .hif (HIF.MBX_STAT_FW_READY.at 1) 1], 1, [], ?_⟩; decide +kernel,
    by refine ⟨wit [fun s => s.put .upd UPD.BOOT_STAT_PHASE 7, fun s => s.put .hif (HIF.MBX_STAT_FW_READY.at 0) 1, fun
        s => s.put .hif (HIF.MBX_STAT_FW_READY.at 1) 1, fun s => s.cfgAppend 0x8001 0 [1, 2, 3, 4] none], 0, [0x8001],
        ?_⟩; decide +kernel,
    by refine ⟨wit [fun s => s.put .upd UPD.BOOT_STAT_PHASE 7, fun s => s.put .hif (HIF.MBX_STAT_FW_READY.at 0) 1, fun
        s => s.put .hif (HIF.MBX_STAT_FW_READY.at 1) 1], 0, [0x10005], ?_⟩; decide +kernel,
    by refine ⟨wit [fun s => s.put .upd UPD.BOOT_STAT_PHASE 7, fun s => s.put .hif (HIF.MBX_STAT_FW_READY.at 0) 1, fun
        s => s.put .hif (HIF.MBX_STAT_FW_READY.at 1) 1], 0, [0x80FF, 7], ⟨true, true⟩, ?_⟩; decide +kernel,
    by refine ⟨wit [fun s => s.put .upd UPD.BOOT_STAT_PHASE 7, fun s => s.put .hif (HIF.MBX_STAT_FW_READY.at 0) 1, fun
        s => s.put .hif (HIF.MBX_STAT_FW_READY.at 1) 1], 0, [0x3002F, 5, 6], ⟨true, true⟩, ?_⟩; decide +kernel,
    by refine ⟨wit [fun s => s.put .upd UPD.BOOT_STAT_PHASE 7, fun s => s.put .hif (HIF.MBX_STAT_FW_READY.at 0) 1, fun
        s => s.put .hif (HIF.MBX_STAT_FW_READY.at 1) 1], 1, [0x80FF, 7], ⟨true, true⟩, ?_⟩; decide +kernel⟩

theorem witness_MailboxCommandsAndResponses_part2 :
    (∃ (s : State) (k : Fin 2) (words : List Word), s.boot.hold = 0 ∧ s.owesError (hostMaster k) = false ∧ (k = 1 → 3
      ≤ s.phase) ∧ s.busy.contains .hif = false ∧ words.length ≤ 63 ∧ s.mbx.length = 2 ∧ s.get .hif
      (HIF.MBX_STAT_BUSY.at k.val) = 0 ∧ s.get .hif (HIF.MBX_STAT_DONE.at k.val) = 1) ∧
    (∃ (s : State) (k : Fin 2), s.takes (hostMaster k) .hif (0x100 + 0x10 * k.val) ∧ s.mbx.length = 2 ∧ s.get .hif
      (HIF.MBX_STAT_BUSY.at k.val) = 1) ∧
    (∃ (s : State) (k : Fin 2) (st : Nat) (ws : List Nat), s.boot.hold = 0 ∧ s.mbx.length = 2 ∧ nth s.mbx k.val none =
      some (st, ws) ∧ st < 65536 ∧ ws.length ≤ 63) ∧
    (∃ (s : State), s.boot.hold = 0 ∧ 4 ≤ s.phase ∧ s.phase ≤ 7) :=
  ⟨
    by refine ⟨wit [fun s => s.put .hif (HIF.MBX_STAT_FW_READY.at 0) 1, fun s => s.put .hif (HIF.MBX_STAT_DONE.at 0)
        1], 0, [1], ?_⟩; decide +kernel,
    by refine ⟨wit [fun s => s.put .upd UPD.BOOT_STAT_PHASE 7, fun s => s.put .hif (HIF.MBX_STAT_BUSY.at 1) 1], 1,
        ?_⟩; decide +kernel,
    by refine ⟨wit [fun s => s.put .hif (HIF.MBX_STAT_BUSY.at 1) 1, fun s => s.put .hif (HIF.MBX_STAT_TAG.at 1) 0x77,
        fun s => { s with mbx := [none, some (0, [5, 6])] }], 1, 0, [5, 6], ?_⟩; decide +kernel,
    by refine ⟨wit [fun s => s.put .upd UPD.BOOT_STAT_PHASE 7, fun s => s.put .hif HIF.FW_HEARTBEAT_COUNT 0xFFFFFFFF],
        ?_⟩; decide +kernel⟩

theorem witness_TheBusMatrixArbitrates :
    (∃ (s : State) (target : Fin 6) (waiting : List Waiter) (x : Waiter), s.boot.hold = 0 ∧ nth s.bus.locks target.val
      none = none ∧ s.bus.last.length = 6 ∧ x ∈ waiting ∧ (∀ y ∈ waiting, y.kind = 0 ∧ y.m < 9) ∧ s.bus.errNext = [] ∧
      (∀ y ∈ waiting, s.mayTarget y.m target.val = true) ∧ (∀ y ∈ waiting, y.waited ≤ max 1 (s.get .busm
      BUSM.AGE_LIM_CYC)) ∧ (∀ y ∈ waiting, y = x ∨ s.prio target.val y.m < s.prio target.val x.m)) ∧
    (∃ (s : State) (target : Fin 6) (waiting : List Waiter) (x : Waiter), s.boot.hold = 0 ∧ nth s.bus.locks target.val
      none = none ∧ s.bus.last.length = 6 ∧ x ∈ waiting ∧ (∀ y ∈ waiting, y.kind = 0 ∧ y.m < 9) ∧ s.bus.errNext = [] ∧
      (∀ y ∈ waiting, s.mayTarget y.m target.val = true) ∧ max 1 (s.get .busm BUSM.AGE_LIM_CYC) < x.waited ∧ (∀ y ∈
      waiting, y = x ∨ y.waited < x.waited)) ∧
    (∃ (s : State) (t : Nat) (target : Fin 6) (h : Nat × Nat), s.boot.hold = 0 ∧ nth s.bus.locks target.val none =
      some h ∧ h.2 + 8192 < max s.now t) ∧
    (∃ (s : State), s.boot.hold = 0) ∧
    (∃ (s : State), s.boot.hold = 0 ∧ s.evr.queue.length < 64) :=
  ⟨
    by refine ⟨wit [fun s => s.setWord (Page.base .busm + BUSM.PRIO.off) 5], 0, [⟨3, 0, 0⟩, ⟨0, 1, 0⟩], ⟨0, 1, 0⟩,
        ?_⟩; decide +kernel,
    by refine ⟨wit [], 5, [⟨0, 1, 0⟩, ⟨7, 100000, 0⟩], ⟨7, 100000, 0⟩, ?_⟩; decide +kernel,
    by refine ⟨wit [fun s => { s with bus := { s.bus with locks := [none, none, none, none, none, some (6, 9)] } }],
        8202, 5, (6, 9), ?_⟩; decide +kernel,
    by refine ⟨wit [fun s => { s with bus := { s.bus with locks := [none, none, none, none, none, some (6, 9)] } }],
        ?_⟩; decide +kernel,
    by refine ⟨wit [fun s =>
        { s with bus := { s.bus with locks := [some (5, 1), none, none, none, none, some (6, 9)] } }], ?_⟩; decide
        +kernel⟩

theorem witness_CoppiceCommandsChangeTheirNodes :
    (∃ (s : State) (m : Master) (a0 : Word) (a1 : Word), s.takesAll m .key [0x040, 0x044, 0x048, 0x04C] ∧
      s.busy.contains .key = false ∧ s.get .key KEY.KEY_STAT_BUSY = 0 ∧ s.get .key KEY.KEY_STAT_DONE = 0 ∧
      s.keys.tampActive = false ∧ (s.otp.lc = 1 ∨ s.otp.lc = 2) ∧ s.rootKey ≠ none ∧ 2 ≤ (bits a0.toNat 22 2) ∧ bits
      a1.toNat 0 7 ≤ 0x40 ∧ (s.node (bits a0.toNat 16 6)).defined = false ∧ (bits a1.toNat 0 7 = 0x40 ∨ s.nodeIs (bits
      a1.toNat 0 7) 3 = true)) ∧
    (∃ (s : State) (m : Master) (a0 : Word) (a1 : Word), s.takesAll m .key [0x040, 0x044, 0x048, 0x04C] ∧
      s.busy.contains .key = false ∧ s.get .key KEY.KEY_STAT_BUSY = 0 ∧ s.get .key KEY.KEY_STAT_DONE = 0 ∧
      s.keys.tampActive = false ∧ (s.otp.lc = 1 ∨ s.otp.lc = 2) ∧ s.rootKey = none ∧ 2 ≤ (bits a0.toNat 22 2) ∧ bits
      a1.toNat 0 7 = 0x40 ∧ (s.node (bits a0.toNat 16 6)).defined = false) ∧
    (∃ (s : State) (m : Master) (a0 : Word), s.takesAll m .key [0x040, 0x044, 0x048, 0x04C] ∧ s.busy.contains .key =
      false ∧ s.get .key KEY.KEY_STAT_BUSY = 0 ∧ s.get .key KEY.KEY_STAT_DONE = 0 ∧ s.keys.tampActive = false ∧
      (s.otp.lc = 1 ∨ s.otp.lc = 2) ∧ s.rootKey ≠ none ∧ (s.node (bits a0.toNat 16 6)).defined = true) ∧
    (∃ (s : State) (m : Master) (a0 : Word), s.takesAll m .key [0x040, 0x044, 0x048, 0x04C] ∧ s.busy.contains .key =
      false ∧ s.get .key KEY.KEY_STAT_BUSY = 0 ∧ s.get .key KEY.KEY_STAT_DONE = 0 ∧ s.keys.tampActive = false ∧
      (s.otp.lc = 1 ∨ s.otp.lc = 2) ∧ s.rootKey ≠ none ∧ (s.node (bits a0.toNat 16 6)).defined = true ∧ s.hasChild
      (bits a0.toNat 16 6) = false) ∧
    (∃ (s : State) (m : Master) (a0 : Word), s.takesAll m .key [0x040, 0x044, 0x048, 0x04C] ∧ s.busy.contains .key =
      false ∧ s.get .key KEY.KEY_STAT_BUSY = 0 ∧ s.get .key KEY.KEY_STAT_DONE = 0 ∧ s.keys.tampActive = false ∧
      s.otp.lc = 1 ∧ (∀ j : Fin 4, bits a0.toNat (2 * j.val) 2 ≠ 3)) ∧
    (∃ (s : State) (m : Master) (a0 : Word) (w : Served), s.takesAll m .key [0x040, 0x044, 0x048, 0x04C] ∧
      s.busy.contains .key = false ∧ s.get .key KEY.KEY_STAT_BUSY = 0 ∧ s.get .key KEY.KEY_STAT_DONE = 0 ∧
      s.keys.tampActive = false ∧ s.otp.lc = 1 ∧ bits a0.toNat 0 2 ≠ 0 ∧ s.otp.keyHash.length = 4 ∧ nth s.otp.keyHash
      (bits a0.toNat 0 2) none = none ∧ w.store = true) ∧
    (∃ (s : State) (m : Master) (a0 : Word) (w : Served), s.takesAll m .key [0x040, 0x044, 0x048, 0x04C] ∧
      s.busy.contains .key = false ∧ s.get .key KEY.KEY_STAT_BUSY = 0 ∧ s.get .key KEY.KEY_STAT_DONE = 0 ∧
      s.keys.tampActive = false ∧ (s.otp.lc = 1 ∨ s.otp.lc = 2) ∧ bits a0.toNat 0 2 = s.otp.lc + 1 ∧ (bits a0.toNat 0
      2 = 2 → s.identity ≠ none) ∧ w.store = true) ∧
    (∃ (s : State) (m : Master) (a0 : Word) (w : Served), s.takesAll m .key [0x040, 0x044, 0x048, 0x04C] ∧
      s.busy.contains .key = false ∧ s.get .key KEY.KEY_STAT_BUSY = 0 ∧ s.get .key KEY.KEY_STAT_DONE = 0 ∧
      s.keys.tampActive = false ∧ s.otp.lc = 0 ∧ bits a0.toNat 0 2 = 1 ∧ w.store = true ∧ w.entropy = true) ∧
    (∃ (s : State) (m : Master) (w : Served), s.takesAll m .key [0x040, 0x044, 0x048, 0x04C] ∧ s.busy.contains .key =
      false ∧ s.get .key KEY.KEY_STAT_BUSY = 0 ∧ s.get .key KEY.KEY_STAT_DONE = 0 ∧ s.keys.tampActive = false ∧
      (s.otp.lc = 1 ∨ s.otp.lc = 2) ∧ s.rootKey ≠ none ∧ s.identity = none ∧ s.otp.idEpoch < 8 ∧ w.store = true ∧
      w.entropy = true) :=
  ⟨
    by refine ⟨wit [fun s => s.put .upd UPD.BOOT_STAT_PHASE 7, fun s =>
        { s with otp := { s.otp with lc := 1, uniqueId := 0x1122334455667788 }, vbat := { s.vbat with root := some 5 } },
        fun s => s.setNode 3 ⟨true, 3, 64, 7⟩], .pcie, 0xbf0000, 3, ?_⟩; decide +kernel,
    by refine ⟨wit [fun s => s.put .upd UPD.BOOT_STAT_PHASE 7, fun s =>
        { s with otp := { s.otp with lc := 1, uniqueId := 0x1122334455667788 }, vbat := { s.vbat with root := some 5 } },
        fun s => { s with vbat := { s.vbat with root := none } }], .pcie, 0xbf0000, 0x40, ?_⟩; decide +kernel,
    by refine ⟨wit [fun s => s.put .upd UPD.BOOT_STAT_PHASE 7, fun s =>
        { s with otp := { s.otp with lc := 1, uniqueId := 0x1122334455667788 }, vbat := { s.vbat with root := some 5 } },
        fun s => s.setNode 5 ⟨true, 2, 64, 7⟩, fun s => s.putKey 300 [1] 0 0 5], .pcie, 0x50000, ?_⟩; decide +kernel,
    by refine ⟨wit [fun s => s.put .upd UPD.BOOT_STAT_PHASE 7, fun s =>
        { s with otp := { s.otp with lc := 1, uniqueId := 0x1122334455667788 }, vbat := { s.vbat with root := some 5 } },
        fun s => s.setNode 5 ⟨true, 2, 64, 7⟩], .pcie, 0x50000, ?_⟩; decide +kernel,
    by refine ⟨wit [fun s => s.put .upd UPD.BOOT_STAT_PHASE 7, fun s =>
        { s with otp := { s.otp with lc := 1, uniqueId := 0x1122334455667788 }, vbat := { s.vbat with root := some 5 } }],
        .pcie, 0xA5, ?_⟩; decide +kernel,
    by refine ⟨wit [fun s => s.put .upd UPD.BOOT_STAT_PHASE 7, fun s =>
        { s with otp := { s.otp with lc := 1, uniqueId := 0x1122334455667788 }, vbat := { s.vbat with root := some 5 } }],
        .pcie, 3, ⟨true, true⟩, ?_⟩; decide +kernel,
    by refine ⟨wit [fun s => s.put .upd UPD.BOOT_STAT_PHASE 7, fun s =>
        { s with otp := { s.otp with lc := 1, uniqueId := 0x1122334455667788 }, vbat := { s.vbat with root := some 5 } },
        fun s => { s with otp := { s.otp with lc := 2 } }], .pcie, 3, ⟨true, true⟩, ?_⟩; decide +kernel,
    by refine ⟨wit [fun s => s.put .upd UPD.BOOT_STAT_PHASE 7, fun s =>
        { s with otp := { s.otp with lc := 1, uniqueId := 0x1122334455667788 }, vbat := { s.vbat with root := some 5 } },
        fun s => { s with otp := { s.otp with lc := 0 } }], .pcie, 1, ⟨true, true⟩, ?_⟩; decide +kernel,
    by refine ⟨wit [fun s => s.put .upd UPD.BOOT_STAT_PHASE 7, fun s =>
        { s with otp := { s.otp with lc := 1, uniqueId := 0x1122334455667788 }, vbat := { s.vbat with root := some 5 } }],
        .pcie, ⟨true, true⟩, ?_⟩; decide +kernel⟩

theorem witness_KeySlotCommandsFillTheirSlots :
    (∃ (s : State) (m : Master) (a0 : Word) (w : Served), s.takesAll m .key [0x040, 0x044, 0x048, 0x04C] ∧
      s.busy.contains .key = false ∧ s.get .key KEY.KEY_STAT_BUSY = 0 ∧ s.get .key KEY.KEY_STAT_DONE = 0 ∧
      s.keys.tampActive = false ∧ s.otp.lc ≤ 2 ∧ s.rootKey ≠ none ∧ (bits a0.toNat 22 2) ≠ 3 ∧ s.nodeIs (bits a0.toNat
      16 6) 2 = true ∧ w.entropy = true) ∧
    (∃ (s : State) (m : Master) (a0 : Word) (w : Served), s.takesAll m .key [0x040, 0x044, 0x048, 0x04C] ∧
      s.busy.contains .key = false ∧ s.get .key KEY.KEY_STAT_BUSY = 0 ∧ s.get .key KEY.KEY_STAT_DONE = 0 ∧
      s.keys.tampActive = false ∧ s.otp.lc ≤ 2 ∧ s.rootKey ≠ none ∧ (bits a0.toNat 22 2) ≠ 3 ∧ s.nodeIs (bits a0.toNat
      16 6) 2 = true ∧ w.entropy = false) ∧
    (∃ (s : State) (m : Master) (a0 : Word), s.takesAll m .key [0x040, 0x044, 0x048, 0x04C] ∧ s.busy.contains .key =
      false ∧ s.get .key KEY.KEY_STAT_BUSY = 0 ∧ s.get .key KEY.KEY_STAT_DONE = 0 ∧ s.keys.tampActive = false ∧
      s.otp.lc ≤ 2 ∧ s.rootKey ≠ none ∧ (bits a0.toNat 22 2) ≠ 3 ∧ s.nodeIs (bits a0.toNat 16 6) 3 = true) ∧
    (∃ (s : State) (m : Master) (a0 : Word), s.takesAll m .key [0x040, 0x044, 0x048, 0x04C] ∧ s.busy.contains .key =
      false ∧ s.get .key KEY.KEY_STAT_BUSY = 0 ∧ s.get .key KEY.KEY_STAT_DONE = 0 ∧ s.keys.tampActive = false ∧
      s.otp.lc ≤ 2 ∧ s.rootKey ≠ none ∧ (bits a0.toNat 22 2) ≠ 3 ∧ s.nodeIs (bits a0.toNat 16 6) 2 = true) ∧
    (∃ (s : State) (m : Master) (a0 : Word) (a1 : Word) (key : List Nat), s.takesAll m .key [0x040, 0x044, 0x048,
      0x04C] ∧ s.busy.contains .key = false ∧ s.get .key KEY.KEY_STAT_BUSY = 0 ∧ s.get .key KEY.KEY_STAT_DONE = 0 ∧
      s.keys.tampActive = false ∧ s.otp.lc ≤ 2 ∧ s.rootKey ≠ none ∧ (bits a0.toNat 22 2) ≠ 3 ∧ s.get .key
      (KEY.SLOT_STAT_FULL.at (bits a1.toNat 16 9)) = 1 ∧ s.get .key (KEY.SLOT_STAT_ATTR.at (bits a1.toNat 16 9)) = 2 ∧
      kwUnwrap (s.keys.slots.get (bits a1.toNat 16 9) []) (s.keyBuf 0 ((if bits a0.toNat 24 1 = 1 then 32 else 16) +
      8)) = some key ∧ key.length = (if bits a0.toNat 24 1 = 1 then 32 else 16)) ∧
    (∃ (s : State) (m : Master) (h : List Nat) (len : Nat) (p : List Nat), s.takesAll m .key [0x040, 0x044, 0x048,
      0x04C] ∧ s.busy.contains .key = false ∧ s.get .key KEY.KEY_STAT_BUSY = 0 ∧ s.get .key KEY.KEY_STAT_DONE = 0 ∧
      s.keys.tampActive = false ∧ s.otp.lc ≤ 2 ∧ s.rootKey ≠ none ∧ h = s.keyBuf 0 32 ∧ len = (if bitAt (nth h 3 0) 2
      = 1 then 104 else 88) ∧ h.take 3 = [0x5A, 0x4B, 0x01] ∧ (h.drop 16).take 8 = s.uniqueBytes ∧ (h.drop 8).take 4 =
      s.rootIdBytes ∧ nth h 4 0 < 64 ∧ s.nodeIs (nth h 4 0) 2 = true ∧ (h.drop 6).take 2 = leBytes (s.node (nth h 4
      0)).gen 2 ∧ kwpUnwrap (s.nodeKeyOf (nth h 4 0)) (s.keyBuf 32 (len - 32)) = some p ∧ p.take 32 = h ∧ p.length +
      40 = len) ∧
    (∃ (s : State) (m : Master), s.takesAll m .key [0x040, 0x044, 0x048, 0x04C] ∧ s.busy.contains .key = false ∧ s.get
      .key KEY.KEY_STAT_BUSY = 0 ∧ s.get .key KEY.KEY_STAT_DONE = 0 ∧ s.keys.tampActive = false) ∧
    (∃ (s : State) (m : Master) (a0 : Word), s.takesAll m .key [0x040, 0x044, 0x048, 0x04C] ∧ s.busy.contains .key =
      false ∧ s.get .key KEY.KEY_STAT_BUSY = 0 ∧ s.get .key KEY.KEY_STAT_DONE = 0 ∧ s.keys.tampActive = false ∧
      s.otp.lc ≤ 2 ∧ s.rootKey ≠ none ∧ s.get .key (KEY.SLOT_STAT_FULL.at (bits a0.toNat 0 9)) = 1 ∧ s.nodeIs (s.get
      .key (KEY.SLOT_STAT_NODE.at (bits a0.toNat 0 9))) 2 = true) :=
  ⟨
    by refine ⟨wit [fun s => s.put .upd UPD.BOOT_STAT_PHASE 7, fun s =>
        { s with otp := { s.otp with lc := 1, uniqueId := 0x1122334455667788 }, vbat := { s.vbat with root := some 5 } },
        fun s => s.setNode 5 ⟨true, 2, 64, 7⟩], .pcie, 0x18501ff, ⟨true, true⟩, ?_⟩; decide +kernel,
    by refine ⟨wit [fun s => s.put .upd UPD.BOOT_STAT_PHASE 7, fun s =>
        { s with otp := { s.otp with lc := 1, uniqueId := 0x1122334455667788 }, vbat := { s.vbat with root := some 5 } },
        fun s => s.setNode 5 ⟨true, 2, 64, 7⟩], .pcie, 0x18501ff, ⟨false, true⟩, ?_⟩; decide +kernel,
    by refine ⟨wit [fun s => s.put .upd UPD.BOOT_STAT_PHASE 7, fun s =>
        { s with otp := { s.otp with lc := 1, uniqueId := 0x1122334455667788 }, vbat := { s.vbat with root := some 5 } },
        fun s => s.setNode 5 ⟨true, 3, 64, 7⟩], .pcie, 0x18501ff, ?_⟩; decide +kernel,
    by refine ⟨wit [fun s => s.put .upd UPD.BOOT_STAT_PHASE 7, fun s =>
        { s with otp := { s.otp with lc := 1, uniqueId := 0x1122334455667788 }, vbat := { s.vbat with root := some 5 } },
        fun s => s.setNode 5 ⟨true, 2, 64, 7⟩, fun s => withBuf s 0x600C00 [1, 2, 3, 4, 5]], .pcie, 0x8501ff, ?_⟩;
        decide +kernel,
    by refine ⟨wit [fun s => s.put .upd UPD.BOOT_STAT_PHASE 7, fun s =>
        { s with otp := { s.otp with lc := 1, uniqueId := 0x1122334455667788 }, vbat := { s.vbat with root := some 5 } },
        fun s => s.putKey 7 (List.replicate 16 9) 0 2 5, fun s => withBuf s 0x600C00 witKw], .pcie, 0x8501ff, 0x70000,
        List.replicate 16 3, ?_⟩; decide +kernel,
    by refine ⟨wit [fun s => s.put .upd UPD.BOOT_STAT_PHASE 7, fun s =>
        { s with otp := { s.otp with lc := 1, uniqueId := 0x1122334455667788 }, vbat := { s.vbat with root := some 5 } },
        fun s => s.setNode 5 ⟨true, 2, 64, 7⟩, fun s => s.putKey 7 (List.replicate 16 9) 0 2 5, witBlob], .pcie,
        witHeader, 88, witHeader ++ List.replicate 16 9, ?_⟩; decide +kernel,
    by refine ⟨wit [fun s => s.put .upd UPD.BOOT_STAT_PHASE 7, fun s =>
        { s with otp := { s.otp with lc := 1, uniqueId := 0x1122334455667788 }, vbat := { s.vbat with root := some 5 } },
        fun s => s.putKey 511 [1] 0 0 5], .pcie, ?_⟩; decide +kernel,
    by refine ⟨wit [fun s => s.put .upd UPD.BOOT_STAT_PHASE 7, fun s =>
        { s with otp := { s.otp with lc := 1, uniqueId := 0x1122334455667788 }, vbat := { s.vbat with root := some 5 } },
        fun s => s.setNode 5 ⟨true, 2, 64, 7⟩, fun s => s.putKey 7 (List.replicate 16 9) 0 2 5], .pcie, 0x7, ?_⟩;
        decide +kernel⟩

theorem witness_IdentityDebugAndCompletion :
    (∃ (s : State) (m : Master) (modulus : List Nat), s.takesAll m .key [0x040, 0x044, 0x048, 0x04C] ∧ s.busy.contains
      .key = false ∧ s.get .key KEY.KEY_STAT_BUSY = 0 ∧ s.get .key KEY.KEY_STAT_DONE = 0 ∧ s.keys.tampActive = false ∧
      s.debugOpen = false ∧ s.identity = some modulus ∧ modulus.length = 384 ∧ (∀ b ∈ modulus, b < 256)) ∧
    (∃ (s : State) (m : Master) (a0 : Word), s.takesAll m .key [0x040, 0x044, 0x048, 0x04C] ∧ s.busy.contains .key =
      false ∧ s.get .key KEY.KEY_STAT_BUSY = 0 ∧ s.get .key KEY.KEY_STAT_DONE = 0 ∧ s.keys.tampActive = false ∧
      (s.debugOpen = true ∨ s.identity ≠ none) ∧ bits a0.toNat 31 1 = 0) ∧
    (∃ (s : State) (m : Master) (w : Served), s.takesAll m .key [0x040, 0x044, 0x048, 0x04C] ∧ s.busy.contains .key =
      false ∧ s.get .key KEY.KEY_STAT_BUSY = 0 ∧ s.get .key KEY.KEY_STAT_DONE = 0 ∧ s.keys.tampActive = false ∧
      (s.otp.lc = 1 ∨ s.otp.lc = 2) ∧ w.entropy = true) ∧
    (∃ (s : State) (m : Master) (c : List Nat) (modulus : List Nat) (sig : List Nat) (slot : Nat), s.takesAll m .key
      [0x040, 0x044, 0x048, 0x04C] ∧ s.busy.contains .key = false ∧ s.get .key KEY.KEY_STAT_BUSY = 0 ∧ s.get .key
      KEY.KEY_STAT_DONE = 0 ∧ s.keys.tampActive = false ∧ (s.otp.lc = 1 ∨ s.otp.lc = 2) ∧ s.keys.challenge = some c ∧
      modulus = s.keyBuf 0 384 ∧ sig = s.keyBuf 384 384 ∧ s.signerSlot modulus = some slot ∧ pssVerify modulus (c ++
      s.uniqueBytes) sig = true) ∧
    (∃ (s : State) (m : Master), s.takesAll m .key [0x040, 0x044, 0x048, 0x04C] ∧ s.busy.contains .key = false ∧ s.get
      .key KEY.KEY_STAT_BUSY = 0 ∧ s.get .key KEY.KEY_STAT_DONE = 0 ∧ s.keys.tampActive = false ∧ (s.otp.lc = 1 ∨
      s.otp.lc = 2) ∧ s.keys.challenge = none) ∧
    (∃ (s : State) (m : Master) (a0 : Word) (w : Served) (i : Nat) (modulus : List Nat) (sig : List Nat) (slot : Nat),
      s.takesAll m .key [0x040, 0x044, 0x048, 0x04C] ∧ s.busy.contains .key = false ∧ s.get .key KEY.KEY_STAT_BUSY = 0
      ∧ s.get .key KEY.KEY_STAT_DONE = 0 ∧ s.keys.tampActive = false ∧ (s.otp.lc = 1 ∨ s.otp.lc = 2) ∧ i = bits
      a0.toNat 0 2 ∧ modulus = s.keyBuf 0 384 ∧ sig = s.keyBuf 384 384 ∧ s.signerSlot modulus = some slot ∧ pssVerify
      modulus (s.uniqueBytes ++ [i]) sig = true ∧ (∃ k : Fin 4, k.val ≠ i ∧ bitAt s.otp.revoked k.val = 0 ∧ nth
      s.otp.keyHash k.val none ≠ none) ∧ slot ≠ i ∧ w.store = true) ∧
    (∃ (s : State) (status : Nat) (rsp : Nat) (keep : Bool), s.boot.hold = 0 ∧ s.keys.run = some (status, rsp, keep) ∧
      s.get .key KEY.KEY_STAT_BUSY = 1) ∧
    (∃ (s : State) (bit : Fin 8), s.powered = true ∧ s.canTrip bit.val = true) ∧
    (∃ (s : State) (bit : Fin 8), s.powered = false ∧ s.canTrip bit.val = true) :=
  ⟨
    by refine ⟨wit [fun s => s.put .upd UPD.BOOT_STAT_PHASE 7, fun s =>
        { s with otp := { s.otp with lc := 1, uniqueId := 0x1122334455667788 }, vbat := { s.vbat with root := some 5 } },
        fun s => { s with identity := some (List.replicate 384 0xAB) }], .pcie, List.replicate 384 0xAB, ?_⟩; decide
        +kernel,
    by refine ⟨wit [fun s => s.put .upd UPD.BOOT_STAT_PHASE 7, fun s =>
        { s with otp := { s.otp with lc := 1, uniqueId := 0x1122334455667788 }, vbat := { s.vbat with root := some 5 } },
        fun s => { s with identity := some (List.replicate 384 0xAB) }], .pcie, 0, ?_⟩; decide +kernel,
    by refine ⟨wit [fun s => s.put .upd UPD.BOOT_STAT_PHASE 7, fun s =>
        { s with otp := { s.otp with lc := 1, uniqueId := 0x1122334455667788 }, vbat := { s.vbat with root := some 5 } }],
        .pcie, ⟨true, true⟩, ?_⟩; decide +kernel,
    by refine ⟨wit [fun s => s.put .upd UPD.BOOT_STAT_PHASE 7, fun s =>
        { s with otp := { s.otp with lc := 1, uniqueId := 0x1122334455667788 }, vbat := { s.vbat with root := some 5 } },
        fun s => witSigner s witUnlockSig, fun s =>
        { s with keys := { s.keys with challenge := some witChallenge } }], .pcie, witChallenge, witModulus, beBytes
        witUnlockSig 384, 0, ?_⟩; decide +kernel,
    by refine ⟨wit [fun s => s.put .upd UPD.BOOT_STAT_PHASE 7, fun s =>
        { s with otp := { s.otp with lc := 1, uniqueId := 0x1122334455667788 }, vbat := { s.vbat with root := some 5 } }],
        .pcie, ?_⟩; decide +kernel,
    by refine ⟨wit [fun s => s.put .upd UPD.BOOT_STAT_PHASE 7, fun s =>
        { s with otp := { s.otp with lc := 1, uniqueId := 0x1122334455667788 }, vbat := { s.vbat with root := some 5 } },
        fun s => witSigner s witRevokeSig], .pcie, 3, ⟨true, true⟩, 3, witModulus, beBytes witRevokeSig 384, 0, ?_⟩;
        decide +kernel,
    by refine ⟨wit [fun s => s.put .key KEY.KEY_STAT_BUSY 1, fun s =>
        { s with keys := { s.keys with run := some (11, 4, false) } }, fun s => withBuf s 0x600C00 [1, 2, 3, 4, 5]],
        11, 4, false, ?_⟩; decide +kernel,
    by refine ⟨wit [fun s =>
        { s with otp := { s.otp with lc := 1, uniqueId := 0x1122334455667788 }, vbat := { s.vbat with root := some 5 } },
        fun s => { s with powered := true }, fun s => s.putKey 511 [1] 0 0 5], 5, ?_⟩; decide +kernel,
    by refine ⟨wit [fun s => { s with powered := false }], 5, ?_⟩; decide +kernel⟩

theorem witness_ResetsKeepWhatTheyMust :
    (∃ (s : State), s.boot.hold = 0) ∧
    (∃ (s : State), s.boot.hold = 1 ∧ s.flash.trial = false) ∧
    (∃ (s : State), (s.boot.hold = 2 ∨ s.boot.hold = 3 ∨ s.boot.hold = 4) ∧ s.flash.trial = false) ∧
    (∃ (s : State), s.boot.hold = 5 ∧ s.flash.trial = false) ∧
    (∃ (s : State) (t : Nat) (c : Nat), s.boot.hold = 0 ∧ s.boot.soft = some c ∧ ((s.evr.queue = [] ∧ s.bbx.queue =
      []) ∨ c + 118800000 ≤ max s.now t) ∧ s.flash.trial = false) ∧
    (∃ (s : State), s.boot.hold ≤ 1) ∧
    (∃ (s : State), s.boot.hold ≠ 3) ∧
    (∃ (s : State), s.boot.hold = 0) ∧
    (∃ (s : State) (temp : Nat), s.boot.hold = 0 ∧ 1250 ≤ temp) :=
  ⟨
    by refine ⟨wit [fun s => s.put .upd UPD.BOOT_STAT_PHASE 7, fun s => s.offer .glb 4 0 0, fun s => s.gddrWrite 5
        [1]], ?_⟩; decide +kernel,
    by refine ⟨wit [fun s => { s with boot := { s.boot with hold := 1 } }, fun s =>
        { s with flash := { s.flash with next := 5 } }], ?_⟩; decide +kernel,
    by refine ⟨wit [fun s => { s with boot := { s.boot with hold := 3 } }, fun s => { s with powered := false }], ?_⟩;
        decide +kernel,
    by refine ⟨wit [fun s => { s with boot := { s.boot with hold := 5 } }], ?_⟩; decide +kernel,
    by refine ⟨wit [fun s => s.put .upd UPD.BOOT_STAT_PHASE 7, fun s =>
        { s with boot := { s.boot with soft := some 3 } }], 7, 3, ?_⟩; decide +kernel,
    by refine ⟨wit [fun s => { s with boot := { s.boot with hold := 1 } }], ?_⟩; decide +kernel,
    by refine ⟨wit [fun s => { s with boot := { s.boot with hold := 2 } }], ?_⟩; decide +kernel,
    by refine ⟨wit [], ?_⟩; decide +kernel,
    by refine ⟨wit [], 1250, ?_⟩; decide +kernel⟩

theorem witness_ResetsKeepWhatTheyMust_part2 :
    (∃ (s : State) (temp : Nat), s.boot.hold = 0 ∧ 1100 ≤ temp ∧ temp < 1250) ∧
    (∃ (s : State) (instr : Nat), (instr < 5 ∨ s.debugOpen = true)) ∧
    (∃ (s : State) (instr : Nat), 5 ≤ instr ∧ s.debugOpen = false) :=
  ⟨
    by refine ⟨wit [], 1100, ?_⟩; decide +kernel,
    by refine ⟨wit [fun s => { s with otp := { s.otp with lc := 2 } }], 4, ?_⟩; decide +kernel,
    by refine ⟨wit [fun s => { s with otp := { s.otp with lc := 2 } }], 9, ?_⟩; decide +kernel⟩

theorem witness_StartUpGoesThroughItsPhases :
    (∃ (s : State), s.boot.hold = 0 ∧ s.phase = 1) ∧
    (∃ (s : State) (ok : Bool), s.boot.hold = 0 ∧ s.phase = 2 ∧ s.bootCheck ok 0 = 0) ∧
    (∃ (s : State) (ok : Bool), s.boot.hold = 0 ∧ (s.phase = 2 ∨ s.phase = 3) ∧ s.flash.trial = false ∧ (s.phase = 2 →
      s.bootCheck ok 0 ≠ 0) ∧ (s.phase = 3 → ∃ i : Fin 4, i ≠ 0 ∧ s.bootCheck ok i.val ≠ 0)) ∧
    (∃ (s : State) (ok : Bool), s.boot.hold = 0 ∧ s.phase = 3 ∧ (∀ i : Fin 4, i ≠ 0 → s.bootCheck ok i.val = 0)) ∧
    (∃ (s : State), s.boot.hold = 0 ∧ ((s.phase = 4 ∧ s.gmcDone = true) ∨ s.phase = 5)) ∧
    (∃ (s : State), s.boot.hold = 0 ∧ s.phase = 6) ∧
    (∃ (s : State) (t : Nat), s.boot.hold = 0 ∧ s.flash.trial = true ∧ s.boot.startAt + s.bootWd * 1188000000 ≤ max
      s.now t) :=
  ⟨
    by refine ⟨wit [fun s => s.put .upd UPD.BOOT_STAT_PHASE 1, fun s =>
        { s with otp := { s.otp with macBase := 0xFFFFFFFFFFFE } }], ?_⟩; decide +kernel,
    by refine ⟨wit [fun s => s.put .upd UPD.BOOT_STAT_PHASE 2], true, ?_⟩; decide +kernel,
    by refine ⟨wit [fun s => s.put .upd UPD.BOOT_STAT_PHASE 3], false, ?_⟩; decide +kernel,
    by refine ⟨wit [fun s => s.put .upd UPD.BOOT_STAT_PHASE 3], true, ?_⟩; decide +kernel,
    by refine ⟨wit [fun s => s.put .upd UPD.BOOT_STAT_PHASE 5], ?_⟩; decide +kernel,
    by refine ⟨wit [fun s => s.put .upd UPD.BOOT_STAT_PHASE 6], ?_⟩; decide +kernel,
    by refine ⟨wit [fun s => s.put .upd UPD.BOOT_STAT_PHASE 7, fun s =>
        { s with flash := { s.flash with trial := true, prev := 6 } }], 356400000000, ?_⟩; decide +kernel⟩

theorem witness_UpdateCommandsServeTheOwner :
    (∃ (s : State) (k : Fin 2), s.boot.hold = 0 ∧ s.owesError (hostMaster k) = false ∧ (k = 1 → 3 ≤ s.phase) ∧
      s.busy.contains .upd = false ∧ s.get .upd (UPD.UPD_STAT_BUSY.at k.val) = 0 ∧ s.get .upd (UPD.UPD_STAT_DONE.at
      k.val) = 0 ∧ s.upd.run.length = 2) ∧
    (∃ (s : State) (k : Fin 2), s.boot.hold = 0 ∧ s.owesError (hostMaster k) = false ∧ (k = 1 → 3 ≤ s.phase) ∧
      s.busy.contains .upd = false ∧ s.get .upd (UPD.UPD_STAT_BUSY.at k.val) = 0 ∧ s.get .upd (UPD.UPD_STAT_DONE.at
      k.val) = 0 ∧ s.upd.run.length = 2 ∧ (s.sessOpen = false ∨ s.sessOwner ≠ k.val)) ∧
    (∃ (s : State) (k : Fin 2), s.boot.hold = 0 ∧ s.owesError (hostMaster k) = false ∧ (k = 1 → 3 ≤ s.phase) ∧
      s.busy.contains .upd = false ∧ s.get .upd (UPD.UPD_STAT_BUSY.at k.val) = 0 ∧ s.get .upd (UPD.UPD_STAT_DONE.at
      k.val) = 0 ∧ s.upd.run.length = 2 ∧ s.sessOpen = true ∧ s.sessOwner = k.val) ∧
    (∃ (s : State) (k : Fin 2) (w : Served) (h : List Nat), s.boot.hold = 0 ∧ s.owesError (hostMaster k) = false ∧ (k
      = 1 → 3 ≤ s.phase) ∧ s.busy.contains .upd = false ∧ s.get .upd (UPD.UPD_STAT_BUSY.at k.val) = 0 ∧ s.get .upd
      (UPD.UPD_STAT_DONE.at k.val) = 0 ∧ s.upd.run.length = 2 ∧ s.sessOpen = true ∧ s.sessOwner = k.val ∧ h = s.updBuf
      0 896 ∧ s.headerCheck h = 0 ∧ s.flash.trial = false ∧ bitAt s.flash.next (nth h 4 0) = bitAt s.flash.sel (nth h
      4 0) ∧ s.manifestOk h = true ∧ w.store = true) ∧
    (∃ (s : State) (k : Fin 2) (a0 : Word) (a1 : Word) (w : Served) (ty : Nat) (h : List Nat) (body : List Nat),
      s.boot.hold = 0 ∧ s.owesError (hostMaster k) = false ∧ (k = 1 → 3 ≤ s.phase) ∧ s.busy.contains .upd = false ∧
      s.get .upd (UPD.UPD_STAT_BUSY.at k.val) = 0 ∧ s.get .upd (UPD.UPD_STAT_DONE.at k.val) = 0 ∧ s.upd.run.length = 2
      ∧ s.sessOpen = true ∧ s.sessOwner = k.val ∧ s.upd.stage = some (ty, h, body) ∧ a0.toNat = body.length ∧ 0 <
      a1.toNat ∧ a1.toNat ≤ 2048 ∧ body.length + a1.toNat ≤ hdrBodyLen h ∧ w.store = true) ∧
    (∃ (s : State) (k : Fin 2) (a0 : Word) (h : List Nat) (body : List Nat), s.boot.hold = 0 ∧ s.owesError (hostMaster
      k) = false ∧ (k = 1 → 3 ≤ s.phase) ∧ s.busy.contains .upd = false ∧ s.get .upd (UPD.UPD_STAT_BUSY.at k.val) = 0
      ∧ s.get .upd (UPD.UPD_STAT_DONE.at k.val) = 0 ∧ s.upd.run.length = 2 ∧ s.sessOpen = true ∧ s.sessOwner = k.val ∧
      s.upd.stage = some (a0.toNat % 4, h, body) ∧ body.length = hdrBodyLen h ∧ sha256 body = hdrHash h) ∧
    (∃ (s : State) (k : Fin 2) (a0 : Word) (w : Served), s.boot.hold = 0 ∧ s.owesError (hostMaster k) = false ∧ (k = 1
      → 3 ≤ s.phase) ∧ s.busy.contains .upd = false ∧ s.get .upd (UPD.UPD_STAT_BUSY.at k.val) = 0 ∧ s.get .upd
      (UPD.UPD_STAT_DONE.at k.val) = 0 ∧ s.upd.run.length = 2 ∧ s.sessOpen = true ∧ s.sessOwner = k.val ∧
      s.upd.manifest = [] ∧ s.staged (a0.toNat % 4) = true ∧ pairFails (s.slotHdr (s.stagingKey (a0.toNat % 4))) (([0,
      1, 2, 3].filter (fun x => x ≠ a0.toNat % 4)).map (fun x => (x, s.slotHdr (slotKey (bitAt s.flash.next x) x)))) =
      [] ∧ w.store = true) ∧
    (∃ (s : State) (k : Fin 2) (w : Served), s.boot.hold = 0 ∧ s.owesError (hostMaster k) = false ∧ (k = 1 → 3 ≤
      s.phase) ∧ s.busy.contains .upd = false ∧ s.get .upd (UPD.UPD_STAT_BUSY.at k.val) = 0 ∧ s.get .upd
      (UPD.UPD_STAT_DONE.at k.val) = 0 ∧ s.upd.run.length = 2 ∧ s.sessOpen = true ∧ s.sessOwner = k.val ∧ w.store =
      true) ∧
    (∃ (s : State) (k : Fin 2) (f : List Nat), s.boot.hold = 0 ∧ s.owesError (hostMaster k) = false ∧ (k = 1 → 3 ≤
      s.phase) ∧ s.busy.contains .upd = false ∧ s.get .upd (UPD.UPD_STAT_BUSY.at k.val) = 0 ∧ s.get .upd
      (UPD.UPD_STAT_DONE.at k.val) = 0 ∧ s.upd.run.length = 2 ∧ s.sessOpen = true ∧ s.sessOwner = k.val ∧ f = s.updBuf
      0 1024 ∧ le32 f 0 = 0x52544F57 ∧ nth f 4 0 = 1 ∧ nth f 6 0 = 4 ∧ (∀ x : Fin 4, ∃ i : Fin 4, nth ((f.drop (16 +
      48 * i.val)).take 48) 0 0 = x.val) ∧ s.signerOk (nth f 5 0) ((f.drop 256).take 384) = true ∧ pssVerify ((f.drop
      256).take 384) (f.take 640) ((f.drop 640).take 384) = true ∧ (∀ i : Fin 4, nth s.otp.rb (nth ((f.drop (16 + 48 *
      i.val)).take 48) 0 0) 0 ≤ le32 ((f.drop (16 + 48 * i.val)).take 48) 8) ∧ s.flash.trial = false ∧ s.flash.next =
      s.flash.sel) :=
  ⟨
    by refine ⟨wit [fun s => s.put .upd UPD.BOOT_STAT_PHASE 7], 1, ?_⟩; decide +kernel,
    by refine ⟨wit [fun s => s.put .upd UPD.BOOT_STAT_PHASE 7], 1, ?_⟩; decide +kernel,
    by refine ⟨wit [fun s => s.put .upd UPD.BOOT_STAT_PHASE 7, fun s => s.put .upd UPD.UPD_SESS_OPEN 1, fun s => s.put
        .upd UPD.UPD_SESS_OWNER 1, fun s => { s with upd := { s.upd with stage := some (1, [], []) } }], 1, ?_⟩;
        decide +kernel,
    by refine ⟨wit [fun s => s.put .upd UPD.BOOT_STAT_PHASE 7, fun s => s.put .upd UPD.UPD_SESS_OPEN 1, fun s => s.put
        .upd UPD.UPD_SESS_OWNER 1, fun s => witHeaderBuf s], 1, ⟨true, true⟩, witImage, ?_⟩; decide +kernel,
    by refine ⟨wit [fun s => s.put .upd UPD.BOOT_STAT_PHASE 7, fun s => s.put .upd UPD.UPD_SESS_OPEN 1, fun s => s.put
        .upd UPD.UPD_SESS_OWNER 1, fun s =>
        { s with upd := { s.upd with stage := some (1, List.replicate 20 1, [9, 9]) } }, fun s => s.put .upd
        (UPD.UPD_BUF_DATA.at 0) 0x04030201], 1, 2, 3, ⟨true, true⟩, 1, List.replicate 20 1, [9, 9], ?_⟩; decide
        +kernel,
    by refine ⟨wit [fun s => s.put .upd UPD.BOOT_STAT_PHASE 7, fun s => s.put .upd UPD.UPD_SESS_OPEN 1, fun s => s.put
        .upd UPD.UPD_SESS_OWNER 1, fun s =>
        { s with upd := { s.upd with stage := some (2, List.replicate 20 0 ++ sha256 [], []) } }], 1, 2,
        List.replicate 20 0 ++ sha256 [], [], ?_⟩; decide +kernel,
    by refine ⟨wit [fun s => s.put .upd UPD.BOOT_STAT_PHASE 7, fun s => s.put .upd UPD.UPD_SESS_OPEN 1, fun s => s.put
        .upd UPD.UPD_SESS_OWNER 1, fun s => (List.range 8).foldl (fun (s : State) i => s.setSlot i ⟨List.replicate 84
        0, []⟩) s, fun s => s.put .upd UPD.UPD_SESS_STAGED 0xF], 1, 3, ⟨true, true⟩, ?_⟩; decide +kernel,
    by refine ⟨wit [fun s => s.put .upd UPD.BOOT_STAT_PHASE 7, fun s => s.put .upd UPD.UPD_SESS_OPEN 1, fun s => s.put
        .upd UPD.UPD_SESS_OWNER 1, fun s => { s with flash := { s.flash with next := 9 } }], 1, ⟨true, true⟩, ?_⟩;
        decide +kernel,
    by refine ⟨wit [fun s => s.put .upd UPD.BOOT_STAT_PHASE 7, fun s => s.put .upd UPD.UPD_SESS_OPEN 1, fun s => s.put
        .upd UPD.UPD_SESS_OWNER 1, fun s => witManifestBuf s], 1, witManifest, ?_⟩; decide +kernel⟩

theorem witness_UpdateCommandsServeTheOwner_part2 :
    (∃ (s : State) (k : Fin 2) (w : Served), s.boot.hold = 0 ∧ s.owesError (hostMaster k) = false ∧ (k = 1 → 3 ≤
      s.phase) ∧ s.busy.contains .upd = false ∧ s.get .upd (UPD.UPD_STAT_BUSY.at k.val) = 0 ∧ s.get .upd
      (UPD.UPD_STAT_DONE.at k.val) = 0 ∧ s.upd.run.length = 2 ∧ s.sessOpen = true ∧ s.sessOwner = k.val ∧
      s.upd.manifest ≠ [] ∧ (∀ x : Fin 4, s.staged x.val = true ∧ s.manifestOk (s.slotHdr (s.stagingKey x.val)) =
      true) ∧ (∀ x y : Fin 4, x ≠ y → accepts (s.slotHdr (s.stagingKey x.val)) (s.slotHdr (s.stagingKey y.val)) =
      true) ∧ w.store = true) ∧
    (∃ (s : State) (k : Fin 2) (w : Served), s.boot.hold = 0 ∧ s.owesError (hostMaster k) = false ∧ (k = 1 → 3 ≤
      s.phase) ∧ s.busy.contains .upd = false ∧ s.get .upd (UPD.UPD_STAT_BUSY.at k.val) = 0 ∧ s.get .upd
      (UPD.UPD_STAT_DONE.at k.val) = 0 ∧ s.upd.run.length = 2 ∧ s.sessOpen = true ∧ s.sessOwner = k.val ∧
      s.flash.trial = true ∧ s.ready = true ∧ w.store = true) ∧
    (∃ (s : State) (k : Fin 2) (r : Nat × Nat), s.boot.hold = 0 ∧ s.upd.opens = [] ∧ s.upd.run.length = 2 ∧ nth
      s.upd.run k.val none = some r) ∧
    (∃ (s : State) (k : Fin 2), s.boot.hold = 0 ∧ s.upd.opens = [k.val] ∧ s.upd.run.length = 2 ∧ s.sessOpen = false) ∧
    (∃ (s : State) (k : Fin 2), s.boot.hold = 0 ∧ s.upd.opens = [k.val] ∧ s.upd.run.length = 2 ∧ s.sessOpen = true) ∧
    (∃ (s : State) (t : Nat), s.boot.hold = 0 ∧ s.sessOpen = true ∧ nth s.upd.run s.sessOwner none = none ∧
      s.upd.cmdAt + 71280000000 ≤ max s.now t) :=
  ⟨
    by refine ⟨wit [fun s => s.put .upd UPD.BOOT_STAT_PHASE 7, fun s => s.put .upd UPD.UPD_SESS_OPEN 1, fun s => s.put
        .upd UPD.UPD_SESS_OWNER 1, fun s => (List.range 8).foldl (fun (s : State) i => s.setSlot i ⟨[0, 0, 0, 0, i %
        4] ++ List.replicate 79 0, []⟩) s, fun s => s.put .upd UPD.UPD_SESS_STAGED 0xF, fun s =>
        { s with upd := { s.upd with manifest := List.replicate 16 0 ++ (List.range 4).flatMap (fun i => i :: List.replicate 47 0) } }],
        1, ⟨true, true⟩, ?_⟩; decide +kernel,
    by refine ⟨wit [fun s => s.put .upd UPD.BOOT_STAT_PHASE 7, fun s => s.put .upd UPD.UPD_SESS_OPEN 1, fun s => s.put
        .upd UPD.UPD_SESS_OWNER 1, fun s => s.put .upd UPD.BOOT_STAT_PHASE 7, fun s =>
        { s with flash := { s.flash with trial := true } }], 1, ⟨true, true⟩, ?_⟩; decide +kernel,
    by refine ⟨wit [fun s => { s with upd := { s.upd with run := [none, some (9, 258)] } }], 1, (9, 258), ?_⟩; decide
        +kernel,
    by refine ⟨wit [fun s => { s with upd := { s.upd with run := [none, some (0, 0)], opens := [1] } }], 1, ?_⟩;
        decide +kernel,
    by refine ⟨wit [fun s => { s with upd := { s.upd with run := [none, some (0, 0)], opens := [1] } }, fun s => s.put
        .upd UPD.UPD_SESS_OPEN 1], 1, ?_⟩; decide +kernel,
    by refine ⟨wit [fun s => s.put .upd UPD.UPD_SESS_OPEN 1, fun s => s.put .upd UPD.UPD_SESS_OWNER 1, fun s =>
        { s with upd := { s.upd with stage := some (1, [], []) } }], 71280000000, ?_⟩; decide +kernel⟩

theorem witness_EventsAreRecordedAndCleared :
    (∃ (s : State) (m : Master) (page : Page) (value : Word), s.takes m page 0x028 ∧ bits value.toNat 0 2 = 1) ∧
    (∃ (s : State) (m : Master) (page : Page) (value : Word), s.takes m page 0x028 ∧ bits value.toNat 0 2 = 2) ∧
    (∃ (s : State) (m : Master) (page : Page) (value : Word), s.takes m page 0x028 ∧ bits value.toNat 0 2 = 3) ∧
    (∃ (s : State) (m : Master) (value : Word), s.takes m .glb 0x0F0 ∧ (m = .pcie ∨ m = .spi) ∧ value = 0x7A520001 ∧
      s.boot.soft = none ∧ s.evr.queue.length < 64) ∧
    (∃ (s : State) (m : Master) (value : Word), s.takes m .glb 0x0F0 ∧ value ≠ 0x7A520001) ∧
    (∃ (s : State) (t : Nat) (e : Ev) (rest : List Ev), s.boot.hold = 0 ∧ s.evr.nextAt ≤ max s.now t ∧ s.evr.queue = e
      :: rest ∧ s.evr.ring.length < 8192 ∧ s.evr.lost = 0 ∧ (∀ r ∈ s.newest.toList, s.evr.fresh = false ∨ r.page ≠
      e.page ∨ r.code ≠ e.code ∨ r.p0 ≠ e.p0 ∨ r.p1 ≠ e.p1)) ∧
    (∃ (s : State) (t : Nat) (e : Ev) (rest : List Ev) (r : Rec), s.boot.hold = 0 ∧ s.evr.nextAt ≤ max s.now t ∧
      s.evr.queue = e :: rest ∧ s.evr.lost = 0 ∧ s.newest = some r ∧ s.evr.fresh = true ∧ r.page = e.page ∧ r.code =
      e.code ∧ r.p0 = e.p0 ∧ r.p1 = e.p1) ∧
    (∃ (s : State) (k : Fin 2) (r : Rec), s.gives (hostMaster k) (Page.base .evr + 0x060 + 0x40 * k.val) ∧ s.evr.tail
      ≤ s.get .evr (EVR.EVR_CURSOR_SEQ.at k.val) ∧ s.evr.ring.length ≤ 8192 ∧ s.evr.ring[s.get .evr
      (EVR.EVR_CURSOR_SEQ.at k.val) - s.evr.tail]? = some r) ∧
    (∃ (s : State) (k : Fin 2), s.gives (hostMaster k) (Page.base .evr + 0x07C + 0x40 * k.val) ∧ s.get .evr
      (EVR.EVR_CSTAT_VALID.at k.val) = 1) :=
  ⟨
    by refine ⟨wit [fun s => s.put .upd UPD.BOOT_STAT_PHASE 7], .pcie, .glb, 1, ?_⟩; decide +kernel,
    by refine ⟨wit [fun s => s.put .upd UPD.BOOT_STAT_PHASE 7], .pcie, .glb, 2, ?_⟩; decide +kernel,
    by refine ⟨wit [fun s => s.put .upd UPD.BOOT_STAT_PHASE 7], .pcie, .glb, 3, ?_⟩; decide +kernel,
    by refine ⟨wit [fun s => s.put .upd UPD.BOOT_STAT_PHASE 7], .spi, 0x7A520001, ?_⟩; decide +kernel,
    by refine ⟨wit [fun s => s.put .upd UPD.BOOT_STAT_PHASE 7], .spi, 0x7A520000, ?_⟩; decide +kernel,
    by refine ⟨wit [fun s => { s with evr := { s.evr with queue := [⟨3, 77, 5, 0x12, 2, false, true, 8, 9⟩] } }], 7,
        ⟨3, 77, 5, 0x12, 2, false, true, 8, 9⟩, [], ?_⟩; decide +kernel,
    by refine ⟨wit [fun s =>
        { s with evr := { s.evr with queue := [⟨3, 77, 5, 0x12, 2, false, true, 8, 9⟩], ring := [⟨70, 0, 5, 0x12, 65535, 2, 2, 8, 9⟩], fresh := true } }],
        7, ⟨3, 77, 5, 0x12, 2, false, true, 8, 9⟩, [], ⟨70, 0, 5, 0x12, 65535, 2, 2, 8, 9⟩, ?_⟩; decide +kernel,
    by refine ⟨wit [fun s => s.put .upd UPD.BOOT_STAT_PHASE 7, fun s =>
        { s with evr := { s.evr with ring := [⟨1, 0, 5, 0x12, 0, 2, 2, 8, 9⟩, ⟨70, 0, 5, 0x12, 65535, 2, 2, 8, 9⟩], tail := 5 } },
        fun s => s.put .evr (EVR.EVR_CURSOR_SEQ.at 1) 6], 1, ⟨70, 0, 5, 0x12, 65535, 2, 2, 8, 9⟩, ?_⟩; decide +kernel,
    by refine ⟨wit [fun s => s.put .upd UPD.BOOT_STAT_PHASE 7, fun s => s.put .evr (EVR.EVR_CURSOR_SEQ.at 1)
        0xFFFFFFFF, fun s => s.put .evr (EVR.EVR_CSTAT_VALID.at 1) 1], 1, ?_⟩; decide +kernel⟩

theorem witness_EventsAreRecordedAndCleared_part2 :
    (∃ (s : State) (m : Master) (k : Nat), s.takes m .evr 0x048 ∧ hostNum m = some k) ∧
    (∃ (s : State) (t : Nat) (m : Master) (k : Nat), s.takes m .evr 0x048 ∧ hostNum m = some k ∧ s.get .evr
      EVR.EVR_STAT_ARMED = 1 ∧ s.get .evr EVR.EVR_STAT_ARM_MASTER = k ∧ max s.now t ≤ s.evr.armedAt + clearWindow) ∧
    (∃ (s : State) (m : Master) (k : Nat), s.takes m .evr 0x048 ∧ hostNum m = some k ∧ s.get .evr EVR.EVR_STAT_ARMED =
      0) ∧
    (∃ (s : State) (t : Nat), s.boot.hold = 0 ∧ s.evr.armedAt + 118800000 < max s.now t) :=
  ⟨
    by refine ⟨wit [fun s => s.put .upd UPD.BOOT_STAT_PHASE 7], .spi, 1, ?_⟩; decide +kernel,
    by refine ⟨wit [fun s => s.put .upd UPD.BOOT_STAT_PHASE 7, fun s => s.put .evr EVR.EVR_STAT_ARMED 1, fun s =>
        s.put .evr EVR.EVR_STAT_ARM_MASTER 1, fun s =>
        { s with evr := { s.evr with ring := [⟨70, 0, 5, 0x12, 65535, 2, 2, 8, 9⟩] } }], 7, .spi, 1, ?_⟩; decide
        +kernel,
    by refine ⟨wit [fun s => s.put .upd UPD.BOOT_STAT_PHASE 7], .spi, 1, ?_⟩; decide +kernel,
    by refine ⟨wit [fun s => s.put .evr EVR.EVR_STAT_ARMED 1], 118800001, ?_⟩; decide +kernel⟩

theorem witness_TheBlackBoxKeepsItsLog :
    (∃ (s : State) (e : BbxEntry) (rest : List BbxEntry), s.boot.hold = 0 ∧ s.bbx.queue = e :: rest ∧ s.bbx.lost = 0 ∧
      s.bbx.log.length < 65536) ∧
    (∃ (s : State) (e : BbxEntry) (rest : List BbxEntry), s.boot.hold = 0 ∧ s.bbx.queue = e :: rest) ∧
    (∃ (s : State) (t : Nat) (c : Nat), s.boot.hold = 0 ∧ s.bbx.newestSent = false ∧ s.bbx.queue.length < 256 ∧
      s.boot.healthAt = some c ∧ 0 ≤ sgn 64 (wrap 64 (((s.begin t).stc : Int) - c))) ∧
    (∃ (s : State) (k : Fin 2), s.boot.hold = 0 ∧ s.owesError (hostMaster k) = false ∧ (k = 1 → 3 ≤ s.phase) ∧
      s.busy.contains .bbx = false ∧ s.get .bbx (BBX.BBX_STAT_BUSY.at k.val) = 0 ∧ s.get .bbx (BBX.BBX_STAT_DONE.at
      k.val) = 0 ∧ s.bbxRun.length = 2 ∧ s.bbx.newestSent = false ∧ s.bbx.queue.length < 256) ∧
    (∃ (s : State) (k : Fin 2) (a0 : Word) (a1 : Word), s.boot.hold = 0 ∧ s.owesError (hostMaster k) = false ∧ (k = 1
      → 3 ≤ s.phase) ∧ s.busy.contains .bbx = false ∧ s.get .bbx (BBX.BBX_STAT_BUSY.at k.val) = 0 ∧ s.get .bbx
      (BBX.BBX_STAT_DONE.at k.val) = 0 ∧ s.bbxRun.length = 2 ∧ s.bbx.tail ≤ a0.toNat ∧ 0 < a1.toNat ∧ a1.toNat ≤ 16 ∧
      a0.toNat - s.bbx.tail < s.bbx.log.length) ∧
    (∃ (s : State) (k : Fin 2) (a1 : Word), s.boot.hold = 0 ∧ s.owesError (hostMaster k) = false ∧ (k = 1 → 3 ≤
      s.phase) ∧ s.busy.contains .bbx = false ∧ s.get .bbx (BBX.BBX_STAT_BUSY.at k.val) = 0 ∧ s.get .bbx
      (BBX.BBX_STAT_DONE.at k.val) = 0 ∧ s.bbxRun.length = 2 ∧ (a1.toNat = 0 ∨ 16 < a1.toNat)) ∧
    (∃ (s : State) (k : Fin 2), s.boot.hold = 0 ∧ s.owesError (hostMaster k) = false ∧ (k = 1 → 3 ≤ s.phase) ∧
      s.busy.contains .bbx = false ∧ s.get .bbx (BBX.BBX_STAT_BUSY.at k.val) = 0 ∧ s.get .bbx (BBX.BBX_STAT_DONE.at
      k.val) = 0 ∧ s.bbxRun.length = 2) ∧
    (∃ (s : State) (k : Fin 2) (w : Served) (c : Nat) (slot : Nat) (modulus : List Nat) (sig : List Nat), s.boot.hold
      = 0 ∧ s.owesError (hostMaster k) = false ∧ (k = 1 → 3 ≤ s.phase) ∧ s.busy.contains .bbx = false ∧ s.get .bbx
      (BBX.BBX_STAT_BUSY.at k.val) = 0 ∧ s.get .bbx (BBX.BBX_STAT_DONE.at k.val) = 0 ∧ s.bbxRun.length = 2 ∧
      s.bbx.challenge.length = 2 ∧ nth s.bbx.challenge k.val none = some c ∧ modulus = s.bbxBuf k.val 0 384 ∧ sig =
      s.bbxBuf k.val 384 384 ∧ s.signerSlot modulus = some slot ∧ pssVerify modulus (beBytes c 32 ++ s.uniqueBytes ++
      [0x42, 0x42, 0x58, 0x45]) sig = true ∧ w.store = true) ∧
    (∃ (s : State) (k : Fin 2), s.boot.hold = 0 ∧ s.owesError (hostMaster k) = false ∧ (k = 1 → 3 ≤ s.phase) ∧
      s.busy.contains .bbx = false ∧ s.get .bbx (BBX.BBX_STAT_BUSY.at k.val) = 0 ∧ s.get .bbx (BBX.BBX_STAT_DONE.at
      k.val) = 0 ∧ s.bbxRun.length = 2 ∧ nth s.bbx.challenge k.val none = none) :=
  ⟨
    by refine ⟨wit [fun s => { s with bbx := { s.bbx with queue := [⟨2, 1, 0, 4, 99, [1, 2]⟩] } }], ⟨2, 1, 0, 4, 99,
        [1, 2]⟩, [], ?_⟩; decide +kernel,
    by refine ⟨wit [fun s => { s with bbx := { s.bbx with queue := [⟨2, 1, 0, 4, 99, [1, 2]⟩] } }], ⟨2, 1, 0, 4, 99,
        [1, 2]⟩, [], ?_⟩; decide +kernel,
    by refine ⟨wit [fun s =>
        { s with bbx := { s.bbx with contained := 4 }, boot := { s.boot with healthAt := some 5 } }], 7, 5, ?_⟩;
        decide +kernel,
    by refine ⟨wit [fun s => s.put .upd UPD.BOOT_STAT_PHASE 7], 1, ?_⟩; decide +kernel,
    by refine ⟨wit [fun s => s.put .upd UPD.BOOT_STAT_PHASE 7, fun s =>
        { s with bbx := { s.bbx with log := [⟨2, 1, 0, 4, 99, [1, 2]⟩, ⟨2, 1, 0, 4, 99, [1, 2]⟩], tail := 1024 } }],
        1, 1025, 16, ?_⟩; decide +kernel,
    by refine ⟨wit [fun s => s.put .upd UPD.BOOT_STAT_PHASE 7], 1, 17, ?_⟩; decide +kernel,
    by refine ⟨wit [fun s => s.put .upd UPD.BOOT_STAT_PHASE 7, fun s =>
        { s with bbx := { s.bbx with challenge := [some 4, none] } }], 1, ?_⟩; decide +kernel,
    by refine ⟨wit [fun s => s.put .upd UPD.BOOT_STAT_PHASE 7, fun s => witEraseBuf s, fun s =>
        { s with bbx := { s.bbx with challenge := [none, some 77] } }], 1, ⟨true, true⟩, 77, 0, witModulus, beBytes
        witEraseSig 384, ?_⟩; decide +kernel,
    by refine ⟨wit [fun s => s.put .upd UPD.BOOT_STAT_PHASE 7], 1, ?_⟩; decide +kernel⟩

theorem witness_TheBlackBoxKeepsItsLog_part2 :
    (∃ (s : State) (k : Fin 2) (r : Nat × Nat), s.boot.hold = 0 ∧ s.bbxRun.length = 2 ∧ nth s.bbxRun k.val none = some
      r) :=
    by refine ⟨wit [fun s => { s with bbxRun := [none, some (6, 258)] }], 1, (6, 258), ?_⟩; decide +kernel

theorem witness_GroupDisarmWithdrawsItsMembers :
    (∃ (s : State) (m : Master) (g : Fin 64) (x : Grp), s.takes m .glb (0x400 + 4 * g.val) ∧ s.grpOf g.val = some x ∧
      x.draining = false) ∧
    (∃ (s : State) (m : Master) (g : Fin 64) (x : Grp), s.takes m .glb (0x400 + 4 * g.val) ∧ s.grpOf g.val = some x ∧
      x.draining = true) :=
  ⟨
    by refine ⟨wit [fun s => s.put .upd UPD.BOOT_STAT_PHASE 7, fun s => s.setGrp 5 ⟨0, 0x20, 1, none, 3, false,
        [.gmc]⟩, fun s => s.setArm ⟨.gmc, 0, 0x20, 1, none, 3, some 5, false, []⟩], .pcie, 5, ⟨0, 0x20, 1, none, 3,
        false, [.gmc]⟩, ?_⟩; decide +kernel,
    by refine ⟨wit [fun s => s.put .upd UPD.BOOT_STAT_PHASE 7, fun s => s.setGrp 5 ⟨0, 0x20, 1, none, 3, true,
        [.xbp]⟩, fun s => s.setArm ⟨.xbp, 0, 0x20, 1, none, 3, some 5, true, [(.xbp 7, none)]⟩], .pcie, 5, ⟨0, 0x20,
        1, none, 3, true, [.xbp]⟩, ?_⟩; decide +kernel⟩

theorem witness_StepRunsTheFrontCommand :
    ({ State.reset with pending := [.tickSmp 1, .readyRise 2] } : State).pending = [.tickSmp 1, .readyRise 2] ∧
      State.reset.pending = [] := by decide

theorem witness_HeldDeviceIgnoresCommands :
    ({ State.reset with boot := { State.reset.boot with hold := 2 } } : State).boot.hold ≠ 0 ∧
      (Instr.tickSmp 5).alwaysActs = false := by decide

theorem witness_PausedPagesIgnoreTheirEvents :
    (Instr.sigFound 5 7).gate = some (.lane 7) ∧ (wit [fun s => { s with busy := [.lane 7] }]).boot.hold = 0 ∧
      (wit [fun s => { s with busy := [.lane 7] }]).running (.lane 7) = false := by decide +kernel

theorem witness_LaneEventsStayOnTheirLane :
    ∃ u : State, (Instr.sigFound 5 7).laneOf = some 7 ∧ exec (.sigFound 5 7) State.reset = .next u :=
  ⟨_, rfl, rfl⟩

theorem witness_PortAndTimeEventsStayHome :
    (∃ u : State, (Instr.ethLinkLoss 5 47).portOf = some 47 ∧ exec (.ethLinkLoss 5 47) State.reset = .next u) ∧
      ∃ u : State, (Instr.refoFly 5 7).timeEvent = true ∧ exec (.refoFly 5 7) State.reset = .next u :=
  ⟨⟨_, rfl, rfl⟩, _, rfl, rfl⟩

theorem witness_MediaEventsStayHome :
    ∃ (u : State) (home : Nat → Bool), (Instr.asrcTrack 5 3 { ratio := 9, spread := 0, delay := 0 }).mediaHome = some home ∧
      exec (.asrcTrack 5 3 { ratio := 9, spread := 0, delay := 0 }) State.reset = .next u :=
  ⟨_, _, rfl, rfl⟩

theorem witness_ControlEventsStayHome :
    ∃ (u : State) (home : Nat → Bool), (Instr.lockBreak 5 5).controlHome = some home ∧
      exec (.lockBreak 5 5) State.reset = .next u :=
  ⟨_, _, rfl, rfl⟩

theorem witness_ServiceCommandsStayAtTheirPage :
    ∃ u : State, (Instr.snapshot 5 1 0 0 ⟨true, true⟩).service = some .bbx ∧
      exec (.snapshot 5 1 0 0 ⟨true, true⟩) State.reset = .next u :=
  ⟨_, rfl, rfl⟩

theorem witness_AccessesStayAtTheirPage :
    ∃ (u : State) (home : Nat → Bool), (Instr.timeCap 5 .pcie).accessHome = some home ∧
      exec (.timeCap 5 .pcie) State.reset = .next u :=
  ⟨_, _, rfl, rfl⟩

theorem witness_EveryStepSendsItsDueInterrupts :
    (∃ u : State, State.reset.boot.hold = 0 ∧ exec (.tickSmp 5) State.reset = .next u) ∧
      ∃ u : State, State.reset.pending = [] ∧ step State.reset = .next u :=
  ⟨⟨_, rfl, rfl⟩, _, rfl, rfl⟩

theorem witness_EveryStepKeepsTheCanonicalForm :
    ∃ u : State, State.reset.canonical ∧ step State.reset = .next u :=
  ⟨_, by decide, rfl⟩

theorem witness_FatalLatchOnlyClearsWithPower :
    ∃ u : State, (∀ (t : Nat) (vbat : Bool), Instr.railFault 5 ≠ .powerCycle t vbat) ∧
      exec (.railFault 5) State.reset = .next u :=
  ⟨_, (by intro t v h; cases h), rfl⟩

end Sys2Proof.Tests
end

section
/-! A refutation of O1. DPLL_HIST of the REF page is a W1C word with a rule of its own (R237): while a pair of candidates
disagrees, WAS_DISAGREE is set, so a write of 1 does not leave it cleared. -/

namespace Sys2Proof.Machine

/-- A running device whose DPLL 0 selects candidate 0, with the eligible candidate 1 of the same rank 1.001 ppm away,
beyond DIS_THR of 1 ppm: the pair disagrees, which DIS_LIVE and WAS_DISAGREE show (R237). -/
def refsDisagree : State :=
  ((((((State.reset.put .upd UPD.BOOT_STAT_PHASE 7).put .ref (REF.CAND_STAT_QUAL.at 0) 1).put .ref
    (REF.CAND_STAT_QUAL.at 1) 1).put .ref (REF.CAND_FREQ_FREQ.at 1) 1001).putLive .ref (REF.PRIO.at2 0 0) 0x55).puts .ref
    [(REF.DPLL_STAT_SEL.at 0, 0), (REF.DPLL_STAT_STATE.at 0, 1), (REF.DPLL_STAT_DIS_LIVE.at 0, 1),
      ((REF.DPLL_HIST_HIST.at 0).bit 4, 1)])

theorem exec_registerWrite (s : State) (t : Nat) (m : Master) (addr strobes : Nat) (value : Word) (w : Served) :
    exec (.registerWrite t m addr strobes value w) s =
      .next (s.run t (fun s => s.busWrite m addr strobes value w)) := rfl

/-- The address of DPLL_HIST[0]. -/
def dpllHist0 : Nat := Page.base .ref + REF.DPLL_HIST_HIST.off

/-- PCIe writes 1 to WAS_DISAGREE of DPLL 0 while the pair still disagrees: the bit stands again at once. -/
theorem word_dpllHist0_of_clear_while_disagreeing :
    (refsDisagree.run 0 (fun s => s.busWrite .pcie dpllHist0 15 0x10 ⟨true, true⟩)).word dpllHist0 = 0x10 := by
  decide +kernel

/-- By the type of its field alone, the write would clear WAS_DISAGREE. -/
theorem fieldsWritten_dpllHist0 :
    fieldsWritten (fun _ => true) dpllHist0 (refsDisagree.word dpllHist0) 0x10 = 0 := by
  decide +kernel

/-- The write is taken: the device runs, no error is owed, and PCIe may write the REF page. -/
theorem refsDisagree_takes_dpllHist0 : refsDisagree.takes .pcie .ref REF.DPLL_HIST_HIST.off := by
  decide +kernel

/-- Refutes O1: its third clause counts the REF page among the pages without actions, but a write of DPLL_HIST looks for
disagreeing candidates once more, and sets WAS_DISAGREE again where it finds a pair (R237). The counterexample is a PCIe
write of 0x10 to DPLL_HIST[0] in `refsDisagree`: the word stays 0x10, where the clause asks for 0. -/
theorem not_registerWritesActByFieldType : ¬ Obligations.RegisterWritesActByFieldType := by
  rintro ⟨-, -, hplain, -⟩
  obtain ⟨hhold, howes, hdenied⟩ := refsDisagree_takes_dpllHist0
  have hbusy : refsDisagree.busy.contains .ref = false := by decide +kernel
  have hlock : (refsDisagree.begin 0).locked .ref = false := by decide +kernel
  obtain ⟨u, hu, hword, -⟩ := hplain refsDisagree 0 .pcie dpllHist0 0x10 ⟨true, true⟩ .ref hhold howes hdenied
    (by decide) (by decide) (by decide) (by decide) rfl (by decide) rfl hbusy hlock
  rw [exec_registerWrite] at hu
  injection hu with hu
  rw [← hu, word_dpllHist0_of_clear_while_disagreeing, fieldsWritten_dpllHist0] at hword
  exact absurd hword (by decide)

end Sys2Proof.Machine
end

section
/-! A refutation of O3. DIAG_CLR of the XWP route page restarts ING_PEAK with the path counts that stand, and ING_PEAK lies among
the counters of the page. -/

namespace Sys2Proof.Machine

/-- A running device that holds one placed path, through ingress switch 0. -/
def onePathPlaced : State :=
  let s := State.reset.put .upd UPD.BOOT_STAT_PHASE 7
  { s with xwp := { s.xwp with paths := [(0, 0, 0)] } }

/-- PCIe may write DIAG_CLR of the route page. -/
theorem onePathPlaced_takes_diagClr : onePathPlaced.takes .pcie .xwpRoute 0x3FC := by decide +kernel

/-- DIAG_CLR leaves ING_PEAK at the one path that stands. -/
theorem word_ingPeak_of_diagClr_with_path :
    (onePathPlaced.run 0 (fun s => s.pageWrite .pcie .xwpRoute 0x3FC 1 ⟨true, true⟩)).word
      (Page.base .xwpRoute + XWPR.ING_PEAK.off) = 1 := by decide +kernel

/-- Refutes O3: ING_PEAK (0x30C of the route page) is one of the words that its first clause asks to be 0, but DIAG_CLR begins
it again with the largest path count that stands. In `onePathPlaced` it reads 1 after DIAG_CLR. -/
theorem not_diagClearZeroesItsCounters : ¬ Obligations.DiagClearZeroesItsCounters := by
  rintro ⟨hclear, -⟩
  obtain ⟨u, hu, hword⟩ := hclear onePathPlaced 0 .pcie .xwpRoute (0x3FC, [(0x300, 0x308), (0x30C, 0x314)]) (0x30C, 0x314)
    XWPR.ING_PEAK.off rfl (by decide) onePathPlaced_takes_diagClr (by decide) (by decide) (by decide)
  obtain rfl : onePathPlaced.run 0 (fun s => s.pageWrite .pcie .xwpRoute 0x3FC 1 ⟨true, true⟩) = u := by injection hu
  rw [word_ingPeak_of_diagClr_with_path] at hword
  exact absurd hword (by decide)

end Sys2Proof.Machine
end

section
/-! A refutation of O5. The statement quantifies over every state, also those that list a group above 63. CGRP_STAT of such a
number lies beyond the 64 words of the array: the word of "group 64" is CMT_COUNT. No command reaches such a state, since every
write of CGRP_CTRL names a group below 64; the statement lacks that hypothesis. -/

namespace Sys2Proof.Machine

/-- A running device whose page GMC is armed by itself for T_SMP, and which also lists a draining group 64 without members. -/
def strayGroupDraining : State :=
  ((State.reset.put .upd UPD.BOOT_STAT_PHASE 7).setArm ⟨.gmc, 0, 0x20, 1, none, 3, none, false, []⟩).setGrp 64
    ⟨0, 0x20, 1, none, 0, true, []⟩

/-- The fire of GMC lets the stray group complete, whose DONE bit falls into CMT_COUNT. -/
theorem cmtCount_of_fire_with_strayGroup :
    (strayGroupDraining.run 5000 (fun s => s.commitFire .gmc)).get .glb GLB.CMT_COUNT_COUNT = 0x10000000 := by decide +kernel

/-- Refutes O5: its first clause asks CMT_COUNT to add one at a fire. In `strayGroupDraining`, where group 64 drains, the fire of
GMC completes that group as well, and CGRP_STAT[64].DONE is bit 28 of CMT_COUNT, which reads 0x10000000 instead of 1. -/
theorem not_firesMakeTheShadowLive : ¬ Obligations.FiresMakeTheShadowLive := by
  rintro ⟨hfire, -⟩
  obtain ⟨u, hu, -, -, -, -, hcount⟩ := hfire strayGroupDraining 5000 .gmc ⟨.gmc, 0, 0x20, 1, none, 3, none, false, []⟩
    (by decide) (by decide) rfl (by decide) rfl (by decide) rfl rfl rfl (by decide) (by decide)
  obtain rfl : strayGroupDraining.run 5000 (fun s => s.commitFire .gmc) = u := by injection hu
  rw [cmtCount_of_fire_with_strayGroup] at hcount
  exact absurd hcount (by decide +kernel)

end Sys2Proof.Machine
end

section
/-! SUPPORT. Pages and their addresses: the inverse of `Page.base`, and the bounds that keep a page's words out of the MSI-X table
and of the table windows (Table 14.1). -/

namespace Sys2Proof

theorem idx?_eq_some {n i : Nat} {k : Fin n} (h : idx? n i = some k) : k.val = i := by
  unfold idx? at h
  split at h
  · cases h; rfl
  · cases h

theorem idx?_val {n : Nat} (k : Fin n) : idx? n k.val = some k := by simp [idx?]

theorem idx?_of_eq {n i : Nat} (k : Fin n) (h : i = k.val) : idx? n i = some k := h ▸ idx?_val k

/-- A page within the windows of BAR0. -/
theorem Page.base_lt (p : Page) : p.base + 0x1000 ≤ 0x02000000 := by
  cases p <;> simp only [Page.base, bayBase] <;> (try split) <;> omega

/-- No word of a page lies in the MSI-X table. -/
theorem Page.not_inMsix (p : Page) {o : Nat} (h : o < 0x1000) : inMsix (p.base + o) = false := by
  simp only [inMsix, Bool.and_eq_false_iff, decide_eq_false_iff_not]
  cases p <;> simp only [Page.base, bayBase] <;> (try split) <;> omega

theorem Page.base_add_mod (p : Page) {o : Nat} (h : o < 0x1000) : (p.base + o) % 4096 = o := by
  have := p.base_mod
  omega

theorem Page.base_add_div (p : Page) {o : Nat} (h : o < 0x1000) : (p.base + o) / 4096 = p.num := by
  have := p.base_mod
  unfold Page.num
  omega

/-- A page number of a bay gives a page at its place. -/
theorem bayPage_base {b q : Nat} {p : Page} (hb : b < 16) (h : bayPage b q = some p) : p.base = 4096 * (0x1000 + 256 * b + q) := by
  unfold bayPage at h
  split at h
  · obtain ⟨n, hn, rfl⟩ := Option.map_eq_some_iff.mp h
    have := idx?_eq_some hn
    simp only [Page.base, bayBase]
    split <;> omega
  split at h
  · obtain ⟨n, hn, hp⟩ := Option.map_eq_some_iff.mp h
    have := idx?_eq_some hn
    split at hp <;> subst hp <;> simp only [Page.base, bayBase] <;> omega
  split at h
  · obtain ⟨e, he, hp⟩ := Option.bind_eq_some_iff.mp h
    have := idx?_eq_some he
    split at hp <;> cases hp <;> simp only [Page.base, bayBase] <;> omega
  · obtain ⟨e, he, hp⟩ := Option.bind_eq_some_iff.mp h
    have := idx?_eq_some he
    repeat' split at hp
    all_goals cases hp
    all_goals simp only [Page.base, bayBase]; omega


/-- The page of number `n` begins at `4096 * n`. -/
theorem pageOf_base {n : Nat} {p : Page} (h : pageOf n = some p) : p.base = 4096 * n := by
  unfold pageOf at h
  iterate 6
    rcases ite_eq_iff.mp h with ⟨hn, h⟩ | ⟨-, h⟩
    · cases h; simp only [Page.base]; omega
  rcases ite_eq_iff.mp h with ⟨hn, h⟩ | ⟨-, h⟩
  · obtain ⟨k, hk, rfl⟩ := Option.map_eq_some_iff.mp h
    have := idx?_eq_some hk
    simp only [Page.base]; omega
  iterate 6
    rcases ite_eq_iff.mp h with ⟨hn, h⟩ | ⟨-, h⟩
    · cases h; simp only [Page.base]; omega
  rcases ite_eq_iff.mp h with ⟨hn, h⟩ | ⟨-, h⟩
  · obtain ⟨k, hk, rfl⟩ := Option.map_eq_some_iff.mp h
    have := idx?_eq_some hk
    simp only [Page.base]
    split <;> omega
  iterate 5
    rcases ite_eq_iff.mp h with ⟨hn, h⟩ | ⟨-, h⟩
    · cases h; simp only [Page.base]; omega
  iterate 2
    rcases ite_eq_iff.mp h with ⟨hn, h⟩ | ⟨-, h⟩
    · obtain ⟨k, hk, rfl⟩ := Option.map_eq_some_iff.mp h
      have := idx?_eq_some hk
      simp only [Page.base]; omega
  rcases ite_eq_iff.mp h with ⟨hn, h⟩ | ⟨-, h⟩
  · have := bayPage_base (by omega) h
    omega
  · cases h

/-- The page numbers of bay `b`. -/
theorem pageOf_bay {b q : Nat} (hb : b < 16) (hq : q < 256) : pageOf (0x1000 + 256 * b + q) = bayPage b q := by
  have hdiv : (0x1000 + 256 * b + q - 0x1000) / 256 = b := by omega
  have hmod : (0x1000 + 256 * b + q) % 256 = q := by omega
  unfold pageOf
  iterate 21 rw [if_neg (by omega)]
  rw [if_pos (by omega), hdiv, hmod]

theorem pageOf_vtg {n : Nat} (h : 0x102 ≤ n ∧ n < 0x122) : pageOf n = (idx? 32 (n - 0x102)).map .vtg := by
  unfold pageOf
  iterate 6 rw [if_neg (by omega)]
  rw [if_pos h]

theorem pageOf_braceLane {n : Nat} (h : 0x480 ≤ n ∧ n < 0x488) : pageOf n = (idx? 1032 (n - 0x480 + 1024)).map .lane := by
  unfold pageOf
  iterate 13 rw [if_neg (by omega)]
  rw [if_pos h]

theorem pageOf_rxSlot {n : Nat} (h : 0x800 ≤ n ∧ n < 0xC00) : pageOf n = (idx? 1024 (n - 0x800)).map .rxSlot := by
  unfold pageOf
  iterate 19 rw [if_neg (by omega)]
  rw [if_pos h]

theorem pageOf_txSlot {n : Nat} (h : 0xC00 ≤ n ∧ n < 0x1000) : pageOf n = (idx? 1024 (n - 0xC00)).map .txSlot := by
  unfold pageOf
  iterate 20 rw [if_neg (by omega)]
  rw [if_pos h]

/-- Page `q` of bay `b` is the page whose number is `0x1000 + 256 * b + q`. -/
theorem pageOf_of_bayPage {b q n : Nat} {p : Page} (hb : b < 16) (hq : q < 256) (hn : n = 0x1000 + 256 * b + q)
    (h : bayPage b q = some p) : pageOf n = some p := by
  rw [hn, pageOf_bay hb hq, h]

theorem bayPage_lane {b q : Nat} (n : Fin 1032) (hq : q < 0x40) (hn : 64 * b + q = n.val) : bayPage b q = some (.lane n) := by
  rw [bayPage, if_pos hq, idx?_of_eq n hn, Option.map_some]

/-- The number of a page gives the page. -/
theorem pageOf_num (p : Page) : pageOf p.num = some p := by
  cases p with
  | vtg v =>
    have hn : (Page.vtg v).num = 0x102 + v.val := by simp only [Page.num, Page.base]; omega
    rw [hn, pageOf_vtg (by omega), idx?_of_eq v (by omega), Option.map_some]
  | lane n =>
    by_cases hb : n.val < 1024
    · have hn : (Page.lane n).num = 0x1000 + 256 * (n.val / 64) + n.val % 64 := by
        simp only [Page.num, Page.base, bayBase, if_pos hb]; omega
      exact pageOf_of_bayPage (by omega) (by omega) hn (bayPage_lane n (by omega) (by omega))
    · have hn : (Page.lane n).num = 0x480 + (n.val - 1024) := by simp only [Page.num, Page.base, if_neg hb]; omega
      rw [hn, pageOf_braceLane (by omega), idx?_of_eq n (by omega), Option.map_some]
  | rxSlot n =>
    have hn : (Page.rxSlot n).num = 0x800 + n.val := by simp only [Page.num, Page.base]; omega
    rw [hn, pageOf_rxSlot (by omega), idx?_of_eq n (by omega), Option.map_some]
  | txSlot n =>
    have hn : (Page.txSlot n).num = 0xC00 + n.val := by simp only [Page.num, Page.base]; omega
    rw [hn, pageOf_txSlot (by omega), idx?_of_eq n (by omega), Option.map_some]
  | eth p => revert p; decide +kernel
  | msec p => revert p; decide +kernel
  | eng e => revert e; decide +kernel
  | engComp e => revert e; decide +kernel
  | engColour e => revert e; decide +kernel
  | flowv b => revert b; decide
  | cls b => revert b; decide
  | flowaRx b => revert b; decide
  | flowaTx b => revert b; decide
  | tdm b => revert b; decide
  | _ => rfl

/-- Pages have different numbers. -/
theorem Page.num_inj {p q : Page} (h : p.num = q.num) : p = q := by
  have hp := pageOf_num p
  rw [h, pageOf_num q] at hp
  exact (Option.some.inj hp).symm

/-- Every word of a page belongs to it. -/
theorem ownerOf_base_add (p : Page) {o : Nat} (h : o < 0x1000) : ownerOf (p.base + o) = some p := by
  have := p.base_lt
  rw [ownerOf, if_pos (by omega), p.base_add_div h, pageOf_num]

end Sys2Proof
end

section
/-! SUPPORT. A whole write that its master may make (R8, R359, R376): the state in which it acts, and the words of the common
header and of CGRP_CTRL, which the write itself leaves as they are. -/

namespace Sys2Proof.Machine

/-! ### The beginning of an access -/

/-- What no clock, no word of the TIME page and no emission changes is the same when a command begins. -/
theorem State.begin_keeps {α : Type} (F : State → α) (hword : ∀ (u : State) a v, a ∈ timeWords → F (u.setWord a v) = F u)
    (hclk : ∀ (u : State) n c, F { u with now := n, clk := c } = F u) (hout : ∀ u : State, F { u with out := [] } = F u)
    (s : State) (t : Nat) : F (s.begin t) = F s := by
  have hclk' : ∀ (u : State) c, F { u with clk := c } = F u := fun u c => hclk u u.now c
  have hglide : ∀ (u : State) n, F (u.glide n) = F u := fun u n => by
    unfold State.glide
    simp only
    split
    · exact (hword _ _ _ (by decide)).trans (hclk u _ _)
    · exact hclk u _ _
  have hstep : ∀ (u : State) d, F (u.applyStep d) = F u := fun u d => by
    have hstat : Page.base .time + (TIME.DOM_STAT_STEP_PEND.at d.val).off ∈ timeWords := by revert d; decide
    unfold State.applyStep
    split
    · rfl
    · refine (hword _ _ _ ?_).trans ((hword _ _ _ hstat).trans (hclk' u _))
      split <;> decide
  have hstepBy : ∀ (u : State) n d c, F (u.stepBy n d c) = F u := fun u n d c => by
    unfold State.stepBy
    split
    · split
      · rw [hstep, hglide]
      · exact hclk' u _
    · rfl
  unfold State.begin State.advance
  simp only
  split <;> rw [hglide, hstepBy, hstepBy, hout]

/-- The state in which an access of `m` at core cycle `t` acts. -/
def State.accessed (s : State) (t : Nat) (m : Master) : State := (s.begin t).received m

/-- What also no TLP_RX changes is the same when an access acts. -/
theorem State.accessed_keeps {α : Type} (F : State → α)
    (hword : ∀ (u : State) a v, a ∈ timeWords ∨ a = Page.base .hif + HIF.TLP_RX.off → F (u.setWord a v) = F u)
    (hclk : ∀ (u : State) n c, F { u with now := n, clk := c } = F u) (hout : ∀ u : State, F { u with out := [] } = F u)
    (s : State) (t : Nat) (m : Master) : F (s.accessed t m) = F s := by
  unfold State.accessed State.received
  split
  · exact (hword _ _ _ (.inr rfl)).trans (State.begin_keeps F (fun u a v h => hword u a v (.inl h)) hclk hout s t)
  · exact State.begin_keeps F (fun u a v h => hword u a v (.inl h)) hclk hout s t

section
variable (s : State) (t : Nat) (m : Master)

@[simp] theorem State.accessed_lv : (s.accessed t m).lv = s.lv :=
  State.accessed_keeps State.lv (fun _ _ _ _ => rfl) (fun _ _ _ => rfl) (fun _ => rfl) s t m
@[simp] theorem State.accessed_arms : (s.accessed t m).arms = s.arms :=
  State.accessed_keeps State.arms (fun _ _ _ _ => rfl) (fun _ _ _ => rfl) (fun _ => rfl) s t m
@[simp] theorem State.accessed_groups : (s.accessed t m).groups = s.groups :=
  State.accessed_keeps State.groups (fun _ _ _ _ => rfl) (fun _ _ _ => rfl) (fun _ => rfl) s t m
@[simp] theorem State.accessed_busy : (s.accessed t m).busy = s.busy :=
  State.accessed_keeps State.busy (fun _ _ _ _ => rfl) (fun _ _ _ => rfl) (fun _ => rfl) s t m
@[simp] theorem State.accessed_bus : (s.accessed t m).bus = s.bus :=
  State.accessed_keeps State.bus (fun _ _ _ _ => rfl) (fun _ _ _ => rfl) (fun _ => rfl) s t m
@[simp] theorem State.accessed_otp : (s.accessed t m).otp = s.otp :=
  State.accessed_keeps State.otp (fun _ _ _ _ => rfl) (fun _ _ _ => rfl) (fun _ => rfl) s t m
@[simp] theorem State.accessed_keys : (s.accessed t m).keys = s.keys :=
  State.accessed_keeps State.keys (fun _ _ _ _ => rfl) (fun _ _ _ => rfl) (fun _ => rfl) s t m
@[simp] theorem State.accessed_freed : (s.accessed t m).freed = (s.begin t).freed := by
  rw [State.accessed_keeps State.freed (fun _ _ _ _ => rfl) (fun _ _ _ => rfl) (fun _ => rfl), State.begin_freed]
@[simp] theorem State.accessed_freedAt : (s.accessed t m).freedAt = (s.begin t).freedAt := by
  rw [State.accessed_keeps State.freedAt (fun _ _ _ _ => rfl) (fun _ _ _ => rfl) (fun _ => rfl), State.begin_freedAt]

@[simp] theorem State.accessed_now : (s.accessed t m).now = max s.now t := by
  unfold State.accessed State.received
  split
  · rw [State.add_now, State.begin_now]
  · rw [State.begin_now]

theorem State.word_accessed {b : Nat} (htime : b ∉ timeWords) (hrx : b ≠ Page.base .hif + HIF.TLP_RX.off) :
    (s.accessed t m).word b = s.word b :=
  State.accessed_keeps (fun u => u.word b)
    (fun u a v h => State.word_setWord_ne u (fun e => by rcases h with h | h; exacts [htime (e ▸ h), hrx (e.trans h)]) v)
    (fun _ _ _ => rfl) (fun _ => rfl) s t m

@[simp] theorem State.lword_accessed (b : Nat) : (s.accessed t m).lword b = s.lword b := by
  rw [State.lword, State.accessed_lv, State.lword]

@[simp] theorem State.armOf_accessed (p : Page) : (s.accessed t m).armOf p = s.armOf p := by
  rw [State.armOf, State.accessed_arms, State.armOf]

@[simp] theorem State.grpOf_accessed (g : Nat) : (s.accessed t m).grpOf g = s.grpOf g := by
  rw [State.grpOf, State.accessed_groups, State.grpOf]

@[simp] theorem State.grpBusy_accessed (g : Nat) : (s.accessed t m).grpBusy g = s.grpBusy g := by
  rw [State.grpBusy, State.grpOf_accessed, State.grpBusy]

@[simp] theorem State.justFreed_accessed (p : Page) : (s.accessed t m).justFreed p = (s.begin t).justFreed p := by
  rw [State.justFreed, State.accessed_now, State.accessed_freedAt, State.accessed_freed, State.justFreed, State.begin_now]

@[simp] theorem State.selOk_accessed (sel : Nat) : (s.accessed t m).selOk sel = s.selOk sel :=
  State.accessed_keeps (fun u => u.selOk sel) (fun _ _ _ _ => rfl) (fun _ _ _ => rfl) (fun _ => rfl) s t m

/-- Whether an access is denied does not depend on the clocks or on TLP_RX. -/
theorem State.denied_accessed (m' : Master) (write : Bool) (a strobes : Nat) :
    (s.accessed t m).denied m' write a strobes = s.denied m' write a strobes := by
  have hget : ∀ f, Page.base .upd + f.off ∉ timeWords → Page.base .upd + f.off ≠ Page.base .hif + HIF.TLP_RX.off →
      (s.accessed t m).get .upd f = s.get .upd f := fun f h h' => by
    rw [State.get, State.word_accessed s t m h h', State.get]
  have hphase : (s.accessed t m).phase = s.phase := hget _ (by decide) (by decide)
  have hopen : (s.accessed t m).sessOpen = s.sessOpen := by
    rw [State.sessOpen, hget _ (by decide) (by decide), State.sessOpen]
  have howner : (s.accessed t m).sessOwner = s.sessOwner := hget _ (by decide) (by decide)
  simp only [State.denied, State.debugOpen, State.may, State.ownerAt, hphase, hopen, howner, State.accessed_otp,
    State.accessed_keys]

end

/-- A whole write that is taken acts on the state of its access, and the interrupt messages due then go out. -/
theorem State.run_pageWrite {s : State} {m : Master} {p : Page} {o : Nat} (h : s.takes m p o) (t : Nat) (v : State → Word)
    (ok : Served) : s.run t (fun u => u.pageWrite m p o (v u) ok) =
      ((s.accessed t m).write m (p.base + o) (v (s.begin t)) ok).settle := by
  obtain ⟨hhold, howes, hdenied⟩ := h
  have howes' : (s.accessed t m).owesError m = false := by rw [State.owesError, State.accessed_bus]; exact howes
  have hdenied' := (State.denied_accessed s t m m true (p.base + o) 15).trans hdenied
  rw [State.run_eq hhold, State.pageWrite, State.busWrite]
  simp only [State.accessed] at howes' hdenied' ⊢
  simp only [howes', hdenied', Bool.false_eq_true, if_false]

end Sys2Proof.Machine
end

section
/-! SUPPORT. Writes of the common header and of CGRP_CTRL: the write stores no bit of COMMIT and CGRP_CTRL, whose commands store
what they accept (R31, R44), and its action follows. -/

namespace Sys2Proof

theorem fieldsAt_header (p : Page) {o : Nat} (h : o < 0x40) : fieldsAt (p.base + o) = hdrFields p o := by
  have hlt := p.base_lt
  have hno : noEntry (p.base + o) = false := by
    simp only [noEntry, Bool.and_eq_false_iff, decide_eq_false_iff_not]
    omega
  have hlow : decide (0x02000000 ≤ p.base + o) = false := decide_eq_false (by omega)
  rw [fieldsAt, hno, p.not_inMsix (by omega), hlow]
  simp only [Bool.false_eq_true, if_false, Bool.or_self]
  rw [p.base_add_div (by omega), pageOf_num]
  simp only [p.base_add_mod (o := o) (by omega), if_pos h]

/-- COMMIT has no RWS and no W1C bit. -/
theorem maskOf_commit (p : Page) : maskOf (· == .rws) (p.base + 0x020) = 0 ∧ maskOf (· == .w1c) (p.base + 0x020) = 0 := by
  have h : fieldsAt (p.base + 0x020) = Machine.HDR.map.filter (fun f => f.off = 0x020) := fieldsAt_header p (by decide)
  simp only [maskOf, h]
  decide

/-- CGRP_CTRL has no RWS and no W1C bit. -/
theorem maskOf_cgrpCtrl (g : Fin 64) : maskOf (· == .rws) (Page.base .glb + (0x400 + 4 * g.val)) = 0 ∧
    maskOf (· == .w1c) (Page.base .glb + (0x400 + 4 * g.val)) = 0 := by
  revert g
  decide +kernel

namespace Machine

/-- A write of a word of which it stores no bit, clears no bit and that the lock does not guard leaves the word. -/
theorem State.store_eq_of_ignored (s : State) (p : Page) (a : Nat) (v : Word) (ha : a < 0x02000000)
    (hign : s.ignored p (a % 4096) = 0xFFFFFFFF) (hrws : maskOf (· == .rws) a = 0) (hw1c : maskOf (· == .w1c) a = 0) :
    s.store p a v = s.setWord a (s.word a) := by
  have hm : s.writable p a = 0 := by
    have hall : ~~~(BitVec.ofNat 32 0xFFFFFFFF) = 0#32 := by decide
    unfold State.writable
    simp only [if_neg (by omega : ¬ 0x02000000 ≤ a), hign, hall, BitVec.and_zero, ite_self, BitVec.ofNat_eq_ofNat]
  have hguard : (rwsMask a != 0) = false := by rw [rwsMask, hrws]; rfl
  unfold State.store
  simp only [hm, hw1c, hguard, Bool.and_false, Bool.false_and, Bool.false_eq_true, if_false]
  congr 1
  simp only [BitVec.ofNat_eq_ofNat, BitVec.and_zero, BitVec.zero_and, BitVec.not_zero, BitVec.and_allOnes, BitVec.or_zero]

/-- The state in which a taken write of COMMIT of page `p` acts. -/
def State.atCommit (s : State) (t : Nat) (m : Master) (p : Page) : State :=
  (s.accessed t m).setWord (p.base + 0x020) ((s.accessed t m).word (p.base + 0x020))

/-- The state in which a taken write of CGRP_CTRL[g] acts. -/
def State.atGroup (s : State) (t : Nat) (m : Master) (g : Fin 64) : State :=
  (s.accessed t m).setWord (Page.base .glb + (0x400 + 4 * g.val)) ((s.accessed t m).word (Page.base .glb + (0x400 + 4 * g.val)))

/-- A write of a register of the common header stores its fields, then acts. -/
theorem State.write_header (s : State) (m : Master) (p : Page) {o : Nat} (h : o < 0x40) (v : Word) (ok : Served) :
    s.write m (p.base + o) v ok = (s.store p (p.base + o) v).hdrAction m p o v.toNat := by
  have := p.base_lt
  rw [State.write, p.not_inMsix (by omega)]
  simp only [Bool.false_eq_true, if_false, ownerOf_base_add p (show o < 0x1000 by omega)]
  rw [if_neg (by omega), p.base_add_mod (by omega), if_pos h]

/-- A taken write of COMMIT is a COMMIT write of its value. -/
theorem State.run_commitWrite {s : State} {m : Master} {p : Page} (h : s.takes m p 0x020) (t : Nat) (v : Word) (ok : Served) :
    s.run t (fun u => u.pageWrite m p 0x020 v ok) = ((s.atCommit t m p).commitWrite p v.toNat).settle := by
  have hmod := p.base_add_mod (o := 0x020) (by decide)
  have hlt := p.base_lt
  rw [State.run_pageWrite h t (fun _ => v), State.write_header _ _ _ (by decide), State.store_eq_of_ignored _ _ _ _ (by omega)
    (by rw [hmod]; rfl) (maskOf_commit p).1 (maskOf_commit p).2]
  rfl

/-- CGRP_CTRL is no log. -/
theorem logWords_cgrpCtrl (g : Fin 64) : logWords .glb (0x400 + 4 * g.val) = [] := by
  revert g
  decide +kernel

/-- A taken write of CGRP_CTRL[g] is a group write of its value. -/
theorem State.run_cgrpWrite {s : State} {m : Master} {g : Fin 64} (h : s.takes m .glb (0x400 + 4 * g.val)) (t : Nat) (v : Word)
    (ok : Served) : s.run t (fun u => u.pageWrite m .glb (0x400 + 4 * g.val) v ok) =
      ((s.atGroup t m g).cgrpWrite g.val v.toNat).settle := by
  have hmod : (Page.base .glb + (0x400 + 4 * g.val)) % 4096 = 0x400 + 4 * g.val := Page.base_add_mod _ (by omega)
  have hrange : (decide (0x400 ≤ 0x400 + 4 * g.val) && decide (0x400 + 4 * g.val < 0x500)) = true := by
    simp only [Bool.and_eq_true, decide_eq_true_eq]
    omega
  have hign : ∀ u : State, u.ignored .glb (0x400 + 4 * g.val) = 0xFFFFFFFF := fun u => by
    unfold State.ignored
    rw [if_neg (by omega), if_neg (by omega)]
    exact if_pos hrange
  rw [State.run_pageWrite h t (fun _ => v), State.write, Page.not_inMsix _ (by omega)]
  simp only [Bool.false_eq_true, if_false, ownerOf_base_add .glb (show 0x400 + 4 * g.val < 0x1000 by omega)]
  rw [State.store_eq_of_ignored _ _ _ _ (by simp only [Page.base]; omega) (by rw [hmod, hign]) (maskOf_cgrpCtrl g).1
    (maskOf_cgrpCtrl g).2, if_neg (by simp only [Page.base]; omega), hmod, if_neg (by omega)]
  have hlog : ∀ u : State, u.logClear .glb (0x400 + 4 * g.val) v.toNat = u := fun u => by
    rw [State.logClear, logWords_cgrpCtrl]
    exact ite_self u
  have hdiv : (0x400 + 4 * g.val - 0x400) / 4 = g.val := by omega
  have hdiag : diagOf .glb = none := rfl
  simp only [hdiag, Option.any_none, Bool.false_and, Bool.false_eq_true, if_false, hlog]
  unfold State.pageAction
  rw [if_neg (by omega), if_pos hrange, hdiv]
  rfl

section
variable (s : State) (t : Nat) (m : Master) (p : Page) (g : Fin 64)

@[simp] theorem State.word_atCommit (b : Nat) : (s.atCommit t m p).word b = (s.accessed t m).word b := by
  unfold State.atCommit
  by_cases h : b = p.base + 0x020
  · rw [h, State.word_setWord_same]
  · rw [State.word_setWord_ne _ h]

@[simp] theorem State.word_atGroup (b : Nat) : (s.atGroup t m g).word b = (s.accessed t m).word b := by
  unfold State.atGroup
  by_cases h : b = Page.base .glb + (0x400 + 4 * g.val)
  · rw [h, State.word_setWord_same]
  · rw [State.word_setWord_ne _ h]

end

end Machine
end Sys2Proof
end

section
/-! SUPPORT. The words that the commands of COMMIT and CGRP_CTRL write (ARM, DISARM, neither), field by field. -/

namespace Sys2Proof

theorem testBit_bits (x lo w i : Nat) : (bits x lo w).testBit i = (decide (i < w) && x.testBit (lo + i)) := by
  rw [bits, Nat.testBit_mod_two_pow, Nat.testBit_div_two_pow, Nat.add_comm i]

/-- A field is determined by its bits. -/
theorem bits_congr {x y lo w : Nat} (h : ∀ i < w, x.testBit (lo + i) = y.testBit (lo + i)) : bits x lo w = bits y lo w := by
  refine Nat.eq_of_testBit_eq fun i => ?_
  rw [testBit_bits, testBit_bits]
  by_cases hi : i < w
  · rw [h i hi]
  · simp [hi]

/-- A one-bit field that is set. -/
theorem bits_one_of_testBit {x k : Nat} (h : x.testBit k = true) : bits x k 1 = 1 := by
  rw [bits, pow_one, ← Nat.shiftRight_eq_div_pow]
  simpa [Nat.testBit, Nat.one_and_eq_mod_two, bne_iff_ne] using h

/-- A one-bit field that is clear. -/
theorem bits_one_of_not_testBit {x k : Nat} (h : x.testBit k = false) : bits x k 1 = 0 := by
  rw [bits, pow_one, ← Nat.shiftRight_eq_div_pow]
  simpa [Nat.testBit, Nat.one_and_eq_mod_two, bne_eq_false_iff_eq] using h

theorem bitAt_eq_bits (x i : Nat) : bitAt x i = bits x i 1 := rfl

theorem toNat_armWord (v : Word) : (v ||| 0x80000000).toNat = v.toNat ||| 2 ^ 31 := BitVec.toNat_or ..
theorem toNat_disarmWord (v : Word) : (v &&& 0x7FFFFFFF ||| 0x40000000).toNat = v.toNat &&& (2 ^ 31 - 1) ||| 2 ^ 30 := by
  rw [BitVec.toNat_or, BitVec.toNat_and]; rfl
theorem toNat_plainWord (v : Word) : (v &&& 0x3FFFFFFF).toNat = v.toNat &&& (2 ^ 30 - 1) := BitVec.toNat_and ..

/-- ARM is set in an arming write. -/
theorem bit31_armWord (v : Word) : bits (v ||| 0x80000000).toNat 31 1 = 1 :=
  bits_one_of_testBit (by rw [toNat_armWord, Nat.testBit_or, Nat.testBit_two_pow_self, Bool.or_true])

/-- The fields below ARM are those of the value. -/
theorem bits_armWord (v : Word) {lo w : Nat} (h : lo + w ≤ 31) : bits (v ||| 0x80000000).toNat lo w = bits v.toNat lo w :=
  bits_congr fun i hi => by
    rw [toNat_armWord, Nat.testBit_or, Nat.testBit_two_pow_of_ne (by omega), Bool.or_false]

/-- DISARM is set in a disarming write. -/
theorem bit30_disarmWord (v : Word) : bits (v &&& 0x7FFFFFFF ||| 0x40000000).toNat 30 1 = 1 :=
  bits_one_of_testBit (by rw [toNat_disarmWord, Nat.testBit_or, Nat.testBit_two_pow_self, Bool.or_true])

/-- ARM is clear in a disarming write. -/
theorem bit31_disarmWord (v : Word) : bits (v &&& 0x7FFFFFFF ||| 0x40000000).toNat 31 1 = 0 :=
  bits_one_of_not_testBit (by
    rw [toNat_disarmWord, Nat.testBit_or, Nat.testBit_and, Nat.testBit_two_pow_sub_one, Nat.testBit_two_pow_of_ne (by decide)]
    simp)

/-- ARM is clear in a write of the other fields. -/
theorem bit31_plainWord (v : Word) : bits (v &&& 0x3FFFFFFF).toNat 31 1 = 0 :=
  bits_one_of_not_testBit (by rw [toNat_plainWord, Nat.testBit_and, Nat.testBit_two_pow_sub_one]; simp)

/-- The fields below DISARM are those of the value. -/
theorem bits_plainWord (v : Word) {lo w : Nat} (h : lo + w ≤ 30) : bits (v &&& 0x3FFFFFFF).toNat lo w = bits v.toNat lo w :=
  bits_congr fun i hi => by
    rw [toNat_plainWord, Nat.testBit_and, Nat.testBit_two_pow_sub_one, decide_eq_true (by omega), Bool.and_true]

end Sys2Proof
end

section
/-! SUPPORT. What the withdrawal of arms leaves alone (R38, R44, R52). -/

namespace Sys2Proof.Machine

/-! ### The audited pools -/

/-- A state that differs from another in the counters of its pools alone. -/
def State.Pooled (s u : State) : Prop := ∃ x, u = { s with pools := x }

theorem State.Pooled.refl (s : State) : s.Pooled s := ⟨s.pools, rfl⟩

theorem State.Pooled.trans {s u v : State} (a : s.Pooled u) (b : u.Pooled v) : s.Pooled v := by
  obtain ⟨_, rfl⟩ := a
  obtain ⟨_, rfl⟩ := b
  exact ⟨_, rfl⟩

theorem State.Pooled.foldl {α : Type} {f : State → α → State} (h : ∀ (u : State) (a : α), u.Pooled (f u a)) (l : List α) (s : State) :
    s.Pooled (l.foldl f s) := by
  induction l generalizing s with
  | nil => exact .refl s
  | cons a r ih => exact (h s a).trans (ih _)

theorem State.poolMove_pooled (s : State) (c i n m : Nat) : s.Pooled (s.poolMove c i n m) := by
  unfold State.poolMove State.poolIssue State.poolReturn
  simp only
  repeat' split
  all_goals exact ⟨_, rfl⟩

/-- The pool counters follow the pages, and nothing else does. -/
theorem State.poolSync_pooled (s old : State) (ps : List Page) : s.Pooled (s.poolSync old ps) := by
  have hbays : ∀ (l : List Nat) (v w : View) (u : State), u.Pooled (l.foldl (fun t b => (List.range 6).foldl
      (fun t c => t.poolMove c b (old.held w c b) (s.held v c b)) t) u) := fun l v w =>
    .foldl (fun u b => .foldl (fun u c => u.poolMove_pooled _ _ _ _) _ u) l
  have hlast : ∀ (u : State) (b : Bool) (n m : Nat), u.Pooled (if b then u.poolMove 0xD 0 n m else u) := fun u b n m => by
    split
    · exact u.poolMove_pooled _ _ _ _
    · exact .refl u
  unfold State.poolSync
  dsimp only
  refine ((hbays (s.bays ps) (s.after []) (old.after []) s).trans (.foldl ?_ ps _)).trans (hlast _ _ _ _)
  intro u p
  split
  · exact u.poolMove_pooled _ _ _ _
  · exact .refl u

section
variable (s old : State) (ps : List Page)

theorem State.poolSync_sh : (s.poolSync old ps).sh = s.sh := by obtain ⟨x, h⟩ := s.poolSync_pooled old ps; rw [h]
@[simp] theorem State.poolSync_lv : (s.poolSync old ps).lv = s.lv := by obtain ⟨x, h⟩ := s.poolSync_pooled old ps; rw [h]
@[simp] theorem State.poolSync_arms : (s.poolSync old ps).arms = s.arms := by obtain ⟨x, h⟩ := s.poolSync_pooled old ps; rw [h]
@[simp] theorem State.poolSync_groups : (s.poolSync old ps).groups = s.groups := by
  obtain ⟨x, h⟩ := s.poolSync_pooled old ps; rw [h]
@[simp] theorem State.poolSync_busy : (s.poolSync old ps).busy = s.busy := by obtain ⟨x, h⟩ := s.poolSync_pooled old ps; rw [h]
@[simp] theorem State.poolSync_normal : (s.poolSync old ps).normal = s.normal := by
  obtain ⟨x, h⟩ := s.poolSync_pooled old ps; rw [h]
@[simp] theorem State.word_poolSync (b : Nat) : (s.poolSync old ps).word b = s.word b := by
  rw [State.word, State.poolSync_sh, State.word]
@[simp] theorem State.get_poolSync (p : Page) (f : Fld) : (s.poolSync old ps).get p f = s.get p f := by
  rw [State.get, State.word_poolSync, State.get]
@[simp] theorem State.armOf_poolSync (p : Page) : (s.poolSync old ps).armOf p = s.armOf p := by
  rw [State.armOf, State.poolSync_arms, State.armOf]
@[simp] theorem State.grpOf_poolSync (g : Nat) : (s.poolSync old ps).grpOf g = s.grpOf g := by
  rw [State.grpOf, State.poolSync_groups, State.grpOf]

end

/-! ### Arms and groups -/

theorem Tab.find?_del_same {α : Type} (t : Tab α) (k : Nat) : (t.del k).find? (fun e => e.1 = k) = none := by
  rw [List.find?_eq_none]
  intro e he
  simpa using Tab.ne_of_mem_del he

/-- A withdrawn page is not armed. -/
@[simp] theorem State.armOf_dropArm_same (s : State) (p : Page) : (s.dropArm p).armOf p = none := by
  rw [State.armOf, State.dropArm, Tab.find?_del_same, Option.map_none]

/-- A page that is not armed is not armed by the withdrawal of another. -/
theorem State.armOf_dropArm_of_none {s : State} {p : Page} (h : s.armOf p = none) (q : Page) : (s.dropArm q).armOf p = none := by
  rw [State.armOf, Option.map_eq_none_iff, List.find?_eq_none] at h ⊢
  exact fun e he => h e (List.mem_filter.mp he).1

/-- The withdrawal of the arms of several pages changes the arms alone. -/
theorem State.foldl_dropArm_eq (s : State) (ps : List Page) : ∃ x, ps.foldl State.dropArm s = { s with arms := x } := by
  induction ps generalizing s with
  | nil => exact ⟨s.arms, rfl⟩
  | cons p r ih => obtain ⟨x, h⟩ := ih (s.dropArm p); exact ⟨x, h⟩

theorem State.armOf_foldl_dropArm_of_none {s : State} {p : Page} (h : s.armOf p = none) (ps : List Page) :
    (ps.foldl State.dropArm s).armOf p = none := by
  induction ps generalizing s with
  | nil => exact h
  | cons q r ih => exact ih (State.armOf_dropArm_of_none h q)

/-- Every page of a list is withdrawn with it. -/
theorem State.armOf_foldl_dropArm_of_mem (s : State) {p : Page} {ps : List Page} (h : p ∈ ps) :
    (ps.foldl State.dropArm s).armOf p = none := by
  induction ps generalizing s with
  | nil => cases h
  | cons q r ih =>
    rcases List.mem_cons.mp h with rfl | h
    · exact State.armOf_foldl_dropArm_of_none (State.armOf_dropArm_same s p) r
    · exact ih _ h

end Sys2Proof.Machine
end
section
/-! DISARM of a commit group (R44): O47. -/

namespace Sys2Proof.Machine

theorem exec_cgrpDisarm (s : State) (t : Nat) (m : Master) (g : Fin 64) (value : Word) :
    exec (.cgrpDisarm t m g value) s = .next (s.run t (fun u =>
      u.pageWrite m .glb (0x400 + 4 * g.val) (value &&& 0x7FFFFFFF ||| 0x40000000) ⟨true, true⟩)) := rfl

/-- The words that an access outside HIF leaves are those outside HIF and the bookkeeping. -/
theorem State.word_accessed_of_not_own (s : State) (t : Nat) (m : Master) {b : Nat} (hhif : inPage .hif b = false)
    (hown : ownWord b = false) : (s.accessed t m).word b = s.word b := by
  refine State.word_accessed s t m (fun h => ?_) (fun h => ?_)
  · simp only [timeWords, List.mem_cons, List.not_mem_nil, or_false] at h
    rcases h with rfl | rfl | rfl <;> exact absurd hown (by decide)
  · subst h
    exact absurd hhif (by decide)

/-- Interrupt messages leave the words outside HIF. -/
theorem State.word_settle_of_not_hif (s : State) {b : Nat} (hhif : inPage .hif b = false) : s.settle.word b = s.word b :=
  State.word_settle_ne s (fun h => by subst h; exact absurd hhif (by decide))

section
variable (s : State) (t : Nat) (m : Master) (g : Fin 64)

@[simp] theorem State.atGroup_lv : (s.atGroup t m g).lv = s.lv := State.accessed_lv s t m
@[simp] theorem State.atGroup_arms : (s.atGroup t m g).arms = s.arms := State.accessed_arms s t m
@[simp] theorem State.atGroup_groups : (s.atGroup t m g).groups = s.groups := State.accessed_groups s t m
@[simp] theorem State.grpOf_atGroup (h : Nat) : (s.atGroup t m g).grpOf h = s.grpOf h := State.grpOf_accessed s t m h

end

/-- DISARM of a pending group is its withdrawal. -/
theorem State.cgrpWrite_disarm_pending {s : State} {g : Nat} {x : Grp} (hx : s.grpOf g = some x) (hpend : x.draining = false)
    (value : Word) : s.cgrpWrite g (value &&& 0x7FFFFFFF ||| 0x40000000).toNat = s.grpDisarm g x := by
  simp only [State.cgrpWrite, hx, bitAt_eq_bits, bit30_disarmWord, hpend]
  rfl

/-- DISARM of a draining group is ignored. -/
theorem State.cgrpWrite_disarm_draining {s : State} {g : Nat} {x : Grp} (hx : s.grpOf g = some x) (hdrain : x.draining = true)
    (v : Nat) : s.cgrpWrite g v = s := by
  simp only [State.cgrpWrite, hx, hdrain, Bool.not_true, Bool.and_false, Bool.false_eq_true, if_false]

/-- The withdrawal of a group removes the group and the arms of its members, and changes no word. -/
theorem State.grpDisarm_eq (s : State) (g : Nat) (x : Grp) :
    ∃ y, s.grpDisarm g x = { s with arms := (x.members.foldl State.dropArm s).arms, groups := s.groups.del g, pools := y } := by
  obtain ⟨a, ha⟩ := State.foldl_dropArm_eq s x.members
  obtain ⟨y, hy⟩ := State.poolSync_pooled ({ s with arms := a, groups := s.groups.del g } : State) s x.members
  exact ⟨y, by rw [State.grpDisarm, ha]; exact hy⟩

/-- Settles O47: DISARM removes a pending group with the arms of its members and moves pool counters alone, and does nothing
to a draining group. -/
theorem groupDisarmWithdrawsItsMembers : Obligations.GroupDisarmWithdrawsItsMembers := by
  refine ⟨fun s t m g value x htakes hx hpend => ⟨_, exec_cgrpDisarm s t m g value, ?_⟩,
    fun s t m g value x htakes hx hdrain => ⟨_, exec_cgrpDisarm s t m g value, ?_⟩⟩
  · obtain ⟨y, hy⟩ := State.grpDisarm_eq (s.atGroup t m g) g.val x
    rw [State.run_cgrpWrite htakes, State.cgrpWrite_disarm_pending ((State.grpOf_atGroup s t m g g.val).trans hx) hpend, hy]
    refine ⟨?_, fun p hp => ?_, fun b hhif hown => ?_, fun b => ?_⟩
    · rw [State.grpOf, State.settle_groups, Tab.find?_del_same, Option.map_none]
    · rw [State.armOf, State.settle_arms]
      exact State.armOf_foldl_dropArm_of_mem _ hp
    · rw [State.word_settle_of_not_hif _ hhif]
      exact (State.word_atGroup s t m g b).trans (State.word_accessed_of_not_own s t m hhif hown)
    · rw [State.lword_settle]
      exact State.lword_accessed s t m b
  · rw [State.run_cgrpWrite htakes, State.cgrpWrite_disarm_draining ((State.grpOf_atGroup s t m g g.val).trans hx) hdrain]
    refine ⟨?_, ?_, fun b hhif hown => ?_, fun b => ?_⟩
    · rw [State.settle_arms, State.atGroup_arms]
    · rw [State.settle_groups, State.atGroup_groups]
    · rw [State.word_settle_of_not_hif _ hhif, State.word_atGroup, State.word_accessed_of_not_own s t m hhif hown]
    · rw [State.lword_settle]
      exact State.lword_accessed s t m b

end Sys2Proof.Machine
end

section
/-! SUPPORT. Fields, arms and groups read back after they were set. -/

namespace Sys2Proof

theorem bits_lt (x lo w : Nat) : bits x lo w < 2 ^ w := Nat.mod_lt _ (Nat.two_pow_pos w)

theorem bits_mod (x lo w : Nat) : bits x lo w % 2 ^ w = bits x lo w := Nat.mod_eq_of_lt (bits_lt x lo w)

theorem sat_lt (w x : Nat) : sat w x < 2 ^ w := by
  have := Nat.two_pow_pos w
  rw [sat]
  omega

theorem Page.base_inj {p q : Page} (h : p.base = q.base) : p = q := Page.num_inj (by rw [Page.num, Page.num, h])

/-- Offsets within a page tell words apart. -/
theorem Page.base_add_ne_of_off (p q : Page) {a b : Nat} (ha : a < 0x1000) (hb : b < 0x1000) (h : a ≠ b) :
    p.base + a ≠ q.base + b := by
  have := p.base_mod
  have := q.base_mod
  omega

/-- Pages tell words apart. -/
theorem Page.base_add_ne_of_page {p q : Page} {a b : Nat} (ha : a < 0x1000) (hb : b < 0x1000) (h : p ≠ q) :
    p.base + a ≠ q.base + b := by
  have := p.base_mod
  have := q.base_mod
  have hne : p.base ≠ q.base := fun e => h (Page.base_inj e)
  omega

theorem Tab.find?_ins_same {α : Type} (t : Tab α) (k : Nat) (v : α) (h : ∀ e ∈ t, e.1 ≠ k) :
    (t.ins k v).find? (fun e => e.1 = k) = some (k, v) := by
  induction t with
  | nil => simp [Tab.ins]
  | cons e r ih =>
    have he : e.1 ≠ k := h e List.mem_cons_self
    unfold Tab.ins
    split
    · simp
    · simp [he, ih (fun x hx => h x (List.mem_cons_of_mem _ hx))]

theorem Tab.find?_ins_ne {α : Type} (t : Tab α) {k j : Nat} (h : j ≠ k) (v : α) :
    (t.ins k v).find? (fun e => e.1 = j) = t.find? (fun e => e.1 = j) := by
  induction t with
  | nil => simp [Tab.ins, Ne.symm h]
  | cons e r ih =>
    unfold Tab.ins
    split
    · simp [Ne.symm h]
    · simp only [List.find?_cons, ih]

theorem Tab.find?_del_ne {α : Type} (t : Tab α) {k j : Nat} (h : j ≠ k) :
    (t.del k).find? (fun e => e.1 = j) = t.find? (fun e => e.1 = j) := by
  rw [Tab.del, List.find?_filter]
  congr 1
  funext e
  by_cases he : e.1 = j <;> simp [he, h]

/-- A write of a key leaves what is selected from the other keys. -/
theorem Tab.filterMap_set {α β : Type} [DecidableEq α] (t : Tab α) (k : Nat) (v d : α) (f : Nat × α → Option β)
    (h : ∀ x, f (k, x) = none) : (t.set k v d).filterMap f = t.filterMap f := by
  have hdel : ∀ t : Tab α, (t.del k).filterMap f = t.filterMap f := fun t => by
    induction t with
    | nil => rfl
    | cons e r ih =>
      obtain ⟨j, x⟩ := e
      by_cases hj : j = k
      · subst hj; simp [Tab.del, h]; simpa [Tab.del] using ih
      · simp only [Tab.del, List.filter_cons, bne_iff_ne, ne_eq, hj, not_false_eq_true, if_true, List.filterMap_cons]
        rw [← Tab.del, ih]
  have hins : ∀ t : Tab α, (t.ins k v).filterMap f = t.filterMap f := fun t => by
    induction t with
    | nil => simp [Tab.ins, h]
    | cons e r ih =>
      unfold Tab.ins
      split
      · simp [h]
      · simp only [List.filterMap_cons, ih]
  unfold Tab.set
  split
  · exact hdel t
  · rw [hins, hdel]

namespace Machine

/-- A field keeps its value when other bits are written. -/
theorem State.get_put_of_disjoint (s : State) (p q : Page) (f g : Fld) (v : Nat) (hf : f.lo + f.w ≤ 32)
    (h : q.base + g.off ≠ p.base + f.off ∨ g.lo + g.w ≤ f.lo ∨ f.lo + f.w ≤ g.lo) : (s.put p f v).get q g = s.get q g := by
  by_cases hw : q.base + g.off = p.base + f.off
  · rw [State.get, State.put, hw, State.word_setWord_same, Fld.toNat_into f _ v hf, State.get, hw]
    rcases h with h | h | h
    · exact absurd hw h
    · exact bits_setBits_below _ _ h
    · exact bits_setBits_above _ _ h
  · exact State.get_put_word s p q f g v hw

/-- Interrupt messages change MSIX_SENT alone (R364). -/
theorem State.get_settle (s : State) {p : Page} {f : Fld} (h : p.base + f.off ≠ Page.base .hif + HIF.MSIX_SENT.off) :
    s.settle.get p f = s.get p f := by
  rw [State.get, State.word_settle_ne s h, State.get]

@[simp] theorem State.armOf_settle (s : State) (p : Page) : s.settle.armOf p = s.armOf p := by
  rw [State.armOf, State.settle_arms, State.armOf]

@[simp] theorem State.grpOf_settle (s : State) (g : Nat) : s.settle.grpOf g = s.grpOf g := by
  rw [State.grpOf, State.settle_groups, State.grpOf]

@[simp] theorem State.pendingPage_settle (s : State) (p : Page) : s.settle.pendingPage p = s.pendingPage p := by
  rw [State.pendingPage, State.armOf_settle, State.pendingPage]

@[simp] theorem State.armOf_put (s : State) (p q : Page) (f : Fld) (v : Nat) : (s.put p f v).armOf q = s.armOf q := rfl
@[simp] theorem State.grpOf_put (s : State) (p : Page) (f : Fld) (v g : Nat) : (s.put p f v).grpOf g = s.grpOf g := rfl
@[simp] theorem State.armOf_puts (s : State) (p q : Page) (l : List (Fld × Nat)) : (s.puts p l).armOf q = s.armOf q := by
  rw [State.armOf, State.puts_arms, State.armOf]
@[simp] theorem State.grpOf_puts (s : State) (p : Page) (l : List (Fld × Nat)) (g : Nat) : (s.puts p l).grpOf g = s.grpOf g := by
  rw [State.grpOf, State.puts_groups, State.grpOf]
/-- Which TICK_SEL may be armed follows from the live words alone (R26). -/
theorem State.selOk_congr {s u : State} (h : u.lv = s.lv) (sel : Nat) : u.selOk sel = s.selOk sel := by
  unfold State.selOk State.vtgEn State.live State.lword
  rw [h]

@[simp] theorem State.selOk_puts (s : State) (p : Page) (l : List (Fld × Nat)) (sel : Nat) :
    (s.puts p l).selOk sel = s.selOk sel :=
  State.selOk_congr (State.puts_lv s p l) sel

/-- The arm set is the arm of its page. -/
@[simp] theorem State.armOf_setArm_same (s : State) (a : Arm) : (s.setArm a).armOf a.page = some a := by
  rw [State.armOf, State.setArm, Tab.find?_ins_same _ _ _ fun e he => Tab.ne_of_mem_del he, Option.map_some]

/-- An arm set leaves the arms of other pages. -/
theorem State.armOf_setArm_ne (s : State) (a : Arm) {p : Page} (h : p ≠ a.page) : (s.setArm a).armOf p = s.armOf p := by
  have hne : p.num ≠ a.page.num := fun e => h (Page.num_inj e)
  rw [State.armOf, State.setArm, Tab.find?_ins_ne _ hne, Tab.find?_del_ne _ hne, State.armOf]

/-- A page that is armed stays armed when an arm is set. -/
theorem State.pendingPage_setArm {s : State} {a : Arm} {p : Page} (h : p = a.page ∨ s.pendingPage p = true) :
    (s.setArm a).pendingPage p = true := by
  by_cases hp : p = a.page
  · rw [State.pendingPage, hp, State.armOf_setArm_same]
    rfl
  · rw [State.pendingPage, State.armOf_setArm_ne s a hp]
    exact h.resolve_left hp

/-- The group set is the arm of its group. -/
@[simp] theorem State.grpOf_setGrp_same (s : State) (g : Nat) (x : Grp) : (s.setGrp g x).grpOf g = some x := by
  rw [State.grpOf, State.setGrp, Tab.find?_ins_same _ _ _ fun e he => Tab.ne_of_mem_del he, Option.map_some]

/-- The members of a group follow from COMMIT words alone (R40). -/
theorem State.membersOf_setWord (s : State) (a : Nat) (v : Word) (h : a % 4096 ≠ 0x020) (g : Nat) :
    (s.setWord a v).membersOf g = s.membersOf g := by
  unfold State.membersOf
  exact Tab.filterMap_set _ _ _ _ _ fun x => if_neg (by simp [h])

theorem State.membersOf_puts (s : State) (p : Page) (l : List (Fld × Nat)) (h : ∀ e ∈ l, (p.base + e.1.off) % 4096 ≠ 0x020)
    (g : Nat) : (s.puts p l).membersOf g = s.membersOf g := by
  induction l generalizing s with
  | nil => rfl
  | cons e r ih =>
    rw [State.puts_cons, ih _ fun x hx => h x (List.mem_cons_of_mem _ hx)]
    exact State.membersOf_setWord _ _ _ (h e List.mem_cons_self) g

@[simp] theorem State.membersOf_accessed (s : State) (t : Nat) (m : Master) (g : Nat) :
    (s.accessed t m).membersOf g = s.membersOf g :=
  State.accessed_keeps (fun u => u.membersOf g) (fun u a v h => State.membersOf_setWord u a v (by
    rcases h with h | rfl
    · simp only [timeWords, List.mem_cons, List.not_mem_nil, or_false] at h
      rcases h with rfl | rfl | rfl <;> decide
    · decide) g) (fun _ _ _ => rfl) (fun _ => rfl) s t m

/-! ### The checks of pages that no rule checks -/

theorem foldl_const {α β : Type} {f : α → β → α} {a : α} {l : List β} (h : ∀ b ∈ l, f a b = a) : l.foldl f a = a := by
  induction l with
  | nil => rfl
  | cons b r ih => rw [List.foldl_cons, h b List.mem_cons_self, ih fun x hx => h x (List.mem_cons_of_mem _ hx)]

/-- Checks that pass leave the state and do not refuse. -/
theorem runChecks_pass {l : List Check} {s : State} (h : ∀ c ∈ l, c s = (s, false)) : runChecks l s = (s, false) :=
  foldl_const fun c hc => by simp only [h c hc, Bool.or_false]

/-- The pages that no rule checks, one by one. -/
theorem mem_of_unchecked {p : Page} (h : uncheckedPage p = true) :
    p ∈ [Page.tick, .brc, .asrc, .gmc, .glb, .hif, .busm, .key, .upd, .evr, .bbx] := by
  cases p with
  | tick | brc | asrc | gmc | glb | hif | busm | key | upd | evr | bbx => decide
  | _ => cases h

/-- No check concerns an unchecked page: it draws on no pool, port, tenon map and ASRC channel. -/
theorem checks_unchecked (s : State) {p : Page} (h : uncheckedPage p = true) :
    s.baysOf p = [] ∧ s.portsOf p = [] ∧ tmapChecked p = false ∧ asrcPage p = false ∧
      p ≠ .aud := by
  have hp := mem_of_unchecked h
  fin_cases hp <;> exact ⟨rfl, rfl, rfl, rfl, by decide⟩

section
variable {cand : List Page} (h : ∀ p ∈ cand, uncheckedPage p = true)
include h

theorem poolCheck_unchecked (s : State) (grp : Option Nat) : s.poolCheck cand grp = (s, false) := by
  have hbays : s.bays cand = [] := by
    rw [State.bays, List.flatMap_eq_nil_iff.mpr fun p hp => (checks_unchecked s (h p hp)).1]
    rfl
  rw [State.poolCheck, hbays]
  rfl

theorem pageChecks_unchecked (v : View) (sel delay : Nat) : cand.flatMap (pageChecks cand v sel delay) = [] :=
  List.flatMap_eq_nil_iff.mpr fun p hp => by
    have hmem := mem_of_unchecked (h p hp)
    fin_cases hmem <;> rfl

theorem tmapCheck_unchecked (s : State) : s.tmapCheck cand = (s, false) := by
  have hany : cand.any tmapChecked = false := List.any_eq_false.mpr fun p hp => by
    obtain ⟨-, -, hmap, -⟩ := checks_unchecked s (h p hp)
    rw [hmap]
    decide
  rw [State.tmapCheck, hany]
  rfl

theorem bufCheck_unchecked (s : State) : bufCheck cand s = (s, false) :=
  foldl_const fun p hp => by
    have hmem := mem_of_unchecked (h p hp)
    fin_cases hmem <;> rfl

theorem bwCheck_unchecked (s : State) : bwCheck cand s = (s, false) := by
  have hsends : cand.filter (fun p => !(s.portsOf p).isEmpty) = [] := List.filter_eq_nil_iff.mpr fun p hp => by
    obtain ⟨-, hports, -⟩ := checks_unchecked s (h p hp)
    rw [hports]
    decide
  simp only [bwCheck, hsends, List.flatMap_nil, List.foldl_nil, List.filterMap_nil, List.find?_nil]

theorem tokCheck_unchecked (s : State) : tokCheck cand s = (s, false) :=
  foldl_const fun p hp => by
    have hmem := mem_of_unchecked (h p hp)
    fin_cases hmem <;> rfl

theorem rangeCheck_unchecked (s : State) : rangeCheck cand s = (s, false) := by
  have hany : cand.any (fun p => asrcPage p || p = .aud) = false := List.any_eq_false.mpr fun p hp => by
    obtain ⟨-, -, -, hasrc, haud⟩ := checks_unchecked s (h p hp)
    simp [hasrc, haud]
  simp only [rangeCheck, hany, Bool.not_false, if_true]

theorem burstCheck_unchecked (s : State) : burstCheck cand s = (s, false) := by
  unfold burstCheck
  rw [if_pos]
  rw [Bool.not_eq_true', List.any_eq_false]
  intro p hp
  have hmem := mem_of_unchecked (h p hp)
  fin_cases hmem <;> exact Bool.false_ne_true

theorem engsOf_unchecked : engsOf cand = [] := by
  unfold engsOf
  rw [List.filterMap_eq_nil_iff.mpr]
  · rfl
  · intro p hp
    have hmem := mem_of_unchecked (h p hp)
    fin_cases hmem <;> rfl

/-- An arm of pages that no rule checks passes (R32). -/
theorem armChecks_unchecked (s : State) (grp : Option Nat) (sel delay : Nat) : s.armChecks cand grp sel delay = (s, false) := by
  unfold State.armChecks
  simp only [pageChecks_unchecked h, engsOf_unchecked h, List.append_nil, List.map_nil, List.singleton_append]
  refine runChecks_pass fun c hc => ?_
  simp only [List.mem_cons, List.not_mem_nil, or_false] at hc
  rcases hc with rfl | rfl | rfl | rfl | rfl | rfl | rfl
  · exact poolCheck_unchecked h s grp
  · exact tmapCheck_unchecked h s
  · exact bufCheck_unchecked h s
  · exact bwCheck_unchecked h s
  · exact tokCheck_unchecked h s
  · exact rangeCheck_unchecked h s
  · exact burstCheck_unchecked h s

end

end Machine
end Sys2Proof
end

section
/-! Arming and disarming of a page (R26 to R41): the outcomes of a write of COMMIT, and of an ARM that no rule checks. -/

namespace Sys2Proof.Machine

/-! ### A write of COMMIT -/

/-- COMMIT takes its fields from `v` (R31). -/
def State.commitFields (s : State) (p : Page) (v : Nat) : State :=
  s.puts p [(HDR.COMMIT_GRP_JOIN, bitAt v 29), (HDR.COMMIT_GROUP, bits v 23 6), (HDR.COMMIT_TICK_SEL, bits v 16 6),
    (HDR.COMMIT_TICK_DELAY, bits v 12 4), (HDR.COMMIT_SEQ, bits v 0 12)]

section
variable (s : State) (p : Page) (v : Nat)

/-- The stored fields of COMMIT read as they were written. -/
theorem State.get_commitFields :
    (s.commitFields p v).get p HDR.COMMIT_GRP_JOIN = bits v 29 1 ∧ (s.commitFields p v).get p HDR.COMMIT_GROUP = bits v 23 6 ∧
    (s.commitFields p v).get p HDR.COMMIT_TICK_SEL = bits v 16 6 ∧
    (s.commitFields p v).get p HDR.COMMIT_TICK_DELAY = bits v 12 4 ∧
    (s.commitFields p v).get p HDR.COMMIT_SEQ = bits v 0 12 := by
  simp only [State.commitFields, State.puts_cons, State.puts_nil]
  refine ⟨?_, ?_, ?_, ?_, ?_⟩
  · rw [State.get_put_of_disjoint _ _ _ _ _ _ (by decide) (.inr (by decide)),
      State.get_put_of_disjoint _ _ _ _ _ _ (by decide) (.inr (by decide)),
      State.get_put_of_disjoint _ _ _ _ _ _ (by decide) (.inr (by decide)),
      State.get_put_of_disjoint _ _ _ _ _ _ (by decide) (.inr (by decide)), State.get_put_same _ _ _ _ (by decide)]
    exact bits_mod v 29 1
  · rw [State.get_put_of_disjoint _ _ _ _ _ _ (by decide) (.inr (by decide)),
      State.get_put_of_disjoint _ _ _ _ _ _ (by decide) (.inr (by decide)),
      State.get_put_of_disjoint _ _ _ _ _ _ (by decide) (.inr (by decide)), State.get_put_same _ _ _ _ (by decide)]
    exact bits_mod v 23 6
  · rw [State.get_put_of_disjoint _ _ _ _ _ _ (by decide) (.inr (by decide)),
      State.get_put_of_disjoint _ _ _ _ _ _ (by decide) (.inr (by decide)), State.get_put_same _ _ _ _ (by decide)]
    exact bits_mod v 16 6
  · rw [State.get_put_of_disjoint _ _ _ _ _ _ (by decide) (.inr (by decide)), State.get_put_same _ _ _ _ (by decide)]
    exact bits_mod v 12 4
  · rw [State.get_put_same _ _ _ _ (by decide)]
    exact bits_mod v 0 12

@[simp] theorem State.armOf_commitFields (q : Page) : (s.commitFields p v).armOf q = s.armOf q := State.armOf_puts ..
@[simp] theorem State.commitFields_now : (s.commitFields p v).now = s.now := State.puts_now ..
@[simp] theorem State.selOk_commitFields (sel : Nat) : (s.commitFields p v).selOk sel = s.selOk sel := State.selOk_puts ..

end

/-- A write of COMMIT on a page that is not locked and concerns no busy group stores the fields; then ARM arms the page, unless
it has joined a group (R31, R32, R40). -/
theorem State.commitWrite_free {s : State} {p : Page} {v : Nat} (hbusy : s.busy.contains p = false) (harm : s.armOf p = none)
    (hfreed : s.justFreed p = none) (hfrom : s.grpBusy (s.get p HDR.COMMIT_GROUP) = false)
    (hto : s.grpBusy (bits v 23 6) = false) :
    s.commitWrite p v = if !decide (bitAt v 31 = 1) then s.commitFields p v
      else if bitAt v 29 = 1 then (s.commitFields p v).lockedWrite p else (s.commitFields p v).pageArm p := by
  simp only [State.commitWrite, hbusy, harm, hfreed, hfrom, hto, Bool.and_false, Bool.or_false, Bool.false_eq_true, if_false,
    Option.isSome_none, reduceCtorEq, decide_false, Bool.false_and]
  rfl

/-- A write of COMMIT that joins a busy group from no group is ignored and counted (R40). -/
theorem State.commitWrite_joins_busy {s : State} {p : Page} {v : Nat} (hbusy : s.busy.contains p = false)
    (harm : s.armOf p = none) (hfreed : s.justFreed p = none) (hfrom : s.get p HDR.COMMIT_GRP_JOIN = 0) (hjoin : bitAt v 29 = 1)
    (hto : s.grpBusy (bits v 23 6) = true) : s.commitWrite p v = s.lockedWrite p := by
  simp only [State.commitWrite, hbusy, harm, hfreed, hfrom, hjoin, hto, Bool.and_self, Bool.or_true,
    Bool.false_eq_true, if_false, Option.isSome_none, reduceCtorEq, decide_false, decide_true, Bool.false_and, ne_eq,
    Prod.mk.injEq, zero_ne_one, false_and, not_false_eq_true, if_true]

/-- DISARM without ARM withdraws a page's own arm before its fire (R38). -/
theorem State.commitWrite_disarm {s : State} {p : Page} {v : Nat} {a : Arm} (hbusy : s.busy.contains p = false)
    (harm : s.armOf p = some a) (hgrp : a.grp = none) (hpend : a.draining = false) (hv31 : bitAt v 31 = 0)
    (hv30 : bitAt v 30 = 1) : s.commitWrite p v = s.pageDisarm p := by
  simp only [State.commitWrite, hbusy, harm, hgrp, hpend, hv31, hv30, Option.isNone_none, decide_true, Bool.and_self, if_true,
    Bool.false_eq_true, if_false, zero_ne_one]

/-! ### ARM of a page (R26, R32) -/

@[simp] theorem State.get_unusual (s : State) (p : Page) (f : Fld) : s.unusual.get p f = s.get p f := rfl
@[simp] theorem State.armOf_unusual (s : State) (p : Page) : s.unusual.armOf p = s.armOf p := rfl

/-- What a late arm reports changes LATE of the page and COMMIT_LATE alone. -/
theorem State.get_late (s : State) (p : Page) (b : Bool) {f : Fld} (hoff : f.off = 0x024) (hbits : f.lo + f.w ≤ 29) :
    (if b then (s.latePage p).lateRaise else s).get p f = s.get p f := by
  have hne := p.base_add_ne_of_off .glb (a := f.off) (b := GLB.INT_STAT_COMMIT_LATE.off) (by omega) (by decide)
    (by rw [hoff]; decide)
  split
  · rw [State.lateRaise, State.get_unusual, State.raise_eq, State.get_put_of_disjoint _ _ _ _ _ _ (by decide) (.inl hne),
      State.latePage, State.get_put_of_disjoint _ _ _ _ _ _ (by decide) (.inr (.inl hbits))]
  · rfl

theorem State.armOf_late (s : State) (p : Page) (b : Bool) : (if b then (s.latePage p).lateRaise else s).armOf p = s.armOf p := by
  split
  · rw [State.lateRaise, State.armOf_unusual, State.raise_eq, State.armOf_put, State.latePage, State.armOf_put]
  · rfl

/-- No arm against a T_FRM or T_SMP is late at its latch. -/
theorem State.stcLate_of_lt (s : State) {sel : Nat} (h : sel < 0x28) : s.stcLate sel = false := by
  simp only [State.stcLate, decide_eq_false (show ¬ 0x28 ≤ sel by omega), Bool.false_and]

/-- The arm that latches for a T_FRM or a T_SMP (R32). -/
def State.armAt (s : State) (p : Page) (sel delay seq : Nat) : Arm :=
  { page := p, at_ := s.now, sel, left := delay + 1, smp := none, seq, grp := none, draining := false, waits := [] }

/-- A latched page is armed, and its LOCKED_WRITES is 0 (R32, R33). -/
theorem State.latchArm_spec (s : State) (p : Page) {sel : Nat} (h : sel < 0x28) (delay seq : Nat) :
    (s.latchArm p sel delay seq).armOf p = some (s.armAt p sel delay seq) ∧
      (s.latchArm p sel delay seq).get p HDR.COMMIT_STAT_LOCKED_WRITES = 0 := by
  have hstc : decide (0x28 ≤ sel) = false := decide_eq_false (by omega)
  simp only [State.latchArm, s.stcLate_of_lt h, hstc, Bool.false_or, Bool.false_eq_true, if_false]
  constructor
  · rw [State.armOf_poolSync, State.armOf_late, State.armOf_put]
    exact State.armOf_setArm_same s (s.armAt p sel delay seq)
  · rw [State.get_poolSync, State.get_late _ _ _ rfl (by decide), State.get_put_same _ _ _ _ (by decide)]
    rfl

/-- ARM of a page that no rule checks, against a tick that may be armed, latches (R26, R32). -/
theorem State.pageArm_ok {s : State} {p : Page} (hp : uncheckedPage p = true) (hok : s.selOk (s.armSel p).1 = true) :
    s.pageArm p = s.latchArm p (s.armSel p).1 (s.armSel p).2 (s.get p HDR.COMMIT_SEQ) := by
  have hcand : ∀ q ∈ [p], uncheckedPage q = true := fun q hq => List.mem_singleton.mp hq ▸ hp
  simp only [State.pageArm, hok, if_true, armChecks_unchecked hcand, Bool.not_false, Bool.and_self]

/-- ARM against a tick that may not be armed sets BAD_SEL and latches nothing (R26). -/
theorem State.pageArm_bad {s : State} {p : Page} (hp : uncheckedPage p = true) (hbad : s.selOk (s.armSel p).1 = false) :
    s.pageArm p = s.put p HDR.COMMIT_STAT_BAD_SEL 1 := by
  have hcand : ∀ q ∈ [p], uncheckedPage q = true := fun q hq => List.mem_singleton.mp hq ▸ hp
  simp only [State.pageArm, hbad, Bool.false_eq_true, if_false, armChecks_unchecked hcand, Bool.false_and]

/-- The tick of a page other than TICK is the one its COMMIT names (R28). -/
theorem State.armSel_commitFields (s : State) {p : Page} (h : p ≠ .tick) (v : Nat) :
    (s.commitFields p v).armSel p = (bits v 16 6, bits v 12 4) := by
  obtain ⟨-, -, hsel, hdelay, -⟩ := s.get_commitFields p v
  rw [State.armSel, if_neg h, hsel, hdelay]

/-! ### A taken write of COMMIT -/

section
variable (s : State) (t : Nat) (m : Master) (p : Page)

@[simp] theorem State.atCommit_busy : (s.atCommit t m p).busy = s.busy := State.accessed_busy s t m
@[simp] theorem State.atCommit_now : (s.atCommit t m p).now = max s.now t := State.accessed_now s t m
@[simp] theorem State.armOf_atCommit (q : Page) : (s.atCommit t m p).armOf q = s.armOf q := State.armOf_accessed s t m q
@[simp] theorem State.grpBusy_atCommit (g : Nat) : (s.atCommit t m p).grpBusy g = s.grpBusy g := State.grpBusy_accessed s t m g
@[simp] theorem State.selOk_atCommit (sel : Nat) : (s.atCommit t m p).selOk sel = s.selOk sel := State.selOk_accessed s t m sel
@[simp] theorem State.justFreed_atCommit (q : Page) : (s.atCommit t m p).justFreed q = (s.begin t).justFreed q :=
  State.justFreed_accessed s t m q

/-- No bookkeeping reaches COMMIT and COMMIT_STAT of a page. -/
theorem State.get_atCommit (q : Page) {f : Fld} (hoff : f.off = 0x020 ∨ f.off = 0x024) : (s.atCommit t m p).get q f = s.get q f := by
  have hlt : f.off < 0x1000 := by omega
  rw [State.get, State.word_atCommit, State.word_accessed, State.get]
  · simp only [timeWords, List.mem_cons, List.not_mem_nil, or_false, not_or]
    exact ⟨q.base_add_ne_of_off _ hlt (by decide) (by rcases hoff with h | h <;> rw [h] <;> decide),
      q.base_add_ne_of_off _ hlt (by decide) (by rcases hoff with h | h <;> rw [h] <;> decide),
      q.base_add_ne_of_off _ hlt (by decide) (by rcases hoff with h | h <;> rw [h] <;> decide)⟩
  · exact q.base_add_ne_of_off _ hlt (by decide) (by rcases hoff with h | h <;> rw [h] <;> decide)

end

/-- Interrupt messages reach no COMMIT and no COMMIT_STAT of a page. -/
theorem State.get_settle_commit (s : State) (p : Page) {f : Fld} (hoff : f.off = 0x020 ∨ f.off = 0x024) :
    s.settle.get p f = s.get p f :=
  State.get_settle s (p.base_add_ne_of_off _ (by omega) (by decide) (by rcases hoff with h | h <;> rw [h] <;> decide))

/-- A page may take a write of COMMIT: it is not armed, it has not been released in this core cycle, its FUNC_INIT does not run,
and neither its group nor group `g` is busy. -/
def State.mayMove (s : State) (t : Nat) (p : Page) (g : Nat) : Prop :=
  s.busy.contains p = false ∧ s.armOf p = none ∧ (s.begin t).justFreed p = none ∧
    s.grpBusy (s.get p HDR.COMMIT_GROUP) = false ∧ s.grpBusy g = false

/-- The outcome of a write of COMMIT on such a page. -/
theorem State.commitWrite_atCommit {s : State} {t : Nat} {p : Page} {v : Nat} (h : s.mayMove t p (bits v 23 6)) (m : Master) :
    (s.atCommit t m p).commitWrite p v = if !decide (bitAt v 31 = 1) then (s.atCommit t m p).commitFields p v
      else if bitAt v 29 = 1 then ((s.atCommit t m p).commitFields p v).lockedWrite p
      else ((s.atCommit t m p).commitFields p v).pageArm p := by
  obtain ⟨hbusy, harm, hfreed, hfrom, hto⟩ := h
  refine State.commitWrite_free ?_ ?_ ?_ ?_ ?_
  · rw [State.atCommit_busy, hbusy]
  · rw [State.armOf_atCommit, harm]
  · rw [State.justFreed_atCommit, hfreed]
  · rw [State.get_atCommit _ _ _ _ _ (.inl rfl), State.grpBusy_atCommit, hfrom]
  · rw [State.grpBusy_atCommit, hto]

theorem exec_commitArm (s : State) (t : Nat) (m : Master) (p : Page) (value : Word) :
    exec (.commitArm t m p value) s =
      .next (s.run t (fun u => u.pageWrite m p 0x020 (value ||| 0x80000000) ⟨true, true⟩)) := rfl

theorem exec_commitDisarm (s : State) (t : Nat) (m : Master) (p : Page) (value : Word) :
    exec (.commitDisarm t m p value) s =
      .next (s.run t (fun u => u.pageWrite m p 0x020 (value &&& 0x7FFFFFFF ||| 0x40000000) ⟨true, true⟩)) := rfl

theorem exec_groupMembershipWrite (s : State) (t : Nat) (m : Master) (p : Page) (value : Word) :
    exec (.groupMembershipWrite t m p value) s =
      .next (s.run t (fun u => u.pageWrite m p 0x020 (value &&& 0x3FFFFFFF) ⟨true, true⟩)) := rfl

/-- A taken ARM of a page that joins no group is its arm. -/
theorem State.run_commitArm {s : State} {t : Nat} {m : Master} {p : Page} {value : Word} (htakes : s.takes m p 0x020)
    (hmove : s.mayMove t p (bits value.toNat 23 6)) (hjoin : bits value.toNat 29 1 = 0) :
    s.run t (fun u => u.pageWrite m p 0x020 (value ||| 0x80000000) ⟨true, true⟩) =
      (((s.atCommit t m p).commitFields p (value ||| 0x80000000).toNat).pageArm p).settle := by
  rw [← bits_armWord value (lo := 23) (by decide)] at hmove
  rw [State.run_commitWrite htakes, State.commitWrite_atCommit hmove m]
  simp only [bitAt_eq_bits, bit31_armWord, bits_armWord value (lo := 29) (w := 1) (by decide), hjoin, decide_true, Bool.not_true,
    Bool.false_eq_true, if_false, zero_ne_one]

/-- ARM latches an unchecked page for its tick. -/
theorem commitArm_latches {s : State} {t : Nat} {m : Master} {p : Page} {value : Word} (htakes : s.takes m p 0x020)
    (hmove : s.mayMove t p (bits value.toNat 23 6)) (hp : uncheckedPage p = true) (hjoin : bits value.toNat 29 1 = 0)
    (htick : p ≠ .tick) (hlt : bits value.toNat 16 6 < 0x28) (hok : s.selOk (bits value.toNat 16 6) = true) :
    ∃ u, exec (.commitArm t m p value) s = .next u ∧
      (∃ a : Arm, u.armOf p = some a ∧ a.page = p ∧ a.at_ = max s.now t ∧ a.sel = bits value.toNat 16 6 ∧
        a.left = bits value.toNat 12 4 + 1 ∧ a.smp = none ∧ a.seq = bits value.toNat 0 12 ∧ a.grp = none ∧
        a.draining = false) ∧ u.get p HDR.COMMIT_STAT_LOCKED_WRITES = 0 := by
  refine ⟨_, exec_commitArm s t m p value, ?_⟩
  have hsel := (s.atCommit t m p).armSel_commitFields htick (value ||| 0x80000000).toNat
  rw [bits_armWord value (by decide), bits_armWord value (by decide)] at hsel
  obtain ⟨-, -, -, -, hseq⟩ := (s.atCommit t m p).get_commitFields p (value ||| 0x80000000).toNat
  rw [bits_armWord value (by decide)] at hseq
  rw [State.run_commitArm htakes hmove hjoin, State.pageArm_ok hp (by rw [hsel, State.selOk_commitFields, State.selOk_atCommit, hok]),
    hsel, hseq]
  obtain ⟨harm, hlocked⟩ := ((s.atCommit t m p).commitFields p (value ||| 0x80000000).toNat).latchArm_spec p hlt
    (bits value.toNat 12 4) (bits value.toNat 0 12)
  refine ⟨⟨_, (State.armOf_settle _ _).trans harm, rfl, ?_, rfl, rfl, rfl, rfl, rfl, rfl⟩, ?_⟩
  · rw [State.armAt, State.commitFields_now, State.atCommit_now]
  · rw [State.get_settle_commit _ _ (.inr rfl), hlocked]

/-- ARM latches the TICK page for T_SMP (R28). -/
theorem commitArm_latches_tick {s : State} {t : Nat} {m : Master} {value : Word} (htakes : s.takes m .tick 0x020)
    (hmove : s.mayMove t .tick (bits value.toNat 23 6)) (hjoin : bits value.toNat 29 1 = 0) :
    ∃ u, exec (.commitArm t m .tick value) s = .next u ∧
      ∃ a : Arm, u.armOf .tick = some a ∧ a.sel = 0x20 ∧ a.left = 1 ∧ a.smp = none ∧ a.seq = bits value.toNat 0 12 := by
  refine ⟨_, exec_commitArm s t m .tick value, ?_⟩
  have hsel : ((s.atCommit t m .tick).commitFields .tick (value ||| 0x80000000).toNat).armSel .tick = (0x20, 0) := rfl
  obtain ⟨-, -, -, -, hseq⟩ := (s.atCommit t m .tick).get_commitFields .tick (value ||| 0x80000000).toNat
  rw [bits_armWord value (by decide)] at hseq
  rw [State.run_commitArm htakes hmove hjoin, State.pageArm_ok rfl (by rw [hsel]; simp [State.selOk]), hsel, hseq]
  obtain ⟨harm, -⟩ := ((s.atCommit t m .tick).commitFields .tick (value ||| 0x80000000).toNat).latchArm_spec .tick
    (show 0x20 < 0x28 by decide) 0 (bits value.toNat 0 12)
  exact ⟨_, (State.armOf_settle _ _).trans harm, rfl, rfl, rfl, rfl⟩

/-- ARM against a tick that may not be armed sets BAD_SEL (R26). -/
theorem commitArm_badSel {s : State} {t : Nat} {m : Master} {p : Page} {value : Word} (htakes : s.takes m p 0x020)
    (hmove : s.mayMove t p (bits value.toNat 23 6)) (hp : uncheckedPage p = true) (hjoin : bits value.toNat 29 1 = 0)
    (htick : p ≠ .tick) (hbad : s.selOk (bits value.toNat 16 6) = false) :
    ∃ u, exec (.commitArm t m p value) s = .next u ∧ u.get p HDR.COMMIT_STAT_BAD_SEL = 1 ∧ u.armOf p = none := by
  refine ⟨_, exec_commitArm s t m p value, ?_⟩
  have hsel := (s.atCommit t m p).armSel_commitFields htick (value ||| 0x80000000).toNat
  rw [bits_armWord value (by decide), bits_armWord value (by decide)] at hsel
  rw [State.run_commitArm htakes hmove hjoin, State.pageArm_bad hp (by rw [hsel, State.selOk_commitFields, State.selOk_atCommit, hbad])]
  obtain ⟨-, harm, -⟩ := hmove
  constructor
  · rw [State.get_settle_commit _ _ (.inr rfl), State.get_put_same _ _ _ _ (by decide)]
    rfl
  · rw [State.armOf_settle, State.armOf_put, State.armOf_commitFields, State.armOf_atCommit, harm]

/-- DISARM withdraws a page's own arm and changes no word beyond the bookkeeping (R38). -/
theorem commitDisarm_withdraws {s : State} {m : Master} {p : Page} {a : Arm} (htakes : s.takes m p 0x020)
    (hbusy : s.busy.contains p = false) (harm : s.armOf p = some a) (hgrp : a.grp = none) (hpend : a.draining = false) (t : Nat)
    (value : Word) : ∃ u, exec (.commitDisarm t m p value) s = .next u ∧ u.armOf p = none ∧
      ∀ x, inPage .hif x = false → ownWord x = false → u.word x = s.word x ∧ u.lword x = s.lword x := by
  refine ⟨_, exec_commitDisarm s t m p value, ?_⟩
  rw [State.run_commitWrite htakes, State.commitWrite_disarm (by rw [State.atCommit_busy, hbusy])
    ((State.armOf_atCommit s t m p p).trans harm) hgrp hpend (bit31_disarmWord value) (bit30_disarmWord value), State.pageDisarm]
  refine ⟨?_, fun x hhif hown => ⟨?_, ?_⟩⟩
  · rw [State.armOf_settle, State.armOf_poolSync, State.armOf_dropArm_same]
  · rw [State.word_settle_of_not_hif _ hhif, State.word_poolSync]
    exact (State.word_atCommit s t m p x).trans (State.word_accessed_of_not_own s t m hhif hown)
  · rw [State.lword_settle, State.lword, State.poolSync_lv]
    exact State.lword_accessed s t m x

/-- A membership write stores the fields of COMMIT (R40). -/
theorem groupMembershipWrite_stores {s : State} {t : Nat} {m : Master} {p : Page} {value : Word} (htakes : s.takes m p 0x020)
    (hmove : s.mayMove t p (bits value.toNat 23 6)) : ∃ u, exec (.groupMembershipWrite t m p value) s = .next u ∧
      u.get p HDR.COMMIT_GRP_JOIN = bits value.toNat 29 1 ∧ u.get p HDR.COMMIT_GROUP = bits value.toNat 23 6 ∧
      u.get p HDR.COMMIT_TICK_SEL = bits value.toNat 16 6 ∧ u.get p HDR.COMMIT_TICK_DELAY = bits value.toNat 12 4 ∧
      u.get p HDR.COMMIT_SEQ = bits value.toNat 0 12 ∧ u.armOf p = none := by
  refine ⟨_, exec_groupMembershipWrite s t m p value, ?_⟩
  obtain ⟨-, harm, -⟩ := id hmove
  rw [← bits_plainWord value (lo := 23) (by decide)] at hmove
  have hplain : (s.atCommit t m p).commitWrite p (value &&& 0x3FFFFFFF).toNat =
      (s.atCommit t m p).commitFields p (value &&& 0x3FFFFFFF).toNat := by
    rw [State.commitWrite_atCommit hmove m, bitAt_eq_bits, bit31_plainWord]
    rfl
  obtain ⟨hjoin, hgroup, hsel, hdelay, hseq⟩ := (s.atCommit t m p).get_commitFields p (value &&& 0x3FFFFFFF).toNat
  rw [bits_plainWord value (by decide)] at hjoin hgroup hsel hdelay hseq
  rw [State.run_commitWrite htakes, hplain]
  refine ⟨?_, ?_, ?_, ?_, ?_, ?_⟩
  · rw [State.get_settle_commit _ _ (.inl rfl), hjoin]
  · rw [State.get_settle_commit _ _ (.inl rfl), hgroup]
  · rw [State.get_settle_commit _ _ (.inl rfl), hsel]
  · rw [State.get_settle_commit _ _ (.inl rfl), hdelay]
  · rw [State.get_settle_commit _ _ (.inl rfl), hseq]
  · rw [State.armOf_settle, State.armOf_commitFields, State.armOf_atCommit, harm]

/-- A membership write that would join a busy group is ignored and counted (R40). -/
theorem groupMembershipWrite_ignored {s : State} {t : Nat} {m : Master} {p : Page} {value : Word} (htakes : s.takes m p 0x020)
    (hbusy : s.busy.contains p = false) (harm : s.armOf p = none) (hfreed : (s.begin t).justFreed p = none)
    (hjoin : bits value.toNat 29 1 = 1) (hfrom : s.get p HDR.COMMIT_GRP_JOIN = 0)
    (hto : s.grpBusy (bits value.toNat 23 6) = true) : ∃ u, exec (.groupMembershipWrite t m p value) s = .next u ∧
      u.get p HDR.COMMIT_GRP_JOIN = 0 ∧ u.get p HDR.COMMIT_GROUP = s.get p HDR.COMMIT_GROUP ∧
      u.get p HDR.COMMIT_STAT_LOCKED_WRITES =
        sat HDR.COMMIT_STAT_LOCKED_WRITES.w (s.get p HDR.COMMIT_STAT_LOCKED_WRITES + 1) := by
  refine ⟨_, exec_groupMembershipWrite s t m p value, ?_⟩
  have hne : ∀ f : Fld, f.off = 0x020 → p.base + f.off ≠ p.base + HDR.COMMIT_STAT_LOCKED_WRITES.off := fun f hf => by
    rw [hf, show HDR.COMMIT_STAT_LOCKED_WRITES.off = 0x024 from rfl]
    omega
  rw [State.run_commitWrite htakes, State.commitWrite_joins_busy (by rw [State.atCommit_busy, hbusy])
    ((State.armOf_atCommit s t m p p).trans harm) ((State.justFreed_atCommit s t m p p).trans hfreed)
    ((State.get_atCommit s t m p p (.inl rfl)).trans hfrom) ((bits_plainWord value (by decide)).trans hjoin)
    (by rw [State.grpBusy_atCommit, bits_plainWord value (by decide), hto]), State.lockedWrite, State.addSat_eq]
  refine ⟨?_, ?_, ?_⟩
  · rw [State.get_settle_commit _ _ (.inl rfl), State.get_put_word _ _ _ _ _ _ (hne _ rfl), State.get_atCommit _ _ _ _ _ (.inl rfl),
      hfrom]
  · rw [State.get_settle_commit _ _ (.inl rfl), State.get_put_word _ _ _ _ _ _ (hne _ rfl), State.get_atCommit _ _ _ _ _ (.inl rfl)]
  · rw [State.get_settle_commit _ _ (.inr rfl), State.get_put_same _ _ _ _ (by decide), State.get_atCommit _ _ _ _ _ (.inr rfl),
      Nat.mod_eq_of_lt (sat_lt _ _)]

end Sys2Proof.Machine
end

section
/-! Arming a commit group (R26, R41): O4. -/

namespace Sys2Proof

/-- An element of an array has the bits of the array's field. -/
theorem Fld.at_fits (f : Fld) (i : Nat) (h : f.lo + f.w ≤ 32) : (f.at i).lo + (f.at i).w ≤ 32 := h
theorem Fld.at_above (f g : Fld) (i : Nat) (h : f.lo + f.w ≤ g.lo) : (f.at i).lo + (f.at i).w ≤ (g.at i).lo := h

end Sys2Proof

namespace Sys2Proof.Machine

/-! ### A write of CGRP_CTRL to a group that is not busy -/

/-- CGRP_CTRL[g] takes its fields from `v` (R44). -/
def State.groupFields (s : State) (g v : Nat) : State :=
  s.puts .glb [(GLB.CGRP_CTRL_TICK_SEL.at g, bits v 16 6), (GLB.CGRP_CTRL_TICK_DELAY.at g, bits v 12 4),
    (GLB.CGRP_CTRL_SEQ.at g, bits v 0 12)]

section
variable (s : State) (g v : Nat)

/-- The stored fields of CGRP_CTRL read as they were written. -/
theorem State.get_groupFields :
    (s.groupFields g v).get .glb (GLB.CGRP_CTRL_TICK_SEL.at g) = bits v 16 6 ∧
    (s.groupFields g v).get .glb (GLB.CGRP_CTRL_TICK_DELAY.at g) = bits v 12 4 ∧
    (s.groupFields g v).get .glb (GLB.CGRP_CTRL_SEQ.at g) = bits v 0 12 := by
  have hsel := GLB.CGRP_CTRL_TICK_SEL.at_fits g (by decide)
  have hdelay := GLB.CGRP_CTRL_TICK_DELAY.at_fits g (by decide)
  have hseq := GLB.CGRP_CTRL_SEQ.at_fits g (by decide)
  simp only [State.groupFields, State.puts_cons, State.puts_nil]
  refine ⟨?_, ?_, ?_⟩
  · rw [State.get_put_of_disjoint _ _ _ _ _ _ hseq (.inr (.inr (Fld.at_above _ _ g (by decide)))),
      State.get_put_of_disjoint _ _ _ _ _ _ hdelay (.inr (.inr (Fld.at_above _ _ g (by decide)))),
      State.get_put_same _ _ _ _ hsel]
    exact bits_mod v 16 6
  · rw [State.get_put_of_disjoint _ _ _ _ _ _ hseq (.inr (.inr (Fld.at_above _ _ g (by decide)))),
      State.get_put_same _ _ _ _ hdelay]
    exact bits_mod v 12 4
  · rw [State.get_put_same _ _ _ _ hseq]
    exact bits_mod v 0 12

@[simp] theorem State.grpOf_groupFields (h : Nat) : (s.groupFields g v).grpOf h = s.grpOf h := State.grpOf_puts ..
@[simp] theorem State.selOk_groupFields (sel : Nat) : (s.groupFields g v).selOk sel = s.selOk sel := State.selOk_puts ..

theorem State.membersOf_groupFields (g : Fin 64) (h : Nat) : (s.groupFields g.val v).membersOf h = s.membersOf h := by
  have hoff : (Page.base .glb + (0x400 + 4 * g.val)) % 4096 ≠ 0x020 := by
    rw [Page.base_add_mod _ (by omega)]
    omega
  refine State.membersOf_puts _ _ _ (fun e he => ?_) h
  simp only [List.mem_cons, List.not_mem_nil, or_false] at he
  rcases he with rfl | rfl | rfl <;> exact hoff

end

/-- ARM of a group that is not busy stores its fields and arms it (R44). -/
theorem State.cgrpWrite_arm {s : State} {g v : Nat} (hgrp : s.grpOf g = none) (harm : bitAt v 31 = 1) :
    s.cgrpWrite g v = (s.groupFields g v).grpArm g := by
  simp only [State.cgrpWrite, hgrp, harm, if_true]
  rfl

/-! ### ARM of a group -/

/-- ARM of a group whose members no rule checks, against a tick that may be armed, latches (R26, R41). -/
theorem State.grpArm_ok {s : State} {g : Nat} (hmem : ∀ p ∈ s.membersOf g, uncheckedPage p = true)
    (hok : s.selOk (s.get .glb (GLB.CGRP_CTRL_TICK_SEL.at g)) = true) :
    s.grpArm g = s.latchGroup g (s.membersOf g) (s.get .glb (GLB.CGRP_CTRL_TICK_SEL.at g))
      (s.get .glb (GLB.CGRP_CTRL_TICK_DELAY.at g)) (s.get .glb (GLB.CGRP_CTRL_SEQ.at g)) := by
  simp only [State.grpArm, hok, if_true, armChecks_unchecked hmem, Bool.not_false, Bool.and_self]

/-- ARM of a group against a tick that may not be armed sets BAD_SEL and latches nothing (R26). -/
theorem State.grpArm_bad {s : State} {g : Nat} (hmem : ∀ p ∈ s.membersOf g, uncheckedPage p = true)
    (hbad : s.selOk (s.get .glb (GLB.CGRP_CTRL_TICK_SEL.at g)) = false) :
    s.grpArm g = (s.put .glb (GLB.CGRP_STAT_BAD_SEL.at g) 1).raise .glb GLB.INT_STAT_CGRP_BAD_SEL := by
  simp only [State.grpArm, hbad, Bool.false_eq_true, if_false, armChecks_unchecked hmem, Bool.false_and]

theorem State.grpOf_setArm (s : State) (a : Arm) (g : Nat) : (s.setArm a).grpOf g = s.grpOf g := by
  rw [State.grpOf, State.setArm, State.grpOf]

@[simp] theorem State.pendingPage_put (s : State) (p q : Page) (f : Fld) (v : Nat) :
    (s.put p f v).pendingPage q = s.pendingPage q := by
  rw [State.pendingPage, State.armOf_put, State.pendingPage]

/-- One member of a group latches with it. -/
def State.latchMember (a : Page → Arm) (s : State) (p : Page) : State := (s.setArm (a p)).put p HDR.COMMIT_STAT_LOCKED_WRITES 0

/-- The page is armed, and its LOCKED_WRITES is 0. -/
def State.latched (s : State) (p : Page) : Prop := s.pendingPage p = true ∧ s.get p HDR.COMMIT_STAT_LOCKED_WRITES = 0

theorem State.grpOf_foldl_latchMember (a : Page → Arm) (l : List Page) (s : State) (g : Nat) :
    (l.foldl (State.latchMember a) s).grpOf g = s.grpOf g :=
  foldl_keeps (fun u : State => u.grpOf g) (State.latchMember a)
    (fun u p => by rw [State.latchMember, State.grpOf_put, State.grpOf_setArm]) l s

/-- A member latches, and a page that has latched stays so when another does. -/
theorem State.latched_latchMember {a : Page → Arm} (ha : ∀ p, (a p).page = p) {s : State} {p q : Page}
    (h : p = q ∨ s.latched p) : (s.latchMember a q).latched p := by
  constructor
  · rw [State.latchMember, State.pendingPage_put]
    exact State.pendingPage_setArm (h.imp (fun e => e.trans (ha q).symm) (·.1))
  · by_cases hpq : p = q
    · rw [hpq, State.latchMember, State.get_put_same _ _ _ _ (by decide)]
      rfl
    · rw [State.latchMember, State.get_put_word _ _ _ _ _ _ (Page.base_add_ne_of_page (by decide) (by decide) hpq)]
      exact (h.resolve_left hpq).2

theorem State.latched_foldl_latchMember {a : Page → Arm} (ha : ∀ p, (a p).page = p) {l : List Page} {s : State} {p : Page}
    (h : p ∈ l ∨ s.latched p) : (l.foldl (State.latchMember a) s).latched p := by
  induction l generalizing s with
  | nil => exact h.resolve_left List.not_mem_nil
  | cons q r ih =>
    rw [List.foldl_cons]
    rcases h with h | h
    · rcases List.mem_cons.mp h with rfl | h
      · exact ih (.inr (State.latched_latchMember ha (.inl rfl)))
      · exact ih (.inl h)
    · exact ih (.inr (State.latched_latchMember ha (.inr h)))

/-- LATE changes no arm, no group and no LOCKED_WRITES. -/
theorem State.latched_lateGroup {s : State} {p : Page} (h : s.latched p) (g : Nat) (hg : g < 64) (l : List Page) :
    (s.lateGroup g l).lateRaise.latched p := by
  have hlate : ∀ (l : List Page) (u : State), u.latched p → (l.foldl State.latePage u).latched p := fun l => by
    induction l with
    | nil => exact fun u hu => hu
    | cons q r ih =>
      intro u ⟨hpend, hlocked⟩
      refine ih _ ⟨?_, ?_⟩
      · rw [State.latePage, State.pendingPage_put, hpend]
      · rw [State.latePage, State.get_put_of_disjoint _ _ _ _ _ _ (by decide) (.inr (by decide)), hlocked]
  obtain ⟨hpend, hlocked⟩ := hlate l s h
  have hstat : p.base + HDR.COMMIT_STAT_LOCKED_WRITES.off ≠ Page.base .glb + (GLB.CGRP_STAT_LATE.at g).off :=
    p.base_add_ne_of_off _ (by decide) (by simp only [Fld.at, GLB.CGRP_STAT_LATE]; omega)
      (by simp only [Fld.at, GLB.CGRP_STAT_LATE, HDR.COMMIT_STAT_LOCKED_WRITES]; omega)
  have hint : p.base + HDR.COMMIT_STAT_LOCKED_WRITES.off ≠ Page.base .glb + GLB.INT_STAT_COMMIT_LATE.off :=
    p.base_add_ne_of_off _ (by decide) (by decide) (by decide)
  refine ⟨by rw [State.lateRaise, State.pendingPage, State.armOf_unusual, State.raise_eq, State.armOf_put, State.lateGroup,
    State.armOf_put]; exact hpend, ?_⟩
  rw [State.lateRaise, State.get_unusual, State.raise_eq, State.get_put_word _ _ _ _ _ _ hint, State.lateGroup,
    State.get_put_word _ _ _ _ _ _ hstat, hlocked]

@[simp] theorem State.grpOf_unusual (s : State) (g : Nat) : s.unusual.grpOf g = s.grpOf g := rfl

theorem State.grpOf_lateGroup (s : State) (g h : Nat) (l : List Page) : (s.lateGroup g l).lateRaise.grpOf h = s.grpOf h := by
  have hlate : (l.foldl State.latePage s).grpOf h = s.grpOf h :=
    foldl_keeps (fun u : State => u.grpOf h) State.latePage (fun u p => by rw [State.latePage, State.grpOf_put]) l s
  rw [State.lateRaise, State.grpOf_unusual, State.raise_eq, State.grpOf_put, State.lateGroup, State.grpOf_put, hlate]

/-- The arm of a group that latches for a T_FRM or a T_SMP (R41). -/
def State.groupAt (s : State) (members : List Page) (sel delay seq : Nat) : Grp :=
  { at_ := s.now, sel, left := delay + 1, smp := none, seq, draining := false, members }

/-- The arm of a member that latches with group `g`. -/
def State.memberAt (s : State) (g sel delay seq : Nat) (p : Page) : Arm := { s.armAt p sel delay seq with grp := some g }

/-- Group `g` and its members have latched. -/
def State.latchMembers (s : State) (g : Nat) (members : List Page) (sel delay seq : Nat) : State :=
  members.foldl (State.latchMember (s.memberAt g sel delay seq)) (s.setGrp g (s.groupAt members sel delay seq))

/-- The latch of a group against a T_FRM or a T_SMP. -/
theorem State.latchGroup_eq (s : State) (g : Nat) (members : List Page) {sel : Nat} (h : sel < 0x28) (delay seq : Nat) :
    s.latchGroup g members sel delay seq =
      (if s.tickNow sel then ((s.latchMembers g members sel delay seq).lateGroup g members).lateRaise
        else s.latchMembers g members sel delay seq).poolSync s members := by
  simp only [State.latchGroup, s.stcLate_of_lt h, if_neg (show ¬ 0x28 ≤ sel by omega), Bool.false_or, Bool.false_eq_true,
    if_false, State.latchMembers, State.groupAt]
  rfl

/-- A group latches with all its members (R41). -/
theorem State.latchGroup_spec (s : State) {g : Nat} (hg : g < 64) (members : List Page) {sel : Nat} (h : sel < 0x28)
    (delay seq : Nat) : (s.latchGroup g members sel delay seq).grpOf g = some (s.groupAt members sel delay seq) ∧
      ∀ p ∈ members, (s.latchGroup g members sel delay seq).latched p := by
  have hgrp : (s.latchMembers g members sel delay seq).grpOf g = some (s.groupAt members sel delay seq) := by
    rw [State.latchMembers, State.grpOf_foldl_latchMember, State.grpOf_setGrp_same]
  rw [State.latchGroup_eq s g members h]
  refine ⟨?_, fun p hp => ?_⟩
  · rw [State.grpOf_poolSync]
    split
    · rw [State.grpOf_lateGroup, hgrp]
    · exact hgrp
  · have hlatched : (s.latchMembers g members sel delay seq).latched p :=
      State.latched_foldl_latchMember (fun _ => rfl) (.inl hp)
    rw [State.latched, State.pendingPage, State.armOf_poolSync, State.get_poolSync]
    split
    · exact State.latched_lateGroup hlatched g hg members
    · exact hlatched

/-! ### A taken ARM of a group -/

theorem exec_cgrpArm (s : State) (t : Nat) (m : Master) (g : Fin 64) (value : Word) :
    exec (.cgrpArm t m g value) s = .next (s.run t (fun u =>
      u.pageWrite m .glb (0x400 + 4 * g.val) (value ||| 0x80000000) ⟨true, true⟩)) := rfl

/-- A taken ARM of a group that is not busy is its arm. -/
theorem State.run_cgrpArm {s : State} {m : Master} {g : Fin 64} (htakes : s.takes m .glb (0x400 + 4 * g.val))
    (hgrp : s.grpOf g.val = none) (t : Nat) (value : Word) :
    s.run t (fun u => u.pageWrite m .glb (0x400 + 4 * g.val) (value ||| 0x80000000) ⟨true, true⟩) =
      (((s.atGroup t m g).groupFields g.val (value ||| 0x80000000).toNat).grpArm g.val).settle := by
  rw [State.run_cgrpWrite htakes, State.cgrpWrite_arm ((State.grpOf_atGroup s t m g g.val).trans hgrp) (bit31_armWord value)]

section
variable (s : State) (t : Nat) (m : Master) (g : Fin 64)

@[simp] theorem State.selOk_atGroup (sel : Nat) : (s.atGroup t m g).selOk sel = s.selOk sel := State.selOk_accessed s t m sel

@[simp] theorem State.membersOf_atGroup (h : Nat) : (s.atGroup t m g).membersOf h = s.membersOf h := by
  rw [State.atGroup, State.membersOf_setWord, State.membersOf_accessed]
  rw [Page.base_add_mod _ (by omega)]
  omega

end

/-- CGRP_CTRL.ARM latches a group with its members. -/
theorem cgrpArm_latches {s : State} {m : Master} {g : Fin 64} {value : Word} (htakes : s.takes m .glb (0x400 + 4 * g.val))
    (hgrp : s.grpOf g.val = none) (hmem : ∀ p ∈ s.membersOf g.val, uncheckedPage p = true)
    (hlt : bits value.toNat 16 6 < 0x28) (hok : s.selOk (bits value.toNat 16 6) = true) (t : Nat) :
    ∃ u, exec (.cgrpArm t m g value) s = .next u ∧
      (∃ x : Grp, u.grpOf g.val = some x ∧ x.members = s.membersOf g.val ∧ x.sel = bits value.toNat 16 6 ∧
        x.left = bits value.toNat 12 4 + 1 ∧ x.smp = none ∧ x.seq = bits value.toNat 0 12 ∧ x.draining = false) ∧
      ∀ p ∈ s.membersOf g.val, u.pendingPage p = true ∧ u.get p HDR.COMMIT_STAT_LOCKED_WRITES = 0 := by
  refine ⟨_, exec_cgrpArm s t m g value, ?_⟩
  have hmembers : ((s.atGroup t m g).groupFields g.val (value ||| 0x80000000).toNat).membersOf g.val = s.membersOf g.val := by
    rw [State.membersOf_groupFields, State.membersOf_atGroup]
  obtain ⟨hsel, hdelay, hseq⟩ := (s.atGroup t m g).get_groupFields g.val (value ||| 0x80000000).toNat
  rw [bits_armWord value (by decide)] at hsel hdelay hseq
  rw [State.run_cgrpArm htakes hgrp, State.grpArm_ok (by rwa [hmembers])
    (by rw [hsel, State.selOk_groupFields, State.selOk_atGroup, hok]), hmembers, hsel, hdelay, hseq]
  obtain ⟨hlatch, hlatched⟩ := ((s.atGroup t m g).groupFields g.val (value ||| 0x80000000).toNat).latchGroup_spec g.isLt
    (s.membersOf g.val) hlt (bits value.toNat 12 4) (bits value.toNat 0 12)
  refine ⟨⟨_, (State.grpOf_settle _ _).trans hlatch, rfl, rfl, rfl, rfl, rfl, rfl⟩, fun p hp => ?_⟩
  rw [State.pendingPage_settle, State.get_settle_commit _ _ (.inr rfl)]
  exact hlatched p hp

/-- CGRP_CTRL.ARM against a tick that may not be armed sets BAD_SEL and raises CGRP_BAD_SEL. -/
theorem cgrpArm_badSel {s : State} {m : Master} {g : Fin 64} {value : Word} (htakes : s.takes m .glb (0x400 + 4 * g.val))
    (hgrp : s.grpOf g.val = none) (hmem : ∀ p ∈ s.membersOf g.val, uncheckedPage p = true)
    (hbad : s.selOk (bits value.toNat 16 6) = false) (t : Nat) :
    ∃ u, exec (.cgrpArm t m g value) s = .next u ∧ u.get .glb (GLB.CGRP_STAT_BAD_SEL.at g.val) = 1 ∧
      u.get .glb GLB.INT_STAT_CGRP_BAD_SEL = 1 ∧ u.grpOf g.val = none := by
  refine ⟨_, exec_cgrpArm s t m g value, ?_⟩
  have hmembers : ((s.atGroup t m g).groupFields g.val (value ||| 0x80000000).toNat).membersOf g.val = s.membersOf g.val := by
    rw [State.membersOf_groupFields, State.membersOf_atGroup]
  obtain ⟨hsel, -, -⟩ := (s.atGroup t m g).get_groupFields g.val (value ||| 0x80000000).toNat
  rw [bits_armWord value (by decide)] at hsel
  have hstat : (GLB.CGRP_STAT_BAD_SEL.at g.val).off = 0x500 + 4 * g.val := rfl
  have hint : Page.base .glb + (GLB.CGRP_STAT_BAD_SEL.at g.val).off ≠ Page.base .glb + GLB.INT_STAT_CGRP_BAD_SEL.off :=
    Page.base_add_ne_of_off _ _ (by omega) (by decide) (by rw [hstat, show GLB.INT_STAT_CGRP_BAD_SEL.off = 0x00C from rfl]; omega)
  rw [State.run_cgrpArm htakes hgrp, State.grpArm_bad (by rwa [hmembers])
    (by rw [hsel, State.selOk_groupFields, State.selOk_atGroup, hbad])]
  refine ⟨?_, ?_, ?_⟩
  · rw [State.get_settle _ (Page.base_add_ne_of_page (by omega) (by decide) (by decide)), State.raise_eq,
      State.get_put_word _ _ _ _ _ _ hint, State.get_put_same _ _ _ _ (Fld.at_fits _ _ (by decide))]
    rfl
  · rw [State.get_settle _ (by decide), State.get_raise_same _ _ _ (by decide) (by decide)]
  · rw [State.grpOf_settle, State.raise_eq, State.grpOf_put, State.grpOf_put, State.grpOf_groupFields, State.grpOf_atGroup, hgrp]

/-- Settles O4: each outcome of COMMIT and CGRP_CTRL is that of the write's branch (`commitWrite_free`, `commitWrite_disarm`,
`commitWrite_joins_busy`, `cgrpWrite_arm`), where no check refuses an unchecked page (`armChecks_unchecked`). -/
theorem armsLatchLockAndWithdraw : Obligations.ArmsLatchLockAndWithdraw := by
  refine ⟨?_, ?_, ?_, ?_, ?_, ?_, ?_, ?_⟩
  · intro s t m p value htakes hbusy harm hfreed hfrom hto hp hjoin htick hlt hok
    exact commitArm_latches htakes ⟨hbusy, harm, hfreed, hfrom, hto⟩ hp hjoin htick hlt hok
  · intro s t m value htakes hbusy harm hfreed hfrom hto hjoin
    exact commitArm_latches_tick htakes ⟨hbusy, harm, hfreed, hfrom, hto⟩ hjoin
  · intro s t m p value htakes hbusy harm hfreed hfrom hto hp hjoin htick hbad
    exact commitArm_badSel htakes ⟨hbusy, harm, hfreed, hfrom, hto⟩ hp hjoin htick hbad
  · intro s t m p value a htakes hbusy harm hgrp hpend
    exact commitDisarm_withdraws htakes hbusy harm hgrp hpend t value
  · intro s t m p value htakes hbusy harm hfreed hfrom hto
    exact groupMembershipWrite_stores htakes ⟨hbusy, harm, hfreed, hfrom, hto⟩
  · intro s t m p value htakes hbusy harm hfreed hjoin hfrom hto
    exact groupMembershipWrite_ignored htakes hbusy harm hfreed hjoin hfrom hto
  · intro s t m g value htakes hgrp hmem hlt hok
    exact cgrpArm_latches htakes hgrp hmem hlt hok t
  · intro s t m g value htakes hgrp hmem hbad
    exact cgrpArm_badSel htakes hgrp hmem hbad t

end Sys2Proof.Machine
end

section
/-! SUPPORT. What the functions of the pages leave alone: the arms, the pages whose FUNC_INIT runs, normal service, and
PAGE_CTRL and COMMIT of every page. One lemma for each update of the state. -/

namespace Sys2Proof.Machine

/-! ### The words kept -/

/-- An offset in a page other than those of PAGE_CTRL and COMMIT. -/
def plainOff (o : Nat) : Bool := decide (o < 0x1000) && decide (o ≠ 0x004) && decide (o ≠ 0x020)

/-- PAGE_CTRL and COMMIT of every page. -/
def commandWord (b : Nat) : Bool := decide (b < 0x02000000) && (decide (b % 4096 = 0x004) || decide (b % 4096 = 0x020))

/-- The pages whose words follow the state of others (R129, R233 to R247, R299). -/
def followPage : Page → Bool
  | .ref | .xwpRoute | .asrc | .vtg _ => true
  | _ => false

/-- The words that no following of other pages changes. -/
def farWord (b : Nat) : Bool := commandWord b || !(ownerOf b).any followPage

/-- The arms, the pages whose FUNC_INIT runs, normal service, the words of `K`, and with `live` the live words. -/
def State.kept (live : Bool) (K : Nat → Bool) (s : State) :
    Tab Arm × List Page × Bool × (Nat → Option Word) × Option (Tab Word) :=
  (s.arms, s.busy, s.normal, fun b => if K b then some (s.word b) else none, if live then some s.lv else none)

theorem plainOff_iff {o : Nat} : plainOff o = true ↔ o < 0x1000 ∧ o ≠ 0x004 ∧ o ≠ 0x020 := by
  simp only [plainOff, Bool.and_eq_true, decide_eq_true_eq, and_assoc]

/-- The elements of an array beyond the common header. -/
theorem plainOff_at {f : Fld} {i n : Nat} (hi : i < n) (h : 0x40 ≤ f.off ∧ f.off + f.s1 * n ≤ 0x1000 ∧ 0 < f.s1) :
    plainOff (f.at i).off = true := by
  obtain ⟨hlo, hhi, hpos⟩ := h
  have hlt : f.s1 * i + f.s1 ≤ f.s1 * n := by
    rw [← Nat.mul_succ]
    exact Nat.mul_le_mul_left _ hi
  rw [plainOff_iff]
  simp only [Fld.at]
  omega

theorem commandWord_base_add (p : Page) {o : Nat} (h : plainOff o = true) : commandWord (p.base + o) = false := by
  obtain ⟨hlt, h4, h20⟩ := plainOff_iff.mp h
  simp only [commandWord, p.base_add_mod hlt, decide_eq_false h4, decide_eq_false h20, Bool.or_self, Bool.and_false]

theorem commandWord_table {a : Nat} (h : 0x02000000 ≤ a) : commandWord a = false := by
  simp only [commandWord, decide_eq_false (show ¬ a < 0x02000000 by omega), Bool.false_and]

theorem farWord_base_add {p : Page} (hp : followPage p = true) {o : Nat} (h : plainOff o = true) : farWord (p.base + o) = false := by
  obtain ⟨hlt, -⟩ := plainOff_iff.mp h
  simp only [farWord, commandWord_base_add p h, ownerOf_base_add p hlt, Option.any_some, hp, Bool.not_true, Bool.or_self]

/-! ### What the kept parts tell -/

section
variable {live : Bool} {K : Nat → Bool} {s u : State}

theorem State.arms_of_kept (h : u.kept live K = s.kept live K) : u.arms = s.arms := congrArg (·.1) h
theorem State.busy_of_kept (h : u.kept live K = s.kept live K) : u.busy = s.busy := congrArg (·.2.1) h
theorem State.normal_of_kept (h : u.kept live K = s.kept live K) : u.normal = s.normal := congrArg (·.2.2.1) h
theorem State.lv_of_kept (h : u.kept true K = s.kept true K) : u.lv = s.lv := Option.some.inj (congrArg (·.2.2.2.2) h)

theorem State.word_of_kept (h : u.kept live K = s.kept live K) {b : Nat} (hb : K b = true) : u.word b = s.word b := by
  have hw := congrFun (congrArg (·.2.2.2.1) h) b
  simpa only [State.kept, hb, if_true, Option.some.injEq] using hw

theorem State.armOf_of_kept (h : u.kept live K = s.kept live K) (p : Page) : u.armOf p = s.armOf p := by
  rw [State.armOf, State.arms_of_kept h, State.armOf]

theorem State.get_of_kept (h : u.kept live K = s.kept live K) {p : Page} {f : Fld} (hb : K (p.base + f.off) = true) :
    u.get p f = s.get p f := by
  rw [State.get, State.word_of_kept h hb, State.get]

end

/-! ### Updates -/

section
variable (live : Bool) (K : Nat → Bool) (s : State)

theorem State.kept_ite (c : Prop) [Decidable c] (u : State) :
    (if c then s else u).kept live K = if c then s.kept live K else u.kept live K := apply_ite (State.kept live K) c s u

theorem State.kept_setWord {a : Nat} (h : K a = false) (v : Word) : (s.setWord a v).kept live K = s.kept live K := by
  have hw : (fun b => if K b then some ((s.setWord a v).word b) else none) = fun b => if K b then some (s.word b) else none := by
    funext b
    by_cases hb : b = a
    · rw [hb, h]
      rfl
    · rw [State.word_setWord_ne s hb]
  rw [State.kept, hw]
  rfl

theorem State.kept_foldl {α : Type} {f : State → α → State} {l : List α}
    (h : ∀ a ∈ l, ∀ u : State, (f u a).kept live K = u.kept live K) : (l.foldl f s).kept live K = s.kept live K := by
  induction l generalizing s with
  | nil => rfl
  | cons a r ih =>
    rw [List.foldl_cons, ih _ fun b hb => h b (List.mem_cons_of_mem _ hb), h a List.mem_cons_self]

theorem State.kept_putLive (p : Page) (f : Fld) (v : Nat) : (s.putLive p f v).kept false K = s.kept false K := (rfl)
theorem State.kept_emit (e : Emit) : (s.emit e).kept live K = s.kept live K := (rfl)
theorem State.kept_setLane (n : LaneNo) (x : Lane) : (s.setLane n x).kept live K = s.kept live K := (rfl)
theorem State.kept_modLane (n : LaneNo) (g : Lane → Lane) : (s.modLane n g).kept live K = s.kept live K := (rfl)
theorem State.kept_setPort (p : PortNo) (x : EthPort) : (s.setPort p x).kept live K = s.kept live K := (rfl)
theorem State.kept_setRx (n : Fin 1024) (x : RxSlot) : (s.setRx n x).kept live K = s.kept live K := (rfl)
theorem State.kept_setTx (n : Fin 1024) (x : TxSlot) : (s.setTx n x).kept live K = s.kept live K := (rfl)
theorem State.kept_setArx (n : FlowNo) (x : AudRx) : (s.setArx n x).kept live K = s.kept live K := (rfl)
theorem State.kept_setAtx (n : FlowNo) (x : AudTx) : (s.setAtx n x).kept live K = s.kept live K := (rfl)
theorem State.kept_setTdm (b : TdmNo) (x : TdmPort) : (s.setTdm b x).kept live K = s.kept live K := (rfl)
theorem State.kept_modCand (c : Nat) (g : RefCand → RefCand) : (s.modCand c g).kept live K = s.kept live K := (rfl)
theorem State.kept_modDpll (k : Nat) (g : Dpll → Dpll) : (s.modDpll k g).kept live K = s.kept live K := (rfl)
theorem State.kept_setVtg (v : Nat) (x : Vtg) : (s.setVtg v x).kept live K = s.kept live K := (rfl)
theorem State.kept_with_xwp (x : Xwp) : ({ s with xwp := x } : State).kept live K = s.kept live K := (rfl)
theorem State.kept_with_brace (x : Brace) : ({ s with brace := x } : State).kept live K = s.kept live K := (rfl)
theorem State.kept_with_cands (x : Tab RefCand) : ({ s with cands := x } : State).kept live K = s.kept live K := (rfl)
theorem State.kept_with_upd (x : Upd) : ({ s with upd := x } : State).kept live K = s.kept live K := (rfl)
theorem State.kept_with_bbx (x : BlackBox) : ({ s with bbx := x } : State).kept live K = s.kept live K := (rfl)
theorem State.kept_with_bbxRun (x : List (Option (Nat × Nat))) :
    ({ s with bbxRun := x } : State).kept live K = s.kept live K := (rfl)
theorem State.kept_with_keys (x : KeyStore) : ({ s with keys := x } : State).kept live K = s.kept live K := (rfl)
theorem State.kept_fresh : s.fresh.2.kept live K = s.kept live K := (rfl)
theorem State.kept_with_saWritten (x : List Nat) : ({ s with saWritten := x } : State).kept live K = s.kept live K := (rfl)
theorem State.kept_with_sa (x y : Tab Nat) : ({ s with saGen := x, rxPn := y } : State).kept live K = s.kept live K := (rfl)

theorem State.kept_poolReturn (c i n : Nat) : (s.poolReturn c i n).kept live K = s.kept live K := by
  unfold State.poolReturn
  simp only
  split <;> rfl

end

section
variable {p : Page} (s : State)

/-! #### Beyond PAGE_CTRL and COMMIT -/

theorem State.kept_put_command {f : Fld} (h : plainOff f.off = true) (v : Nat) :
    (s.put p f v).kept false commandWord = s.kept false commandWord :=
  State.kept_setWord _ _ s (commandWord_base_add p h) _

theorem State.kept_add_command {f : Fld} (h : plainOff f.off = true) (n : Nat) :
    (s.add p f n).kept false commandWord = s.kept false commandWord := State.kept_put_command s h _

theorem State.kept_addSat_command {f : Fld} (h : plainOff f.off = true) (n : Nat) :
    (s.addSat p f n).kept false commandWord = s.kept false commandWord := State.kept_put_command s h _

theorem State.kept_raise_command {f : Fld} (h : plainOff f.off = true) :
    (s.raise p f).kept false commandWord = s.kept false commandWord := State.kept_put_command s h _

theorem State.kept_puts_command {l : List (Fld × Nat)} (h : ∀ e ∈ l, plainOff e.1.off = true) :
    (s.puts p l).kept false commandWord = s.kept false commandWord :=
  State.kept_foldl _ _ s fun e he u => State.kept_put_command u (h e he) _

theorem State.kept_tput_command {f : Fld} (h : 0x02000000 ≤ f.off) (v : Nat) :
    (s.tput f v).kept false commandWord = s.kept false commandWord := State.kept_setWord _ _ s (commandWord_table h) _

theorem State.kept_offer_command (q : Page) (c x y : Nat) :
    (s.offer q c x y).kept false commandWord = s.kept false commandWord := by
  unfold State.offer
  split
  · rfl
  · exact State.kept_addSat_command _ rfl _

/-! #### On the pages that follow others -/

theorem State.kept_put_far (hp : followPage p = true) {f : Fld} (h : plainOff f.off = true) (v : Nat) :
    (s.put p f v).kept true farWord = s.kept true farWord := State.kept_setWord _ _ s (farWord_base_add hp h) _

theorem State.kept_add_far (hp : followPage p = true) {f : Fld} (h : plainOff f.off = true) (n : Nat) :
    (s.add p f n).kept true farWord = s.kept true farWord := State.kept_put_far s hp h _

theorem State.kept_addSat_far (hp : followPage p = true) {f : Fld} (h : plainOff f.off = true) (n : Nat) :
    (s.addSat p f n).kept true farWord = s.kept true farWord := State.kept_put_far s hp h _

theorem State.kept_raise_far (hp : followPage p = true) {f : Fld} (h : plainOff f.off = true) :
    (s.raise p f).kept true farWord = s.kept true farWord := State.kept_put_far s hp h _

end

end Sys2Proof.Machine
end

section
/-! SUPPORT. What follows from a change of signals, routes, VTGs or lanes (R137, R143, R147, R233 to R247, R299) stays on the
REF, XWP route, ASRC and VTG pages. -/

namespace Sys2Proof.Machine

/-! ### Regenerators and de-embedders -/

theorem State.kept_setRegen (s : State) (n : Fin 1024) (b : Bool) : (s.setRegen n b).kept true farWord = s.kept true farWord := by
  have hbit : plainOff (regenBit n.val).off = true :=
    plainOff_at (f := XWPR.REGEN_FAULT_RF) (show n.val / 32 < 32 by omega) (by decide)
  unfold State.setRegen
  simp (disch := first | exact id rfl | assumption) only [State.kept_ite, State.kept_put_far, State.kept_raise_far, ite_self]

theorem State.kept_regen (s : State) : s.regen.kept true farWord = s.kept true farWord := by
  unfold State.regen
  rw [State.kept_foldl _ _ _ fun n _ u => u.kept_setRegen n _, State.kept_foldl]
  intro n _ u
  simp only [State.kept_ite, State.kept_setRegen, ite_self]

theorem State.kept_deembFollow (s : State) : s.deembFollow.kept true farWord = s.kept true farWord := (rfl)

theorem State.kept_refoFollow (s : State) : s.refoFollow.kept true farWord = s.kept true farWord := (rfl)

/-! ### DPLLs -/

section
variable (s : State) {k : Nat} (hk : k < 4)
include hk

theorem State.kept_dpllMark (freq : Int) (locked : Bool) : (s.dpllMark k freq locked).kept true farWord = s.kept true farWord := by
  have hfreq : plainOff (REF.DPLL_FREQ_FREQ.at k).off = true := plainOff_at hk (by decide)
  unfold State.dpllMark
  simp (disch := first | exact id rfl | assumption) only [State.kept_put_far, State.kept_modDpll]

theorem State.kept_setFreq (f : Int) : (s.setFreq k f).kept true farWord = s.kept true farWord := by
  unfold State.setFreq
  simp (disch := assumption) only [State.kept_ite, State.kept_dpllMark, ite_self]

theorem State.kept_setDpll (st : Nat) : (s.setDpll k st).kept true farWord = s.kept true farWord := by
  have hstat : plainOff (REF.DPLL_STAT_STATE.at k).off = true := plainOff_at hk (by decide)
  have hhist : plainOff ((REF.DPLL_HIST_HIST.at k).bit st).off = true := plainOff_at (f := REF.DPLL_HIST_HIST) hk (by decide)
  unfold State.setDpll
  dsimp only
  by_cases hst : s.dpllState k = st
  · rw [if_pos hst]
  · rw [if_neg hst, State.kept_ite, State.kept_foldl]
    · simp (disch := first | exact id rfl | assumption) only [State.kept_ite, State.kept_dpllMark, State.kept_put_far,
        State.kept_raise_far, ite_self]
    · intro v _ u
      split
      · simp (disch := exact id rfl) only [State.kept_ite, State.kept_raise_far, ite_self]
      · rfl

theorem State.kept_setSel (c : Option Nat) : (s.setSel k c).kept true farWord = s.kept true farWord := by
  have hsel : plainOff (REF.DPLL_STAT_SEL.at k).off = true := plainOff_at hk (by decide)
  have hcnt : plainOff (REF.SEL_CNT.at k).off = true := plainOff_at hk (by decide)
  have hhist : plainOff ((REF.DPLL_HIST_HIST.at k).bit 5).off = true := plainOff_at (f := REF.DPLL_HIST_HIST) hk (by decide)
  unfold State.setSel
  simp (disch := first | exact id rfl | assumption) only [State.kept_ite, State.kept_put_far, State.kept_add_far, State.kept_raise_far,
    ite_self]

theorem State.kept_dpllLose (c : Nat) : (s.dpllLose k c).kept true farWord = s.kept true farWord := by
  have hhold : plainOff (REF.HOLD_FREQ_FREQ.at k).off = true := plainOff_at hk (by decide)
  unfold State.dpllLose
  simp (disch := first | exact id rfl | assumption) only [State.kept_ite, State.kept_setFreq, State.kept_setDpll, State.kept_put_far,
    State.kept_setSel, State.kept_modDpll, ite_self]

theorem State.kept_follow : (s.follow k).kept true farWord = s.kept true farWord := by
  have herr : plainOff (REF.DPLL_PHERR_E.at k).off = true := plainOff_at hk (by decide)
  unfold State.follow
  split
  · rfl
  · split
    · rfl
    · extract_lets f v
      split
      · simp (disch := assumption) only [v, State.kept_modDpll, State.kept_setFreq]
      · split
        · rfl
        · extract_lets u w lim r
          have hw : w.kept true farWord = s.kept true farWord := by
            simp (disch := first | exact id rfl | assumption) only [w, u, State.kept_modDpll, State.kept_put_far]
          split
          · rw [State.kept_setFreq _ hk, hw]
          · rw [State.kept_setFreq _ hk, State.kept_modDpll, State.kept_fresh, hw]

end

theorem State.kept_realignVtg (s : State) (v : Fin 32) : (s.realignVtg v).kept true farWord = s.kept true farWord := by
  unfold State.realignVtg
  simp (disch := exact id rfl) only [State.kept_ite, State.kept_addSat_far, State.kept_raise_far, State.kept_setVtg, ite_self]

theorem State.kept_tauStep (s : State) (k c : Nat) : (s.tauStep k c).kept true farWord = s.kept true farWord := by
  unfold State.tauStep
  split
  · rfl
  · refine (State.kept_foldl _ _ _ fun v _ u => ?_).trans ?_
    · split
      · simp only [State.kept_ite, State.kept_realignVtg, ite_self]
      · rfl
    · simp only [State.kept_with_cands, State.kept_modDpll]

section
variable (s : State) {k : Nat} (hk : k < 4)
include hk

theorem State.kept_dpllTake (c : Nat) : (s.dpllTake k c).kept true farWord = s.kept true farWord := by
  unfold State.dpllTake
  simp (disch := assumption) only [State.kept_follow, State.kept_ite, State.kept_tauStep, State.kept_dpllMark,
    State.kept_modDpll, State.kept_setDpll, State.kept_setSel, ite_self]

theorem State.kept_reselect : (s.reselect k).kept true farWord = s.kept true farWord := by
  unfold State.reselect
  split
  · split
    · split
      · simp (disch := assumption) only [State.kept_ite, State.kept_dpllTake, ite_self]
      · rfl
    · exact State.kept_dpllLose s hk _
  · split
    · rfl
    · split
      · exact State.kept_dpllTake s hk _
      · rfl

theorem State.kept_disagreeSet : (s.disagreeSet k).kept true farWord = s.kept true farWord := by
  have hhist : plainOff ((REF.DPLL_HIST_HIST.at k).bit 4).off = true := plainOff_at (f := REF.DPLL_HIST_HIST) hk (by decide)
  have hlive : plainOff (REF.DPLL_STAT_DIS_LIVE.at k).off = true := plainOff_at hk (by decide)
  unfold State.disagreeSet
  simp (disch := first | exact id rfl | assumption) only [State.kept_ite, State.kept_raise_far, State.kept_put_far, State.kept_modDpll,
    ite_self]

end

theorem lt_of_mem_allDplls {k : Nat} (h : k ∈ allDplls) : k < 4 := by
  revert k
  decide

theorem State.kept_refSettle (s : State) : s.refSettle.kept true farWord = s.kept true farWord :=
  State.kept_foldl _ _ s fun k hk u => by
    rw [State.kept_disagreeSet _ (lt_of_mem_allDplls hk), State.kept_reselect _ (lt_of_mem_allDplls hk)]

/-! ### Candidates -/

theorem State.kept_qualify (s : State) {c : Nat} (hc : c < 27) : (s.qualify c).kept true farWord = s.kept true farWord := by
  have hact : plainOff (REF.CAND_STAT_ACT_OK.at c).off = true := plainOff_at hc (by decide)
  have hcnt : plainOff (REF.QUAL_LOSS_CNT.at c).off = true := plainOff_at hc (by decide)
  have hper : plainOff (REF.CAND_STAT_PER_OK.at c).off = true := hact
  have hqual : plainOff (REF.CAND_STAT_QUAL.at c).off = true := hact
  have hwait : plainOff (REF.CAND_STAT_WAITING.at c).off = true := hact
  have hlost : plainOff (REF.CAND_STAT_LOST.at c).off = true := hact
  unfold State.qualify
  extract_lets x on held act per old u q v w
  have hu : u.kept true farWord = s.kept true farWord := by
    simp (disch := first | exact id rfl | assumption) only [u, State.puts_cons, State.puts_nil, State.kept_put_far]
  have hw : w.kept true farWord = u.kept true farWord := by
    simp (disch := first | exact id rfl | assumption) only [w, v, State.kept_put_far, State.kept_modCand]
  simp (disch := first | exact id rfl | assumption) only [State.kept_ite, State.puts_cons, State.puts_nil, State.kept_put_far,
    State.kept_addSat_far, State.kept_raise_far, hw, hu, ite_self]

theorem State.kept_refFollow (s : State) : s.refFollow.kept true farWord = s.kept true farWord := by
  unfold State.refFollow
  rw [State.kept_foldl, State.kept_refSettle, State.kept_foldl]
  · intro i hi u
    have hi := List.mem_range.mp hi
    simp (disch := omega) only [State.kept_ite, State.kept_qualify, State.kept_modCand, ite_self]
  · intro k hk u
    simp only [State.kept_ite, State.kept_follow u (lt_of_mem_allDplls hk), ite_self]

/-! ### ASRC channels -/

theorem plainOff_asrcCh {a : Nat} (h : a < 256) : plainOff (ASRC.ASRC_CH_STAT_STATE.at a).off = true := plainOff_at h (by decide)

theorem State.kept_setAsrc_far (s : State) {a : Nat} (h : a < 256) (st : Nat) :
    (s.setAsrc a st).kept true farWord = s.kept true farWord := by
  have hch := plainOff_asrcCh h
  unfold State.setAsrc
  simp (disch := first | exact id rfl | assumption) only [State.kept_ite, State.kept_put_far, State.kept_addSat_far,
    State.kept_raise_far, ite_self]

theorem State.kept_asrcOwn (s : State) (rs : List AsrcRange) {a : Nat} (h : a < 256) :
    (s.asrcOwn rs a).kept true farWord = s.kept true farWord := by
  have hkind : plainOff (ASRC.ASRC_CH_STAT_KIND.at a).off = true := plainOff_asrcCh h
  have howner : plainOff (ASRC.ASRC_CH_STAT_OWNER.at a).off = true := plainOff_asrcCh h
  unfold State.asrcOwn
  dsimp only
  split <;> simp (disch := first | exact id rfl | assumption) only [State.kept_ite, State.kept_setAsrc_far, State.puts_cons,
    State.puts_nil, State.kept_put_far, ite_self]

theorem mem_insertNat {l : List Nat} {n x : Nat} (h : x ∈ insertNat l n) : x = n ∨ x ∈ l := by
  induction l with
  | nil => exact .inl (List.mem_singleton.mp h)
  | cons y r ih =>
    unfold insertNat at h
    split at h
    · exact List.mem_cons.mp h
    · split at h
      · exact .inr h
      · rcases List.mem_cons.mp h with h | h
        · exact .inr (List.mem_cons.mpr (.inl h))
        · exact (ih h).imp id (List.mem_cons_of_mem _)

theorem mem_foldl_insertNat {l r : List Nat} {x : Nat} (h : x ∈ l.foldl insertNat r) : x ∈ l ∨ x ∈ r := by
  induction l generalizing r with
  | nil => exact .inr h
  | cons y l ih =>
    rcases ih h with h | h
    · exact .inl (List.mem_cons_of_mem _ h)
    · exact (mem_insertNat h).imp (fun e => by rw [e]; exact List.mem_cons_self) id

/-- There are 256 ASRC channels. -/
theorem State.lt_of_mem_asrcBusy {s : State} {a : Nat} (h : a ∈ s.asrcBusy) : a < 256 := by
  obtain ⟨e, -, he⟩ := List.mem_filterMap.mp h
  split at he
  · next hc =>
    simp only [Bool.and_eq_true, decide_eq_true_eq] at hc
    cases he
    omega
  · cases he

theorem AsrcRange.lt_of_mem_chans {r : AsrcRange} {a : Nat} (h : a ∈ r.chans) : a < 256 :=
  of_decide_eq_true (List.mem_filter.mp h).2

theorem State.kept_asrcSync (s : State) : s.asrcSync.kept true farWord = s.kept true farWord := by
  refine State.kept_foldl _ _ s fun a ha u => State.kept_asrcOwn u _ ?_
  rcases List.mem_append.mp ((mem_foldl_insertNat ha).resolve_right List.not_mem_nil) with h | h
  · exact State.lt_of_mem_asrcBusy h
  · obtain ⟨l, hl, hal⟩ := List.mem_flatten.mp h
    obtain ⟨r, -, rfl⟩ := List.mem_map.mp hl
    exact AsrcRange.lt_of_mem_chans hal

/-- What follows elsewhere leaves the arms, FUNC_INIT, normal service, the live words, and the words of the other pages. -/
theorem State.kept_follow' (s : State) : s.follow'.kept true farWord = s.kept true farWord := by
  rw [State.follow', State.kept_asrcSync, State.kept_refoFollow, State.kept_refFollow, State.kept_deembFollow, State.kept_regen]

end Sys2Proof.Machine
end

section
/-! SUPPORT. The stop of a page's function at FUNC_INIT (R54 steps 2 and 3) leaves the arms, the pages whose FUNC_INIT runs, normal
service, and PAGE_CTRL and COMMIT of every page. -/

namespace Sys2Proof.Machine

/-! ### Lanes and the brace link -/

theorem State.kept_setTaps (s : State) (n : LaneNo) (t : Nat × Nat × Nat) :
    (s.setTaps n t).kept false commandWord = s.kept false commandWord := by
  unfold State.setTaps
  simp only [State.kept_putLive]

theorem State.kept_setWordLock (s : State) (n : LaneNo) (b : Bool) :
    (s.setWordLock n b).kept false commandWord = s.kept false commandWord := by
  have hcause : plainOff (if b then LANE.INT_STAT_LOCK_GAINED else LANE.INT_STAT_LOCK_LOST).off = true := by
    split <;> rfl
  unfold State.setWordLock
  simp (disch := first | exact id rfl | assumption) only [State.kept_ite, State.kept_raise_command, State.kept_put_command,
    State.kept_modLane, ite_self]

theorem State.kept_setIgn (s : State) (n : LaneNo) (st : Nat) :
    (s.setIgn n st).kept false commandWord = s.kept false commandWord := by
  unfold State.setIgn
  simp (disch := exact id rfl) only [State.kept_ite, State.kept_modLane, State.kept_raise_command, State.kept_setWordLock,
    State.kept_put_command, ite_self]

theorem State.kept_detect (s : State) (n : LaneNo) : (s.detect n).kept false commandWord = s.kept false commandWord := by
  unfold State.detect
  simp only [State.kept_ite, State.kept_setIgn, State.kept_setTaps, State.kept_setLane, ite_self]

theorem State.kept_detectAfresh (s : State) (n : LaneNo) :
    (s.detectAfresh n).kept false commandWord = s.kept false commandWord := by
  unfold State.detectAfresh
  simp (disch := exact id rfl) only [State.kept_detect, State.puts_cons, State.puts_nil, State.kept_put_command]

theorem State.kept_laneInit (s : State) (n : LaneNo) : (s.laneInit n).kept false commandWord = s.kept false commandWord := by
  unfold State.laneInit
  simp (disch := exact id rfl) only [State.kept_ite, State.kept_detectAfresh, State.puts_cons, State.puts_nil,
    State.kept_put_command, State.kept_raise_command, State.kept_setIgn, State.kept_setLane, State.kept_setWordLock, ite_self]

theorem State.kept_clearHistory (s : State) : s.clearHistory.kept false commandWord = s.kept false commandWord := (rfl)

theorem State.kept_enterAlign (s : State) : s.enterAlign.kept false commandWord = s.kept false commandWord := by
  unfold State.enterAlign
  rw [State.kept_put_command _ rfl, State.kept_with_brace, State.kept_clearHistory]

theorem State.kept_miswire (s : State) (k : Fin 8) : (s.miswire k).kept false commandWord = s.kept false commandWord := by
  unfold State.miswire
  simp (disch := exact id rfl) only [State.kept_ite, State.kept_raise_command, State.kept_put_command, State.kept_with_brace,
    ite_self]

theorem State.kept_linkUpdate (s : State) : s.linkUpdate.kept false commandWord = s.kept false commandWord := by
  have hwire : ∀ u : State, (braceLanes.foldl State.miswire u).kept false commandWord = u.kept false commandWord :=
    fun u => State.kept_foldl _ _ u fun k _ w => w.kept_miswire k
  unfold State.linkUpdate
  simp (disch := exact id rfl) only [State.kept_ite, State.kept_raise_command, State.kept_put_command, State.kept_clearHistory,
    State.kept_enterAlign, hwire, ite_self]

theorem State.kept_brcInit (s : State) : s.brcInit.kept false commandWord = s.kept false commandWord := by
  unfold State.brcInit
  simp (disch := exact id rfl) only [State.puts_cons, State.puts_nil, State.kept_put_command, State.kept_clearHistory]

/-! ### The planes -/

theorem State.kept_routeInit (s : State) : s.routeInit.kept false commandWord = s.kept false commandWord := by
  unfold State.routeInit
  rw [State.kept_foldl]
  · rw [State.kept_add_command _ rfl, State.kept_with_xwp]
  · exact fun w hw u => State.kept_put_command u (plainOff_at (List.mem_range.mp hw) (by decide)) _

theorem State.kept_xbpStop (s : State) : s.xbpStop.kept false commandWord = s.kept false commandWord := (rfl)
theorem State.kept_mapStop (s : State) : s.mapStop.kept false commandWord = s.kept false commandWord := (rfl)
theorem State.kept_audInit (s : State) : s.audInit.kept false commandWord = s.kept false commandWord := (rfl)

/-! ### Ports -/

theorem State.kept_setEtx (s : State) (p : PortNo) (l : List (Nat × Nat × Nat)) :
    (s.setEtx p l).kept false commandWord = s.kept false commandWord :=
  State.kept_foldl _ _ s fun _ _ _ => by simp only [State.kept_putLive]

theorem State.kept_setLink (s : State) (p : PortNo) (st : Nat) :
    (s.setLink p st).kept false commandWord = s.kept false commandWord := by
  unfold State.setLink State.setEnergy
  simp (disch := exact id rfl) only [State.kept_ite, State.kept_emit, State.kept_setEtx, State.puts_cons, State.puts_nil,
    State.kept_put_command, State.kept_raise_command, State.kept_setPort, ite_self]

theorem State.kept_ethInit (s : State) (p : PortNo) : (s.ethInit p).kept false commandWord = s.kept false commandWord := by
  unfold State.ethInit
  dsimp only
  rw [State.kept_puts_command _ (by decide), State.kept_foldl, State.kept_foldl, State.kept_poolReturn, State.kept_setPort,
    State.kept_puts_command _ (by decide), State.kept_setLink]
  · exact fun c hc u => State.kept_put_command u (plainOff_at (List.mem_range.mp hc) (by decide)) _
  · intro w hw u
    have hw : w < 2 := by fin_cases hw <;> decide
    rw [State.kept_put_command _ (plainOff_at hw (by decide)), State.kept_put_command _ (plainOff_at hw (by decide))]

theorem State.kept_msecInit (s : State) (p : PortNo) : (s.msecInit p).kept false commandWord = s.kept false commandWord := by
  unfold State.msecInit
  rw [State.kept_with_saWritten, State.kept_foldl, State.kept_foldl]
  · intro x hx u
    have hflds : plainOff (saFlds x).2.2.2.2.1.off = true ∧ plainOff (saFlds x).2.2.2.2.2.off = true := by
      revert x
      decide
    simp (disch := first | exact hflds.1 | exact hflds.2) only [State.puts_cons, State.puts_nil, State.kept_put_command,
      State.kept_with_sa]
  · intro x hx u
    have hx := List.mem_range.mp hx
    rw [State.puts_cons, State.puts_cons, State.puts_nil, State.kept_put_command _ (plainOff_at hx (by decide)),
      State.kept_put_command _ (plainOff_at hx (by decide))]

/-! ### Slots and flows -/

theorem State.kept_rxAfresh (s : State) (n : Fin 1024) (st : Nat) :
    (s.rxAfresh n st).kept false commandWord = s.kept false commandWord := by
  unfold State.rxAfresh State.setRxState State.rxRelease
  simp (disch := exact id rfl) only [State.kept_ite, State.puts_cons, State.puts_nil, State.kept_put_command, State.kept_setRx,
    State.kept_poolReturn, ite_self]

theorem State.kept_txStop (s : State) (n : Fin 1024) : (s.txStop n).kept false commandWord = s.kept false commandWord := by
  unfold State.txStop State.txStat
  simp (disch := exact id rfl) only [State.kept_put_command, State.kept_setTx]

theorem State.kept_zeroFlow (s : State) {base : Nat} (h : 0x02000000 ≤ base) (n : FlowNo) (lo : Nat) :
    (s.zeroFlow base n lo).kept false commandWord = s.kept false commandWord :=
  State.kept_foldl _ _ s fun k _ u => State.kept_setWord _ _ u (commandWord_table (by omega)) _

theorem State.kept_setArxState (s : State) (n : FlowNo) (st : Nat) :
    (s.setArxState n st).kept false commandWord = s.kept false commandWord := by
  have hmap : plainOff ((FARX.LOST_MAP_LOST.at (n.val % 256 / 32)).bit (n.val % 32)).off = true :=
    plainOff_at (f := FARX.LOST_MAP_LOST) (n := 8) (by omega) (by decide)
  unfold State.setArxState
  rw [State.kept_put_command _ hmap, State.kept_tput_command _ (Nat.le_add_right_of_le (by decide))]

theorem State.kept_setForeign (s : State) (n : FlowNo) (b : Bool) :
    (s.setForeign n b).kept false commandWord = s.kept false commandWord := by
  have hmap : plainOff ((FARX.FOREIGN_MAP_FOREIGN.at (n.val % 256 / 32)).bit (n.val % 32)).off = true :=
    plainOff_at (f := FARX.FOREIGN_MAP_FOREIGN) (n := 8) (by omega) (by decide)
  unfold State.setForeign
  rw [State.kept_put_command _ hmap, State.kept_tput_command _ (Nat.le_add_right_of_le (by decide))]

theorem State.kept_arxAfresh (s : State) (n : FlowNo) (st : Nat) :
    (s.arxAfresh n st).kept false commandWord = s.kept false commandWord := by
  have hzero : ∀ u : State, (u.zeroFlow 0x02140000 n 8).kept false commandWord = u.kept false commandWord :=
    fun u => u.kept_zeroFlow (by decide) n 8
  unfold State.arxAfresh State.arxRelease
  dsimp only
  rw [State.kept_tput_command _ (Nat.le_add_right_of_le (by decide))]
  simp only [State.kept_ite, hzero, State.kept_setArxState, State.kept_setForeign, State.kept_setArx, State.kept_poolReturn,
    ite_self]

theorem State.kept_atxStop (s : State) (n : FlowNo) : (s.atxStop n).kept false commandWord = s.kept false commandWord := by
  unfold State.atxStop
  rw [State.kept_zeroFlow _ (by decide), State.kept_poolReturn, State.kept_setAtx]

/-! ### TDM ports, ASRC channels and engines -/

theorem State.kept_tdmInit (s : State) (b : TdmNo) : (s.tdmInit b).kept false commandWord = s.kept false commandWord := by
  unfold State.tdmInit State.tdmOff State.setTdmState
  simp (disch := exact id rfl) only [State.kept_ite, State.puts_cons, State.puts_nil, State.kept_put_command,
    State.kept_raise_command, State.kept_setTdm, ite_self]

theorem State.kept_asrcInit (s : State) : s.asrcInit.kept false commandWord = s.kept false commandWord :=
  State.kept_foldl _ _ s fun a ha u => by
    have hch := plainOff_asrcCh (State.lt_of_mem_asrcBusy ha)
    unfold State.setAsrc
    simp (disch := first | exact id rfl | assumption) only [State.kept_ite, State.kept_put_command, State.kept_addSat_command,
      State.kept_raise_command, ite_self]

theorem State.kept_engInit (s : State) (e : EngNo) : (s.engInit e).kept false commandWord = s.kept false commandWord := (rfl)

/-! ### The control plane -/

theorem State.kept_timeStop (s : State) : s.timeStop.kept false commandWord = s.kept false commandWord :=
  State.kept_puts_command s (by decide)

theorem State.kept_hifInit (s : State) : s.hifInit.kept false commandWord = s.kept false commandWord := (rfl)

theorem State.kept_busmInit (s : State) : s.busmInit.kept false commandWord = s.kept false commandWord :=
  State.kept_foldl _ _ s fun f hf u => State.kept_setWord _ _ u (commandWord_base_add .busm (by revert f; decide)) _

theorem State.kept_zeroKeyBuf (s : State) : s.zeroKeyBuf.kept false commandWord = s.kept false commandWord :=
  State.kept_foldl _ _ s fun w hw u => State.kept_put_command u (plainOff_at (List.mem_range.mp hw) (by decide)) _

theorem State.kept_keyFinish (s : State) (status rsp0 : Nat) (keep : Bool) :
    (s.keyFinish status rsp0 keep).kept false commandWord = s.kept false commandWord := by
  unfold State.keyFinish
  extract_lets cleared answered counted failed orphaned signed fresh reported
  have hcleared : cleared.kept false commandWord = s.kept false commandWord := by
    simp only [cleared, State.kept_ite, State.kept_zeroKeyBuf, ite_self]
  have hcounted : counted.kept false commandWord = cleared.kept false commandWord := by
    simp (disch := exact id rfl) only [counted, answered, State.kept_add_command, State.kept_raise_command, State.puts_cons,
      State.puts_nil, State.kept_put_command]
  have hsigned : signed.kept false commandWord = counted.kept false commandWord := by
    simp (disch := exact id rfl) only [signed, orphaned, failed, State.kept_ite, State.kept_addSat_command, ite_self]
  have hreported : reported.kept false commandWord = signed.kept false commandWord := by
    simp only [reported, fresh, State.kept_ite, State.kept_offer_command, State.kept_fresh, ite_self]
  rw [State.kept_with_keys, hreported, hsigned, hcounted, hcleared]

theorem State.kept_keyInit (s : State) : s.keyInit.kept false commandWord = s.kept false commandWord := by
  unfold State.keyInit
  simp (disch := exact id rfl) only [State.kept_zeroKeyBuf, State.puts_cons, State.puts_nil, State.kept_put_command,
    State.kept_ite, State.kept_keyFinish, ite_self]

theorem State.kept_updFinish (s : State) {k : Nat} (hk : k < 2) (status rsp : Nat) :
    (s.updFinish k status rsp).kept false commandWord = s.kept false commandWord := by
  have hstat : plainOff (UPD.UPD_STAT_BUSY.at k).off = true := plainOff_at hk (by decide)
  have hdone : plainOff (UPD.UPD_STAT_DONE.at k).off = true := hstat
  have hstatus : plainOff (UPD.UPD_STAT_STATUS.at k).off = true := hstat
  have hrsp : plainOff (UPD.UPD_RSP0_RSP.at k).off = true := plainOff_at hk (by decide)
  unfold State.updFinish
  simp (disch := first | exact id rfl | assumption) only [State.kept_raise_command, State.puts_cons, State.puts_nil,
    State.kept_put_command, State.kept_with_upd]

theorem State.kept_updInit (s : State) : s.updInit.kept false commandWord = s.kept false commandWord := by
  unfold State.updInit State.sessEnd
  rw [State.kept_foldl]
  · simp (disch := first | exact id rfl | decide) only [State.puts_cons, State.puts_nil, State.kept_put_command,
      State.kept_with_upd, State.kept_ite, State.kept_updFinish, ite_self]
  · exact fun w hw u => State.kept_put_command u (plainOff_at (List.mem_range.mp hw) (by decide)) _

theorem State.kept_evrInit (s : State) : s.evrInit.kept false commandWord = s.kept false commandWord := by
  unfold State.evrInit State.cursors
  rw [State.kept_puts_command _ (by decide), State.puts_cons, State.puts_cons, State.puts_nil, State.kept_put_command _ rfl,
    State.kept_put_command _ rfl]

theorem State.kept_setBbxBuf (s : State) {k : Nat} (hk : k < 2) (l : List Nat) :
    (s.setBbxBuf k l).kept false commandWord = s.kept false commandWord :=
  State.kept_foldl _ _ s fun e he u => by
    have hi := List.mem_range.mp (List.of_mem_zip (a := e.1) (b := e.2) he).1
    refine State.kept_put_command u (plainOff_iff.mpr ?_) _
    simp only [Fld.at2, BBX.BBX_BUF_DATA]
    omega

theorem State.kept_bbxFinish (s : State) {k : Nat} (hk : k < 2) (status rsp : Nat) :
    (s.bbxFinish k status rsp).kept false commandWord = s.kept false commandWord := by
  have hstat : plainOff (BBX.BBX_STAT_BUSY.at k).off = true := plainOff_at hk (by decide)
  have hdone : plainOff (BBX.BBX_STAT_DONE.at k).off = true := hstat
  have hstatus : plainOff (BBX.BBX_STAT_STATUS.at k).off = true := hstat
  have hrsp : plainOff (BBX.BBX_RSP0_RSP.at k).off = true := plainOff_at hk (by decide)
  unfold State.bbxFinish
  simp (disch := first | exact id rfl | assumption) only [State.kept_raise_command, State.puts_cons, State.puts_nil,
    State.kept_put_command, State.kept_with_bbxRun]

theorem State.kept_bbxInit (s : State) : s.bbxInit.kept false commandWord = s.kept false commandWord := by
  unfold State.bbxInit
  dsimp only
  rw [State.kept_setBbxBuf _ (by decide), State.kept_setBbxBuf _ (by decide), State.kept_with_bbx]
  simp (disch := decide) only [State.kept_ite, State.kept_bbxFinish, ite_self]

/-! ### Every page -/

/-- The stop of any page's function keeps PAGE_CTRL and COMMIT of every page, the arms and FUNC_INIT. -/
theorem State.kept_pageStop (s : State) (p : Page) : (s.pageStop p).kept false commandWord = s.kept false commandWord := by
  cases p with
  | lane n =>
    show (if isBrace n then (s.laneInit n).linkUpdate else s.laneInit n).kept false commandWord = _
    rw [State.kept_ite, State.kept_linkUpdate, State.kept_laneInit, ite_self]
  | xbp => exact s.kept_xbpStop
  | brc => exact s.kept_brcInit
  | xwpRoute => exact s.kept_routeInit
  | xwpMap => exact s.kept_mapStop
  | eth n => exact s.kept_ethInit n
  | msec n => exact s.kept_msecInit n
  | rxSlot n => exact s.kept_rxAfresh n 0
  | txSlot n => exact s.kept_txStop n
  | time => exact s.kept_timeStop
  | aud => exact s.kept_audInit
  | flowaRx b => exact State.kept_foldl _ _ s fun n _ u => u.kept_arxAfresh n 0
  | flowaTx b => exact State.kept_foldl _ _ s fun n _ u => u.kept_atxStop n
  | tdm b => exact s.kept_tdmInit b
  | asrc => exact s.kept_asrcInit
  | eng e => exact s.kept_engInit e
  | hif => exact s.kept_hifInit
  | busm => exact s.kept_busmInit
  | key => exact s.kept_keyInit
  | upd => exact s.kept_updInit
  | evr => exact s.kept_evrInit
  | bbx => exact s.kept_bbxInit
  | _ => rfl

end Sys2Proof.Machine
end

section
/-! FUNC_INIT of a page (R54): what its write leaves. -/

namespace Sys2Proof.Machine

/-- The page is not armed and has joined no group. -/
def State.released (s : State) (p : Page) : Prop := s.armOf p = none ∧ s.get p HDR.COMMIT_GRP_JOIN = 0

theorem State.armOf_congr {s u : State} (h : u.arms = s.arms) (p : Page) : u.armOf p = s.armOf p := by
  rw [State.armOf, h, State.armOf]

theorem State.get_congr {s u : State} (h : u.sh = s.sh) (p : Page) (f : Fld) : u.get p f = s.get p f := by
  rw [State.get, State.word, h, State.get, State.word]

/-- Whether a page is released follows from the arms and the words alone. -/
theorem State.released_congr {s u : State} {p : Page} (h : s.released p) (hsh : u.sh = s.sh) (harms : u.arms = s.arms) :
    u.released p := by
  rw [State.released, State.armOf_congr harms, State.get_congr hsh]
  exact h

section
variable {s : State} {p : Page} (h : s.released p)
include h

theorem State.released_with_groups (x : Tab Grp) : ({ s with groups := x } : State).released p :=
  State.released_congr h rfl rfl

theorem State.released_noteFreed (q : Page) (grp : Bool) : (s.noteFreed q grp).released p :=
  State.released_congr h rfl rfl

/-- No field below bit 29 and none outside COMMIT binds the page again. -/
theorem State.released_put {q : Page} {f : Fld} (hf : f.lo + f.w ≤ 29) (v : Nat) : (s.put q f v).released p := by
  obtain ⟨harm, hjoin⟩ := h
  refine ⟨by rw [State.armOf_put, harm], ?_⟩
  rw [State.get_put_of_disjoint _ _ _ _ _ _ (by omega) (.inr (.inr hf)), hjoin]

theorem State.released_dropArm (q : Page) : (s.dropArm q).released p :=
  ⟨State.armOf_dropArm_of_none h.1 q, (State.get_congr (s := s) rfl p _).trans h.2⟩

theorem State.released_firedPage (seq : Nat) (q : Page) : (s.firedPage seq q).released p := by
  rw [State.firedPage, State.puts_cons, State.puts_cons, State.puts_nil]
  exact State.released_put (State.released_put h (f := HDR.COMMIT_STAT_FIRED) (by decide) _)
    (f := HDR.COMMIT_STAT_SEQ_LIVE) (by decide) _

end

theorem State.released_foldl {α : Type} {f : State → α → State} {p : Page}
    (hf : ∀ (u : State) a, u.released p → (f u a).released p) (l : List α) {s : State} (h : s.released p) :
    (l.foldl f s).released p := by
  induction l generalizing s with
  | nil => exact h
  | cons a r ih => exact ih (hf s a h)

/-- A salvo that completes binds no page again. -/
theorem State.released_grpDone {s : State} {p : Page} (h : s.released p) (g : Nat) (x : Grp) : (s.grpDone g x).released p := by
  have hfired := State.released_foldl (fun u q hu => State.released_firedPage hu x.seq q) x.members h
  have hdone := State.released_put hfired (q := .glb) (f := GLB.CGRP_STAT_DONE.at g) (Nat.le_refl 29) 1
  have hseq := State.released_put hdone (q := .glb) (f := GLB.CGRP_STAT_SEQ_LIVE.at g) (show 0 + 12 ≤ 29 by decide) x.seq
  have hraise := State.released_put hseq (q := .glb) (f := GLB.INT_STAT_CGRP_DONE) (by decide) 1
  unfold State.grpDone
  dsimp only
  refine State.released_with_groups ?_ _
  rw [State.puts_cons, State.puts_cons, State.puts_nil, State.raise_eq]
  exact hraise

theorem State.released_complete {s : State} {p : Page} (h : s.released p) : s.complete.released p := by
  unfold State.complete
  dsimp only
  refine State.released_foldl ?_ _ (State.released_foldl ?_ _ h)
  · exact fun u e hu => State.released_grpDone hu e.1 e.2
  · intro u e hu
    have hdrop := State.released_noteFreed (State.released_dropArm hu e.2.page) e.2.page e.2.grp.isSome
    split
    · exact State.released_firedPage hdrop _ _
    · exact hdrop

/-- The page's own arm is withdrawn and it leaves its group (R54 step 1). -/
def State.withdrawn (s : State) (p : Page) : State :=
  (((s.suppress p).dropArm p).put p HDR.COMMIT_GRP_JOIN 0).leaveGroup p

theorem State.released_withdrawn (s : State) (p : Page) : (s.withdrawn p).released p := by
  have hput : (((s.suppress p).dropArm p).put p HDR.COMMIT_GRP_JOIN 0).released p :=
    ⟨by rw [State.armOf_put, State.armOf_dropArm_same], State.get_put_same _ _ _ _ (by decide)⟩
  unfold State.withdrawn State.leaveGroup
  exact State.released_complete (State.released_with_groups hput _)

/-- The event of FUNC_INIT is offered, and normal service ends (R54 step 2). -/
def State.initOffered (s : State) (p : Page) (m : Master) : State := ((s.withdrawn p).offer p 0x0005 m.num 0).unusual

/-- FUNC_INIT begins, and reads 1 (R54 step 2). -/
def State.initBegun (s : State) (p : Page) (m : Master) : State :=
  ({ s.initOffered p m with busy := (s.initOffered p m).busy ++ [p] } : State).put p HDR.PAGE_CTRL_FUNC_INIT 1

section
variable (s : State) (x : List Page)

theorem State.armOf_with_busy (p : Page) : ({ s with busy := x } : State).armOf p = s.armOf p := (rfl)
theorem State.get_with_busy (p : Page) (f : Fld) : ({ s with busy := x } : State).get p f = s.get p f := (rfl)

end

/-- FUNC_INIT of a page that does not run yet. -/
theorem State.funcInit_eq {s : State} {p : Page} (h : s.busy.contains p = false) (m : Master) :
    s.funcInit p m = (((s.initBegun p m).pageStop p).poolSync s [p]).follow' := by
  unfold State.funcInit
  rw [h]
  rfl

/-- What holds once FUNC_INIT has begun. -/
theorem State.initBegun_spec (s : State) (p : Page) (m : Master) :
    p ∈ (s.initBegun p m).busy ∧ (s.initBegun p m).armOf p = none ∧ (s.initBegun p m).get p HDR.COMMIT_GRP_JOIN = 0 ∧
      (s.initBegun p m).get p HDR.PAGE_CTRL_FUNC_INIT = 1 ∧ (s.initBegun p m).normal = false := by
  obtain ⟨harm, hjoin⟩ := s.released_withdrawn p
  have hoff : p.base + HDR.COMMIT_GRP_JOIN.off ≠ p.base + HDR.PAGE_CTRL_FUNC_INIT.off := p.base_add_ne_of_off p (by decide)
    (by decide) (by decide)
  have hlost : p.base + HDR.COMMIT_GRP_JOIN.off ≠ Page.base .evr + EVR.LOST_CNT.off := p.base_add_ne_of_off _ (by decide)
    (by decide) (by decide)
  refine ⟨?_, ?_, ?_, ?_, ?_⟩
  · rw [State.initBegun, State.put_busy]
    exact List.mem_append_right _ (List.mem_singleton.mpr rfl)
  · rw [State.initBegun, State.armOf_put, State.armOf_with_busy, State.initOffered, State.armOf_unusual,
      State.armOf_congr (State.offer_arms ..), harm]
  · rw [State.initBegun, State.get_put_word _ _ _ _ _ _ hoff, State.get_with_busy, State.initOffered, State.get_unusual,
      State.get, State.word_offer_ne _ _ _ _ _ hlost]
    exact hjoin
  · rw [State.initBegun, State.get_put_same _ _ _ _ (by decide)]
    rfl
  · rw [State.initBegun, State.put_normal]
    rfl

/-- PAGE_CTRL and COMMIT of a page are kept. -/
theorem commandWord_base_add_of_off (p : Page) {o : Nat} (h : o = 0x004 ∨ o = 0x020) : commandWord (p.base + o) = true := by
  have hlt := p.base_lt
  have hmod := p.base_add_mod (o := o) (by omega)
  simp only [commandWord, Bool.and_eq_true, Bool.or_eq_true, decide_eq_true_eq, hmod]
  exact ⟨by omega, h⟩

theorem farWord_base_add_of_off (p : Page) {o : Nat} (h : o = 0x004 ∨ o = 0x020) : farWord (p.base + o) = true := by
  rw [farWord, commandWord_base_add_of_off p h, Bool.true_or]

/-- The pool counters are none of what is kept. -/
theorem State.kept_poolSync (live : Bool) (K : Nat → Bool) (s old : State) (ps : List Page) :
    (s.poolSync old ps).kept live K = s.kept live K := by
  obtain ⟨x, h⟩ := s.poolSync_pooled old ps
  rw [h]
  rfl

/-- The rest of FUNC_INIT's write keeps what its beginning has set. -/
theorem State.funcInit_spec {s : State} {p : Page} (h : s.busy.contains p = false) (m : Master) :
    p ∈ (s.funcInit p m).settle.busy ∧ (s.funcInit p m).settle.armOf p = none ∧
      (s.funcInit p m).settle.get p HDR.COMMIT_GRP_JOIN = 0 ∧ (s.funcInit p m).settle.get p HDR.PAGE_CTRL_FUNC_INIT = 1 ∧
      (s.funcInit p m).settle.normal = false := by
  obtain ⟨hbusy, harm, hjoin, hinit, hnormal⟩ := s.initBegun_spec p m
  have hfollow := State.kept_follow' (((s.initBegun p m).pageStop p).poolSync s [p])
  rw [State.kept_poolSync] at hfollow
  have hstop := (s.initBegun p m).kept_pageStop p
  rw [State.funcInit_eq h]
  refine ⟨?_, ?_, ?_, ?_, ?_⟩
  · rw [State.settle_busy, State.busy_of_kept hfollow, State.busy_of_kept hstop]
    exact hbusy
  · rw [State.armOf_settle, State.armOf_of_kept hfollow, State.armOf_of_kept hstop, harm]
  · rw [State.get_settle_commit _ _ (.inl rfl), State.get_of_kept hfollow (farWord_base_add_of_off p (.inr rfl)),
      State.get_of_kept hstop (commandWord_base_add_of_off p (.inr rfl)), hjoin]
  · rw [State.get_settle _ (p.base_add_ne_of_off _ (by decide) (by decide) (by decide)),
      State.get_of_kept hfollow (farWord_base_add_of_off p (.inl rfl)),
      State.get_of_kept hstop (commandWord_base_add_of_off p (.inl rfl)), hinit]
  · rw [State.settle_normal, State.normal_of_kept hfollow, State.normal_of_kept hstop, hnormal]

theorem exec_funcInit (s : State) (t : Nat) (m : Master) (p : Page) :
    exec (.funcInit t m p) s = .next (s.run t (fun u =>
      u.pageWrite m p 0x004 (2 ||| (u.word (p.base + 4) &&& 1)) ⟨true, true⟩)) := rfl

/-- The value that FUNC_INIT's command writes has bit 1 set. -/
theorem bit1_initWord (w : Word) : bitAt (2 ||| (w &&& 1)).toNat 1 = 1 := by
  rw [bitAt_eq_bits]
  refine bits_one_of_testBit ?_
  rw [BitVec.toNat_or, Nat.testBit_or]
  exact Bool.or_eq_true_iff.mpr (.inl rfl)

/-- A stored word changes no page's FUNC_INIT. -/
theorem State.store_busy (s : State) (p : Page) (a : Nat) (v : Word) : (s.store p a v).busy = s.busy := by
  unfold State.store
  dsimp only
  split
  · rw [State.lockedWrite, State.addSat_busy, State.setWord_busy]
  · rw [State.setWord_busy]

/-- A taken write of FUNC_INIT begins it. -/
theorem State.run_funcInit {s : State} {m : Master} {p : Page} (h : s.takes m p 0x004) (t : Nat) :
    ∃ u : State, u.busy = s.busy ∧
      s.run t (fun u => u.pageWrite m p 0x004 (2 ||| (u.word (p.base + 4) &&& 1)) ⟨true, true⟩) =
        (u.funcInit p m).settle := by
  refine ⟨(s.accessed t m).store p (p.base + 0x004) (2 ||| ((s.begin t).word (p.base + 4) &&& 1)), ?_, ?_⟩
  · rw [State.store_busy, State.accessed_busy]
  · rw [State.run_pageWrite h t (fun u => 2 ||| (u.word (p.base + 4) &&& 1)), State.write_header _ _ _ (by decide)]
    simp only [State.hdrAction, if_true, bit1_initWord]

end Sys2Proof.Machine
end

section
/-! FUNC_INIT of a page (R54): what its completion leaves. -/

namespace Sys2Proof.Machine

/-! ### The words that return to reset -/

/-- The bits of the configuration fields of the word at `a`. -/
def cfgMask (a : Nat) : Word := BitVec.ofNat 32 (maskOf (fun t => t == Ty.rw || t == Ty.rws) a)

/-- A word of value `w` at `a` with its configuration fields at reset. -/
def resetCfgBits (a : Nat) (w : Word) : Word := (w &&& ~~~cfgMask a) ||| (resetOf a &&& cfgMask a)

theorem resetCfgBits_idem (a : Nat) (w : Word) : resetCfgBits a (resetCfgBits a w) = resetCfgBits a w := by
  ext i
  simp only [resetCfgBits, BitVec.getElem_or, BitVec.getElem_and, BitVec.getElem_not]
  cases (cfgMask a)[i] <;> simp

theorem resetCfgBits_resetOf (a : Nat) : resetCfgBits a (resetOf a) = resetOf a := by
  ext i
  simp only [resetCfgBits, BitVec.getElem_or, BitVec.getElem_and, BitVec.getElem_not]
  cases (cfgMask a)[i] <;> simp

theorem State.resetWord_eq (s : State) (a : Nat) :
    s.resetWord a = (s.setWord a (resetCfgBits a (s.word a))).setLword a (resetOf a) := (rfl)

theorem State.word_resetWord_same (s : State) (a : Nat) : (s.resetWord a).word a = resetCfgBits a (s.word a) := by
  rw [State.resetWord_eq, State.word_setLword, State.word_setWord_same]

theorem State.lword_resetWord_same (s : State) (a : Nat) : (s.resetWord a).lword a = resetOf a := by
  rw [State.resetWord_eq, State.lword_setLword_same]

theorem State.word_resetWord_ne (s : State) {a x : Nat} (h : x ≠ a) : (s.resetWord a).word x = s.word x := by
  rw [State.resetWord_eq, State.word_setLword, State.word_setWord_ne _ h]

theorem State.lword_resetWord_ne (s : State) {a x : Nat} (h : x ≠ a) : (s.resetWord a).lword x = s.lword x := by
  rw [State.resetWord_eq, State.lword_setLword_ne _ h, State.lword_setWord]

/-- The live word and the word of `x` are those that reset makes of `s`. -/
def State.cfgReset (u s : State) (x : Nat) : Prop := u.lword x = resetOf x ∧ u.word x = resetCfgBits x (s.word x)

theorem State.cfgReset_resetWord {u s : State} {x : Nat} (h : u.cfgReset s x) (a : Nat) : (u.resetWord a).cfgReset s x := by
  obtain ⟨hlive, hword⟩ := h
  by_cases ha : x = a
  · subst ha
    exact ⟨u.lword_resetWord_same x, by rw [u.word_resetWord_same, hword, resetCfgBits_idem]⟩
  · exact ⟨by rw [u.lword_resetWord_ne ha, hlive], by rw [u.word_resetWord_ne ha, hword]⟩

theorem State.cfgReset_foldl {u s : State} {x : Nat} (h : u.cfgReset s x) (l : List Nat) :
    (l.foldl State.resetWord u).cfgReset s x := by
  induction l generalizing u with
  | nil => exact h
  | cons a l ih => exact ih (State.cfgReset_resetWord h a)

/-- A word among those that are reset is at reset afterwards. -/
theorem State.cfgReset_of_mem {s : State} {l : List Nat} {x : Nat} (h : x ∈ l) : (l.foldl State.resetWord s).cfgReset s x := by
  induction l generalizing s with
  | nil => exact absurd h List.not_mem_nil
  | cons a l ih =>
    by_cases ha : x = a
    · subst ha
      exact State.cfgReset_foldl ⟨s.lword_resetWord_same x, s.word_resetWord_same x⟩ l
    · obtain ⟨hlive, hword⟩ := ih (s := s.resetWord a) ((List.mem_cons.mp h).resolve_left ha)
      exact ⟨hlive, by rw [List.foldl_cons, hword, State.word_resetWord_ne _ ha]⟩

theorem State.cfgReset_of_resetOf {s : State} {x : Nat} (hword : s.word x = resetOf x) (hlive : s.lword x = resetOf x) :
    s.cfgReset s x := ⟨hlive, by rw [hword, resetCfgBits_resetOf]⟩

/-! ### The words of a page -/

theorem mem_insertNat_of {l : List Nat} {n x : Nat} (h : x = n ∨ x ∈ l) : x ∈ insertNat l n := by
  induction l with
  | nil => exact List.mem_singleton.mpr (h.resolve_right List.not_mem_nil)
  | cons y r ih =>
    unfold insertNat
    split
    · exact List.mem_cons.mpr h
    · split
      · next hy => exact h.elim (fun hx => by rw [hx, hy]; exact List.mem_cons_self) id
      · rcases h with h | h
        · exact List.mem_cons_of_mem _ (ih (.inl h))
        · exact List.mem_cons.mpr ((List.mem_cons.mp h).imp id fun h => ih (.inr h))

theorem mem_foldl_insertNat_of {l r : List Nat} {x : Nat} (h : x ∈ l ∨ x ∈ r) : x ∈ l.foldl insertNat r := by
  induction l generalizing r with
  | nil => exact h.resolve_left List.not_mem_nil
  | cons y l ih =>
    refine ih ?_
    rcases h with h | h
    · exact (List.mem_cons.mp h).elim (fun e => .inr (mem_insertNat_of (.inl e))) .inl
    · exact .inr (mem_insertNat_of (.inr h))

/-- A key that a table does not list holds the default. -/
theorem Tab.get_of_unlisted {α : Type} {t : Tab α} {k : Nat} (h : ∀ e ∈ t, e.1 ≠ k) (d : α) : t.get k d = d := by
  induction t with
  | nil => rfl
  | cons e r ih =>
    rw [Tab.get, if_neg (h e List.mem_cons_self)]
    exact ih fun e he => h e (List.mem_cons_of_mem _ he)

/-- A word of a range that is not listed is at reset, live and shadow. -/
theorem State.resetOf_of_unlisted {s : State} {lo hi x : Nat} (hlo : lo ≤ x) (hhi : x < hi) (h : x ∉ s.listed lo hi) :
    s.word x = resetOf x ∧ s.lword x = resetOf x := by
  have hkeys : ∀ e ∈ s.sh ++ s.lv, e.1 ≠ x := by
    intro e he hx
    refine h (mem_foldl_insertNat_of (.inl (List.mem_filterMap.mpr ⟨e, he, ?_⟩)))
    simp only [hx, hlo, hhi, decide_true, Bool.and_self, if_true]
  exact ⟨Tab.get_of_unlisted (fun e he => hkeys e (List.mem_append_left _ he)) _,
    Tab.get_of_unlisted (fun e he => hkeys e (List.mem_append_right _ he)) _⟩

/-! ### The pages without a function of their own -/

/-- The tables of the XWP map, of the CLS bays and of the engines' colour pages are those of pages without a function of
their own; a word of one lies in the page's ranges. -/
theorem exists_pageRange_of_table {t : Table} {p : Page} {x : Nat} (hp : initlessPage p = true) (ht : t ∈ tables)
    (hlo : t.base ≤ x) (hhi : x < t.base + t.size) (h : t.owner (x - t.base) = some p) :
    ∃ r ∈ pageRanges p, r.1 ≤ x ∧ x < r.2 := by
  simp only [tables, List.mem_cons, List.not_mem_nil, or_false] at ht
  rcases ht with rfl | rfl | rfl | rfl | rfl | rfl | rfl | rfl | rfl | rfl | rfl | rfl | rfl
  · cases h; exact nomatch hp
  · cases h; exact nomatch hp
  · cases h; exact ⟨(0x0200C000, 0x02016100), List.mem_cons_of_mem _ List.mem_cons_self, hlo, hhi⟩
  · obtain ⟨k, -, rfl⟩ := Option.map_eq_some_iff.mp h; exact nomatch hp
  · obtain ⟨k, hk, rfl⟩ := Option.map_eq_some_iff.mp h
    have hbay := idx?_eq_some hk
    refine ⟨(0x02024000 + 8192 * k.val, 0x02026000 + 8192 * k.val), List.mem_cons_of_mem _ List.mem_cons_self, ?_⟩
    dsimp only at hlo hbay ⊢
    omega
  · cases h; exact nomatch hp
  · cases h; exact nomatch hp
  · cases h; exact nomatch hp
  · cases h; exact nomatch hp
  · obtain ⟨k, -, rfl⟩ := Option.map_eq_some_iff.mp h; exact nomatch hp
  · obtain ⟨k, -, rfl⟩ := Option.map_eq_some_iff.mp h; exact nomatch hp
  · obtain ⟨k, hk, rfl⟩ := Option.map_eq_some_iff.mp h
    have heng := idx?_eq_some hk
    refine ⟨(0x02800000 + 0x48000 * k.val, 0x02848000 + 0x48000 * k.val), List.mem_cons_of_mem _ List.mem_cons_self, ?_⟩
    dsimp only at hlo heng ⊢
    omega
  · obtain ⟨k, hk, rfl⟩ := Option.map_eq_some_iff.mp h
    have heng := idx?_eq_some hk
    refine ⟨(0x03A00000 + 0xC000 * k.val, 0x03A0C000 + 0xC000 * k.val),
      List.mem_cons_of_mem _ (List.mem_cons_of_mem _ List.mem_cons_self), ?_⟩
    dsimp only at hlo heng ⊢
    omega

theorem exists_pageRange {p : Page} {x : Nat} (hp : initlessPage p = true) (h : ownerOf x = some p) :
    ∃ r ∈ pageRanges p, r.1 ≤ x ∧ x < r.2 := by
  unfold ownerOf at h
  split at h
  · have hbase := pageOf_base h
    exact ⟨(p.base, p.base + 0x1000), List.mem_cons_self, by dsimp only; omega, by dsimp only; omega⟩
  · obtain ⟨t, ht, howner⟩ := Option.bind_eq_some_iff.mp h
    have hin := List.find?_some ht
    simp only [Bool.and_eq_true, decide_eq_true_eq] at hin
    exact exists_pageRange_of_table hp (List.mem_of_find?_eq_some ht) hin.1 hin.2 howner

theorem keptByInit_of_initless {p : Page} (hp : initlessPage p = true) (o : Nat) : keptByInit p o = false := by
  cases p with
  | tick | gmc | xwpMap | engComp _ | engColour _ | cls _ => rfl
  | _ => exact nomatch hp

/-- The words of a page without a function of its own outside the common header are at reset after `resetCfg`. -/
theorem State.cfgReset_resetCfg {p : Page} {x : Nat} (hp : initlessPage p = true) (howner : ownerOf x = some p)
    (hx : 0x02000000 ≤ x ∨ 0x040 ≤ x % 4096) (s : State) : (s.resetCfg p).cfgReset s x := by
  obtain ⟨r, hr, hlo, hhi⟩ := exists_pageRange hp howner
  by_cases hlisted : x ∈ s.listed r.1 r.2
  · refine State.cfgReset_of_mem (List.mem_filter.mpr ⟨List.mem_flatMap.mpr ⟨r, hr, hlisted⟩, ?_⟩)
    simp only [keptByInit_of_initless hp, Bool.not_false, Bool.and_true, Bool.or_eq_true, decide_eq_true_eq, or_assoc]
    exact .inr hx
  · obtain ⟨hword, hlive⟩ := State.resetOf_of_unlisted hlo hhi hlisted
    exact State.cfgReset_foldl (State.cfgReset_of_resetOf hword hlive) _

theorem State.cfgReset_congr {u v s : State} {x : Nat} (h : u.cfgReset s x) (hword : v.word x = u.word x)
    (hlive : v.lword x = u.lword x) : v.cfgReset s x := by
  rw [State.cfgReset, hword, hlive]
  exact h

/-! ### The completion -/

/-- The page's function enters its state at completion. -/
def State.initEntered (s : State) (p : Page) : State :=
  ((match p with
    | .time => s.resetCfg p
    | _ => (s.resetCfg p).pageFired s p).pageInit p).serIdles [p]

/-- FUNC_INIT ends, and reads 0 (R54 step 5). -/
def State.initEnded (s : State) (p : Page) : State :=
  ({ s.initEntered p with busy := (s.initEntered p).busy.filter (· ≠ p) } : State).put p HDR.PAGE_CTRL_FUNC_INIT 0

theorem State.funcInitDone_eq {s : State} {p : Page} (h : p ∈ s.busy) :
    s.funcInitDone p = ((s.initEnded p).sweep.poolSync s [p]).follow' := by
  unfold State.funcInitDone
  rw [List.contains_iff_mem.mpr h]
  rfl

theorem State.initEnded_busy (s : State) (p : Page) : p ∉ (s.initEnded p).busy := by
  rw [State.initEnded, State.put_busy]
  exact fun hmem => of_decide_eq_true (List.mem_filter.mp hmem).2 rfl

theorem State.busy_sweep (s : State) : s.sweep.busy = s.busy := (rfl)
theorem State.lv_sweep (s : State) : s.sweep.lv = s.lv := (rfl)
theorem State.word_sweep (s : State) (x : Nat) : s.sweep.word x = s.word x := (rfl)

/-- What follows FUNC_INIT's end keeps the words outside the pages that follow others, and the live words. -/
theorem State.kept_funcInitDone {s : State} {p : Page} (h : p ∈ s.busy) :
    (s.funcInitDone p).busy = (s.initEnded p).busy ∧ (s.funcInitDone p).lv = (s.initEnded p).lv ∧
      ∀ x, farWord x = true → (s.funcInitDone p).word x = (s.initEnded p).word x := by
  have hfollow := State.kept_follow' ((s.initEnded p).sweep.poolSync s [p])
  rw [State.kept_poolSync] at hfollow
  rw [State.funcInitDone_eq h]
  exact ⟨(State.busy_of_kept hfollow).trans (State.busy_sweep _), (State.lv_of_kept hfollow).trans (State.lv_sweep _),
    fun x hx => (State.word_of_kept hfollow hx).trans (State.word_sweep _ x)⟩

/-- A page without a function of its own enters no state. -/
theorem State.initEntered_of_initless {p : Page} (hp : initlessPage p = true) (s : State) (x : Nat) :
    (s.initEntered p).word x = (s.resetCfg p).word x ∧ (s.initEntered p).lword x = (s.resetCfg p).lword x := by
  cases p with
  | tick | gmc | xwpMap | engComp _ | engColour _ | cls _ => exact ⟨rfl, rfl⟩
  | _ => exact nomatch hp

theorem followPage_of_initless {p : Page} (hp : initlessPage p = true) : followPage p = false := by
  cases p with
  | tick | gmc | xwpMap | engComp _ | engColour _ | cls _ => rfl
  | _ => exact nomatch hp

/-- After the completion of FUNC_INIT of a page without a function of its own, its words outside the common header are
at reset. -/
theorem State.cfgReset_funcInitDone {s : State} {p : Page} {x : Nat} (h : p ∈ s.busy) (hp : initlessPage p = true)
    (howner : ownerOf x = some p) (hx : 0x02000000 ≤ x ∨ 0x040 ≤ x % 4096) : (s.funcInitDone p).cfgReset s x := by
  obtain ⟨-, hlv, hword⟩ := State.kept_funcInitDone h
  obtain ⟨hentered, henteredLive⟩ := State.initEntered_of_initless hp s x
  have hfar : farWord x = true := by
    rw [farWord, howner, Option.any_some, followPage_of_initless hp, Bool.not_false, Bool.or_true]
  have hctrl : x ≠ p.base + HDR.PAGE_CTRL_FUNC_INIT.off := by
    have := p.base_lt
    have := p.base_add_mod (o := HDR.PAGE_CTRL_FUNC_INIT.off) (by decide)
    have : HDR.PAGE_CTRL_FUNC_INIT.off = 4 := rfl
    omega
  refine State.cfgReset_congr (State.cfgReset_resetCfg hp howner hx s) ?_ ?_
  · rw [hword x hfar, State.initEnded, State.word_put_ne _ _ _ _ hctrl]
    exact hentered
  · rw [State.lword, hlv]
    exact henteredLive

/-- A word of a page without a function of its own is none of another page's. -/
theorem ne_base_add_of_initless {p q : Page} {x o : Nat} (hp : initlessPage p = true) (howner : ownerOf x = some p)
    (hq : initlessPage q = false) (ho : o < 0x1000) : x ≠ q.base + o := by
  rintro rfl
  rw [ownerOf_base_add q ho] at howner
  cases howner
  exact Bool.noConfusion (hp.symm.trans hq)

theorem not_mem_timeWords_of_initless {p : Page} {x : Nat} (hp : initlessPage p = true) (howner : ownerOf x = some p) :
    x ∉ timeWords := by
  simp only [timeWords, List.mem_cons, List.not_mem_nil, or_false, not_or]
  exact ⟨ne_base_add_of_initless hp howner rfl (by decide), ne_base_add_of_initless hp howner rfl (by decide),
    ne_base_add_of_initless hp howner rfl (by decide)⟩

theorem State.initEnded_get (s : State) (p : Page) : (s.initEnded p).get p HDR.PAGE_CTRL_FUNC_INIT = 0 :=
  State.get_put_same _ _ _ _ (by decide)

theorem exec_funcInitComplete {s : State} (h : s.boot.hold = 0) (t : Nat) (p : Page) :
    exec (.funcInitComplete t p) s = .next ((s.begin t).funcInitDone p).settle :=
  congrArg _ (State.run_eq h t (fun u => u.funcInitDone p))

/-- Settles O7: the write of FUNC_INIT releases the page before it begins, and what follows keeps COMMIT and the arms; its
completion resets every listed word of the page, and the words that no table lists are at reset. -/
theorem funcInitEmptiesAPage : Obligations.FuncInitEmptiesAPage := by
  unfold Obligations.FuncInitEmptiesAPage
  refine ⟨fun s t m p htakes hbusy => ?_, fun s t p hhold hbusy => ?_⟩
  · obtain ⟨u, hu, hrun⟩ := State.run_funcInit htakes t
    exact ⟨_, (exec_funcInit s t m p).trans (congrArg _ hrun), State.funcInit_spec (by rw [hu, hbusy]) m⟩
  · have hbegun : p ∈ (s.begin t).busy := by rw [State.begin_busy]; exact hbusy
    obtain ⟨hended, -, hword⟩ := State.kept_funcInitDone hbegun
    refine ⟨_, exec_funcInitComplete hhold t p, ?_, ?_, fun hp x howner _ hx => ?_⟩
    · rw [State.settle_busy, hended]
      exact State.initEnded_busy _ _
    · rw [State.get_settle _ (p.base_add_ne_of_off _ (by decide) (by decide) (by decide))]
      refine Eq.trans ?_ ((s.begin t).initEnded_get p)
      rw [State.get, State.get, hword (p.base + HDR.PAGE_CTRL_FUNC_INIT.off) (farWord_base_add_of_off p (.inl rfl))]
    · obtain ⟨hlive, hreset⟩ := State.cfgReset_funcInitDone hbegun hp howner hx
      have hsent : x ≠ Page.base .hif + HIF.MSIX_SENT.off := ne_base_add_of_initless hp howner rfl (by decide)
      rw [State.lword_settle, State.word_settle_ne _ hsent, hreset,
        State.word_begin_ne _ _ (not_mem_timeWords_of_initless hp howner)]
      exact ⟨hlive, rfl⟩

end Sys2Proof.Machine
end

section
/-! SUPPORT. Reads that are answered with data (R8, R359, R376): what the answer of an access rests on, and the data that goes out. -/

namespace Sys2Proof.Machine

/-- `u` answers accesses as `s` does: the owed errors, the debug lock and the words of the UPD page (the start-up phase and the
session) are the same. -/
structure State.SameGate (s u : State) : Prop where
  bus : u.bus = s.bus
  otp : u.otp = s.otp
  keys : u.keys = s.keys
  upd : ∀ o < 0x1000, u.word (Page.base .upd + o) = s.word (Page.base .upd + o)

/-- The passage of time changes words of the TIME page alone. -/
theorem not_mem_timeWords_of_page {p : Page} {o : Nat} (hp : p ≠ .time) (ho : o < 0x1000) : p.base + o ∉ timeWords := by
  simp only [timeWords, List.mem_cons, List.not_mem_nil, or_false, not_or]
  exact ⟨Page.base_add_ne_of_page ho (by decide) hp, Page.base_add_ne_of_page ho (by decide) hp,
    Page.base_add_ne_of_page ho (by decide) hp⟩

theorem State.SameGate.refl (s : State) : s.SameGate s := ⟨rfl, rfl, rfl, fun _ _ => rfl⟩

theorem State.SameGate.trans {s u v : State} (h : s.SameGate u) (k : u.SameGate v) : s.SameGate v :=
  ⟨k.bus.trans h.bus, k.otp.trans h.otp, k.keys.trans h.keys, fun o ho => (k.upd o ho).trans (h.upd o ho)⟩

/-- A field of another page plays no part in the answer. -/
theorem State.sameGate_put (s : State) {p : Page} {f : Fld} (hp : p ≠ .upd) (hf : f.off < 0x1000) (v : Nat) :
    s.SameGate (s.put p f v) :=
  ⟨rfl, rfl, rfl, fun _ ho => State.word_put_ne _ _ _ _ (Page.base_add_ne_of_page ho hf hp.symm)⟩

/-- The passage of time plays no part in the answer. -/
theorem State.sameGate_begin (s : State) (t : Nat) : s.SameGate (s.begin t) :=
  ⟨s.begin_bus t, s.begin_otp t, s.begin_keys t,
    fun _ ho => State.word_begin_ne s t (not_mem_timeWords_of_page (by decide) ho)⟩

theorem State.sameGate_modLane (s : State) (n : LaneNo) (g : Lane → Lane) : s.SameGate (s.modLane n g) :=
  ⟨rfl, rfl, rfl, fun _ _ => rfl⟩

theorem State.sameGate_received (s : State) (m : Master) : s.SameGate (s.received m) := by
  unfold State.received
  split
  · exact s.sameGate_put (by decide) (by decide) _
  · exact .refl s

theorem State.SameGate.owesError_eq {s u : State} (h : s.SameGate u) (m : Master) : u.owesError m = s.owesError m := by
  rw [State.owesError, h.bus, State.owesError]

theorem State.SameGate.denied_eq {s u : State} (h : s.SameGate u) (m : Master) (write : Bool) (a strobes : Nat) :
    u.denied m write a strobes = s.denied m write a strobes := by
  have hget : ∀ f : Fld, f.off < 0x1000 → u.get .upd f = s.get .upd f := fun f hf => by
    rw [State.get, h.upd _ hf, State.get]
  have hphase : u.phase = s.phase := hget _ (by decide)
  have howner : u.sessOwner = s.sessOwner := hget _ (by decide)
  have hopen : u.sessOpen = s.sessOpen := by rw [State.sessOpen, hget _ (by decide), State.sessOpen]
  simp only [State.denied, State.debugOpen, State.may, State.ownerAt, hphase, hopen, howner, h.otp, h.keys]

/-- A read that is answered returns the data of its word. -/
theorem State.busRead_of_gives {s u : State} {m : Master} {a : Nat} (h : s.gives m a) (hu : s.SameGate u) (ha : a % 4 = 0) :
    u.busRead m a = ((u.received m).readAt a).2.emit (.readData m ((u.received m).readAt a).1) := by
  obtain ⟨-, howes, hdenied⟩ := h
  have hgate := hu.trans (u.sameGate_received m)
  have hword : a / 4 * 4 = a := by omega
  unfold State.busRead
  simp only [hword, hgate.owesError_eq, howes, hgate.denied_eq, hdenied, Bool.false_eq_true, if_false]

theorem State.out_emit (s : State) (e : Emit) : (s.emit e).out = s.out ++ [e] := rfl
@[simp] theorem State.get_emit (s : State) (e : Emit) (p : Page) (f : Fld) : (s.emit e).get p f = s.get p f := rfl

/-- Interrupt messages take nothing back of what the command emitted. -/
theorem State.mem_out_settle {s : State} {e : Emit} (h : e ∈ s.out) : e ∈ s.settle.out := by
  have hsend : ∀ (u : State) (v : Nat), e ∈ u.out → e ∈ (u.sendVec v).out := fun u v hu => by
    unfold State.sendVec
    split
    · rw [State.out_emit, State.add_out]
      exact List.mem_append_left _ hu
    · exact hu
  unfold State.settle
  generalize s.vecReq = l
  induction l generalizing s with
  | nil => exact h
  | cons v r ih => exact ih (hsend s v h)

end Sys2Proof.Machine
end

section
/-! SUPPORT. The LO words whose read captures a HI word (R93, R97, R210, R228), as one family. -/

namespace Sys2Proof.Machine

theorem State.stc_lt (s : State) : s.stc < 2 ^ 64 := by
  unfold State.stc State.stcAt
  exact Nat.mod_lt _ (Nat.two_pow_pos 64)

theorem State.mtOffShown_lt (s : State) : s.mtOffShown < 2 ^ 64 := by
  unfold State.mtOffShown wrap
  omega

/-- The registers of a lane and of the TIME page that show a number wider than a word. -/
inductive WideReg where
  | bitCnt (n : LaneNo)
  | tally (n : LaneNo)
  | stc
  | mtOff

namespace WideReg

/-- The page of the two words. -/
def page : WideReg → Page
  | bitCnt n | tally n => .lane n
  | stc | mtOff => .time

/-- The offset of the LO word. -/
def lo : WideReg → Nat
  | bitCnt _ => 0x114
  | tally _ => 0x18C
  | stc => 0x080
  | mtOff => 0x20C

/-- The field of the HI word. -/
def hi : WideReg → Fld
  | bitCnt _ => LANE.LANE_BIT_CNT_HI_BITS
  | tally _ => LANE.LANE_IGN_TALLY_RX_HI_TALLY
  | stc => TIME.STC_LIVE_HI_STC
  | mtOff => TIME.MT_OFF_HI_OFF

/-- The number that the register shows. -/
def value (s : State) : WideReg → Nat
  | bitCnt n => (s.lane n).bitCnt
  | tally n => (s.lane n).tally
  | stc => s.stc
  | mtOff => s.mtOffShown

theorem lo_word (r : WideReg) : r.lo < 0x1000 ∧ r.lo % 4 = 0 := by
  cases r <;> simp only [lo] <;> decide
theorem lo_lt (r : WideReg) : r.lo < 0x1000 := r.lo_word.1
theorem base_add_lo_mod (r : WideReg) : (r.page.base + r.lo) % 4 = 0 := by
  have := r.page.base_mod
  have := r.lo_word
  omega
theorem hi_word (r : WideReg) : r.hi.lo + r.hi.w ≤ 32 ∧ r.hi.off < 0x1000 ∧ r.hi.off ≠ HIF.MSIX_SENT.off := by
  cases r <;> simp only [hi] <;> decide
theorem hi_not_msixSent (r : WideReg) : r.page.base + r.hi.off ≠ Page.base .hif + HIF.MSIX_SENT.off :=
  Page.base_add_ne_of_off _ _ r.hi_word.2.1 (by decide) r.hi_word.2.2

/-- The number rests on the lanes and the clocks alone. -/
theorem value_congr {s u : State} (r : WideReg) (hlanes : u.lanes = s.lanes) (hclk : u.clk = s.clk) (hnow : u.now = s.now)
    (hreset : u.resetCycle = s.resetCycle) : r.value u = r.value s := by
  cases r with
  | bitCnt n | tally n => simp only [value, State.lane, hlanes]
  | stc => simp only [value, State.stc, State.stcAt, hnow, hreset]
  | mtOff => simp only [value, State.mtOffShown, hclk]

/-- TLP_RX counts a request and leaves the number. -/
theorem value_received (r : WideReg) (s : State) (m : Master) : r.value (s.received m) = r.value s := by
  unfold State.received
  split
  · exact r.value_congr (State.add_lanes ..) (State.add_clk ..) (State.add_now ..) (State.add_resetCycle ..)
  · rfl

end WideReg

/-- A read of an LO word captures the bits above it in the HI word. -/
theorem State.readEffect_wideReg (s : State) (r : WideReg) :
    s.readEffect (r.page.base + r.lo) = s.put r.page r.hi (r.value s / 2 ^ 32) := by
  have := r.page.base_lt
  have := r.lo_lt
  unfold State.readEffect
  rw [r.page.not_inMsix r.lo_lt, Bool.or_false, decide_eq_false (by omega), if_neg Bool.false_ne_true,
    r.page.base_add_div r.lo_lt, pageOf_num, r.page.base_add_mod r.lo_lt]
  cases r <;> rfl

/-- An LO word returns the number as it stands before the capture. -/
theorem readsAfter_wideReg (r : WideReg) : readsAfter (r.page.base + r.lo) = false := by
  have := r.page.base_lt
  have := r.lo_lt
  unfold readsAfter
  rw [r.page.base_add_div r.lo_lt, pageOf_num, r.page.base_add_mod r.lo_lt, ite_eq_right_iff]
  intro
  cases r <;> rfl

/-- A whole word set to a number is its low 32 bits. -/
theorem into_whole (o : Nat) (w : Word) (x : Nat) : (whole o).into w x = BitVec.ofNat 32 x := by
  refine BitVec.eq_of_toNat_eq ?_
  have hset : setBits w.toNat 0 32 x = x % 2 ^ 32 := by
    have : w.toNat / 2 ^ 32 = 0 := Nat.div_eq_of_lt w.isLt
    simp only [setBits, pow_zero, Nat.mod_one, Nat.mul_one, Nat.zero_add, this, Nat.zero_mul, Nat.add_zero]
  rw [Fld.toNat_into (whole o) _ _ (Nat.le_refl 32), BitVec.toNat_ofNat]
  exact hset

/-- An LO word mirrors no live word; the map is the same for every lane. -/
theorem mirrorOf_wideReg (r : WideReg) : mirrorOf r.page r.lo = none := by
  have hlane : mirrorOf (.lane 0) 0x114 = none ∧ mirrorOf (.lane 0) 0x18C = none := by decide +kernel
  cases r with
  | bitCnt n => exact hlane.1
  | tally n => exact hlane.2
  | stc | mtOff => decide +kernel

/-- An LO word shows the low 32 bits of its number. -/
theorem State.readWord_wideReg (s : State) (r : WideReg) :
    s.readWord (r.page.base + r.lo) = BitVec.ofNat 32 (r.value s) := by
  have := r.page.base_lt
  have := r.lo_lt
  have hshown : ∀ w, overlay w (if r.lo < 0x040 then s.shownHdr r.page r.lo else s.shownPage r.page r.lo) =
      (whole r.lo).into w (r.value s) := fun w => by cases r <;> rfl
  unfold State.readWord
  rw [r.page.not_inMsix r.lo_lt, if_neg Bool.false_ne_true, if_neg (by omega), r.page.base_add_div r.lo_lt, pageOf_num]
  simp only [r.page.base_add_mod r.lo_lt, mirrorOf_wideReg]
  rw [hshown, into_whole]

theorem State.readAt_wideReg (s : State) (r : WideReg) :
    s.readAt (r.page.base + r.lo) = (BitVec.ofNat 32 (r.value s), s.put r.page r.hi (r.value s / 2 ^ 32)) := by
  rw [State.readAt, readsAfter_wideReg, if_neg Bool.false_ne_true, State.readWord_wideReg, State.readEffect_wideReg]

end Sys2Proof.Machine
end

section
/-! Reads of LO words (R93, R97, R210, R228): O28. -/

namespace Sys2Proof.Machine

/-- An answered read of an LO word, after an effect `f` that plays no part in the answer, returns the low word of the number and
captures the bits above it, where the two hold it. -/
theorem State.run_wideReg_read {s : State} {m : Master} {r : WideReg} (h : s.gives m (r.page.base + r.lo)) (t : Nat)
    {f : State → State} (hf : (s.begin t).SameGate (f (s.begin t))) {x : Nat} (hx : r.value (f (s.begin t)) = x)
    (hfits : x < 2 ^ (32 + r.hi.w)) :
    Emit.readData m (BitVec.ofNat 32 x) ∈ (s.run t (fun u => (f u).busRead m (r.page.base + r.lo))).out ∧
      (s.run t (fun u => (f u).busRead m (r.page.base + r.lo))).get r.page r.hi = x / 2 ^ 32 := by
  have hhi : x / 2 ^ 32 < 2 ^ r.hi.w := Nat.div_lt_of_lt_mul (by rwa [← pow_add])
  rw [State.run_eq h.1, State.busRead_of_gives h ((s.sameGate_begin t).trans hf) r.base_add_lo_mod, State.readAt_wideReg,
    r.value_received, hx]
  refine ⟨State.mem_out_settle (List.mem_append_right _ List.mem_cons_self), ?_⟩
  rw [State.get_settle _ r.hi_not_msixSent, State.get_emit, State.get_put_same _ _ _ _ r.hi_word.1, Nat.mod_eq_of_lt hhi]

/-- The checker's counts play no part in the answer of an access. -/
theorem State.sameGate_chkCount (s : State) (n : LaneNo) (nbits errs : Nat) : s.SameGate (s.chkCount n nbits errs) := by
  unfold State.chkCount
  split
  · exact .refl s
  · have hput : ∀ (u : State) (f : Fld) (v : Nat), f.off < 0x1000 → u.SameGate (u.put (.lane n) f v) :=
      fun u _ v hf => u.sameGate_put Page.noConfusion hf v
    exact (hput s LANE.LANE_ERR_CNT_ERR _ (by decide)).trans
      ((hput _ LANE.LANE_BIT_CNT_LO_BITS _ (by decide)).trans (State.sameGate_modLane _ n _))

/-- A locked checker counts the bits that it has compared, saturating (R92). -/
theorem State.bitCnt_chkCount {s : State} {n : LaneNo} (h : s.get (.lane n) LANE.LANE_PRBS_CHK_LOCKED = 1) (nbits errs : Nat) :
    ((s.chkCount n nbits errs).lane n).bitCnt = sat 48 ((s.lane n).bitCnt + nbits) := by
  rw [State.chkCount, if_neg (by rw [h]; decide)]
  exact congrArg Lane.bitCnt (Tab.get_set_same _ _ _ _)

theorem State.get_begin_of_page (s : State) (t : Nat) {p : Page} {f : Fld} (hp : p ≠ .time) (hf : f.off < 0x1000) :
    (s.begin t).get p f = s.get p f := by
  rw [State.get, State.word_begin_ne s t (not_mem_timeWords_of_page hp hf), State.get]

@[simp] theorem State.begin_lane (s : State) (t : Nat) (n : LaneNo) : (s.begin t).lane n = s.lane n := by
  rw [State.lane, State.begin_lanes, State.lane]

@[simp] theorem State.running_begin (s : State) (t : Nat) (p : Page) : (s.begin t).running p = s.running p := by
  rw [State.running, State.live, State.lword_begin, State.begin_busy, State.running, State.live]

/-- Settles O28: each of the four reads is the read of a wide register (`State.run_wideReg_read`); the bit count is first brought up to
the bits compared, and the count, the tally, the STC and MT_OFF each fit their two words. -/
theorem lowWordReadsCaptureHighWords : Obligations.LowWordReadsCaptureHighWords := by
  unfold Obligations.LowWordReadsCaptureHighWords
  refine ⟨fun s t m n nbits errs h hrun hlock => ⟨_, rfl, ?_⟩, fun s t m n h hlt => ⟨_, rfl, ?_⟩,
    fun s t m h => ⟨_, rfl, ?_⟩, fun s t m h => ⟨_, rfl, ?_⟩⟩
  · have hrun' : (s.begin t).running (.lane n) = true := (s.running_begin t _).trans hrun
    refine State.run_wideReg_read (r := .bitCnt n) h t
      (f := fun u => if u.running (.lane n) then u.chkCount n nbits errs else u) ?_ ?_ (sat_lt _ _)
    · simp only [hrun', if_true]
      exact State.sameGate_chkCount _ _ _ _
    · simp only [hrun', if_true]
      rw [← s.begin_lane t n]
      exact State.bitCnt_chkCount ((s.get_begin_of_page t Page.noConfusion (by decide)).trans hlock) nbits errs
  · exact State.run_wideReg_read (r := .tally n) h t (f := id) (.refl _) (congrArg Lane.tally (s.begin_lane t n)) hlt
  · exact State.run_wideReg_read (r := .stc) h t (f := id) (.refl _) rfl (State.stc_lt _)
  · exact State.run_wideReg_read (r := .mtOff) h t (f := id) (.refl _) rfl (State.mtOffShown_lt _)

end Sys2Proof.Machine
end

section
/-! SUPPORT. The words of a page, and several fields of it set at once: what a field reads after them. -/

namespace Sys2Proof

/-- Fields that share no bit of a page: another word, or other bits of the word. -/
abbrev Fld.Apart (f g : Fld) : Prop := g.off ≠ f.off ∨ g.lo + g.w ≤ f.lo ∨ f.lo + f.w ≤ g.lo

theorem Fld.Apart.symm {f g : Fld} (h : f.Apart g) : g.Apart f :=
  h.imp Ne.symm Or.symm

/-- A word of another page, or of none, is no word of page `p`. -/
theorem ne_of_not_inPage {p : Page} {a : Nat} (h : inPage p a = false) {o : Nat} (ho : o < 0x1000) : a ≠ p.base + o := by
  rintro rfl
  simp only [inPage, Bool.and_eq_false_iff, decide_eq_false_iff_not] at h
  omega

namespace Machine

/-- A field keeps its value when fields of its page that share no bit with it are set. -/
theorem State.get_puts_of_apart (s : State) (p : Page) (l : List (Fld × Nat)) {g : Fld}
    (hfits : ∀ e ∈ l, e.1.lo + e.1.w ≤ 32) (h : ∀ e ∈ l, e.1.Apart g) : (s.puts p l).get p g = s.get p g := by
  induction l generalizing s with
  | nil => rfl
  | cons e r ih =>
    rw [State.puts_cons, ih _ (fun x hx => hfits x (List.mem_cons_of_mem _ hx)) (fun x hx => h x (List.mem_cons_of_mem _ hx))]
    exact State.get_put_of_disjoint _ _ _ _ _ _ (hfits e List.mem_cons_self)
      ((h e List.mem_cons_self).imp_left fun hne heq => hne (Nat.add_left_cancel heq))

/-- Each of several fields that share no bit reads what was put into it, cut to its width. -/
theorem State.get_puts_of_mem (s : State) (p : Page) {l : List (Fld × Nat)} (hfits : ∀ e ∈ l, e.1.lo + e.1.w ≤ 32)
    (hapart : l.Pairwise fun e x => e.1.Apart x.1) {f : Fld} {v : Nat} (h : (f, v) ∈ l) :
    (s.puts p l).get p f = v % 2 ^ f.w := by
  induction l generalizing s with
  | nil => cases h
  | cons e r ih =>
    obtain ⟨he, hr⟩ := List.pairwise_cons.mp hapart
    have hfits' : ∀ x ∈ r, x.1.lo + x.1.w ≤ 32 := fun x hx => hfits x (List.mem_cons_of_mem _ hx)
    rw [State.puts_cons]
    rcases List.mem_cons.mp h with rfl | h
    · rw [State.get_puts_of_apart _ _ _ hfits' fun x hx => (he x hx).symm,
        State.get_put_same _ _ _ _ (hfits _ List.mem_cons_self)]
    · exact ih _ hfits' hr h

end Machine
end Sys2Proof
end

section
/-! SUPPORT. The refusal of an access (R376 to R378, Table 14.8): what its count, its cause and its record read, and the words
it leaves. -/

namespace Sys2Proof

theorem Master.num_lt (m : Master) : m.num < 9 := by
  cases m <;> simp only [Master.num] <;> omega

namespace Machine

/-- A denied access has one of the reasons 0 to 3, and a target of three bits (Table 14.8). -/
theorem State.lt_of_denied {s : State} {m : Master} {write : Bool} {a strobes reason target : Nat}
    (h : s.denied m write a strobes = some (reason, target)) : reason < 4 ∧ target < 8 := by
  have htarget : targetOf a < 8 := by unfold targetOf; split <;> decide
  unfold State.denied at h
  split at h
  · cases h; exact ⟨by decide, htarget⟩
  split at h
  · cases h; decide
  split at h
  · cases h; exact ⟨by decide, htarget⟩
  split at h
  · cases h; exact ⟨by decide, htarget⟩
  · cases h

/-! ### The count and the cause -/

/-- What a refusal counts and raises: ERR_CNT of the master, and ACCESS_ERR. -/
def State.errorCounts (s : State) (m : Master) : List (Fld × Nat) :=
  [(BUSM.ERR_CNT.at m.num, sat BUSM.ERR_CNT.w (s.get .busm (BUSM.ERR_CNT.at m.num) + 1)), (BUSM.INT_STAT_ACCESS_ERR, 1)]

/-- The state after the count. -/
def State.errorCounted (s : State) (m : Master) : State := s.puts .busm (s.errorCounts m)

theorem errCnt_off (m : Master) : (BUSM.ERR_CNT.at m.num).off = 0x120 + 4 * m.num := rfl

/-- The fields below 0x120 share no bit with ERR_CNT. -/
theorem errCnt_apart (m : Master) {f : Fld} (h : f.off < 0x120) : (BUSM.ERR_CNT.at m.num).Apart f :=
  .inl (by rw [errCnt_off]; omega)

theorem errCnt_off_lt (m : Master) : (BUSM.ERR_CNT.at m.num).off < 0x1000 := by
  have := m.num_lt
  rw [errCnt_off]
  omega

theorem State.forall_mem_errorCounts {s : State} {m : Master} {P : Fld → Prop} (hcnt : P (BUSM.ERR_CNT.at m.num))
    (hint : P BUSM.INT_STAT_ACCESS_ERR) : ∀ e ∈ s.errorCounts m, P e.1 := by
  simp [State.errorCounts, hcnt, hint]

theorem State.errorCounts_fits (s : State) (m : Master) : ∀ e ∈ s.errorCounts m, e.1.lo + e.1.w ≤ 32 :=
  State.forall_mem_errorCounts (P := fun f => f.lo + f.w ≤ 32) (Fld.at_fits _ _ (by decide)) (by decide)

theorem State.get_errorCounted_of_mem {s : State} {m : Master} {f : Fld} {v : Nat} (h : (f, v) ∈ s.errorCounts m) :
    (s.errorCounted m).get .busm f = v % 2 ^ f.w :=
  State.get_puts_of_mem s .busm (s.errorCounts_fits m)
    (List.pairwise_pair.mpr (errCnt_apart m (f := BUSM.INT_STAT_ACCESS_ERR) (by decide))) h

theorem State.get_errorCounted_valid (s : State) (m : Master) :
    (s.errorCounted m).get .busm BUSM.ERR_LOG_VALID = s.get .busm BUSM.ERR_LOG_VALID :=
  State.get_puts_of_apart s .busm _ (s.errorCounts_fits m)
    (State.forall_mem_errorCounts (P := fun f => f.Apart BUSM.ERR_LOG_VALID) (errCnt_apart m (by decide)) (by decide))

/-! ### The record -/

/-- The fields of ERR_LOG and ERR_ADDR (Table 14.8). -/
def errorFields : List Fld :=
  [BUSM.ERR_LOG_VALID, BUSM.ERR_LOG_MASTER, BUSM.ERR_LOG_WRITE, BUSM.ERR_LOG_REASON, BUSM.ERR_LOG_SPACE, BUSM.ERR_LOG_TARGET,
    BUSM.ERR_ADDR_LO_ADDR, BUSM.ERR_ADDR_HI_ADDR]

/-- What they record of a refused write. -/
def errorRecord (m : Master) (addr reason space target : Nat) : List (Fld × Nat) :=
  errorFields.zip [1, m.num, 1, reason, space, target, addr % 2 ^ 32, addr / 2 ^ 32]

/-- The refusal of a write, counted, and recorded while no record is held. -/
def State.errorLogged (s : State) (m : Master) (addr reason space target : Nat) : State :=
  if s.get .busm BUSM.ERR_LOG_VALID = 1 then s.errorCounted m
  else (s.errorCounted m).puts .busm (errorRecord m addr reason space target)

section
variable {m : Master} {addr reason space target : Nat}

/-- What holds of every field of the record holds of the record, whatever its values. -/
theorem forall_mem_errorRecord {P : Fld → Prop} (h : ∀ f ∈ errorFields, P f) :
    ∀ e ∈ errorRecord m addr reason space target, P e.1 :=
  fun _ he => h _ (List.of_mem_zip he).1

theorem errorRecord_fits : ∀ e ∈ errorRecord m addr reason space target, e.1.lo + e.1.w ≤ 32 :=
  forall_mem_errorRecord (P := fun f => f.lo + f.w ≤ 32) (by decide)

theorem errorRecord_apart : (errorRecord m addr reason space target).Pairwise fun e x => e.1.Apart x.1 :=
  List.Pairwise.of_map Prod.fst (fun _ _ h => h) (by decide : errorFields.Pairwise Fld.Apart)

end

section
variable (s : State) (m : Master) (addr reason space target : Nat)

/-- A refused write is counted and recorded, and answered with an error. -/
theorem State.refuse_write : s.refuse m true addr reason space target =
    (s.errorLogged m addr reason space target).emit (.accessErr m true) := by
  rw [State.errorLogged, ← s.get_errorCounted_valid m]
  unfold State.refuse
  simp only [Bool.not_true, Bool.and_false, Bool.false_eq_true, if_false]
  rfl

/-- The record leaves a field that shares no bit with it as the count left it. -/
theorem State.get_errorLogged_of_apart {f : Fld} (h : ∀ g ∈ errorFields, g.Apart f) :
    (s.errorLogged m addr reason space target).get .busm f = (s.errorCounted m).get .busm f := by
  unfold State.errorLogged
  split
  · rfl
  · exact State.get_puts_of_apart _ _ _ errorRecord_fits (forall_mem_errorRecord (P := (·.Apart f)) h)

theorem State.get_errorLogged_errCnt : (s.errorLogged m addr reason space target).get .busm (BUSM.ERR_CNT.at m.num) =
    sat BUSM.ERR_CNT.w (s.get .busm (BUSM.ERR_CNT.at m.num) + 1) := by
  have hlow : ∀ g ∈ errorFields, g.off < 0x120 := by decide
  rw [State.get_errorLogged_of_apart _ _ _ _ _ _ fun g hg => (errCnt_apart m (hlow g hg)).symm,
    State.get_errorCounted_of_mem List.mem_cons_self]
  exact Nat.mod_eq_of_lt (sat_lt _ _)

theorem State.get_errorLogged_accessErr :
    (s.errorLogged m addr reason space target).get .busm BUSM.INT_STAT_ACCESS_ERR = 1 := by
  rw [State.get_errorLogged_of_apart _ _ _ _ _ _ (by decide),
    State.get_errorCounted_of_mem (List.mem_cons_of_mem _ List.mem_cons_self)]
  rfl

/-- A field of the BUSM page reads after a refused write as the count and the record left it. -/
theorem State.get_settle_refuse_write {f : Fld} (hf : f.off < 0x1000) :
    (s.refuse m true addr reason space target).settle.get .busm f =
      (s.errorLogged m addr reason space target).get .busm f := by
  rw [State.get_settle _ (Page.base_add_ne_of_page hf (by decide) (by decide)), State.refuse_write, State.get_emit]

/-- A refused write changes words of the BUSM page alone. -/
theorem State.word_refuse_write_of_not_busm {b : Nat} (h : inPage .busm b = false) :
    (s.refuse m true addr reason space target).word b = s.word b := by
  have hrec : ∀ f ∈ errorFields, f.off < 0x1000 := by decide
  have hcounted : (s.errorCounted m).word b = s.word b :=
    State.word_puts_ne s .busm _ (State.forall_mem_errorCounts (P := fun f => b ≠ Page.base .busm + f.off)
      (ne_of_not_inPage h (errCnt_off_lt m)) (ne_of_not_inPage h (by decide)))
  rw [State.refuse_write]
  change (s.errorLogged m addr reason space target).word b = s.word b
  unfold State.errorLogged
  split
  · exact hcounted
  · rw [State.word_puts_ne _ _ _ (forall_mem_errorRecord (P := fun f => b ≠ Page.base .busm + f.off)
      fun f hf => ne_of_not_inPage h (hrec f hf)), hcounted]

end

/-- While no record is held, each field of the record of a refused write reads its value. -/
theorem State.get_settle_refuse_of_mem {s : State} {m : Master} {addr reason space target : Nat}
    (h : s.get .busm BUSM.ERR_LOG_VALID = 0) {f : Fld} {v : Nat} (hf : (f, v) ∈ errorRecord m addr reason space target)
    (hv : v < 2 ^ f.w) : (s.refuse m true addr reason space target).settle.get .busm f = v := by
  have hoff : f.off < 0x1000 := forall_mem_errorRecord (P := fun f => f.off < 0x1000) (by decide) _ hf
  rw [State.get_settle_refuse_write _ _ _ _ _ _ hoff, State.errorLogged, if_neg (by omega),
    State.get_puts_of_mem _ _ errorRecord_fits errorRecord_apart hf, Nat.mod_eq_of_lt hv]

end Machine
end Sys2Proof
end

section
/-! Writes that are denied, and the error owed after a broken lock (R375 to R378): O2. -/

namespace Sys2Proof.Machine

section
variable {s : State} {m : Master} (t : Nat) (addr strobes : Nat) (v : Word) (ok : Served)

/-- A denied write is refused in the state of its access. -/
theorem State.run_busWrite_of_denied {reason target : Nat} (hhold : s.boot.hold = 0) (howes : s.owesError m = false)
    (hdenied : s.denied m true addr strobes = some (reason, target)) :
    s.run t (fun u => u.busWrite m addr strobes v ok) =
      ((s.accessed t m).refuse m true addr reason (spaceOf m) target).settle := by
  have howes' : (s.accessed t m).owesError m = false := by rw [State.owesError, State.accessed_bus]; exact howes
  have hdenied' := (State.denied_accessed s t m m true addr strobes).trans hdenied
  rw [State.run_eq hhold, State.busWrite]
  simp only [State.accessed] at howes' hdenied' ⊢
  simp only [howes', hdenied', Bool.false_eq_true, if_false]

/-- A write of a master that owes an error is answered with that error, whatever it writes. -/
theorem State.run_busWrite_of_owes (hhold : s.boot.hold = 0) (howes : s.owesError m = true) :
    s.run t (fun u => u.busWrite m addr strobes v ok) = ((s.accessed t m).giveError m true).settle := by
  have howes' : (s.accessed t m).owesError m = true := by rw [State.owesError, State.accessed_bus]; exact howes
  rw [State.run_eq hhold, State.busWrite]
  simp only [State.accessed] at howes' ⊢
  simp only [howes', if_true]

end

/-- An access begins with the BUSM page as it was. -/
theorem State.get_accessed_busm (s : State) (t : Nat) (m : Master) {f : Fld} (hf : f.off < 0x1000) :
    (s.accessed t m).get .busm f = s.get .busm f := by
  rw [State.get, State.word_accessed s t m (not_mem_timeWords_of_page (by decide) hf)
    (Page.base_add_ne_of_page hf (by decide) (by decide)), State.get]

@[simp] theorem State.owesError_giveError (s : State) (m : Master) (write : Bool) :
    (s.giveError m write).owesError m = false := by
  simp [State.owesError, State.giveError, State.emit]

@[simp] theorem State.owesError_settle (s : State) (m : Master) : s.settle.owesError m = s.owesError m := by
  rw [State.owesError, State.settle_bus, State.owesError]

/-- Settles O2: a denied write is refused in the state of its access (`State.run_busWrite_of_denied`), where the count, the cause
and the record stand in the BUSM page and all else is left; an owed error is given in its place (`State.run_busWrite_of_owes`). -/
theorem deniedAccessesAreErrors : Obligations.DeniedAccessesAreErrors := by
  unfold Obligations.DeniedAccessesAreErrors
  refine ⟨fun s t m addr value w strobes reason target hhold howes hdenied => ⟨_, exec_registerWrite .., ?_⟩,
    fun s t m addr value w strobes hhold howes => ⟨_, exec_registerWrite .., ?_⟩⟩
  · rw [State.run_busWrite_of_denied t addr strobes value w hhold howes hdenied]
    obtain ⟨hreason, htarget⟩ := State.lt_of_denied hdenied
    have hcnt := errCnt_off_lt m
    refine ⟨?_, ?_, fun hvalid => ?_, State.mem_out_settle ?_, fun x hbusm hhif hown => ⟨?_, ?_⟩⟩
    · rw [State.get_settle_refuse_write _ _ _ _ _ _ hcnt, State.get_errorLogged_errCnt, State.get_accessed_busm s t m hcnt]
    · rw [State.get_settle_refuse_write _ _ _ _ _ _ (by decide), State.get_errorLogged_accessErr]
    · have hvalid' := (State.get_accessed_busm s t m (f := BUSM.ERR_LOG_VALID) (by decide)).trans hvalid
      exact ⟨State.get_settle_refuse_of_mem hvalid' (by simp [errorRecord, errorFields]) (by decide),
        State.get_settle_refuse_of_mem hvalid' (by simp [errorRecord, errorFields]) (m.num_lt.trans (by decide)),
        State.get_settle_refuse_of_mem hvalid' (by simp [errorRecord, errorFields]) (by decide),
        State.get_settle_refuse_of_mem hvalid' (by simp [errorRecord, errorFields]) (hreason.trans (by decide)),
        State.get_settle_refuse_of_mem hvalid' (by simp [errorRecord, errorFields]) htarget,
        State.get_settle_refuse_of_mem hvalid' (by simp [errorRecord, errorFields]) (Nat.mod_lt _ (Nat.two_pow_pos 32))⟩
    · rw [State.refuse_write]
      exact List.mem_append_right _ List.mem_cons_self
    · rw [State.word_settle_of_not_hif _ hhif, State.word_refuse_write_of_not_busm _ _ _ _ _ _ hbusm,
        State.word_accessed_of_not_own s t m hhif hown]
    · rw [State.lword_settle, State.lword, State.refuse_lv, State.accessed_lv, State.lword]
  · rw [State.run_busWrite_of_owes t addr strobes value w hhold howes]
    refine ⟨State.mem_out_settle (List.mem_append_right _ List.mem_cons_self), ?_, fun x _ hhif hown => ⟨?_, ?_⟩⟩
    · rw [State.owesError_settle, State.owesError_giveError]
    · rw [State.word_settle_of_not_hif _ hhif]
      exact State.word_accessed_of_not_own s t m hhif hown
    · rw [State.lword_settle]
      exact State.lword_accessed s t m x

end Sys2Proof.Machine
end

section
/-! SUPPORT. The fatal latches (R429). Their rule for the updates of the state and for the shared operations. -/

namespace Sys2Proof.Machine

/-- The FATAL_REAL latches and the page that FATAL_SRC names (R429). -/
def State.latches (s : State) : List Nat × Option Nat := (s.fatal, s.fatalSrc)

/-- An update that writes neither the latches nor FATAL_SRC. -/
theorem State.latches_mk (u : State)
    {now resetCycle sh lv arms groups freed freedAt undo undoAt busy pools normal committed evr bbx insvc lanes xbp brace
      xwp eth saGen rxPn saWritten rxs txs clk cands dplls vtgs refo refoAt aud audRx audTx tdm gddr engs ringLost retrainAt
      bus spi mbx mbxAt pcieReady msixMask otp vbat keys identity powered flash boot upd bbxRun free out pending} :
    State.latches ⟨now, resetCycle, sh, lv, arms, groups, freed, freedAt, undo, undoAt, busy, pools, u.fatal, u.fatalSrc,
      normal, committed, evr, bbx, insvc, lanes, xbp, brace, xwp, eth, saGen, rxPn, saWritten, rxs, txs, clk,
      cands, dplls, vtgs, refo, refoAt, aud, audRx, audTx, tdm, gddr, engs, ringLost, retrainAt, bus, spi,
      mbx, mbxAt, pcieReady, msixMask, otp, vbat, keys, identity, powered, flash, boot, upd, bbxRun, free,
      out, pending⟩ = u.latches := (rfl)

theorem State.latches_ite {c : Prop} [Decidable c] {a b : State} :
    (if c then a else b).latches = if c then a.latches else b.latches := apply_ite _ _ _ _

theorem State.latches_foldl {α : Type} (f : State → α → State) (l : List α) (s : State)
    (h : ∀ u a, (f u a).latches = u.latches) : (l.foldl f s).latches = s.latches := foldl_keeps State.latches f h l s

theorem State.latches_foldl_fst {α β : Type} {f : State × β → α → State × β} (h : ∀ r a, (f r a).1.latches = r.1.latches)
    (l : List α) (r : State × β) : (l.foldl f r).1.latches = r.1.latches := foldl_keeps (fun r => r.1.latches) f h l r

theorem State.latches_foldl_snd {α β : Type} {f : β × State → α → β × State} (h : ∀ r a, (f r a).2.latches = r.2.latches)
    (l : List α) (r : β × State) : (l.foldl f r).2.latches = r.2.latches := foldl_keeps (fun r => r.2.latches) f h l r

/-! ### Fields -/

theorem State.latches_setWord (s : State) (a : Nat) (v : Word) : (s.setWord a v).latches = s.latches := (rfl)

theorem State.latches_setLword (s : State) (a : Nat) (v : Word) : (s.setLword a v).latches = s.latches := (rfl)

theorem State.latches_put (s : State) (p : Page) (f : Fld) (v : Nat) : (s.put p f v).latches = s.latches := (rfl)

theorem State.latches_putLive (s : State) (p : Page) (f : Fld) (v : Nat) : (s.putLive p f v).latches = s.latches := (rfl)

theorem State.latches_tput (s : State) (f : Fld) (v : Nat) : (s.tput f v).latches = s.latches := (rfl)

theorem State.latches_add (s : State) (p : Page) (f : Fld) (n : Nat) : (s.add p f n).latches = s.latches := (rfl)

theorem State.latches_addSat (s : State) (p : Page) (f : Fld) (n : Nat) : (s.addSat p f n).latches = s.latches := (rfl)

theorem State.latches_peak (s : State) (p : Page) (f : Fld) (v : Nat) : (s.peak p f v).latches = s.latches := by
  unfold State.peak
  simp only [State.latches_put, State.latches_ite, ite_self]

theorem State.latches_puts (s : State) (p : Page) (l : List (Fld × Nat)) : (s.puts p l).latches = s.latches := by
  unfold State.puts
  exact State.latches_foldl _ _ _ fun u e => u.latches_put p e.1 e.2

/-! ### Causes, events, faults and interrupt messages -/

theorem State.latches_emit (s : State) (e : Emit) : (s.emit e).latches = s.latches := (rfl)

theorem State.latches_raise (s : State) (p : Page) (f : Fld) : (s.raise p f).latches = s.latches := (rfl)

theorem State.latches_unusual (s : State) : s.unusual.latches = s.latches := (rfl)

theorem State.latches_offer (s : State) (p : Page) (code p0 p1 : Nat) : (s.offer p code p0 p1).latches = s.latches := by
  unfold State.offer
  simp only [State.latches_mk, State.latches_addSat, State.latches_ite, ite_self]

theorem State.latches_fault_corrected (s : State) (p : Page) (x y : Nat) :
    (s.fault p .corrected x y).latches = s.latches := by
  simp only [State.fault, State.latches_offer, State.latches_addSat, State.latches_put, State.latches_mk]

theorem State.latches_fault_contained (s : State) (p : Page) (x y : Nat) :
    (s.fault p .contained x y).latches = s.latches := by
  simp only [State.fault, State.latches_unusual, State.latches_offer, State.latches_addSat, State.latches_put,
    State.latches_mk]

theorem State.latches_sendVec (s : State) (v : Nat) : (s.sendVec v).latches = s.latches := by
  unfold State.sendVec
  simp only [State.latches_emit, State.latches_add, State.latches_mk, State.latches_ite, ite_self]

theorem State.latches_settle (s : State) : s.settle.latches = s.latches :=
  foldl_keeps State.latches _ State.latches_sendVec _ s

theorem State.latches_refuse (s : State) (m : Master) (write : Bool) (addr reason space target : Nat) :
    (s.refuse m write addr reason space target).latches = s.latches := by
  unfold State.refuse
  simp only [State.latches_raise, State.latches_addSat, State.latches_puts, State.latches_emit, State.latches_ite, ite_self]

theorem State.latches_fresh (s : State) : s.fresh.2.latches = s.latches := (rfl)

/-! ### The conservation audit -/

theorem State.latches_setPool (s : State) (c i : Nat) (x : PoolCnt) : (s.setPool c i x).latches = s.latches := (rfl)

theorem State.latches_poolIssue (s : State) (c i n : Nat) : (s.poolIssue c i n).latches = s.latches := by
  unfold State.poolIssue
  simp only [State.latches_setPool, State.latches_ite, ite_self]

theorem State.latches_poolReturn (s : State) (c i n : Nat) : (s.poolReturn c i n).latches = s.latches := by
  unfold State.poolReturn
  simp only [State.latches_setPool, State.latches_ite, ite_self]

theorem State.latches_poolUse (s : State) (c i n : Nat) : (s.poolUse c i n).latches = s.latches := by
  unfold State.poolUse
  simp only [State.latches_poolReturn, State.latches_poolIssue]

theorem State.latches_auditCheck (s : State) : s.auditCheck.latches = s.latches := by
  unfold State.auditCheck
  simp only [State.latches_raise, State.latches_put, State.latches_foldl, implies_true, State.latches_fault_contained]

theorem State.latches_auditSnap (s : State) : s.auditSnap.latches = s.latches := by
  unfold State.auditSnap
  simp only [State.latches_puts]

/-! ### Keys and security -/

theorem State.latches_random (s : State) (n : Nat) : (s.random n).2.latches = s.latches := (rfl)

theorem State.latches_setNode (s : State) (n : Nat) (x : Node) : (s.setNode n x).latches = s.latches := (rfl)

theorem State.latches_putKey (s : State) (n : Nat) (key : List Nat) (origin attr node : Nat) :
    (s.putKey n key origin attr node).latches = s.latches := by
  unfold State.putKey
  simp only [State.latches_puts, State.latches_mk]

theorem State.latches_unload (s : State) (n : Nat) : (s.unload n).latches = s.latches := by
  unfold State.unload
  simp only [State.latches_puts, State.latches_mk]

theorem State.latches_unloadAll (s : State) : s.unloadAll.latches = s.latches := by
  unfold State.unloadAll
  simp only [State.latches_raise, State.latches_unload, State.latches_foldl, implies_true]

theorem State.latches_invalidate (s : State) (n : Nat) : (s.invalidate n).latches = s.latches := by
  unfold State.invalidate
  simp only [State.latches_setNode, State.latches_unload, State.latches_raise, State.latches_ite, ite_self,
    State.latches_foldl, implies_true]

theorem State.latches_zeroKeyBuf (s : State) : s.zeroKeyBuf.latches = s.latches := by
  unfold State.zeroKeyBuf
  simp only [State.latches_put, State.latches_foldl, implies_true]

theorem State.latches_setKeyBuf (s : State) (l : List Nat) : (s.setKeyBuf l).latches = s.latches := by
  unfold State.setKeyBuf
  simp only [State.latches_put, State.latches_zeroKeyBuf, State.latches_foldl, implies_true]

theorem State.latches_keyFinish (s : State) (status rsp0 : Nat) (keep : Bool) :
    (s.keyFinish status rsp0 keep).latches = s.latches := by
  unfold State.keyFinish
  simp only [State.latches_zeroKeyBuf, State.latches_raise, State.latches_puts, State.latches_add, State.latches_addSat,
    State.latches_fresh, State.latches_offer, State.latches_mk, State.latches_ite, ite_self]

theorem State.latches_zeroRoot (s : State) : s.zeroRoot.latches = s.latches := (rfl)

theorem State.latches_trip (s : State) (bit : Nat) : (s.trip bit).latches = s.latches := by
  unfold State.trip
  simp only [State.latches_zeroRoot, State.latches_mk, State.latches_raise, State.latches_zeroKeyBuf, State.latches_unloadAll,
    State.latches_keyFinish, State.latches_offer, State.latches_ite, ite_self, State.latches_fault_contained]

theorem State.latches_tamper (s : State) (bit : Nat) : (s.tamper bit).latches = s.latches := by
  unfold State.tamper
  simp only [State.latches_trip, State.latches_ite, ite_self]

theorem State.latches_tamperReport (s : State) : s.tamperReport.latches = s.latches := by
  unfold State.tamperReport
  simp only [State.latches_put, State.latches_offer, State.latches_mk, State.latches_ite, ite_self, State.latches_foldl,
    implies_true]

theorem State.latches_rootAtReset (s : State) (level : Bool) : (s.rootAtReset level).latches = s.latches := by
  unfold State.rootAtReset
  simp only [State.latches_mk, State.latches_random, State.latches_ite, ite_self]

theorem latches_keyOk (s : State) : (keyOk s).2.2.2.latches = s.latches := (rfl)

theorem latches_keyFail (status : Nat) (s : State) : (keyFail status s).2.2.2.latches = s.latches := (rfl)

theorem latches_keyChecks (l : List (Bool × Nat)) {s : State} {ok : KeyEnd} (h : ok.2.2.2.latches = s.latches) :
    (keyChecks l s ok).2.2.2.latches = s.latches := by
  unfold keyChecks keyFail
  dsimp only
  split
  · rfl
  · exact h

theorem State.latches_keyNodeDefine (s : State) : s.keyNodeDefine.2.2.2.latches = s.latches := by
  unfold State.keyNodeDefine
  simp only [latches_keyChecks, latches_keyOk, State.latches_setNode]

theorem State.latches_keyNodeInvalidate (s : State) : s.keyNodeInvalidate.2.2.2.latches = s.latches := by
  unfold State.keyNodeInvalidate
  simp only [latches_keyChecks, latches_keyOk, State.latches_invalidate]

theorem State.latches_keyNodeDelete (s : State) : s.keyNodeDelete.2.2.2.latches = s.latches := by
  unfold State.keyNodeDelete
  simp only [latches_keyChecks, State.latches_invalidate, latches_keyOk, State.latches_setNode]

theorem State.latches_entropyFail (s : State) : s.entropyFail.latches = s.latches := by
  unfold State.entropyFail
  simp only [State.latches_raise, State.latches_fault_contained]

theorem State.latches_keyGenerate (s : State) (entropy : Bool) : (s.keyGenerate entropy).2.2.2.latches = s.latches := by
  unfold State.keyGenerate
  simp only [latches_keyChecks, latches_keyFail, State.latches_entropyFail, State.latches_random, latches_keyOk,
    State.latches_putKey, State.latches_ite, ite_self, apply_ite Prod.snd]

theorem State.latches_keyExport (s : State) : s.keyExport.2.2.2.latches = s.latches := by
  unfold State.keyExport
  simp only [latches_keyChecks, State.latches_setKeyBuf]

theorem State.latches_keyLoad (s : State) : s.keyLoad.2.2.2.latches = s.latches := by
  unfold State.keyLoad
  extract_lets h info len node
  repeat' split
  all_goals simp only [latches_keyFail, State.latches_putKey]

theorem State.latches_keyDerive (s : State) : s.keyDerive.2.2.2.latches = s.latches := by
  unfold State.keyDerive
  simp only [latches_keyChecks, latches_keyOk, State.latches_putKey]

theorem State.latches_keyImport (s : State) : s.keyImport.2.2.2.latches = s.latches := by
  unfold State.keyImport
  simp only [latches_keyChecks, latches_keyOk, State.latches_putKey]

theorem State.latches_keyUnwrap (s : State) : s.keyUnwrap.2.2.2.latches = s.latches := by
  unfold State.keyUnwrap
  refine latches_keyChecks _ ?_
  split
  · rfl
  · rw [latches_keyOk, State.latches_putKey]

theorem State.latches_keyUnload (s : State) : s.keyUnload.2.2.2.latches = s.latches := by
  unfold State.keyUnload
  simp only [latches_keyOk, State.latches_unload]

theorem State.latches_keyGetIdentity (s : State) : s.keyGetIdentity.2.2.2.latches = s.latches := by
  unfold State.keyGetIdentity
  repeat' split
  all_goals simp only [State.latches_setKeyBuf, latches_keyFail]

theorem State.latches_keyAttest (s : State) (meas : List Measure) (chipId : Nat) :
    (s.keyAttest meas chipId).2.2.2.latches = s.latches := by
  unfold State.keyAttest
  simp only [latches_keyChecks, State.latches_random, State.latches_setKeyBuf]

theorem latches_keyOtpFail (s : State) : (keyOtpFail s).2.2.2.latches = s.latches := by
  unfold keyOtpFail
  simp only [latches_keyFail, State.latches_fault_contained]

theorem State.latches_keyGenIdentity (s : State) (entropy otpOk : Bool) :
    (s.keyGenIdentity entropy otpOk).2.2.2.latches = s.latches := by
  unfold State.keyGenIdentity
  simp only [latches_keyChecks, latches_keyFail, State.latches_entropyFail, latches_keyOtpFail, State.latches_random,
    State.latches_mk, State.latches_offer, State.latches_ite, ite_self, apply_ite Prod.snd]

theorem State.latches_keyLcAdvance (s : State) (entropy otpOk : Bool) :
    (s.keyLcAdvance entropy otpOk).2.2.2.latches = s.latches := by
  unfold State.keyLcAdvance
  simp only [latches_keyChecks, latches_keyFail, State.latches_entropyFail, latches_keyOtpFail, State.latches_mk,
    State.latches_random, State.latches_unloadAll, State.latches_zeroRoot, latches_keyOk, State.latches_offer,
    State.latches_ite, ite_self, apply_ite Prod.snd]

theorem State.latches_keyCustSet (s : State) (otpOk : Bool) : (s.keyCustSet otpOk).2.2.2.latches = s.latches := by
  unfold State.keyCustSet
  simp only [latches_keyChecks, latches_keyOtpFail, latches_keyOk, State.latches_mk, State.latches_ite, ite_self,
    apply_ite Prod.snd]

theorem State.latches_keyRevoke (s : State) (otpOk : Bool) : (s.keyRevoke otpOk).2.2.2.latches = s.latches := by
  unfold State.keyRevoke
  simp only [latches_keyChecks, latches_keyOtpFail, latches_keyOk, State.latches_mk, State.latches_ite, ite_self,
    apply_ite Prod.snd]

theorem State.latches_keyTamperConfig (s : State) : s.keyTamperConfig.2.2.2.latches = s.latches := by
  unfold State.keyTamperConfig
  simp only [latches_keyChecks, latches_keyOk, State.latches_mk]

theorem State.latches_keyChallenge (s : State) (entropy : Bool) : (s.keyChallenge entropy).2.2.2.latches = s.latches := by
  unfold State.keyChallenge
  simp only [latches_keyChecks, latches_keyFail, State.latches_entropyFail, State.latches_random, State.latches_setKeyBuf,
    State.latches_mk, State.latches_ite, ite_self, apply_ite Prod.snd]

theorem State.latches_keyUnlock (s : State) : s.keyUnlock.2.2.2.latches = s.latches := by
  unfold State.keyUnlock
  simp only [State.latches_mk, latches_keyChecks, latches_keyOk, State.latches_raise, State.latches_unloadAll]

theorem State.latches_keyOp (s : State) (op : Nat) (entropy otpOk : Bool) (meas : List Measure) (chipId : Nat) :
    (s.keyOp op entropy otpOk meas chipId).2.2.2.latches = s.latches := by
  unfold State.keyOp
  repeat' split
  all_goals simp only [latches_keyFail, State.latches_keyNodeDefine, State.latches_keyNodeInvalidate,
    State.latches_keyNodeDelete, State.latches_keyGenerate, State.latches_keyExport, State.latches_keyLoad,
    State.latches_keyDerive, State.latches_keyImport, State.latches_keyUnwrap, State.latches_keyUnload,
    State.latches_keyGetIdentity, State.latches_keyAttest, State.latches_keyGenIdentity, State.latches_keyLcAdvance,
    State.latches_keyCustSet, State.latches_keyRevoke, State.latches_keyTamperConfig, State.latches_keyChallenge,
    State.latches_keyUnlock]

theorem State.latches_keyGo (s : State) (op : Nat) (entropy otpOk : Bool) (meas : List Measure) (chipId : Nat) :
    (s.keyGo op entropy otpOk meas chipId).latches = s.latches := by
  unfold State.keyGo
  simp only [State.latches_raise, State.latches_addSat, State.latches_put, State.latches_keyOp, State.latches_mk,
    State.latches_ite, ite_self]

theorem State.latches_keyComplete (s : State) : s.keyComplete.latches = s.latches := by
  unfold State.keyComplete
  split <;> simp only [State.latches_keyFinish, State.latches_ite, ite_self]

theorem State.latches_keyInit (s : State) : s.keyInit.latches = s.latches := by
  unfold State.keyInit
  simp only [State.latches_keyFinish, State.latches_zeroKeyBuf, State.latches_puts, State.latches_ite, ite_self]

/-! ### Time -/

theorem State.latches_glide (s : State) (t : Nat) : (s.glide t).latches = s.latches := by
  unfold State.glide
  simp only [State.latches_mk, State.latches_raise, State.latches_ite, ite_self]

theorem State.latches_setServo (s : State) (d : Fin 2) (v : Nat) : (s.setServo d v).latches = s.latches := by
  unfold State.setServo
  simp only [State.latches_raise, State.latches_put, State.latches_ite, ite_self]

theorem State.latches_steer (s : State) (d : Fin 2) (v : Nat) : (s.steer d v).latches = s.latches := by
  unfold State.steer
  simp only [State.latches_put, State.latches_mk, State.latches_ite, ite_self]

theorem State.latches_adjIgnored (s : State) (firmware : Bool) : (s.adjIgnored firmware).latches = s.latches := by
  unfold State.adjIgnored
  simp only [State.latches_raise, State.latches_addSat, State.latches_ite, ite_self]

theorem State.latches_domAdj (s : State) (d : Fin 2) (firmware : Bool) (v : Nat) :
    (s.domAdj d firmware v).latches = s.latches := by
  unfold State.domAdj
  simp only [State.latches_steer, State.latches_adjIgnored, State.latches_ite, ite_self]

theorem State.latches_domStep (s : State) (d : Fin 2) (firmware : Bool) (v : Nat) :
    (s.domStep d firmware v).latches = s.latches := by
  unfold State.domStep
  simp only [State.latches_adjIgnored, State.latches_raise, State.latches_put, State.latches_setWord, State.latches_ite,
    ite_self]

theorem State.latches_applyStep (s : State) (d : Fin 2) : (s.applyStep d).latches = s.latches := by
  unfold State.applyStep
  simp only [State.latches_raise, State.latches_put, State.latches_mk, State.latches_ite, ite_self]

theorem State.latches_stepBy (s : State) (t : Nat) (d : Fin 2) (at_ : Option Nat) :
    (s.stepBy t d at_).latches = s.latches := by
  unfold State.stepBy
  split <;> simp only [State.latches_applyStep, State.latches_glide, State.latches_ite, ite_self]

theorem State.latches_advance (s : State) (t : Nat) : (s.advance t).latches = s.latches := by
  unfold State.advance
  simp only [State.latches_glide, State.latches_stepBy, State.latches_ite, ite_self]

theorem State.latches_begin (s : State) (t : Nat) : (s.begin t).latches = s.latches := by
  unfold State.begin
  simp only [State.latches_advance, State.latches_mk]

theorem State.latches_selectDom (s : State) (d : Fin 2) : (s.selectDom d).latches = s.latches := by
  unfold State.selectDom
  simp only [State.latches_raise, State.latches_add, State.latches_put, State.latches_mk, State.latches_ite, ite_self]

theorem State.latches_autoDom (s : State) : s.autoDom.latches = s.latches := by
  unfold State.autoDom
  simp only [State.latches_put, State.latches_selectDom, State.latches_ite, ite_self]

theorem State.latches_timeSmp (s : State) : s.timeSmp.latches = s.latches := by
  unfold State.timeSmp
  simp only [State.latches_applyStep, State.latches_autoDom, State.latches_ite, ite_self]

theorem State.latches_selectMaster (s : State) (d : Fin 2) : (s.selectMaster d).latches = s.latches := by
  unfold State.selectMaster
  split <;> simp only [State.latches_puts, State.latches_mk, State.latches_setServo, State.latches_ite, ite_self]

theorem State.latches_announce (s : State) (d : Fin 2) (port : Nat) (m : PtpMsg) :
    (s.announce d port m).latches = s.latches := by
  unfold State.announce
  simp only [State.latches_selectMaster, State.latches_mk, State.latches_ite, ite_self]

theorem State.latches_domRises (s old : State) (d : Fin 2) : (s.domRises old d).latches = s.latches := by
  unfold State.domRises
  simp only [State.latches_setServo, State.latches_mk, State.latches_ite, ite_self]

theorem State.latches_oneStepOff (s : State) (d : Fin 2) : (s.oneStepOff d).latches = s.latches := (rfl)

theorem State.latches_ppsLow (s : State) : s.ppsLow.latches = s.latches := (rfl)

theorem State.latches_timeFired (s old : State) : (s.timeFired old).latches = s.latches := by
  unfold State.timeFired
  simp only [State.latches_domRises, State.latches_oneStepOff, State.latches_put, State.latches_selectDom,
    State.latches_putLive, State.latches_mk, State.latches_ppsLow, State.latches_ite, ite_self]

theorem State.latches_useLat (s : State) (p : Nat) : (s.useLat p).latches = s.latches := by
  unfold State.useLat
  simp only [State.latches_puts]

theorem State.latches_timeStop (s : State) : s.timeStop.latches = s.latches := (rfl)

theorem State.latches_timeInit (s : State) : s.timeInit.latches = s.latches := by
  unfold State.timeInit
  simp only [State.latches_oneStepOff, State.latches_useLat, State.latches_foldl, implies_true]

end Sys2Proof.Machine
end

section
/-! SUPPORT. The operations of lanes, ports, planes, the brace and the references leave the fatal latches alone. -/

namespace Sys2Proof.Machine

/-! ### Serial lanes -/

theorem State.latches_setLane (s : State) (n : LaneNo) (l : Lane) : (s.setLane n l).latches = s.latches := (rfl)

theorem State.latches_modLane (s : State) (n : LaneNo) (f : Lane → Lane) : (s.modLane n f).latches = s.latches := (rfl)

theorem State.latches_setTaps (s : State) (n : LaneNo) (t : Nat × Nat × Nat) : (s.setTaps n t).latches = s.latches := by
  unfold State.setTaps
  simp only [State.latches_putLive]

theorem State.latches_setWordLock (s : State) (n : LaneNo) (b : Bool) : (s.setWordLock n b).latches = s.latches := by
  unfold State.setWordLock
  simp only [State.latches_modLane, State.latches_raise, State.latches_put, State.latches_ite, ite_self]

theorem State.latches_sdiLost (s : State) (n : LaneNo) : (s.sdiLost n).latches = s.latches := by
  unfold State.sdiLost
  simp only [State.latches_modLane, State.latches_puts, State.latches_setWordLock, State.latches_ite, ite_self]

theorem State.latches_setIgn (s : State) (n : LaneNo) (st : Nat) : (s.setIgn n st).latches = s.latches := by
  unfold State.setIgn
  simp only [State.latches_put, State.latches_setWordLock, State.latches_raise, State.latches_modLane, State.latches_ite,
    ite_self]

theorem State.latches_detect (s : State) (n : LaneNo) : (s.detect n).latches = s.latches := by
  unfold State.detect
  simp only [State.latches_setIgn, State.latches_setLane, State.latches_setTaps, State.latches_ite, ite_self]

theorem State.latches_detectAfresh (s : State) (n : LaneNo) : (s.detectAfresh n).latches = s.latches := by
  unfold State.detectAfresh
  simp only [State.latches_detect, State.latches_puts]

theorem State.latches_ignFail (s : State) (n : LaneNo) (cause : Nat) : (s.ignFail n cause).latches = s.latches := by
  unfold State.ignFail
  simp only [State.latches_raise, State.latches_puts, State.latches_put, State.latches_setIgn, State.latches_ite, ite_self]

theorem State.latches_ignSync (s : State) (n : LaneNo) : (s.ignSync n).latches = s.latches := by
  unfold State.ignSync
  simp only [State.latches_setIgn]

theorem State.latches_ignEnergy (s : State) (n : LaneNo) : (s.ignEnergy n).latches = s.latches := by
  unfold State.ignEnergy
  simp only [State.latches_modLane, State.latches_setIgn, State.latches_ignSync, State.latches_ite, ite_self]

theorem State.latches_ignEnergyLost (s : State) (n : LaneNo) : (s.ignEnergyLost n).latches = s.latches := by
  unfold State.ignEnergyLost
  repeat' split
  all_goals simp only [State.latches_ignFail, State.latches_detect, State.latches_put]

theorem State.latches_ignAttemptOver (s : State) (n : LaneNo) : (s.ignAttemptOver n).latches = s.latches := by
  unfold State.ignAttemptOver
  simp only [State.latches_ignFail, State.latches_ite, ite_self]

theorem State.latches_ignTrainOver (s : State) (n : LaneNo) : (s.ignTrainOver n).latches = s.latches := by
  unfold State.ignTrainOver
  simp only [State.latches_ignFail, State.latches_ite, ite_self]

theorem State.latches_ignTrained (s : State) (n : LaneNo) : (s.ignTrained n).latches = s.latches := by
  unfold State.ignTrained
  simp only [State.latches_ignSync, State.latches_ite, ite_self]

theorem State.latches_ignRestart (s : State) (n : LaneNo) : (s.ignRestart n).latches = s.latches := by
  unfold State.ignRestart
  simp only [State.latches_detectAfresh, State.latches_ite, ite_self]

theorem State.latches_sfLost (s : State) (n : LaneNo) : (s.sfLost n).latches = s.latches := by
  unfold State.sfLost
  simp only [State.latches_modLane, State.latches_setIgn, State.latches_ite, ite_self]

theorem State.latches_sfLocked (s : State) (n : LaneNo) : (s.sfLocked n).latches = s.latches := by
  unfold State.sfLocked
  simp only [State.latches_setIgn, State.latches_put, State.latches_ite, ite_self]

theorem State.latches_kerf (s : State) (n : LaneNo) (kerfs : List Bool) (hdr payload : Nat) :
    (s.kerf n kerfs hdr payload).latches = s.latches := by
  unfold State.kerf
  simp only [State.latches_addSat, State.latches_setLane]

theorem State.latches_sfMissed (s : State) (n : LaneNo) : (s.sfMissed n).latches = s.latches := by
  unfold State.sfMissed
  simp only [State.latches_setLane, State.latches_addSat, State.latches_sfLost, State.latches_ite, ite_self]

theorem State.latches_blockCounted (s : State) (n : LaneNo) (good : Bool) : (s.blockCounted n good).latches = s.latches := by
  unfold State.blockCounted
  simp only [State.latches_setLane, State.latches_addSat, State.latches_sfLost, State.latches_ite, ite_self]

theorem State.latches_descramble (s : State) (n : LaneNo) (payload : Nat) :
    (s.descramble n payload).2.latches = s.latches := (rfl)

theorem State.latches_tenonBlock (s : State) (n : LaneNo) (t payload : Nat) :
    (s.tenonBlock n t payload).latches = s.latches := by
  unfold State.tenonBlock
  simp only [State.latches_descramble, State.latches_raise, State.latches_modLane, State.latches_emit, State.latches_ite,
    ite_self]

theorem State.latches_tenonSlipped (s : State) (n : LaneNo) (t : Nat) : (s.tenonSlipped n t).latches = s.latches := (rfl)

theorem State.latches_realign (s : State) (n : LaneNo) (hdr t : Nat) : (s.realign n hdr t).latches = s.latches := by
  unfold State.realign
  simp only [State.latches_setLane, State.latches_addSat, State.latches_ite, ite_self]

theorem State.latches_sfHeader (s : State) (n : LaneNo) (p : Nat) : (s.sfHeader n p).latches = s.latches := by
  unfold State.sfHeader
  simp only [State.latches_sfMissed, State.latches_puts, State.latches_setLane, State.latches_sfLocked, State.latches_realign,
    State.latches_ite, ite_self, State.latches_foldl, implies_true]

theorem State.latches_sideband (s : State) (n : LaneNo) (payload : Nat) (video : Option (Nat × Nat)) :
    (s.sideband n payload video).latches = s.latches := by
  unfold State.sideband
  simp only [State.latches_descramble, State.latches_addSat, State.latches_puts, State.latches_modLane, State.latches_ite,
    ite_self]

theorem State.latches_tapRequests (s : State) (n : LaneNo) (p : Nat) : (s.tapRequests n p).latches = s.latches := by
  unfold State.tapRequests
  simp only [State.latches_setLane, State.latches_setTaps, State.latches_ite, ite_self]

theorem State.latches_ownRequests (s : State) (n : LaneNo) (p : Nat) : (s.ownRequests n p).latches = s.latches := (rfl)

theorem State.latches_training (s : State) (n : LaneNo) (p : Nat) : (s.training n p).latches = s.latches := by
  unfold State.training
  simp only [State.latches_modLane, State.latches_ownRequests, State.latches_tapRequests, State.latches_detect,
    State.latches_put, State.latches_ite, ite_self]

theorem State.latches_runBroken (s : State) (n : LaneNo) : (s.runBroken n).latches = s.latches := (rfl)

theorem State.latches_sfDue (s : State) (n : LaneNo) : (s.sfDue n).latches = s.latches := by
  unfold State.sfDue
  simp only [State.latches_sfMissed, State.latches_ite, ite_self]

theorem State.latches_badBlock (s : State) (n : LaneNo) (due payload : Nat) :
    (s.badBlock n due payload).latches = s.latches := by
  unfold State.badBlock
  simp only [State.latches_runBroken, State.latches_blockCounted, State.latches_descramble, State.latches_sfDue,
    State.latches_tenonSlipped, State.latches_ite, ite_self]

theorem State.latches_goodBlock (s : State) (n : LaneNo) (ty payload : Nat) (video : Option (Nat × Nat)) :
    (s.goodBlock n ty payload video).latches = s.latches := by
  unfold State.goodBlock
  simp only [State.latches_blockCounted, State.latches_sfDue, State.latches_runBroken, State.latches_tenonBlock,
    State.latches_sideband, State.latches_add, State.latches_descramble, State.latches_sfHeader, State.latches_training,
    State.latches_ite, ite_self]

theorem State.latches_block (s : State) (n : LaneNo) (due hdr payload : Nat) (kerfs : List Bool) (video : Option
    (Nat × Nat)) :
    (s.block n due hdr payload kerfs video).latches = s.latches := by
  unfold State.block
  dsimp only
  split
  · rfl
  · split <;> simp only [State.latches_badBlock, State.latches_goodBlock, State.latches_kerf]

theorem State.latches_laneFired (s old : State) (n : LaneNo) : (s.laneFired old n).latches = s.latches := by
  unfold State.laneFired
  simp only [State.latches_setTaps, State.latches_modLane, State.latches_put, State.latches_raise, State.latches_setWordLock,
    State.latches_puts, State.latches_setIgn, State.latches_detectAfresh, State.latches_ite, ite_self]

theorem State.latches_laneInit (s : State) (n : LaneNo) : (s.laneInit n).latches = s.latches := by
  unfold State.laneInit
  simp only [State.latches_put, State.latches_setWordLock, State.latches_raise, State.latches_setLane,
    State.latches_detectAfresh, State.latches_puts, State.latches_setIgn, State.latches_ite, ite_self]

theorem State.latches_genWritten (s old : State) (n : LaneNo) : (s.genWritten old n).latches = s.latches := by
  unfold State.genWritten
  simp only [State.latches_unusual, State.latches_modLane, State.latches_ite, ite_self]

theorem State.latches_chkZero (s : State) (n : LaneNo) : (s.chkZero n).latches = s.latches := by
  unfold State.chkZero
  simp only [State.latches_modLane, State.latches_puts]

theorem State.latches_chkWritten (s old : State) (n : LaneNo) (clr : Bool) :
    (s.chkWritten old n clr).latches = s.latches := by
  unfold State.chkWritten
  simp only [State.latches_unusual, State.latches_put, State.latches_modLane, State.latches_chkZero, State.latches_ite,
    ite_self]

theorem State.latches_chkCount (s : State) (n : LaneNo) (nbits errs : Nat) :
    (s.chkCount n nbits errs).latches = s.latches := by
  unfold State.chkCount
  simp only [State.latches_modLane, State.latches_put, State.latches_addSat, State.latches_ite, ite_self]

theorem State.latches_injectBit (s : State) (n : LaneNo) : (s.injectBit n).latches = s.latches := (rfl)

theorem State.latches_eyeStart (s : State) (n : LaneNo) : (s.eyeStart n).latches = s.latches := by
  unfold State.eyeStart
  simp only [State.latches_unusual, State.latches_raise, State.latches_puts, State.latches_ite, ite_self]

theorem State.latches_adapt (s old : State) (n : LaneNo) : (s.adapt old n).latches = s.latches := by
  unfold State.adapt
  simp only [State.latches_fresh, State.latches_modLane, State.latches_ite, ite_self]

theorem State.latches_rxeqWritten (s old : State) (n : LaneNo) : (s.rxeqWritten old n).latches = s.latches := by
  unfold State.rxeqWritten
  simp only [State.latches_adapt, State.latches_modLane, State.latches_unusual, State.latches_ite, ite_self]

theorem State.latches_sdiErrors (s : State) (n : LaneNo) (f : Fld) : (s.sdiErrors n f).latches = s.latches := by
  unfold State.sdiErrors
  simp only [State.latches_fresh, State.latches_addSat, State.latches_ite, ite_self]

theorem State.latches_density (s : State) (n : LaneNo) (d : Nat) : (s.density n d).latches = s.latches := by
  unfold State.density
  simp only [State.latches_put, State.latches_modLane, State.latches_raise, State.latches_adapt, State.latches_ite, ite_self]

/-! ### Ethernet ports -/

theorem State.latches_setPort (s : State) (p : PortNo) (x : EthPort) : (s.setPort p x).latches = s.latches := (rfl)

theorem State.latches_cntAdd (s : State) (p : PortNo) (c n : Nat) : (s.cntAdd p c n).latches = s.latches := by
  unfold State.cntAdd
  simp only [State.latches_put, State.latches_raise, State.latches_ite, ite_self]

theorem State.latches_cntAdds (s : State) (p : PortNo) (l : List (Nat × Nat)) : (s.cntAdds p l).latches = s.latches := by
  unfold State.cntAdds
  simp only [State.latches_cntAdd, State.latches_foldl, implies_true]

theorem State.latches_cntSnap (s : State) (p : PortNo) : (s.cntSnap p).latches = s.latches := by
  unfold State.cntSnap
  simp only [State.latches_put, State.latches_foldl, implies_true]

theorem State.latches_setEnergy (s : State) (p : PortNo) (l : Nat) : (s.setEnergy p l).latches = s.latches := by
  unfold State.setEnergy
  simp only [State.latches_put]

theorem State.latches_setEtx (s : State) (p : PortNo) (l : List (Nat × Nat × Nat)) : (s.setEtx p l).latches = s.latches := by
  unfold State.setEtx
  simp only [State.latches_putLive, State.latches_foldl, implies_true]

theorem State.latches_setLink (s : State) (p : PortNo) (st : Nat) : (s.setLink p st).latches = s.latches := by
  unfold State.setLink
  simp only [State.latches_put, State.latches_setPort, State.latches_raise, State.latches_puts, State.latches_setEnergy,
    State.latches_emit, State.latches_setEtx, State.latches_ite, ite_self]

theorem State.latches_ethAfresh (s : State) (p : PortNo) : (s.ethAfresh p).latches = s.latches := by
  unfold State.ethAfresh
  simp only [State.latches_setLink, State.latches_put]

theorem State.latches_ethFail (s : State) (p : PortNo) (cause : Fld) : (s.ethFail p cause).latches = s.latches := by
  unfold State.ethFail
  simp only [State.latches_fresh, State.latches_setLink, State.latches_raise, State.latches_put, State.latches_addSat]

theorem State.latches_ethAn (s : State) (p : PortNo) (page : Nat) : (s.ethAn p page).latches = s.latches := by
  unfold State.ethAn
  simp only [State.latches_put, State.latches_setLink, State.latches_setEnergy, State.latches_ethFail, State.latches_ite,
    ite_self]

theorem State.latches_ethTrained (s : State) (p : PortNo) (taps : List (Nat × Nat × Nat)) :
    (s.ethTrained p taps).latches = s.latches := by
  unfold State.ethTrained
  simp only [State.latches_setLink, State.latches_setEnergy, State.latches_setEtx, State.latches_ite, ite_self]

theorem State.latches_ethEnergyLost (s : State) (p : PortNo) (l : Nat) : (s.ethEnergyLost p l).latches = s.latches := by
  unfold State.ethEnergyLost
  dsimp only
  split
  · exact s.latches_setEnergy p l
  · split <;> simp only [State.latches_ethFail, State.latches_setLink, State.latches_setEnergy]

theorem State.latches_ethLocked (s : State) (p : PortNo) : (s.ethLocked p).latches = s.latches := by
  unfold State.ethLocked
  simp only [State.latches_setLink, State.latches_setEnergy, State.latches_ite, ite_self]

theorem State.latches_remoteFault (s : State) (p : PortNo) (b : Bool) : (s.remoteFault p b).latches = s.latches := by
  unfold State.remoteFault
  simp only [State.latches_put, State.latches_raise, State.latches_ite, ite_self]

theorem State.latches_ethFired (s old : State) (p : PortNo) : (s.ethFired old p).latches = s.latches := by
  unfold State.ethFired
  simp only [State.latches_setPort, State.latches_setEtx, State.latches_ethAfresh, State.latches_ite, ite_self]

theorem State.latches_pauseClass (s : State) (p : PortNo) (k q : Nat) : (s.pauseClass p k q).latches = s.latches := by
  unfold State.pauseClass
  simp only [State.latches_setPort, State.latches_cntAdd, State.latches_ite, ite_self]

theorem State.latches_pauseOver (s : State) (p : PortNo) (k : Nat) : (s.pauseOver p k).latches = s.latches := by
  unfold State.pauseOver
  simp only [State.latches_setPort, State.latches_ite, ite_self]

theorem State.latches_hqBack (s : State) (p : PortNo) (tx : Bool) (len flags reason : Nat) :
    (s.hqBack p tx len flags reason).latches = s.latches := by
  unfold State.hqBack
  simp only [State.latches_emit, State.latches_poolUse, State.latches_raise, State.latches_put]

theorem State.latches_hqEnWritten (s old : State) (p : PortNo) (tx : Bool) :
    (s.hqEnWritten old p tx).latches = s.latches := by
  unfold State.hqEnWritten
  simp only [State.latches_put, State.latches_ite, ite_self]

theorem State.latches_hqDeliver (s : State) (p : PortNo) (len reason : Nat) (vlan valid : Bool) (bufAddr bufLen : Nat) :
    (s.hqDeliver p len reason vlan valid bufAddr bufLen).latches = s.latches := by
  unfold State.hqDeliver
  simp only [State.latches_raise, State.latches_cntAdd, State.latches_hqBack, State.latches_emit, State.latches_ite, ite_self]

theorem State.latches_enqueue (s : State) (p : PortNo) (f : TxFrame) : (s.enqueue p f).latches = s.latches := by
  unfold State.enqueue
  simp only [State.latches_poolIssue, State.latches_setPort]

theorem State.latches_hqSend (s : State) (p : PortNo) (f : TxFrame) : (s.hqSend p f).latches = s.latches := by
  unfold State.hqSend
  simp only [State.latches_hqBack, State.latches_cntAdd, State.latches_enqueue, State.latches_ite, ite_self]

theorem State.latches_msecFired (s : State) (p : PortNo) : (s.msecFired p).latches = s.latches := by
  unfold State.msecFired
  simp only [State.latches_mk, State.latches_puts, State.latches_ite, ite_self, State.latches_foldl, implies_true]

theorem State.latches_saUse (s : State) (p : PortNo) (x : Nat) : (s.saUse p x).1.latches = s.latches := by
  unfold State.saUse
  simp only [apply_ite Prod.fst, State.latches_ite, State.latches_fault_contained, State.latches_raise, State.latches_put,
    ite_self]

theorem State.latches_protect (s : State) (p : PortNo) (k : Nat) : (s.protect p k).1.latches = s.latches := by
  unfold State.protect
  simp only [apply_ite Prod.fst, State.latches_ite, State.latches_raise, State.latches_put, State.latches_puts,
    State.latches_saUse, ite_self]

theorem State.latches_validate (s : State) (p : PortNo) (eapol : Bool) (sec : Option (Nat × Nat × Nat × Bool)) :
    (s.validate p eapol sec).1.latches = s.latches := by
  unfold State.validate
  extract_lets v untagged fail
  have huntagged : untagged.latches = s.latches := s.latches_addSat ..
  have hfail : ∀ u : State, (fail u).1.latches = u.latches := fun u => by
    simp only [fail, apply_ite Prod.fst, State.latches_ite, State.latches_cntAdd, ite_self]
  split
  · rfl
  split
  · simp only [apply_ite Prod.fst, State.latches_ite, huntagged, State.latches_cntAdd, ite_self]
  split
  · rw [hfail, State.latches_addSat]
  · simp only [apply_ite Prod.fst, State.latches_ite, hfail, State.latches_addSat, State.latches_raise, State.latches_add,
      State.latches_mk, State.latches_saUse, ite_self]

theorem State.latches_mediaSend (s : State) (p : PortNo) (f : TxFrame) : (s.mediaSend p f).1.latches = s.latches := by
  unfold State.mediaSend
  split <;> simp only [State.latches_enqueue, State.latches_cntAdd]

theorem State.latches_mediaLate (s : State) (d : MediaDue) : (s.mediaLate d).latches = s.latches := by
  unfold State.mediaLate
  repeat' split
  all_goals simp only [State.latches_tput, State.latches_raise, State.latches_addSat]

theorem State.latches_stamp (s : State) (p : PortNo) (rx : Bool) (m : PtpMsg) : (s.stamp p rx m).latches = s.latches := by
  unfold State.stamp
  simp only [State.latches_addSat, State.latches_mk, State.latches_ite, ite_self]

theorem State.latches_sendPtp (s : State) (p : PortNo) (f : TxFrame) : (s.sendPtp p f).latches = s.latches := by
  unfold State.sendPtp
  repeat' split
  all_goals simp only [State.latches_stamp, State.latches_emit, State.latches_enqueue]

theorem State.latches_startFrame (s : State) (p : PortNo) (f : TxFrame) (whole : Bool) :
    (s.startFrame p f whole).latches = s.latches := by
  unfold State.startFrame
  extract_lets bare n
  have hsec : (if bare then (s, none) else s.protect p f.cls).1.latches = s.latches := by
    rw [apply_ite Prod.fst, State.latches_ite, State.latches_protect, ite_self]
  generalize (if bare = true then (s, none) else s.protect p f.cls) = r at hsec ⊢
  obtain ⟨u, sa⟩ := r
  dsimp only at hsec ⊢
  split
  · rw [State.latches_addSat, State.latches_cntAdd, hsec]
  · rw [State.latches_sendPtp, State.latches_emit]
    split <;> simp only [State.latches_mediaLate, State.latches_ite, State.latches_cntAdds, hsec, ite_self]

theorem State.latches_txStart (s : State) (p : PortNo) (slack : Nat) (held : List Nat) (own : Option TxFrame) (whole : Bool) :
    (s.txStart p slack held own whole).latches = s.latches := by
  unfold State.txStart
  extract_lets queued
  have hqueued : queued.latches = s.latches := by
    unfold queued
    split
    · exact s.latches_enqueue ..
    · rfl
  clear_value queued
  split
  · exact hqueued
  · simp only [State.latches_ite, State.latches_startFrame, State.latches_cntAdd, State.latches_poolReturn,
      State.latches_setPort, hqueued, ite_self]

theorem State.latches_underrun (s : State) (p : PortNo) (k : Nat) : (s.underrun p k).latches = s.latches := by
  unfold State.underrun
  simp only [State.latches_raise, State.latches_cntAdd, State.latches_putLive, State.latches_emit, State.latches_put,
    State.latches_fault_contained]

theorem State.latches_ethInit (s : State) (p : PortNo) : (s.ethInit p).latches = s.latches := by
  unfold State.ethInit
  simp only [State.latches_puts, State.latches_setLink, State.latches_poolReturn, State.latches_setPort, State.latches_put,
    State.latches_foldl, implies_true]

theorem State.latches_macFromOtp (s : State) (p : PortNo) : (s.macFromOtp p).latches = s.latches := by
  unfold State.macFromOtp
  simp only [State.latches_putLive, State.latches_put]

theorem State.latches_msecInit (s : State) (p : PortNo) : (s.msecInit p).latches = s.latches := by
  unfold State.msecInit
  simp only [State.latches_mk, State.latches_puts, State.latches_foldl, implies_true]

/-! ### The bit plane -/

theorem State.latches_xbpSwitch (s : State) (n : Nat) : (s.xbpSwitch n).latches = s.latches := by
  unfold State.xbpSwitch
  simp only [State.latches_add, State.latches_mk, State.latches_ite, ite_self]

theorem State.latches_xbpUnwait (s : State) (n : Nat) : (s.xbpUnwait n).latches = s.latches := (rfl)

theorem State.latches_serIdle (s : State) (n : Fin 1024) : (s.serIdle n).latches = s.latches := by
  unfold State.serIdle
  simp only [State.latches_put, State.latches_raise, State.latches_ite, ite_self]

theorem State.latches_xbpApplied (s : State) (n : Fin 1024) : (s.xbpApplied n).latches = s.latches := by
  unfold State.xbpApplied
  simp only [State.latches_serIdle, State.latches_unusual, State.latches_addSat, State.latches_xbpUnwait, State.latches_mk,
    State.latches_xbpSwitch, State.latches_ite, ite_self]

theorem State.latches_xbpBoundary (s : State) (n : Fin 1024) : (s.xbpBoundary n).latches = s.latches := by
  unfold State.xbpBoundary
  simp only [State.latches_peak, State.latches_xbpSwitch, State.latches_xbpUnwait, State.latches_ite, ite_self]

theorem State.latches_xbpBit (s : State) (f : Fld) (n : Nat) (b : Bool) : (s.xbpBit f n b).latches = s.latches := (rfl)

theorem State.latches_setAsync (s : State) (n : Nat) (b : Bool) : (s.setAsync n b).latches = s.latches := by
  unfold State.setAsync
  simp only [State.latches_raise, State.latches_xbpBit, State.latches_ite, ite_self]

theorem State.latches_timed (s : State) (n : Nat) (sync : Bool) (off : Int) : (s.timed n sync off).latches = s.latches := by
  unfold State.timed
  simp only [State.latches_setAsync, State.latches_xbpBit, State.latches_put, State.latches_ite, ite_self]

theorem State.latches_evalTiming (s : State) (v n : Nat) : (s.evalTiming v n).latches = s.latches := by
  unfold State.evalTiming
  dsimp only
  split
  · rw [State.latches_setAsync, State.latches_xbpBit]
  · split
    · exact s.latches_timed ..
    · rw [State.latches_timed, State.latches_fresh]

theorem State.latches_xbpEvaluate (s : State) (v : Nat) : (s.xbpEvaluate v).latches = s.latches := by
  unfold State.xbpEvaluate
  simp only [State.latches_evalTiming, State.latches_foldl, implies_true]

theorem State.latches_xbpStop (s : State) : s.xbpStop.latches = s.latches := (rfl)

theorem State.latches_xbpInit (s : State) : s.xbpInit.latches = s.latches := by
  unfold State.xbpInit
  simp only [State.latches_raise, State.latches_puts, State.latches_xbpStop, State.latches_ite, ite_self, State.latches_foldl,
    implies_true]

theorem State.latches_pgenTaken (s : State) (k : Nat) : (s.pgenTaken k).latches = s.latches := (rfl)

/-! ### The brace -/

theorem State.latches_clearHistory (s : State) : s.clearHistory.latches = s.latches := (rfl)

theorem State.latches_enterAlign (s : State) : s.enterAlign.latches = s.latches := (rfl)

theorem State.latches_miswire (s : State) (k : Fin 8) : (s.miswire k).latches = s.latches := by
  unfold State.miswire
  simp only [State.latches_mk, State.latches_put, State.latches_raise, State.latches_ite, ite_self]

theorem State.latches_linkUpdate (s : State) : s.linkUpdate.latches = s.latches := by
  unfold State.linkUpdate
  simp only [State.latches_miswire, State.latches_put, State.latches_clearHistory, State.latches_enterAlign,
    State.latches_raise, State.latches_ite, ite_self, State.latches_foldl, implies_true]

theorem State.latches_linkRealign (s : State) : s.linkRealign.latches = s.latches := by
  unfold State.linkRealign
  simp only [State.latches_enterAlign, State.latches_ite, ite_self]

theorem State.latches_braceSmp (s : State) : s.braceSmp.latches = s.latches := by
  unfold State.braceSmp
  simp only [State.latches_add, State.latches_mk]

theorem State.latches_braceFrm (s : State) (v : Nat) : (s.braceFrm v).latches = s.latches := by
  unfold State.braceFrm
  simp only [State.latches_add, State.latches_mk]

theorem State.latches_braceVtg (s : State) (v : Nat) : (s.braceVtg v).latches = s.latches := (rfl)

theorem State.latches_sendTicks (s : State) : s.sendTicks.latches = s.latches := by
  unfold State.sendTicks
  simp only [State.latches_emit, State.latches_foldl, implies_true]

theorem State.latches_roundTrip (s : State) (d : Nat) : (s.roundTrip d).latches = s.latches := by
  unfold State.roundTrip
  simp only [State.latches_mk, State.latches_puts]

theorem State.latches_setSkew (s : State) (f : Fld) (d : Int) : (s.setSkew f d).latches = s.latches := by
  unfold State.setSkew
  simp only [State.latches_put, State.latches_raise, State.latches_ite, ite_self]

theorem State.latches_numberSmp (s : State) (inst tnum : Nat) : (s.numberSmp inst tnum).latches = s.latches := by
  unfold State.numberSmp
  repeat' split
  all_goals simp only [State.latches_put, State.latches_mk, State.latches_raise, State.latches_ite, ite_self]

theorem State.latches_alignedSmp (s : State) (inst tnum : Nat) : (s.alignedSmp inst tnum).latches = s.latches := by
  unfold State.alignedSmp
  split <;> simp only [State.latches_mk, State.latches_ite, ite_self]

theorem State.latches_partnerRole (s : State) (r : Nat) : (s.partnerRole r).latches = s.latches := by
  unfold State.partnerRole
  simp only [State.latches_put, State.latches_enterAlign, State.latches_raise, State.latches_ite, ite_self]

theorem State.latches_tickMsg (s : State) (p : Nat) : (s.tickMsg p).latches = s.latches := by
  unfold State.tickMsg
  extract_lets arr tx tripped brace echoed d inst tnum numbered
  have htripped : tripped.latches = s.latches := by
    simp only [tripped, State.latches_ite, State.latches_roundTrip, ite_self]
  have hechoed : echoed.latches = s.latches := htripped
  have hnumbered : numbered.latches = s.latches := by
    simp only [numbered, State.latches_ite, State.latches_numberSmp, State.latches_alignedSmp, hechoed, ite_self]
  clear_value numbered echoed
  split
  · rfl
  split
  · simp only [State.latches_ite, State.latches_raise, State.latches_puts, hnumbered, hechoed, ite_self]
  · split <;> simp only [State.latches_setSkew, hechoed]

theorem State.latches_diverge (s : State) (r : BraceRec) (what own twin ownCrc twinCrc : Nat) :
    (s.diverge r what own twin ownCrc twinCrc).latches = s.latches := by
  unfold State.diverge
  simp only [State.latches_addSat, State.latches_raise, State.latches_put, State.latches_puts, State.latches_mk,
    State.latches_ite, ite_self, State.latches_fault_contained]

theorem State.latches_comparePair (s : State) (own twin : BraceRec) : (s.comparePair own twin).latches = s.latches := by
  unfold State.comparePair
  simp only [State.latches_add, State.latches_diverge, State.latches_mk, State.latches_raise, State.latches_put,
    State.latches_ite, ite_self]

theorem State.latches_ownRecord (s : State) (r : BraceRec) : (s.ownRecord r).latches = s.latches := by
  unfold State.ownRecord
  split <;> simp only [State.latches_mk, State.latches_comparePair, State.latches_ite, ite_self]

theorem State.latches_keepRecord (s : State) (open_ : Bool) (r : BraceRec) :
    (s.keepRecord open_ r).latches = s.latches := (rfl)

theorem State.latches_makeFrame (s : State) (v : Nat) : (s.makeFrame v).latches = s.latches := by
  unfold State.makeFrame
  simp only [State.latches_keepRecord, State.latches_ite, ite_self]

theorem State.latches_makeFull (s : State) : s.makeFull.latches = s.latches := by
  unfold State.makeFull
  simp only [State.latches_mk, State.latches_keepRecord, State.latches_ite, ite_self]

theorem State.latches_sendRecord (s : State) (full : Bool) (v : Nat) : (s.sendRecord full v).latches = s.latches := by
  unfold State.sendRecord
  split <;> simp only [State.latches_mk, State.latches_emit, State.latches_add, State.latches_ownRecord, State.latches_ite,
    ite_self, State.latches_foldl, implies_true]

theorem State.latches_numberFrm (s : State) (v inst tnum : Nat) : (s.numberFrm v inst tnum).latches = s.latches := by
  unfold State.numberFrm
  repeat' split
  all_goals simp only [State.latches_put, State.latches_mk, State.latches_raise, State.latches_ite, ite_self]

theorem State.latches_twinRecord (s : State) (r : BraceRec) : (s.twinRecord r).latches = s.latches := by
  unfold State.twinRecord
  repeat' split
  all_goals simp only [State.latches_diverge, State.latches_comparePair, State.latches_mk]

theorem State.latches_recMsg (s : State) (p : Nat) : (s.recMsg p).latches = s.latches := by
  unfold State.recMsg
  extract_lets r key brace seen inst numbered start brace' started skewed
  have hnumbered : numbered.latches = s.latches := by
    simp only [numbered, seen, State.latches_ite, State.latches_numberFrm, State.latches_mk, ite_self]
  have hstarted : started.latches = s.latches := by
    simp only [started, State.latches_ite, State.latches_mk, hnumbered, ite_self]
  have hskewed : skewed.latches = s.latches := by
    unfold skewed
    rw [State.latches_ite, hstarted]
    split
    · split
      · rw [State.latches_setSkew, hstarted]
      · exact hstarted
    · rfl
  rw [State.latches_ite, State.latches_twinRecord, hskewed, ite_self]

theorem State.latches_braceMessage (s : State) (k : Fin 8) (p : Nat) : (s.braceMessage k p).latches = s.latches := by
  unfold State.braceMessage
  repeat' split
  all_goals simp only [State.latches_addSat, State.latches_partnerRole, State.latches_tickMsg, State.latches_recMsg]

theorem State.latches_recordTimeout (s : State) (full : Bool) (v tnum : Nat) :
    (s.recordTimeout full v tnum).latches = s.latches := by
  unfold State.recordTimeout
  split <;> simp only [State.latches_mk, State.latches_diverge, State.latches_ite, ite_self]

theorem State.latches_brcInit (s : State) : s.brcInit.latches = s.latches := by
  unfold State.brcInit
  simp only [State.latches_puts, State.latches_clearHistory]

/-! ### References and frame timing -/

theorem State.latches_modCand (s : State) (c : Nat) (f : RefCand → RefCand) : (s.modCand c f).latches = s.latches := (rfl)

theorem State.latches_modDpll (s : State) (k : Nat) (f : Dpll → Dpll) : (s.modDpll k f).latches = s.latches := (rfl)

theorem State.latches_setVtg (s : State) (v : Nat) (x : Vtg) : (s.setVtg v x).latches = s.latches := (rfl)

theorem State.latches_dpllMark (s : State) (k : Nat) (freq : Int) (locked : Bool) :
    (s.dpllMark k freq locked).latches = s.latches := by
  unfold State.dpllMark
  simp only [State.latches_put, State.latches_modDpll]

theorem State.latches_setFreq (s : State) (k : Nat) (f : Int) : (s.setFreq k f).latches = s.latches := by
  unfold State.setFreq
  simp only [State.latches_dpllMark, State.latches_ite, ite_self]

theorem State.latches_setDpll (s : State) (k st : Nat) : (s.setDpll k st).latches = s.latches := by
  unfold State.setDpll
  extract_lets old moved changed held marked
  have hmarked : marked.latches = s.latches := by
    simp only [marked, held, changed, moved, State.latches_dpllMark, State.latches_ite, State.latches_raise,
      State.latches_put, ite_self]
  rw [State.latches_ite, State.latches_ite, hmarked, State.latches_foldl, hmarked, ite_self, ite_self]
  intro u v
  split
  · rw [State.latches_ite, State.latches_raise, ite_self]
  · rfl

theorem State.latches_setSel (s : State) (k : Nat) (c : Option Nat) : (s.setSel k c).latches = s.latches := by
  unfold State.setSel
  simp only [State.latches_raise, State.latches_put, State.latches_add, State.latches_ite, ite_self]

theorem State.latches_dpllLose (s : State) (k c : Nat) : (s.dpllLose k c).latches = s.latches := by
  unfold State.dpllLose
  simp only [State.latches_setSel, State.latches_modDpll, State.latches_setFreq, State.latches_setDpll, State.latches_put,
    State.latches_ite, ite_self]

theorem State.latches_offerEvent (s : State) (k c : Nat) (o : Frac) : (s.offerEvent k c o).latches = s.latches := (rfl)

theorem State.latches_follow (s : State) (k : Nat) : (s.follow k).latches = s.latches := by
  unfold State.follow
  repeat' split
  all_goals simp only [State.latches_setFreq, State.latches_modDpll, State.latches_put, State.latches_fresh,
    State.latches_ite, ite_self]

theorem State.latches_followers (s : State) (c : Nat) : (s.followers c).latches = s.latches := by
  unfold State.followers
  simp only [State.latches_follow, State.latches_ite, ite_self, State.latches_foldl, implies_true]

theorem State.latches_realignVtg (s : State) (v : Fin 32) : (s.realignVtg v).latches = s.latches := by
  unfold State.realignVtg
  simp only [State.latches_addSat, State.latches_raise, State.latches_setVtg, State.latches_ite, ite_self]

theorem State.latches_tauStep (s : State) (k c : Nat) : (s.tauStep k c).latches = s.latches := by
  unfold State.tauStep
  split
  · rfl
  · extract_lets d stepped shifted
    have hstepped : stepped.latches = s.latches := s.latches_modDpll ..
    rw [State.latches_foldl]
    · exact hstepped
    · intro u v
      split
      · rw [State.latches_ite, State.latches_realignVtg, ite_self]
      · rfl

theorem State.latches_dpllTake (s : State) (k c : Nat) : (s.dpllTake k c).latches = s.latches := by
  unfold State.dpllTake
  simp only [State.latches_modDpll, State.latches_setDpll, State.latches_setSel, State.latches_tauStep,
    State.latches_dpllMark, State.latches_follow, State.latches_ite, ite_self]

theorem State.latches_reselect (s : State) (k : Nat) : (s.reselect k).latches = s.latches := by
  unfold State.reselect
  repeat' split
  all_goals simp only [State.latches_dpllTake, State.latches_dpllLose]

theorem State.latches_disagreeSet (s : State) (k : Nat) : (s.disagreeSet k).latches = s.latches := by
  unfold State.disagreeSet
  simp only [State.latches_modDpll, State.latches_put, State.latches_raise, State.latches_ite, ite_self]

theorem State.latches_refSettle (s : State) : s.refSettle.latches = s.latches := by
  unfold State.refSettle
  simp only [State.latches_disagreeSet, State.latches_reselect, State.latches_foldl, implies_true]

theorem State.latches_refSettleBy (s : State) (c : Nat) : (s.refSettleBy c).latches = s.latches := by
  unfold State.refSettleBy
  simp only [State.latches_followers, State.latches_refSettle]

theorem State.latches_qualify (s : State) (c : Nat) : (s.qualify c).latches = s.latches := by
  unfold State.qualify
  simp only [State.latches_puts, State.latches_modCand, State.latches_put, State.latches_raise, State.latches_addSat,
    State.latches_ite, ite_self]

theorem State.latches_refCatch (s : State) : s.refCatch.latches = s.latches := by
  unfold State.refCatch
  repeat' split
  all_goals simp only [State.latches_refSettle, State.latches_qualify, State.latches_foldl, implies_true]

theorem State.latches_refFollow (s : State) : s.refFollow.latches = s.latches := by
  unfold State.refFollow
  simp only [State.latches_modCand, State.latches_qualify, State.latches_follow, State.latches_refSettle, State.latches_ite,
    ite_self, State.latches_foldl, implies_true]

theorem State.latches_freqUpdate (s : State) (c : Nat) (freq : Int) : (s.freqUpdate c freq).latches = s.latches := by
  -- The body is unfolded as a whole function: the kernel would otherwise compute the match's subject.
  suffices h : ∀ f, f = State.freqUpdate → (f s c freq).latches = s.latches from h _ rfl
  intro f hf
  delta State.freqUpdate at hf
  subst hf
  beta_reduce
  generalize s.newSecond = second
  cases second with
  | none => rfl
  | some sec =>
    dsimp only
    split
    · rfl
    generalize s.freqMean c sec freq = mean
    have hmarked : (match s.freqMark c with
        | some m => s.modCand c fun x => { x with marks := ((sec, m) :: x.marks).take 64 }
        | none => s).latches = s.latches := by
      split
      · exact s.latches_modCand ..
      · rfl
    cases mean with
    | none => exact hmarked
    | some v =>
      dsimp only
      rw [State.latches_refSettleBy, State.latches_qualify, State.latches_put, State.latches_put]
      exact hmarked

theorem State.latches_wtrOver (s : State) (c : Nat) : (s.wtrOver c).latches = s.latches := by
  unfold State.wtrOver
  simp only [State.latches_put, State.latches_raise, State.latches_refSettle, State.latches_ite, ite_self]

theorem State.latches_refEdge (s : State) (i : Nat) (falling : Bool) : (s.refEdge i falling).latches = s.latches := by
  unfold State.refEdge
  repeat' split
  all_goals simp only [State.latches_modCand, State.latches_puts, State.latches_put, State.latches_raise,
    State.latches_offerEvent, State.latches_refSettleBy, State.latches_qualify, State.latches_ite, ite_self,
    State.latches_foldl, implies_true]

theorem State.latches_refTimeout (s : State) (c : Nat) : (s.refTimeout c).latches = s.latches := by
  unfold State.refTimeout
  split <;> simp only [State.latches_refSettle, State.latches_qualify, State.latches_modCand, State.latches_ite, ite_self]

theorem State.latches_refFly (s : State) (i : Nat) : (s.refFly i).latches = s.latches := by
  unfold State.refFly
  simp only [State.latches_raise, State.latches_put, State.latches_ite, ite_self]

theorem State.latches_refoRise (s : State) (j : Nat) : (s.refoRise j).latches = s.latches := by
  unfold State.refoRise
  simp only [State.latches_mk, State.latches_ite, ite_self]

theorem State.latches_refoFall (s : State) (j : Nat) : (s.refoFall j).latches = s.latches := by
  unfold State.refoFall
  simp only [State.latches_mk, State.latches_ite, ite_self]

theorem State.latches_refoFollow (s : State) : s.refoFollow.latches = s.latches := (rfl)

theorem State.latches_refFired (s old : State) : (s.refFired old).latches = s.latches := by
  unfold State.refFired
  simp only [State.latches_put, State.latches_modCand, State.latches_qualify, State.latches_refoFollow, State.latches_follow,
    State.latches_refFollow, State.latches_ite, ite_self, State.latches_foldl, implies_true]

theorem State.latches_vtgFired (s old : State) (v : Fin 32) : (s.vtgFired old v).latches = s.latches := by
  unfold State.vtgFired
  simp only [State.latches_setVtg, State.latches_realignVtg, State.latches_refoFollow, State.latches_ite, ite_self]

theorem State.latches_vtgStart (s : State) (v : Fin 32) : (s.vtgStart v).latches = s.latches := by
  unfold State.vtgStart
  repeat' split
  all_goals simp only [State.latches_put, State.latches_setVtg]

theorem State.latches_gridTime (s : State) (p phi : Frac) : (s.gridTime p phi).1.latches = s.latches := by
  unfold State.gridTime
  simp only [apply_ite Prod.fst, State.latches_ite, State.latches_raise, State.latches_addSat, ite_self]

theorem State.latches_smpTime (s : State) : s.smpTime.1.latches = s.latches := by
  unfold State.smpTime
  simp only [State.latches_gridTime]

theorem State.latches_ptpEvent (s : State) (k : Nat) (g : Frac) : (s.ptpEvent k g).latches = s.latches := by
  unfold State.ptpEvent
  simp only [State.latches_followers, State.latches_disagreeSet, State.latches_offerEvent, State.latches_ite, ite_self,
    State.latches_foldl, implies_true]

theorem State.latches_smpFell (s : State) : s.smpFell.latches = s.latches := (rfl)

/-! ### The word plane -/

theorem State.latches_tmapCheck (s : State) (cand : List Page) : (s.tmapCheck cand).1.latches = s.latches := by
  unfold State.tmapCheck
  dsimp only
  split
  · rfl
  split
  · rfl
  · simp only [State.latches_ite, State.latches_puts, State.latches_raise, ite_self]

theorem State.latches_ingPeak (s : State) (i : Nat) : (s.ingPeak i).latches = s.latches := by
  unfold State.ingPeak
  simp only [State.latches_put, State.latches_ite, ite_self]

theorem State.latches_pathFail (s : State) (d : Nat) : (s.pathFail d).latches = s.latches := by
  unfold State.pathFail
  simp only [State.latches_raise, State.latches_put, State.latches_ite, ite_self, State.latches_fault_contained]

theorem State.latches_placePath (s : State) (d x : Nat) : (s.placePath d x).latches = s.latches := by
  unfold State.placePath
  repeat' split
  all_goals simp only [State.latches_ingPeak, State.latches_add, State.latches_mk, State.latches_pathFail]

theorem State.latches_placeFirst (s : State) (base : Nat) (retry : List Nat) :
    (s.placeFirst base retry).latches = s.latches := (rfl)

theorem State.latches_placeBegin (s : State) (retry : List Nat) : (s.placeBegin retry).latches = s.latches := by
  unfold State.placeBegin
  split <;> simp only [State.latches_setWord, State.latches_mk, State.latches_placeFirst, State.latches_ite, ite_self,
    State.latches_foldl, implies_true]

theorem State.latches_placePaths (s : State) (retry : List Nat) : (s.placePaths retry).latches = s.latches := by
  unfold State.placePaths
  simp only [State.latches_placeBegin, State.latches_add, State.latches_mk, State.latches_placePath, State.latches_put,
    State.latches_ite, ite_self, State.latches_foldl, implies_true]

theorem State.latches_blockCheck (s : State) (sel delay : Nat) : (s.blockCheck sel delay).1.latches = s.latches := by
  unfold State.blockCheck
  dsimp only
  split
  · rfl
  · simp only [State.latches_ite, State.latches_puts, State.latches_raise, ite_self]

theorem State.latches_setRegen (s : State) (n : Fin 1024) (b : Bool) : (s.setRegen n b).latches = s.latches := by
  unfold State.setRegen
  simp only [State.latches_put, State.latches_raise, State.latches_ite, ite_self]

theorem State.latches_regen (s : State) : s.regen.latches = s.latches := by
  unfold State.regen
  simp only [State.latches_setRegen, State.latches_ite, ite_self, State.latches_foldl, implies_true]

theorem State.latches_routeInit (s : State) : s.routeInit.latches = s.latches := by
  unfold State.routeInit
  simp only [State.latches_add, State.latches_mk, State.latches_put, State.latches_foldl, implies_true]

theorem State.latches_deembPush (s : State) (key w : Nat) : (s.deembPush key w).latches = s.latches := by
  unfold State.deembPush
  simp only [State.latches_mk, State.latches_raise, State.latches_addSat, State.latches_ite, ite_self]

theorem State.latches_deembSilent (s : State) (key : Nat) : (s.deembSilent key).latches = s.latches := (rfl)

theorem State.latches_deembPacket (s : State) (t grp : Nat) (samples : List (Nat × Nat)) (ok : Bool) :
    (s.deembPacket t grp samples ok).latches = s.latches := by
  unfold State.deembPacket
  simp only [State.latches_addSat, State.latches_deembSilent, State.latches_deembPush, State.latches_ite, ite_self,
    State.latches_foldl, implies_true]

theorem State.latches_deembChannel (s : State) (key : Nat) : (s.deembChannel key).latches = s.latches := by
  unfold State.deembChannel
  repeat' split
  all_goals simp only [State.latches_mk, State.latches_raise, State.latches_addSat]

theorem State.latches_deembFollow (s : State) : s.deembFollow.latches = s.latches := (rfl)

theorem State.latches_mapStop (s : State) : s.mapStop.latches = s.latches := (rfl)

theorem State.latches_deembSmp (s : State) : s.deembSmp.1.latches = s.latches := by
  unfold State.deembSmp
  rw [State.latches_foldl_fst]
  intro acc t
  dsimp only
  split
  · rfl
  · exact State.latches_foldl_fst (fun r k => r.1.latches_deembChannel k) _ _

theorem State.latches_handOver (s : State) (n t : Nat) (words : List Nat) : (s.handOver n t words).latches = s.latches := by
  unfold State.handOver
  split <;> simp only [State.latches_emit, State.latches_foldl, implies_true]

theorem State.latches_carryOver (s : State) : s.carryOver.latches = s.latches := by
  unfold State.carryOver
  refine State.latches_foldl _ _ _ fun u e => ?_
  split
  · exact u.latches_handOver ..
  · rfl

end Sys2Proof.Machine
end

section
/-! SUPPORT. The operations of flows, audio, TDM ports and engines leave the fatal latches alone. -/

namespace Sys2Proof.Machine

/-! ### Video and ancillary flows -/

theorem State.latches_setRx (s : State) (n : Fin 1024) (x : RxSlot) : (s.setRx n x).latches = s.latches := (rfl)

theorem State.latches_setTx (s : State) (n : Fin 1024) (x : TxSlot) : (s.setTx n x).latches = s.latches := (rfl)

theorem State.latches_rxRelease (s : State) (n : Fin 1024) (keep : Nat × Nat → Bool) :
    (s.rxRelease n keep).latches = s.latches := by
  unfold State.rxRelease
  simp only [State.latches_poolReturn, State.latches_setRx]

theorem State.latches_setRxState (s : State) (n : Fin 1024) (st : Nat) : (s.setRxState n st).latches = s.latches := by
  unfold State.setRxState
  simp only [State.latches_put, State.latches_ite, ite_self]

theorem State.latches_rxAfresh (s : State) (n : Fin 1024) (st : Nat) : (s.rxAfresh n st).latches = s.latches := by
  unfold State.rxAfresh
  simp only [State.latches_puts, State.latches_setRxState, State.latches_setRx, State.latches_rxRelease]

theorem State.latches_rxFired (s old : State) (n : Fin 1024) : (s.rxFired old n).latches = s.latches := by
  unfold State.rxFired
  simp only [State.latches_rxAfresh, State.latches_raise, State.latches_setRxState, State.latches_ite, ite_self]

theorem State.latches_rxFrame (s : State) (n : Fin 1024) (f : Format) (g : Frac) : (s.rxFrame n f g).latches = s.latches := by
  unfold State.rxFrame
  extract_lets x st miss win pid good freed slot absent counted
  have hfreed : freed.latches = s.latches := by
    unfold freed
    split
    · exact s.latches_rxRelease ..
    · rfl
  have habsent : absent.latches = s.latches := (freed.latches_setRx ..).trans hfreed
  have hcounted : counted.latches = s.latches := by
    simp only [counted, State.latches_put, State.latches_addSat, habsent]
  clear_value absent counted
  split
  · simp only [State.latches_emit, State.latches_ite, State.latches_raise, State.latches_put, State.latches_setRxState,
      State.latches_setRx, State.latches_rxRelease, ite_self]
  · simp only [State.latches_ite, State.latches_emit, State.latches_raise, State.latches_setRxState, hcounted, habsent,
      ite_self]

theorem State.latches_rxSkew (s : State) (n : Fin 1024) (d : Int) : (s.rxSkew n d).latches = s.latches := by
  unfold State.rxSkew
  simp only [State.latches_put, State.latches_setRx, State.latches_raise, State.latches_ite, ite_self]

theorem State.latches_rxArrive (s : State) (n : Fin 1024) (b : Bool) (seq : Nat) :
    (s.rxArrive n b seq).latches = s.latches := by
  unfold State.rxArrive
  extract_lets down back x gap gapped heard
  have hheard : heard.latches = s.latches := by
    simp only [heard, gapped, back, State.latches_setRx, State.latches_ite, State.latches_addSat, State.latches_raise,
      State.latches_put, ite_self]
  clear_value heard
  split
  · exact hheard
  dsimp only
  split
  · rw [State.latches_rxSkew, State.latches_setRx, hheard]
  · rw [State.latches_setRx, hheard]

theorem State.latches_rxPacket (s : State) (n : Fin 1024) (b : Bool) (p : RtpVideo) :
    (s.rxPacket n b p).latches = s.latches := by
  unfold State.rxPacket
  simp only [State.latches_addSat, State.latches_rxArrive, State.latches_raise, State.latches_peak, State.latches_add,
    State.latches_poolIssue, State.latches_setRx, State.latches_ite, ite_self]

theorem State.latches_rxAnc (s : State) (n : Fin 1024) (b : Bool) (p : RtpAnc) : (s.rxAnc n b p).latches = s.latches := by
  unfold State.rxAnc
  simp only [State.latches_addSat, State.latches_add, State.latches_setRx, State.latches_ite, ite_self, State.latches_foldl,
    implies_true]

theorem State.latches_rxLine (s : State) (n : Fin 1024) (line : Nat) (need last : List Nat) :
    (s.rxLine n line need last).latches = s.latches := by
  unfold State.rxLine
  split <;> simp only [State.latches_addSat, State.latches_setRx, State.latches_add, State.latches_emit,
    State.latches_rxRelease, State.latches_ite, ite_self]

theorem State.latches_rxPathLost (s : State) (n : Fin 1024) (b : Bool) : (s.rxPathLost n b).latches = s.latches := by
  unfold State.rxPathLost
  simp only [State.latches_raise, State.latches_put, State.latches_ite, ite_self]

theorem State.latches_rxSkewOk (s : State) (n : Fin 1024) : (s.rxSkewOk n).latches = s.latches := by
  unfold State.rxSkewOk
  simp only [State.latches_put, State.latches_ite, ite_self]

theorem State.latches_txStat (s : State) (n : Fin 1024) : (s.txStat n).latches = s.latches := (rfl)

theorem State.latches_txStop (s : State) (n : Fin 1024) : (s.txStop n).latches = s.latches := (rfl)

theorem State.latches_txFired (s : State) (n : Fin 1024) : (s.txFired n).latches = s.latches := by
  unfold State.txFired
  simp only [State.latches_txStop, State.latches_raise, State.latches_ite, ite_self]

theorem State.latches_txFrame (s : State) (n : Fin 1024) (g : Frac) (second : Bool) :
    (s.txFrame n g second).latches = s.latches := by
  unfold State.txFrame
  dsimp only
  split
  · rfl
  · simp only [State.latches_ite, State.latches_txStat, State.latches_raise, State.latches_addSat, State.latches_put,
      State.latches_setTx, ite_self]

theorem State.latches_txPacket (s : State) (n : Fin 1024) (seq ts : Nat) (marker anc : Bool) (bytes : Nat)
    (due : Option MediaDue) (out : Nat → MediaHead → Emit) :
    (s.txPacket n seq ts marker anc bytes due out).1.latches = s.latches := by
  unfold State.txPacket
  extract_lets g len
  refine State.latches_foldl_fst (fun r e => ?_) _ _
  split
  · rfl
  · simp only [apply_ite Prod.fst, State.latches_ite, State.latches_emit, State.latches_mediaSend, ite_self]

theorem State.latches_txVideo (s : State) (n : Fin 1024) (payload : List Nat) :
    (s.txVideo n payload).latches = s.latches := by
  unfold State.txVideo
  dsimp only
  split
  · rfl
  split
  · rfl
  · simp only [State.latches_ite, State.latches_txStat, State.latches_add, State.latches_setTx, State.latches_txPacket,
      ite_self]

theorem State.latches_txAncOne (s : State) (n : Fin 1024) (pkts : List AncPkt) : (s.txAncOne n pkts).latches = s.latches := by
  unfold State.txAncOne
  dsimp only
  split
  · rfl
  split
  · rfl
  · simp only [State.latches_ite, State.latches_addSat, State.latches_add, State.latches_setTx, State.latches_txPacket,
      ite_self]

theorem State.latches_txAnc (s : State) (n : Fin 1024) (rtp : List (List AncPkt)) : (s.txAnc n rtp).latches = s.latches := by
  unfold State.txAnc
  simp only [State.latches_txAncOne, State.latches_ite, ite_self, State.latches_foldl, implies_true]

theorem State.latches_flowFrame (s : State) (v : Fin 32) (f : Format) (g : Frac) (second : Bool) :
    (s.flowFrame v f g second).latches = s.latches := by
  unfold State.flowFrame
  simp only [State.latches_rxFrame, State.latches_txFrame, State.latches_foldl, implies_true]

theorem State.latches_framesBegin (s : State) (v c : Nat) : (s.framesBegin v c).latches = s.latches := by
  unfold State.framesBegin
  simp only [State.latches_emit, State.latches_foldl, implies_true]

theorem State.latches_frameStart (s : State) (v : Fin 32) (second : Bool) : (s.frameStart v second).latches = s.latches := by
  unfold State.frameStart
  split <;> simp only [State.latches_setVtg, State.latches_framesBegin, State.latches_vtgStart, State.latches_gridTime,
    State.latches_flowFrame, State.latches_ptpEvent, State.latches_ite, ite_self]

theorem State.latches_flowFormat (s old : State) (v : Fin 32) : (s.flowFormat old v).latches = s.latches := by
  unfold State.flowFormat
  simp only [State.latches_raise, State.latches_setRxState, State.latches_txStop, State.latches_ite, ite_self,
    State.latches_foldl, implies_true]

/-! ### Audio flows and the audio plane -/

theorem State.latches_meterTake (s : State) (m word : Nat) : (s.meterTake m word).latches = s.latches := (rfl)

theorem State.latches_audCompute (s : State) : s.audCompute.latches = s.latches := by
  unfold State.audCompute
  simp only [State.latches_meterTake, State.latches_mk, State.latches_raise, State.latches_addSat, State.latches_peak,
    State.latches_ite, ite_self, State.latches_foldl, implies_true]

theorem State.latches_audSwapped (s old : State) : (s.audSwapped old).latches = s.latches := by
  unfold State.audSwapped
  simp only [State.latches_add, State.latches_mk, State.latches_raise, State.latches_addSat, State.latches_put,
    State.latches_ite, ite_self]

theorem State.latches_audInit (s : State) : s.audInit.latches = s.latches := (rfl)

theorem State.latches_meterSnap (s : State) : s.meterSnap.latches = s.latches := by
  unfold State.meterSnap
  simp only [State.latches_tput, State.latches_fresh, State.latches_raise, State.latches_mk, State.latches_ite, ite_self,
    State.latches_foldl, implies_true]

theorem State.latches_setArx (s : State) (n : FlowNo) (x : AudRx) : (s.setArx n x).latches = s.latches := (rfl)

theorem State.latches_setArxState (s : State) (n : FlowNo) (st : Nat) : (s.setArxState n st).latches = s.latches := by
  unfold State.setArxState
  simp only [State.latches_put, State.latches_tput]

theorem State.latches_arxRelease (s : State) (n : FlowNo) (keep : AudPkt → Bool) :
    (s.arxRelease n keep).latches = s.latches := by
  unfold State.arxRelease
  simp only [State.latches_poolReturn, State.latches_setArx]

theorem State.latches_setForeign (s : State) (n : FlowNo) (b : Bool) : (s.setForeign n b).latches = s.latches := by
  unfold State.setForeign
  simp only [State.latches_put, State.latches_tput]

theorem State.latches_zeroFlow (s : State) (base : Nat) (n : FlowNo) (lo : Nat) :
    (s.zeroFlow base n lo).latches = s.latches := by
  unfold State.zeroFlow
  simp only [State.latches_setWord, State.latches_foldl, implies_true]

theorem State.latches_arxAfresh (s : State) (n : FlowNo) (st : Nat) : (s.arxAfresh n st).latches = s.latches := by
  unfold State.arxAfresh
  simp only [State.latches_setArxState, State.latches_setForeign, State.latches_setArx, State.latches_arxRelease,
    State.latches_zeroFlow, State.latches_tput, State.latches_ite, ite_self]

theorem State.latches_arxFired (s old : State) (n : FlowNo) : (s.arxFired old n).latches = s.latches := by
  unfold State.arxFired
  simp only [State.latches_arxAfresh, State.latches_ite, ite_self]

theorem State.latches_slackIn (s : State) (n : FlowNo) (first : Int) : (s.slackIn n first).latches = s.latches := by
  unfold State.slackIn
  simp only [State.latches_tput, State.latches_setArx]

theorem State.latches_arxArrive (s : State) (n : FlowNo) (b : Bool) (seq : Nat) :
    (s.arxArrive n b seq).latches = s.latches := by
  unfold State.arxArrive
  extract_lets down back slot heard x
  have hheard : heard.latches = s.latches := by
    simp only [heard, back, State.latches_ite, State.latches_setArx, State.latches_raise, State.latches_tput, ite_self]
  clear_value heard
  split
  · exact hheard
  dsimp only
  split
  · rw [State.latches_tput, State.latches_setArx, hheard]
  · rw [State.latches_setArx, hheard]

theorem State.latches_flowCount (s : State) (f : Fld) (n : FlowNo) (k : Nat) :
    (s.flowCount f n k).latches = s.latches := (rfl)

theorem State.latches_arxStore (s : State) (n : FlowNo) (p : AudPkt) : (s.arxStore n p).latches = s.latches := by
  unfold State.arxStore
  simp only [State.latches_tput, State.latches_poolIssue, State.latches_setArx]

theorem State.latches_arxRun (s : State) (n : FlowNo) : (s.arxRun n).latches = s.latches := by
  unfold State.arxRun
  simp only [State.latches_setArxState, State.latches_raise, State.latches_ite, ite_self]

theorem State.latches_arxAsrc (s : State) (n : FlowNo) (p : RtpAudio) : (s.arxAsrc n p).latches = s.latches := by
  unfold State.arxAsrc
  simp only [State.latches_flowCount, State.latches_setArxState, State.latches_arxRelease, State.latches_arxStore,
    State.latches_ite, ite_self]

theorem State.latches_arxPacket (s : State) (n : FlowNo) (b : Bool) (p : RtpAudio) :
    (s.arxPacket n b p).latches = s.latches := by
  unfold State.arxPacket
  simp only [State.latches_arxArrive, State.latches_addSat, State.latches_flowCount, State.latches_arxAsrc,
    State.latches_raise, State.latches_slackIn, State.latches_arxStore, State.latches_ite, ite_self]

theorem State.latches_arxLoss (s : State) (n : FlowNo) (k : Int) : (s.arxLoss n k).latches = s.latches := by
  unfold State.arxLoss
  simp only [State.latches_flowCount, State.latches_setArx, State.latches_ite, ite_self]

theorem State.latches_arxSmp (s : State) (n : FlowNo) (g : Frac) : (s.arxSmp n g).1.latches = s.latches := by
  unfold State.arxSmp
  split
  · rfl
  split
  · simp only [apply_ite Prod.fst, State.latches_ite, State.latches_arxRun, State.latches_setArx, State.latches_arxRelease,
      ite_self]
  · dsimp only
    rw [State.latches_setArx, State.latches_arxRelease, State.latches_foldl_fst]
    intro r k
    simp only [State.latches_ite, State.latches_arxRun, State.latches_arxLoss, ite_self]

theorem State.latches_arxLost (s : State) (n : FlowNo) : (s.arxLost n).latches = s.latches := by
  unfold State.arxLost
  simp only [State.latches_raise, State.latches_setArxState, State.latches_ite, ite_self]

theorem State.latches_arxPathLost (s : State) (n : FlowNo) (b : Bool) : (s.arxPathLost n b).latches = s.latches := by
  unfold State.arxPathLost
  simp only [State.latches_raise, State.latches_tput, State.latches_ite, ite_self]

theorem State.latches_foreign (s : State) (n : FlowNo) (b : Bool) : (s.foreign n b).latches = s.latches := by
  unfold State.foreign
  simp only [State.latches_setForeign, State.latches_raise, State.latches_ite, ite_self]

theorem State.latches_setAtx (s : State) (n : FlowNo) (x : AudTx) : (s.setAtx n x).latches = s.latches := (rfl)

theorem State.latches_atxStop (s : State) (n : FlowNo) : (s.atxStop n).latches = s.latches := by
  unfold State.atxStop
  simp only [State.latches_zeroFlow, State.latches_poolReturn, State.latches_setAtx]

theorem State.latches_atxFired (s old : State) (n : FlowNo) : (s.atxFired old n).latches = s.latches := by
  unfold State.atxFired
  simp only [State.latches_atxStop, State.latches_setAtx, State.latches_tput, State.latches_ite, ite_self]

theorem State.latches_atxSmp (s : State) (n : FlowNo) (g : Frac) : (s.atxSmp n g).latches = s.latches := by
  unfold State.atxSmp
  dsimp only
  split
  · simp only [apply_ite Prod.fst, State.latches_ite, State.latches_setAtx, State.latches_poolIssue, ite_self]
  · simp only [apply_ite Prod.fst, State.latches_ite, State.latches_setAtx, State.latches_poolIssue, ite_self]

theorem State.latches_atxSend (s : State) (n : FlowNo) (marker : Bool) : (s.atxSend n marker).latches = s.latches := by
  unfold State.atxSend
  dsimp only
  split
  · rw [State.latches_ite, State.latches_ite, State.latches_tput, ite_self, State.latches_foldl_fst]
    · rw [State.latches_poolReturn, State.latches_setAtx, ite_self]
    · intro r e
      split
      · rfl
      · simp only [apply_ite Prod.fst, State.latches_ite, State.latches_emit, State.latches_mediaSend, ite_self]
  · rfl

theorem State.latches_embedSample (s : State) (d carried : Nat) : (s.embedSample d carried).latches = s.latches := by
  unfold State.embedSample
  repeat' split
  all_goals simp only [State.latches_add, State.latches_mk, State.latches_emit, State.latches_ite, ite_self]

/-! ### TDM ports and rate converters -/

theorem State.latches_setTdm (s : State) (b : TdmNo) (x : TdmPort) : (s.setTdm b x).latches = s.latches := (rfl)

theorem State.latches_setTdmState (s : State) (b : TdmNo) (v : Nat) : (s.setTdmState b v).latches = s.latches := by
  unfold State.setTdmState
  simp only [State.latches_put]

theorem State.latches_setAsrc (s : State) (a st : Nat) : (s.setAsrc a st).latches = s.latches := by
  unfold State.setAsrc
  simp only [State.latches_put, State.latches_raise, State.latches_addSat, State.latches_ite, ite_self]

theorem State.latches_asrcOwn (s : State) (rs : List AsrcRange) (a : Nat) : (s.asrcOwn rs a).latches = s.latches := by
  unfold State.asrcOwn
  split <;> simp only [State.latches_puts, State.latches_setAsrc, State.latches_ite, ite_self]

theorem State.latches_asrcSync (s : State) : s.asrcSync.latches = s.latches := by
  unfold State.asrcSync
  simp only [State.latches_asrcOwn, State.latches_foldl, implies_true]

theorem State.latches_asrcTrack (s : State) (a : Nat) (k : AsrcLock) : (s.asrcTrack a k).latches = s.latches := by
  unfold State.asrcTrack
  simp only [State.latches_raise, State.latches_add, State.latches_setAsrc, State.latches_put, State.latches_ite, ite_self]

theorem State.latches_asrcInit (s : State) : s.asrcInit.latches = s.latches := by
  unfold State.asrcInit
  simp only [State.latches_setAsrc, State.latches_foldl, implies_true]

theorem State.latches_gddrWrite (s : State) (a : Nat) (bs : List Nat) : (s.gddrWrite a bs).latches = s.latches := (rfl)

theorem State.latches_ringWrite (s : State) (b : TdmNo) (a : Nat) (bs : List Nat) :
    (s.ringWrite b a bs).latches = s.latches := by
  unfold State.ringWrite
  simp only [State.latches_gddrWrite, State.latches_ite, ite_self, State.latches_foldl, implies_true]

theorem State.latches_ringWritten (s : State) (b : TdmNo) (any : Bool) : (s.ringWritten b any).latches = s.latches := by
  unfold State.ringWritten
  simp only [State.latches_mk, State.latches_ite, ite_self]

theorem State.latches_ringEntry (s : State) (b : TdmNo) (a : Nat) (bs : List Nat) :
    (s.ringEntry b a bs).latches = s.latches := by
  unfold State.ringEntry
  simp only [State.latches_ringWritten, State.latches_ringWrite]

theorem State.latches_capture (s : State) (b : TdmNo) (xs : List Nat) : (s.capture b xs).latches = s.latches := by
  unfold State.capture
  dsimp only
  rw [State.latches_ite, State.latches_put, State.latches_ringWritten, State.latches_foldl_fst, ite_self]
  exact fun r v => r.1.latches_ringWrite ..

theorem State.latches_capAlign (s : State) (b : TdmNo) : (s.capAlign b).latches = s.latches := by
  unfold State.capAlign
  simp only [State.latches_put, State.latches_ite, ite_self]

theorem State.latches_tdmPre (s : State) (b : TdmNo) : (s.tdmPre b).latches = s.latches := by
  unfold State.tdmPre
  simp only [State.latches_capAlign, State.latches_puts, State.latches_setTdmState, State.latches_setTdm, State.latches_ite,
    ite_self]

theorem State.latches_tdmOff (s : State) (b : TdmNo) (stopped : Bool) : (s.tdmOff b stopped).latches = s.latches := by
  unfold State.tdmOff
  simp only [State.latches_puts, State.latches_setTdmState, State.latches_setTdm, State.latches_raise, State.latches_ite,
    ite_self]

theorem State.latches_tdmPost (s : State) (b : TdmNo) (again : Bool) : (s.tdmPost b again).latches = s.latches := by
  unfold State.tdmPost
  simp only [State.latches_setTdmState, State.latches_setTdm]

theorem State.latches_tdmHalt (s : State) (b : TdmNo) (full : Bool) : (s.tdmHalt b full).latches = s.latches := by
  unfold State.tdmHalt
  simp only [State.latches_raise, State.latches_put, State.latches_addSat, State.latches_setTdmState, State.latches_ite,
    ite_self, State.latches_fault_contained]

theorem State.latches_tdmFifoFault (s : State) (b : TdmNo) (full : Bool) : (s.tdmFifoFault b full).latches = s.latches := by
  unfold State.tdmFifoFault
  simp only [State.latches_tdmHalt, State.latches_ite, ite_self]

theorem State.latches_tdmFired (s old : State) (b : TdmNo) : (s.tdmFired old b).latches = s.latches := by
  unfold State.tdmFired
  simp only [State.latches_capAlign, State.latches_tdmPre, State.latches_setTdm, State.latches_tdmOff, State.latches_tdmPost,
    State.latches_ite, ite_self]

theorem State.latches_tdmPreDone (s : State) (b : TdmNo) : (s.tdmPreDone b).latches = s.latches := by
  unfold State.tdmPreDone
  simp only [State.latches_raise, State.latches_setTdmState, State.latches_setTdm, State.latches_ite, ite_self]

theorem State.latches_tdmPostDone (s : State) (b : TdmNo) : (s.tdmPostDone b).latches = s.latches := by
  unfold State.tdmPostDone
  simp only [State.latches_tdmPre, State.latches_tdmOff, State.latches_ite, ite_self]

theorem State.latches_tdmRestart (s : State) (b : TdmNo) : (s.tdmRestart b).latches = s.latches := by
  unfold State.tdmRestart
  simp only [State.latches_tdmPre, State.latches_setTdm, State.latches_ite, ite_self]

theorem State.latches_tdmGlitch (s : State) (b : TdmNo) : (s.tdmGlitch b).latches = s.latches := by
  unfold State.tdmGlitch
  simp only [State.latches_raise, State.latches_addSat]

theorem State.latches_tdmPassed (s : State) (b : TdmNo) (began : Nat) (valid : Bool) :
    (s.tdmPassed b began valid).latches = s.latches := by
  unfold State.tdmPassed
  simp only [State.latches_setTdm, State.latches_ite, ite_self]

theorem State.latches_tdmStarts (s : State) (b : TdmNo) : (s.tdmStarts b).latches = s.latches := (rfl)

theorem State.latches_tdmStop (s : State) (b : TdmNo) (cut : Bool) : (s.tdmStop b cut).latches = s.latches := by
  unfold State.tdmStop
  simp only [State.latches_tdmGlitch, State.latches_raise, State.latches_put, State.latches_setTdmState, State.latches_setTdm,
    State.latches_addSat, State.latches_setAsrc, State.latches_ite, ite_self, State.latches_foldl, implies_true]

theorem State.latches_tdmBack (s : State) (b : TdmNo) : (s.tdmBack b).latches = s.latches := by
  unfold State.tdmBack
  simp only [State.latches_raise, State.latches_tdmPre, State.latches_setAsrc, State.latches_ite, ite_self,
    State.latches_foldl, implies_true]

theorem State.latches_tdmRate (s : State) (b : TdmNo) (k : Nat) : (s.tdmRate b k).latches = s.latches := by
  unfold State.tdmRate
  simp only [State.latches_setTdm, State.latches_put, State.latches_raise, State.latches_ite, ite_self]

theorem State.latches_rateChange (s : State) (b : TdmNo) : (s.rateChange b).latches = s.latches := by
  unfold State.rateChange
  simp only [State.latches_addSat, State.latches_raise, State.latches_setAsrc, State.latches_setTdm, State.latches_ite,
    ite_self, State.latches_foldl, implies_true]

theorem State.latches_asrcFeed (s : State) (b : TdmNo) (span : Nat) : (s.asrcFeed b span).latches = s.latches := by
  unfold State.asrcFeed
  simp only [State.latches_put, State.latches_ite, ite_self, State.latches_foldl, implies_true]

theorem State.latches_tdmNumber (s : State) (b : TdmNo) (c : Nat) : (s.tdmNumber b c).latches = s.latches := by
  unfold State.tdmNumber
  simp only [State.latches_setTdm, State.latches_asrcFeed, State.latches_put, State.latches_ringEntry,
    State.latches_rateChange, State.latches_ite, ite_self]

theorem State.latches_tdmMasks (s : State) (b : TdmNo) (later : Bool) : (s.tdmMasks b later).latches = s.latches := by
  unfold State.tdmMasks
  simp only [State.latches_capAlign, State.latches_setTdm, State.latches_ite, ite_self]

theorem State.latches_asrcOut (s : State) (a : Nat) : (s.asrcOut a).2.latches = s.latches := by
  unfold State.asrcOut
  split <;> simp only [State.latches_fresh]

theorem State.latches_asrcOuts (s : State) (l : List Nat) : (s.asrcOuts l).2.latches = s.latches := by
  unfold State.asrcOuts
  rw [State.latches_foldl_snd]
  exact fun r a => r.2.latches_asrcOut a

theorem State.latches_tdmDout (s : State) (b : TdmNo) : (s.tdmDout b).latches = s.latches := by
  unfold State.tdmDout
  extract_lets x send r
  have hsend : ∀ (u : State) (xs : List Nat), (send u xs).latches = u.latches := fun u xs => u.latches_emit _
  simp only [State.latches_ite, hsend, r, State.latches_asrcOuts, State.latches_setTdm, ite_self]
  cases x.dout with
  | nil => simp only [hsend, State.latches_tdmHalt, ite_self]
  | cons f rest => simp only [hsend, State.latches_setTdm, ite_self]

theorem State.latches_tdmDin (s : State) (b : TdmNo) (k c : Nat) (xs : List Nat) :
    (s.tdmDin b k c xs).latches = s.latches := by
  unfold State.tdmDin
  simp only [State.latches_tdmHalt, State.latches_setTdm, State.latches_ite, ite_self]

theorem State.latches_tdmFrameStart (s : State) (b : TdmNo) (din : List Nat) :
    (s.tdmFrameStart b din).latches = s.latches := by
  unfold State.tdmFrameStart
  simp only [State.latches_ite, State.latches_tdmDin, State.latches_tdmDout, State.latches_capture, State.latches_tdmNumber,
    State.latches_tdmMasks, State.latches_tdmStarts, State.latches_setTdm]
  split
  · rfl
  split
  · exact s.latches_tdmPassed ..
  · rfl

theorem State.latches_tdmFrameRx (s : State) (b : TdmNo) (began n : Nat) (din : List Nat) :
    (s.tdmFrameRx b began n din).latches = s.latches := by
  unfold State.tdmFrameRx
  simp only [State.latches_tdmStarts, State.latches_tdmPassed, State.latches_setTdm, State.latches_tdmGlitch,
    State.latches_tdmNumber, State.latches_tdmDin, State.latches_capture, State.latches_tdmDout, State.latches_tdmMasks,
    State.latches_ite, ite_self]

theorem State.latches_tdmTake (s : State) (b : TdmNo) (low : Nat) : (s.tdmTake b low).1.latches = s.latches := by
  unfold State.tdmTake
  simp only [apply_ite Prod.fst, State.latches_ite, State.latches_setTdm, State.latches_tdmHalt, ite_self]

theorem State.latches_tdmPush (s : State) (b : TdmNo) : (s.tdmPush b).latches = s.latches := by
  unfold State.tdmPush
  simp only [State.latches_tdmHalt, State.latches_setTdm, State.latches_ite, ite_self]

theorem State.latches_tdmAsrcSmp (s : State) (b : TdmNo) (low : Nat) : (s.tdmAsrcSmp b low).1.latches = s.latches := by
  unfold State.tdmAsrcSmp
  extract_lets x n at_ st t
  have ht : t.latches = s.latches := by
    simp only [t, State.latches_ite, State.latches_setTdm, ite_self]
  clear_value t
  split
  · rw [State.latches_setTdm, ht]
  · simp only [apply_ite Prod.fst, State.latches_ite, State.latches_setTdm]
    rw [State.latches_foldl_fst, ht, ite_self, ite_self]
    intro r i
    simp only [apply_ite Prod.fst, State.latches_ite, State.latches_asrcOut, ite_self]

theorem State.latches_tdmSmp (s : State) (b : TdmNo) (low : Nat) : (s.tdmSmp b low).1.latches = s.latches := by
  unfold State.tdmSmp
  dsimp only
  split
  · exact s.latches_tdmAsrcSmp b low
  split
  · rw [State.latches_setTdm, State.latches_tdmPush]
  · simp only [apply_ite Prod.fst, State.latches_ite, State.latches_setTdm, State.latches_tdmTake, State.latches_tdmPush,
      ite_self]

theorem State.latches_asrcFlowSmp (s : State) (low : Nat) : (s.asrcFlowSmp low).1.latches = s.latches := by
  unfold State.asrcFlowSmp
  refine State.latches_foldl_fst (fun r a => ?_) _ _
  simp only [apply_ite Prod.fst, State.latches_ite, State.latches_asrcOut, ite_self]

theorem State.latches_tdmInit (s : State) (b : TdmNo) : (s.tdmInit b).latches = s.latches := by
  unfold State.tdmInit
  simp only [State.latches_tdmOff]

/-! ### Engines and GDDR6 -/

theorem State.latches_setEng (s : State) (e : EngNo) (x : Eng) : (s.setEng e x).latches = s.latches := (rfl)

theorem State.latches_engReport (s : State) (v : View) (e : EngNo) (r : Nat × Nat × Nat) :
    (s.engReport v e r).latches = s.latches := by
  unfold State.engReport
  simp only [State.latches_raise, State.latches_puts, State.latches_ite, ite_self]

theorem State.latches_frameWritten (s : State) (e : EngNo) (l det at_ : Nat) (broke : Option Nat) (data : List Nat) :
    (s.frameWritten e l det at_ broke data).latches = s.latches := by
  unfold State.frameWritten
  simp only [State.latches_raise, State.latches_put, State.latches_setEng, State.latches_gddrWrite, State.latches_ite,
    ite_self]

theorem State.latches_layerMiss (s : State) (e : EngNo) (l : Nat) (fresh none : Bool) :
    (s.layerMiss e l fresh none).latches = s.latches := by
  unfold State.layerMiss
  simp only [State.latches_puts, State.latches_raise, State.latches_addSat, State.latches_ite, ite_self]

theorem State.latches_layerBit (s : State) (e : EngNo) (l : Nat) (f cause : Fld) (b : Bool) :
    (s.layerBit e l f cause b).latches = s.latches := by
  unfold State.layerBit
  simp only [State.latches_put, State.latches_raise, State.latches_ite, ite_self]

theorem State.latches_layerTick (s : State) (e : EngNo) (v : Nat) (out : Format) (c : Words) (l : Nat) :
    (s.layerTick e v out c l).latches = s.latches := by
  unfold State.layerTick
  extract_lets y0 det y buffered fitted x b d was shown changed lagged
  have hchanged : changed.latches = s.latches := by
    simp only [changed, shown, fitted, buffered, State.latches_ite, State.latches_raise, State.latches_put,
      State.latches_layerBit, ite_self]
  have hlagged : lagged.latches = s.latches := by
    unfold lagged
    split
    · rw [State.latches_put, hchanged]
    · exact hchanged
  clear_value lagged
  split
  · rfl
  split
  · rw [State.latches_layerMiss, State.latches_setEng, hlagged]
  split
  · rw [State.latches_layerMiss, State.latches_setEng, hlagged]
  · dsimp only
    split
    · rw [State.latches_layerMiss, State.latches_setEng, hlagged]
    · simp only [State.latches_ite, State.latches_layerMiss, State.latches_addSat, State.latches_setEng, hlagged, ite_self]

theorem State.latches_engTick (s : State) (e : EngNo) (v : Nat) (out : Format) : (s.engTick e v out).latches = s.latches := by
  unfold State.engTick
  simp only [State.latches_setEng, State.latches_raise, State.latches_add, State.latches_layerTick, State.latches_foldl,
    implies_true]

theorem State.latches_engFrm (s : State) (v : Nat) : (s.engFrm v).latches = s.latches := by
  unfold State.engFrm
  split <;> simp only [State.latches_engTick, State.latches_foldl, implies_true]

theorem State.latches_engFired (s old : State) (e : EngNo) : (s.engFired old e).latches = s.latches := by
  unfold State.engFired
  simp only [State.latches_puts, State.latches_setEng, State.latches_ite, ite_self, State.latches_foldl, implies_true]

theorem State.latches_engInit (s : State) (e : EngNo) : (s.engInit e).latches = s.latches := (rfl)

theorem State.latches_eyeWidths (s : State) (c : Nat) : (s.eyeWidths c).latches = s.latches := by
  unfold State.eyeWidths
  simp only [State.latches_fresh, State.latches_put]

theorem State.latches_gmcRetrain (s : State) : s.gmcRetrain.latches = s.latches := by
  unfold State.gmcRetrain
  simp only [State.latches_eyeWidths, State.latches_mk, State.latches_raise, State.latches_add, State.latches_put,
    State.latches_ite, ite_self]

theorem State.latches_burstLost (s : State) (c : Nat) (r : Requester) : (s.burstLost c r).latches = s.latches := by
  unfold State.burstLost
  extract_lets eng
  have heng : ∀ (e : Nat) (f : EngNo → State), (∀ e, (f e).latches = s.latches) → (eng e f).latches = s.latches := by
    intro e f hf
    unfold eng
    split
    · exact hf _
    · rfl
  cases r with
  | frameWrite e l => exact heng e _ fun e => s.latches_setEng ..
  | layerRead e l lines =>
    exact heng e _ fun e => by rw [State.latches_raise, State.latches_addSat, State.latches_setEng]
  | cacheRead e k lines =>
    exact heng e _ fun e => by rw [State.latches_raise, State.latches_addSat, State.latches_setEng]
  | cacheWrite e k => exact heng e _ fun e => s.latches_setEng ..
  | token f seq =>
    dsimp only
    split
    · exact s.latches_arxRelease ..
    · rfl
  | ring b => rfl

theorem State.latches_edcError (s : State) (c : Nat) (lost : Option Requester) : (s.edcError c lost).latches = s.latches := by
  unfold State.edcError
  split <;> simp only [State.latches_raise, State.latches_addSat, State.latches_burstLost, State.latches_fault_corrected,
    State.latches_fault_contained]

end Sys2Proof.Machine
end

section
/-! SUPPORT. The operations of the control plane leave the fatal latches alone, its resets among them (R429, R434). -/

namespace Sys2Proof.Machine

/-! ### Event recorder and black box -/

theorem State.latches_bbxPush (s : State) (e : BbxEntry) : (s.bbxPush e).latches = s.latches := by
  unfold State.bbxPush
  simp only [State.latches_mk, State.latches_addSat, State.latches_ite, ite_self]

theorem State.latches_summary (s : State) : s.summary.latches = s.latches := by
  unfold State.summary
  split <;> simp only [State.latches_bbxPush, State.latches_ite, ite_self]

theorem State.latches_newRecord (s : State) (e : Ev) : (s.newRecord e).latches = s.latches := by
  unfold State.newRecord
  simp only [State.latches_summary, State.latches_raise, State.latches_addSat, State.latches_mk, State.latches_add,
    State.latches_bbxPush, State.latches_ite, ite_self]

theorem State.latches_writeEv (s : State) (e : Ev) : (s.writeEv e).latches = s.latches := by
  unfold State.writeEv
  split <;> simp only [State.latches_raise, State.latches_add, State.latches_mk, State.latches_newRecord, State.latches_ite,
    ite_self]

theorem State.latches_recordNext (s : State) : s.recordNext.latches = s.latches := by
  unfold State.recordNext
  split <;> simp only [State.latches_writeEv, State.latches_mk, State.latches_offer, State.latches_ite, ite_self]

theorem State.latches_recordDue (s : State) : s.recordDue.latches = s.latches := by
  unfold State.recordDue
  simp only [State.latches_recordNext, State.latches_ite, ite_self]

theorem State.latches_evrLatch (s : State) (k : Nat) : (s.evrLatch k).latches = s.latches := by
  unfold State.evrLatch
  simp only [State.latches_puts, State.latches_put, State.latches_ite, ite_self, State.latches_foldl, implies_true]

theorem State.latches_evrStep (s : State) (k : Nat) : (s.evrStep k).latches = s.latches := by
  unfold State.evrStep
  simp only [State.latches_add, State.latches_ite, ite_self]

theorem State.latches_cursors (s : State) : s.cursors.latches = s.latches := by
  unfold State.cursors
  simp only [State.latches_puts]

theorem State.latches_clrReject (s : State) : s.clrReject.latches = s.latches := by
  unfold State.clrReject
  simp only [State.latches_raise, State.latches_addSat]

theorem State.latches_evrClr (s : State) (k : Nat) (arm clear : Bool) : (s.evrClr k arm clear).latches = s.latches := by
  unfold State.evrClr
  simp only [State.latches_clrReject, State.latches_puts, State.latches_mk, State.latches_summary, State.latches_raise,
    State.latches_put, State.latches_cursors, State.latches_writeEv, State.latches_ite, ite_self]

theorem State.latches_evrLapse (s : State) : s.evrLapse.latches = s.latches := by
  unfold State.evrLapse
  simp only [State.latches_put, State.latches_ite, ite_self]

theorem State.latches_evrInit (s : State) : s.evrInit.latches = s.latches := by
  unfold State.evrInit
  simp only [State.latches_puts, State.latches_cursors]

theorem State.latches_bbxAppend (s : State) (e : BbxEntry) : (s.bbxAppend e).latches = s.latches := by
  unfold State.bbxAppend
  simp only [State.latches_raise, State.latches_addSat, State.latches_mk, State.latches_add, State.latches_ite, ite_self]

theorem State.latches_bbxWrite (s : State) (ok : Bool) : (s.bbxWrite ok).latches = s.latches := by
  unfold State.bbxWrite
  split <;> simp only [State.latches_mk, State.latches_bbxPush, State.latches_addSat, State.latches_raise,
    State.latches_offer, State.latches_bbxAppend, State.latches_ite, ite_self, State.latches_fault_contained]

theorem State.latches_health (s : State) : s.health.latches = s.latches := by
  unfold State.health
  simp only [State.latches_summary, State.latches_fresh, State.latches_bbxPush, State.latches_mk]

theorem State.latches_healthDue (s : State) : s.healthDue.latches = s.latches := by
  unfold State.healthDue
  split <;> simp only [State.latches_health, State.latches_mk, State.latches_ite, ite_self]

theorem State.latches_setBbxBuf (s : State) (k : Nat) (l : List Nat) : (s.setBbxBuf k l).latches = s.latches := by
  unfold State.setBbxBuf
  simp only [State.latches_put, State.latches_foldl, implies_true]

theorem State.latches_bbxRead (s : State) (k arg0 arg1 : Nat) : (s.bbxRead k arg0 arg1).2.2.latches = s.latches := by
  unfold State.bbxRead
  simp only [apply_ite Prod.snd, State.latches_ite, State.latches_setBbxBuf, ite_self]

theorem State.latches_bbxChallenge (s : State) (k : Nat) : (s.bbxChallenge k).2.2.latches = s.latches := by
  unfold State.bbxChallenge
  simp only [State.latches_random, State.latches_setBbxBuf, State.latches_mk]

theorem State.latches_bbxErase (s : State) (k : Nat) (ok : Bool) : (s.bbxErase k ok).2.2.latches = s.latches := by
  unfold State.bbxErase
  dsimp only
  split
  · rfl
  split
  · rfl
  · simp only [apply_ite Prod.snd, State.latches_ite, State.latches_raise, State.latches_addSat, State.latches_bbxAppend,
      State.latches_mk, ite_self]

theorem State.latches_bbxOp (s : State) (k op : Nat) (ok : Bool) : (s.bbxOp k op ok).2.2.latches = s.latches := by
  unfold State.bbxOp
  split <;> simp only [State.latches_bbxRead, State.latches_bbxChallenge, State.latches_bbxErase, State.latches_health]

theorem State.latches_bbxGo (s : State) (k op : Nat) (ok : Bool) : (s.bbxGo k op ok).latches = s.latches := by
  unfold State.bbxGo
  simp only [State.latches_raise, State.latches_addSat, State.latches_bbxOp, State.latches_put, State.latches_mk,
    State.latches_ite, ite_self]

theorem State.latches_bbxFinish (s : State) (k status rsp : Nat) : (s.bbxFinish k status rsp).latches = s.latches := by
  unfold State.bbxFinish
  simp only [State.latches_raise, State.latches_puts, State.latches_mk]

theorem State.latches_bbxComplete (s : State) (k : Nat) : (s.bbxComplete k).latches = s.latches := by
  unfold State.bbxComplete
  split <;> simp only [State.latches_bbxFinish]

theorem State.latches_bbxInit (s : State) : s.bbxInit.latches = s.latches := by
  unfold State.bbxInit
  simp only [State.latches_bbxFinish, State.latches_mk, State.latches_setBbxBuf, State.latches_ite, ite_self]

/-! ### Resets and start-up -/

theorem State.latches_setSlot (s : State) (k : Nat) (x : ImgSlot) : (s.setSlot k x).latches = s.latches := (rfl)

theorem State.latches_drain (s : State) : s.drain.latches = s.latches := by
  unfold State.drain
  simp only [State.latches_recordNext, State.latches_foldl, implies_true]

theorem State.latches_enterReset (s : State) (hold : Nat) : (s.enterReset hold).latches = s.latches := (rfl)

theorem State.latches_restart (s : State) (cause : Nat) (tamp : Bool) : (s.restart cause tamp).latches = s.latches := by
  unfold State.restart
  simp only [State.latches_mk, State.latches_rootAtReset, State.latches_cursors, State.latches_put]

theorem State.latches_bootRecord (s : State) (sel next prev : Nat) (trial : Bool) :
    (s.bootRecord sel next prev trial).latches = s.latches := (rfl)

theorem State.latches_revert (s : State) (status : Nat) : (s.revert status).latches = s.latches := by
  unfold State.revert
  simp only [State.latches_offer, State.latches_bootRecord, State.latches_restart, State.latches_enterReset,
    State.latches_drain, State.latches_raise, State.latches_puts]

theorem State.latches_startUp (s : State) (cause : Nat) (tamp : Bool) : (s.startUp cause tamp).latches = s.latches := by
  unfold State.startUp
  simp only [State.latches_restart, State.latches_revert, State.latches_bootRecord, State.latches_ite, ite_self]

theorem State.latches_deviceReset (s : State) (cause : Nat) : (s.deviceReset cause).latches = s.latches := by
  unfold State.deviceReset
  simp only [State.latches_startUp, State.latches_enterReset, State.latches_drain]

theorem State.latches_softReset (s : State) (m : Master) (v : Nat) : (s.softReset m v).latches = s.latches := by
  unfold State.softReset
  simp only [State.latches_offer, State.latches_mk, State.latches_ite, ite_self]

theorem State.latches_softExecute (s : State) : s.softExecute.latches = s.latches := by
  unfold State.softExecute
  split <;> simp only [State.latches_deviceReset, State.latches_ite, ite_self]

theorem State.latches_powerGood (s : State) (tamp : Bool) : (s.powerGood tamp).latches = s.latches := by
  unfold State.powerGood
  simp only [State.latches_tamperReport, State.latches_startUp, State.latches_mk]

theorem State.latches_cfgAppend (s : State) (key fmt : Nat) (body : List Nat) (tag : Option Nat) :
    (s.cfgAppend key fmt body tag).latches = s.latches := (rfl)

theorem State.latches_migrate (s : State) : s.migrate.latches = s.latches := by
  unfold State.migrate
  extract_lets keys tag olds copied closed flash retired
  have hcopied : copied.latches = s.latches := by
    refine State.latches_foldl _ _ _ fun u k => ?_
    split
    · exact u.latches_cfgAppend ..
    · rfl
  simp only [State.latches_ite, State.latches_addSat, retired, State.latches_mk, closed, State.latches_cfgAppend, hcopied,
    ite_self]

theorem State.latches_cfgErase (s : State) : s.cfgErase.latches = s.latches := (rfl)

theorem State.latches_bootFail (s : State) (status : Nat) : (s.bootFail status).latches = s.latches := by
  unfold State.bootFail
  simp only [State.latches_revert, State.latches_offer, State.latches_puts, State.latches_ite, ite_self]

theorem State.latches_macsFromOtp (s : State) : s.macsFromOtp.latches = s.latches := by
  unfold State.macsFromOtp
  simp only [State.latches_macFromOtp, State.latches_foldl, implies_true]

theorem State.latches_coresStart (s : State) : s.coresStart.latches = s.latches := by
  unfold State.coresStart
  simp only [State.latches_put, State.latches_puts, State.latches_mk]

theorem State.latches_squelchLift (s : State) : s.squelchLift.latches = s.latches := by
  unfold State.squelchLift
  simp only [State.latches_detect, State.latches_ethAfresh, State.latches_ite, ite_self, State.latches_foldl, implies_true]

theorem State.latches_portBoot (s : State) (p : PortNo) (b : Nat) : (s.portBoot p b).latches = s.latches := by
  unfold State.portBoot
  simp only [State.latches_putLive, State.latches_put, State.latches_ethFired, State.latches_foldl, implies_true]

theorem State.latches_settings (s : State) (calOk : Bool) : (s.settings calOk).latches = s.latches := by
  unfold State.settings
  extract_lets migrated flash checked reported delayed booted
  have hdelayed : delayed.latches = s.latches := by
    unfold delayed
    rw [State.latches_foldl _ _ _ State.latches_useLat]
    simp only [reported, checked, migrated, State.latches_ite, State.latches_fault_contained, State.latches_raise,
      State.latches_mk, State.latches_migrate, ite_self]
  rw [State.latches_offer]
  unfold booted
  split
  · rw [State.latches_foldl, hdelayed]
    intro u p
    rw [State.latches_ite, State.latches_portBoot, ite_self]
  · exact hdelayed

theorem State.latches_takeTrims (s : State) (calOk : Bool) : (s.takeTrims calOk).latches = s.latches := (rfl)

theorem State.latches_bootPhaseEnd (s : State) (ok calOk : Bool) : (s.bootPhaseEnd ok calOk).latches = s.latches := by
  unfold State.bootPhaseEnd
  dsimp only
  split
  · rw [State.latches_macsFromOtp, State.latches_put]
  · simp only [State.latches_ite, State.latches_put, State.latches_bootFail, ite_self]
  · split
    · exact s.latches_bootFail _
    · rw [State.latches_coresStart, State.latches_put]
  · rw [State.latches_ite, State.latches_put, ite_self]
  · rw [State.latches_settings, State.latches_squelchLift, State.latches_takeTrims, State.latches_put]
  · rfl

theorem State.latches_readyRise (s : State) : s.readyRise.latches = s.latches := by
  unfold State.readyRise
  simp only [State.latches_puts, State.latches_mk, State.latches_tdmFired, State.latches_offer, State.latches_refoFollow,
    State.latches_ite, ite_self, State.latches_foldl, implies_true]

theorem State.latches_bootWdOver (s : State) : s.bootWdOver.latches = s.latches := by
  unfold State.bootWdOver
  simp only [State.latches_revert, State.latches_ite, ite_self]

theorem State.latches_tapLoad (s : State) (i : Nat) : (s.tapLoad i).latches = s.latches := by
  unfold State.tapLoad
  simp only [State.latches_mk, State.latches_unusual, State.latches_ite, ite_self]

/-! ### PCIe, mailboxes and the bus matrix -/

theorem State.latches_msixReset (s : State) : s.msixReset.latches = s.latches := by
  unfold State.msixReset
  simp only [State.latches_setWord, State.latches_foldl, implies_true]

theorem State.latches_mreset (s : State) (m target nulled : Nat) : (s.mreset m target nulled).latches = s.latches := by
  unfold State.mreset
  simp only [State.latches_raise, State.latches_addSat, State.latches_puts, State.latches_ite, ite_self]

theorem State.latches_unlockAll (s : State) (m : Nat) : (s.unlockAll m).latches = s.latches := (rfl)

theorem State.latches_masterReset (s : State) (m : Nat) (flight : Option (Nat × Nat)) :
    (s.masterReset m flight).latches = s.latches := by
  unfold State.masterReset
  split <;> simp only [State.latches_unlockAll, State.latches_mreset]

theorem State.latches_pcieReset (s : State) (flight : Option (Nat × Nat)) : (s.pcieReset flight).latches = s.latches := by
  unfold State.pcieReset
  simp only [State.latches_msixReset, State.latches_mk, State.latches_masterReset, State.latches_puts]

theorem State.latches_pcieIsReady (s : State) : s.pcieIsReady.latches = s.latches := by
  unfold State.pcieIsReady
  simp only [State.latches_raise, State.latches_mk, State.latches_ite, ite_self]

theorem State.latches_pcieUp (s : State) (width speed : Nat) : (s.pcieUp width speed).latches = s.latches := by
  unfold State.pcieUp
  simp only [State.latches_addSat, State.latches_raise, State.latches_puts, State.latches_ite, ite_self]

theorem State.latches_pcieDown (s : State) : s.pcieDown.latches = s.latches := by
  unfold State.pcieDown
  simp only [State.latches_raise, State.latches_put, State.latches_ite, ite_self]

theorem State.latches_msixSet (s : State) (enable fmask : Bool) (vec : Option Nat) :
    (s.msixSet enable fmask vec).latches = s.latches := by
  unfold State.msixSet
  split <;> simp only [State.latches_put, State.latches_mk, State.latches_tput]

theorem State.latches_eoi (s : State) (v : Nat) : (s.eoi v).latches = s.latches := (rfl)

theorem State.latches_hifInit (s : State) : s.hifInit.latches = s.latches := (rfl)

theorem latches_mbxChecks (l : List (Bool × Nat)) {s : State} {ok : MbxEnd} (h : ok.2.2.latches = s.latches) :
    (mbxChecks l s ok).2.2.latches = s.latches := by
  unfold mbxChecks
  dsimp only
  split
  · rfl
  · exact h

theorem State.latches_mbxHealth (s : State) : s.mbxHealth.2.2.latches = s.latches := (rfl)

theorem State.latches_mbxCfgWrite (s : State) (k : Nat) (ws : List Nat) (ok : Bool) :
    (s.mbxCfgWrite k ws ok).2.2.latches = s.latches := by
  unfold State.mbxCfgWrite
  simp only [latches_mbxChecks, State.latches_cfgAppend, State.latches_ite, ite_self, apply_ite Prod.snd]

theorem State.latches_mbxCalWrite (s : State) (k : Nat) (ws : List Nat) (ok : Bool) :
    (s.mbxCalWrite k ws ok).2.2.latches = s.latches := by
  unfold State.mbxCalWrite
  simp only [latches_mbxChecks, State.latches_mk, State.latches_useLat, State.latches_ite, ite_self, apply_ite Prod.snd]

theorem State.latches_mbxOp (s : State) (k cmd : Nat) (ws : List Nat) (ok : Bool) :
    (s.mbxOp k cmd ws ok).2.2.latches = s.latches := by
  unfold State.mbxOp
  split <;> simp only [latches_mbxChecks, State.latches_mbxHealth, State.latches_mbxCfgWrite, State.latches_mbxCalWrite]

theorem State.latches_mbxReject (s : State) (k : Nat) (go : Bool) : (s.mbxReject k go).latches = s.latches := by
  unfold State.mbxReject
  simp only [State.latches_addSat, State.latches_raise, State.latches_ite, ite_self]

theorem State.latches_mbxGo (s : State) (k : Nat) (ok : Bool) : (s.mbxGo k ok).latches = s.latches := by
  unfold State.mbxGo
  simp only [State.latches_ite, State.latches_mbxReject, State.latches_mk, apply_ite Prod.snd, State.latches_mbxOp,
    State.latches_puts, ite_self]

theorem State.latches_mbxAbort (s : State) (k : Nat) : (s.mbxAbort k).latches = s.latches := by
  unfold State.mbxAbort
  simp only [State.latches_mk, State.latches_ite, ite_self]

theorem State.latches_mbxCtrl (s : State) (k : Nat) (go abort ok : Bool) : (s.mbxCtrl k go abort ok).latches = s.latches := by
  unfold State.mbxCtrl
  simp only [State.latches_mbxAbort, State.latches_mbxGo, State.latches_ite, ite_self]

theorem State.latches_mbxRespond (s : State) (k : Nat) : (s.mbxRespond k).latches = s.latches := by
  unfold State.mbxRespond
  split <;> simp only [State.latches_put, State.latches_raise, State.latches_puts, State.latches_mk, State.latches_fresh,
    State.latches_offer, State.latches_ite, ite_self, State.latches_foldl, implies_true]

theorem State.latches_heartbeat (s : State) : s.heartbeat.latches = s.latches := by
  unfold State.heartbeat
  simp only [State.latches_add, State.latches_ite, ite_self]

theorem State.latches_waitMax (s : State) (t n : Nat) : (s.waitMax t n).latches = s.latches := by
  unfold State.waitMax
  simp only [State.latches_put, State.latches_ite, ite_self]

theorem State.latches_grant (s : State) (t : Nat) (ws : List Waiter) : (s.grant t ws).latches = s.latches := by
  unfold State.grant
  extract_lets counted waiting lock heard granted
  have hcounted : counted.latches = s.latches := by
    simp only [counted, State.latches_ite, State.latches_addSat, ite_self]
  clear_value counted
  split
  · exact hcounted
  · extract_lets raised timed lock' bus locked bus' answered
    have hlocked : locked.latches = s.latches := by
      simp only [locked, State.latches_mk, timed, State.latches_waitMax, raised, State.latches_ite, State.latches_raise,
        State.latches_addSat, granted, State.latches_poolUse, State.latches_add, hcounted, ite_self]
    have hanswered : answered.latches = s.latches := hlocked
    clear_value locked answered
    split
    · split
      · rw [State.latches_emit, hanswered]
      · exact hanswered
    · exact hlocked

theorem State.latches_lockBreak (s : State) (t : Nat) : (s.lockBreak t).latches = s.latches := by
  unfold State.lockBreak
  split <;> simp only [State.latches_mk, State.latches_puts, State.latches_raise, State.latches_addSat, State.latches_ite,
    ite_self, State.latches_fault_contained]

theorem State.latches_coreDog (s : State) (k : Nat) (flight : Option (Nat × Nat)) :
    (s.coreDog k flight).latches = s.latches := by
  unfold State.coreDog
  simp only [State.latches_masterReset, State.latches_offer]

theorem State.latches_busmInit (s : State) : s.busmInit.latches = s.latches := (rfl)

/-! ### Pools -/

theorem State.latches_poolCheck (s : State) (cand : List Page) (grp : Option Nat) :
    (s.poolCheck cand grp).1.latches = s.latches := by
  unfold State.poolCheck
  dsimp only
  split
  · rfl
  · simp only [State.latches_ite, State.latches_puts, State.latches_raise, ite_self]

theorem State.latches_poolSync (s old : State) (pages : List Page) : (s.poolSync old pages).latches = s.latches := by
  obtain ⟨x, h⟩ := s.poolSync_pooled old pages
  rw [h, State.latches_mk]

/-! ### Received frames -/

theorem State.latches_rxDrop (s : State) (p : PortNo) (f : RxFrame) (c : Nat) : (s.rxDrop p f c).latches = s.latches := by
  unfold State.rxDrop
  simp only [State.latches_cntAdds]

theorem State.latches_rxBuffer (s : State) (p : PortNo) (f : RxFrame) : (s.rxBuffer p f).latches = s.latches := by
  unfold State.rxBuffer
  simp only [State.latches_emit, State.latches_poolUse]

theorem State.latches_rxTaken (s : State) (p : PortNo) (f : RxFrame) : (s.rxTaken p f).latches = s.latches := by
  unfold State.rxTaken
  simp only [State.latches_cntAdds]

theorem State.latches_rxPause (s : State) (p : PortNo) (f : RxFrame) : (s.rxPause p f).latches = s.latches := by
  unfold State.rxPause
  simp only [State.latches_rxTaken, State.latches_cntAdd, State.latches_pauseClass, State.latches_ite, ite_self,
    State.latches_foldl, implies_true]

theorem State.latches_rxHost (s : State) (p : PortNo) (f : RxFrame) (reason : Nat) (valid : Bool) (desc : Nat × Nat) :
    (s.rxHost p f reason valid desc).latches = s.latches := by
  unfold State.rxHost
  simp only [State.latches_hqDeliver, State.latches_rxBuffer, State.latches_rxTaken, State.latches_raise,
    State.latches_rxDrop, State.latches_ite, ite_self]

theorem State.latches_rxPtp (s : State) (p : PortNo) (f : RxFrame) : (s.rxPtp p f).latches = s.latches := by
  unfold State.rxPtp
  split <;> simp only [State.latches_rxBuffer, State.latches_rxTaken, State.latches_stamp, State.latches_cntAdd,
    State.latches_announce, State.latches_ite, ite_self, State.latches_foldl, implies_true]

theorem State.latches_clsTarget {put : State → State} (hput : ∀ u : State, (put u).latches = u.latches) (s : State)
    (p : PortNo) (f : RxFrame) (page : Page) (en : Bool) : (s.clsTarget p f page en put).latches = s.latches := by
  unfold State.clsTarget
  simp only [State.latches_ite, hput, State.latches_rxTaken, State.latches_rxBuffer, State.latches_addSat,
    State.latches_cntAdds, ite_self]

theorem State.latches_clsDeliver (s : State) (p : PortNo) (f : RxFrame) (valid : Bool) (desc : Nat × Nat) (e i : Nat) :
    (s.clsDeliver p f valid desc e i).latches = s.latches := by
  unfold State.clsDeliver
  extract_lets hit kind target b
  have hhit : hit.latches = s.latches := s.latches_add ..
  clear_value hit
  split
  · rw [State.latches_rxHost, hhit]
  split
  · rw [State.latches_addSat, State.latches_cntAdds, hhit]
  split
  · split
    · rw [State.latches_clsTarget, hhit]
      exact fun u => by simp only [State.latches_ite, State.latches_rxPacket, State.latches_rxAnc, ite_self]
    · exact hhit
  · split
    · rw [State.latches_clsTarget, hhit]
      exact fun u => by rw [State.latches_ite, State.latches_arxPacket, ite_self]
    · exact hhit

theorem State.latches_rxClassify (s : State) (p : PortNo) (f : RxFrame) (valid : Bool) (desc : Nat × Nat) :
    (s.rxClassify p f valid desc).latches = s.latches := by
  unfold State.rxClassify
  repeat' split
  all_goals simp only [State.latches_addSat, State.latches_cntAdds, State.latches_clsDeliver, State.latches_rxHost,
    State.latches_rxDrop]

theorem State.latches_lineCount (s : State) (p : PortNo) (c : LineCount) : (s.lineCount p c).latches = s.latches := by
  unfold State.lineCount
  simp only [State.latches_cntAdds, State.latches_addSat, State.latches_put, State.latches_foldl, implies_true]

theorem State.latches_ethRx (s : State) (p : PortNo) (f : RxFrame) (desc : Nat × Nat) :
    (s.ethRx p f desc).latches = s.latches := by
  unfold State.ethRx
  extract_lets top f counted
  have hcounted : counted.latches = s.latches := by
    rw [State.latches_cntAdds, State.latches_lineCount]
  clear_value counted
  simp only [State.latches_ite, State.latches_rxDrop, hcounted]
  generalize hr : counted.validate p (decide (f.etherType = 0x888E)) f.sec = r
  have hvalid : r.1.latches = s.latches := by rw [← hr, State.latches_validate, hcounted]
  obtain ⟨u, pass, valid⟩ := r
  dsimp only at hvalid ⊢
  simp only [State.latches_cntAdds, State.latches_rxPause, State.latches_rxPtp, hvalid]
  cases hostReason f with
  | none => simp only [State.latches_rxClassify, hvalid, ite_self]
  | some k => simp only [State.latches_rxHost, hvalid, ite_self]

/-! ### The checks of an arm -/

theorem latches_runChecks {l : List Check} (h : ∀ c ∈ l, ∀ u : State, (c u).1.latches = u.latches) (s : State) :
    (runChecks l s).1.latches = s.latches := by
  unfold runChecks
  generalize false = b
  induction l generalizing s b with
  | nil => rfl
  | cons c r ih =>
    rw [List.foldl_cons, ih (fun d hd => h d (List.mem_cons_of_mem _ hd))]
    exact h c List.mem_cons_self s

theorem latches_badCfg (p : Page) (f : Fld) (bad : State → Bool) (s : State) : (badCfg p f bad s).1.latches = s.latches := by
  unfold badCfg
  rw [apply_ite Prod.fst, State.latches_ite, State.latches_raise, ite_self]

theorem latches_bufCheck (cand : List Page) (s : State) : (bufCheck cand s).1.latches = s.latches := by
  unfold bufCheck
  refine State.latches_foldl_fst (fun r p => ?_) _ _
  split
  · rw [apply_ite Prod.fst, State.latches_ite, State.latches_raise, ite_self]
  · rfl

theorem latches_bwCheck (cand : List Page) (s : State) : (bwCheck cand s).1.latches = s.latches := by
  unfold bwCheck
  dsimp only
  split
  · rfl
  · simp only [State.latches_ite, State.latches_puts, State.latches_raise, ite_self]

theorem latches_tokCheck (cand : List Page) (s : State) : (tokCheck cand s).1.latches = s.latches := by
  unfold tokCheck
  refine State.latches_foldl_fst (fun r p => ?_) _ _
  split
  · rw [apply_ite Prod.fst, State.latches_ite, State.latches_raise, ite_self]
  · rw [apply_ite Prod.fst, State.latches_ite, State.latches_raise, ite_self]
  · rfl

theorem latches_burstCheck (cand : List Page) (s : State) : (burstCheck cand s).1.latches = s.latches := by
  unfold burstCheck
  dsimp only
  split
  · rfl
  split
  · rfl
  · refine State.latches_foldl _ _ _ fun u q => ?_
    rw [State.latches_ite, State.latches_puts, State.latches_raise, ite_self]

theorem latches_rangeCheck (cand : List Page) (s : State) : (rangeCheck cand s).1.latches = s.latches := by
  unfold rangeCheck
  dsimp only
  split
  · rfl
  · refine State.latches_foldl_fst (fun r p => ?_) _ _
    split
    · rw [apply_ite Prod.fst, State.latches_ite, State.latches_raise, ite_self]
    · rw [apply_ite Prod.fst, State.latches_ite, State.latches_raise, ite_self]
    · rw [apply_ite Prod.fst, State.latches_ite, State.latches_raise, ite_self]
    · rfl

theorem engCheck_cases (v : View) (e : EngNo) (s : State) :
    engCheck v e s = (s, false) ∨ ∃ r, engCheck v e s = (s.engReport v e r, true) := by
  -- The body is unfolded as a whole function: the kernel would otherwise compute the match's subject.
  suffices h : ∀ f, f = engCheck → f v e s = (s, false) ∨ ∃ r, f v e s = (s.engReport v e r, true) from h _ rfl
  intro f hf
  delta engCheck at hf
  subst hf
  beta_reduce
  cases s.engRefuse v e with
  | none => exact .inl rfl
  | some r => exact .inr ⟨r, rfl⟩

theorem latches_engCheck (v : View) (e : EngNo) (s : State) : (engCheck v e s).1.latches = s.latches := by
  rcases engCheck_cases v e s with h | ⟨r, h⟩
  · rw [h]
  · rw [h, State.latches_engReport]

/-- Every check that a page's own chapter makes reports and refuses, no more. -/
theorem latches_of_mem_pageChecks {cand : List Page} {v : View} {sel delay : Nat} {p : Page} {c : Check}
    (h : c ∈ pageChecks cand v sel delay p) (s : State) : (c s).1.latches = s.latches := by
  cases p with
  | xwpRoute =>
    rcases List.mem_pair.mp h with rfl | rfl
    · exact latches_badCfg ..
    · exact s.latches_blockCheck ..
  | msec n => rcases List.mem_pair.mp h with rfl | rfl <;> exact latches_badCfg ..
  | lane | xbp | xwpMap | eth | rxSlot | txSlot | flowv | cls | time | ref | vtg | aud | flowaRx | flowaTx | tdm =>
    rw [List.mem_singleton.mp h]
    exact latches_badCfg ..
  | _ => exact absurd h List.not_mem_nil

theorem State.latches_armChecks (s : State) (cand : List Page) (grp : Option Nat) (sel delay : Nat) :
    (s.armChecks cand grp sel delay).1.latches = s.latches := by
  unfold State.armChecks
  refine latches_runChecks (fun c hc => ?_) s
  simp only [List.mem_append, List.mem_flatMap, List.mem_cons, List.not_mem_nil, or_false, List.mem_map] at hc
  rcases hc with ((rfl | ⟨p, -, hp⟩) | rfl | rfl | rfl | rfl | rfl | rfl) | ⟨e, -, rfl⟩
  · exact fun u => u.latches_poolCheck ..
  · exact latches_of_mem_pageChecks hp
  · exact fun u => u.latches_tmapCheck ..
  · exact latches_bufCheck cand
  · exact latches_bwCheck cand
  · exact latches_tokCheck cand
  · exact latches_rangeCheck cand
  · exact latches_burstCheck cand
  · exact latches_engCheck _ e

/-! ### Updates -/

theorem State.latches_sessEnd (s : State) : s.sessEnd.latches = s.latches := by
  unfold State.sessEnd
  simp only [State.latches_puts, State.latches_mk]

theorem latches_updChecks (l : List (Bool × Nat)) {s : State} {ok : UpdEnd} (h : ok.2.2.latches = s.latches) :
    (updChecks l s ok).2.2.latches = s.latches := by
  unfold updChecks
  dsimp only
  split
  · rfl
  · exact h

theorem State.latches_flashFail (s : State) : s.flashFail.2.2.latches = s.latches := by
  unfold State.flashFail
  simp only [State.latches_addSat]

theorem State.latches_ownerActs (s : State) (k : Nat) : (s.ownerActs k).latches = s.latches := by
  unfold State.ownerActs
  simp only [State.latches_mk, State.latches_ite, ite_self]

theorem State.latches_updOpen (s : State) (k : Nat) : (s.updOpen k).2.2.latches = s.latches := by
  unfold State.updOpen
  split <;> simp only [State.latches_raise, State.latches_ownerActs, State.latches_puts]

theorem State.latches_setStaged (s : State) (t : Nat) (b : Bool) (ver : Nat) : (s.setStaged t b ver).latches = s.latches := by
  unfold State.setStaged
  simp only [State.latches_puts]

theorem State.latches_stageBegin (s : State) (ok : Bool) : (s.stageBegin ok).2.2.latches = s.latches := by
  unfold State.stageBegin
  simp only [latches_updChecks, State.latches_flashFail, State.latches_setStaged, State.latches_setSlot, State.latches_mk,
    State.latches_ite, ite_self, apply_ite Prod.snd]

theorem State.latches_stageData (s : State) (off len : Nat) (ok : Bool) :
    (s.stageData off len ok).2.2.latches = s.latches := by
  unfold State.stageData
  split <;> simp only [latches_updChecks, State.latches_flashFail, State.latches_mk, State.latches_ite, ite_self,
    apply_ite Prod.snd]

theorem State.latches_stageEnd (s : State) (t : Nat) : (s.stageEnd t).2.2.latches = s.latches := by
  unfold State.stageEnd
  repeat' split
  all_goals simp only [State.latches_mk, State.latches_setStaged, State.latches_setSlot]

theorem State.latches_activate (s : State) (t : Nat) (ok : Bool) : (s.activate t ok).2.2.latches = s.latches := by
  unfold State.activate
  dsimp only
  split
  · rfl
  split
  · rfl
  · simp only [State.latches_ite, apply_ite Prod.snd, State.latches_flashFail, State.latches_setStaged,
      State.latches_bootRecord, ite_self]

theorem State.latches_revertNext (s : State) (ok : Bool) : (s.revertNext ok).2.2.latches = s.latches := by
  unfold State.revertNext
  split <;> simp only [State.latches_flashFail, State.latches_bootRecord]

theorem State.latches_manifestBegin (s : State) : s.manifestBegin.2.2.latches = s.latches := by
  unfold State.manifestBegin
  simp only [latches_updChecks, State.latches_put, State.latches_mk]

theorem State.latches_manifestActivate (s : State) (ok : Bool) : (s.manifestActivate ok).2.2.latches = s.latches := by
  unfold State.manifestActivate
  split <;> simp only [latches_updChecks, State.latches_flashFail, State.latches_mk, State.latches_put,
    State.latches_bootRecord, State.latches_setStaged, State.latches_ite, ite_self, State.latches_foldl, implies_true,
    apply_ite Prod.snd]

theorem State.latches_confirm (s : State) (ok : Bool) : (s.confirm ok).2.2.latches = s.latches := by
  unfold State.confirm
  repeat' split
  all_goals simp only [State.latches_mk, State.latches_cfgErase, State.latches_bootRecord, State.latches_fault_contained]

theorem State.latches_updOp (s : State) (k op : Nat) (ok : Bool) : (s.updOp k op ok).2.2.latches = s.latches := by
  unfold State.updOp
  refine latches_updChecks _ ?_
  split
  · exact s.latches_sessEnd
  · exact s.latches_stageBegin ok
  · exact s.latches_stageData ..
  · exact s.latches_stageEnd _
  · exact s.latches_activate ..
  · exact s.latches_revertNext ok
  · exact s.latches_manifestBegin
  · exact s.latches_manifestActivate ok
  · exact s.latches_confirm ok

theorem State.latches_updNote (s : State) (op status : Nat) : (s.updNote op status).latches = s.latches := by
  unfold State.updNote
  simp only [State.latches_addSat, State.latches_offer, State.latches_ite, ite_self]

theorem State.latches_updGo (s : State) (k op : Nat) (ok : Bool) : (s.updGo k op ok).latches = s.latches := by
  unfold State.updGo
  simp only [State.latches_raise, State.latches_addSat, State.latches_ownerActs, State.latches_puts, State.latches_mk,
    State.latches_updOp, State.latches_updNote, State.latches_ite, ite_self]

theorem State.latches_updFinish (s : State) (k status rsp : Nat) : (s.updFinish k status rsp).latches = s.latches := by
  unfold State.updFinish
  simp only [State.latches_raise, State.latches_puts, State.latches_mk]

theorem State.latches_takeOpens (s : State) : s.takeOpens.latches = s.latches := by
  unfold State.takeOpens
  simp only [State.latches_updOpen, State.latches_mk, State.latches_foldl, implies_true]

theorem State.latches_updComplete (s : State) (k : Nat) : (s.updComplete k).latches = s.latches := by
  unfold State.updComplete
  extract_lets opened
  have hopened : opened.latches = s.latches := by
    rw [State.latches_ite, State.latches_takeOpens, ite_self]
  split
  · rw [State.latches_updFinish, hopened]
  · exact hopened

theorem State.latches_sessTimeout (s : State) : s.sessTimeout.latches = s.latches := by
  unfold State.sessTimeout
  simp only [State.latches_sessEnd, State.latches_ite, ite_self]

theorem State.latches_updInit (s : State) : s.updInit.latches = s.latches := by
  unfold State.updInit
  simp only [State.latches_mk, State.latches_updFinish, State.latches_put, State.latches_sessEnd, State.latches_ite, ite_self,
    State.latches_foldl, implies_true]

end Sys2Proof.Machine
end

section
/-! SUPPORT. Ticks, accesses and events leave the fatal latches alone. -/

namespace Sys2Proof.Machine

/-! ### Commit, ticks and FUNC_INIT -/

theorem State.latches_fireWord (s : State) (a : Nat) : (s.fireWord a).latches = s.latches := (rfl)

theorem State.latches_fireWords (s : State) (p : Page) (q : Nat → Bool) : (s.fireWords p q).latches = s.latches := by
  unfold State.fireWords
  simp only [State.latches_fireWord, State.latches_foldl, implies_true]

theorem State.latches_vtgEdge (s old : State) (v : Fin 32) : (s.vtgEdge old v).latches = s.latches := by
  unfold State.vtgEdge
  simp only [State.latches_braceVtg, State.latches_ite, ite_self]

theorem State.latches_pageFired (s old : State) (p : Page) : (s.pageFired old p).latches = s.latches := by
  cases p with
  | lane n =>
    show (if isBrace n then (s.laneFired old n).linkUpdate else s.laneFired old n).latches = _
    rw [State.latches_ite, State.latches_linkUpdate, State.latches_laneFired, ite_self]
  | time => exact s.latches_timeFired old
  | ref => exact s.latches_refFired old
  | vtg v =>
    show (((s.vtgFired old v).vtgEdge old v).flowFormat old v).latches = _
    rw [State.latches_flowFormat, State.latches_vtgEdge, State.latches_vtgFired]
  | eth n => exact s.latches_ethFired old n
  | msec n => exact s.latches_msecFired n
  | rxSlot n => exact s.latches_rxFired old n
  | txSlot n => exact s.latches_txFired n
  | flowaRx b => exact State.latches_foldl _ _ _ fun u n => u.latches_arxFired old n
  | flowaTx b => exact State.latches_foldl _ _ _ fun u n => u.latches_atxFired old n
  | tdm b => exact s.latches_tdmFired old b
  | eng e => exact s.latches_engFired old e
  | _ => rfl

theorem State.latches_serIdles (s : State) (ps : List Page) : (s.serIdles ps).latches = s.latches := by
  unfold State.serIdles
  refine State.latches_foldl _ _ _ fun u p => ?_
  split
  · split
    · exact u.latches_serIdle _
    · rfl
  · rfl

theorem State.latches_follow' (s : State) : s.follow'.latches = s.latches := by
  unfold State.follow'
  simp only [State.latches_asrcSync, State.latches_refoFollow, State.latches_refFollow, State.latches_deembFollow,
    State.latches_regen]

theorem State.latches_lateRaise (s : State) : s.lateRaise.latches = s.latches := (rfl)

theorem State.latches_latePage (s : State) (p : Page) : (s.latePage p).latches = s.latches := by
  unfold State.latePage
  simp only [State.latches_put]

theorem State.latches_lateGroup (s : State) (g : Nat) (members : List Page) :
    (s.lateGroup g members).latches = s.latches := by
  unfold State.lateGroup
  simp only [State.latches_put, State.latches_latePage, State.latches_foldl, implies_true]

theorem State.latches_setArm (s : State) (a : Arm) : (s.setArm a).latches = s.latches := (rfl)

theorem State.latches_noteFreed (s : State) (p : Page) (grp : Bool) : (s.noteFreed p grp).latches = s.latches := (rfl)

theorem State.latches_dropArm (s : State) (p : Page) : (s.dropArm p).latches = s.latches := (rfl)

theorem State.latches_setGrp (s : State) (g : Nat) (x : Grp) : (s.setGrp g x).latches = s.latches := (rfl)

theorem State.latches_lockedWrite (s : State) (p : Page) : (s.lockedWrite p).latches = s.latches := by
  unfold State.lockedWrite
  simp only [State.latches_addSat]

theorem State.latches_latchArm (s : State) (p : Page) (sel delay seq : Nat) :
    (s.latchArm p sel delay seq).latches = s.latches := by
  unfold State.latchArm
  simp only [State.latches_put, State.latches_setArm, State.latches_lateRaise, State.latches_latePage, State.latches_poolSync,
    State.latches_ite, ite_self]

theorem State.latches_pageArm (s : State) (p : Page) : (s.pageArm p).latches = s.latches := by
  unfold State.pageArm
  simp only [State.latches_put, State.latches_armChecks, State.latches_latchArm, State.latches_ite, ite_self]

theorem State.latches_pageDisarm (s : State) (p : Page) : (s.pageDisarm p).latches = s.latches := by
  unfold State.pageDisarm
  simp only [State.latches_poolSync, State.latches_dropArm]

theorem State.latches_commitWrite (s : State) (p : Page) (v : Nat) : (s.commitWrite p v).latches = s.latches := by
  unfold State.commitWrite
  dsimp only
  split
  · rfl
  split <;> simp only [State.latches_ite, State.latches_lockedWrite, State.latches_pageDisarm, State.latches_pageArm,
    State.latches_puts, ite_self]

theorem State.latches_latchGroup (s : State) (g : Nat) (members : List Page) (sel delay seq : Nat) :
    (s.latchGroup g members sel delay seq).latches = s.latches := by
  unfold State.latchGroup
  simp only [State.latches_put, State.latches_setArm, State.latches_setGrp, State.latches_lateRaise, State.latches_lateGroup,
    State.latches_poolSync, State.latches_ite, ite_self, State.latches_foldl, implies_true]

theorem State.latches_grpArm (s : State) (g : Nat) : (s.grpArm g).latches = s.latches := by
  unfold State.grpArm
  simp only [State.latches_raise, State.latches_put, State.latches_armChecks, State.latches_latchGroup, State.latches_ite,
    ite_self]

theorem State.latches_grpDisarm (s : State) (g : Nat) (x : Grp) : (s.grpDisarm g x).latches = s.latches := by
  unfold State.grpDisarm
  simp only [State.latches_dropArm, State.latches_poolSync, State.latches_mk, State.latches_foldl, implies_true]

theorem State.latches_cgrpWrite (s : State) (g v : Nat) : (s.cgrpWrite g v).latches = s.latches := by
  unfold State.cgrpWrite
  split <;> simp only [State.latches_grpDisarm, State.latches_puts, State.latches_grpArm, State.latches_ite, ite_self]

theorem State.latches_commitEvent (s : State) : s.commitEvent.latches = s.latches := by
  unfold State.commitEvent
  simp only [State.latches_add, State.latches_mk, State.latches_ite, ite_self]

theorem State.latches_firedPage (s : State) (seq : Nat) (p : Page) : (s.firedPage seq p).latches = s.latches := by
  unfold State.firedPage
  simp only [State.latches_puts]

theorem State.latches_grpDone (s : State) (g : Nat) (x : Grp) : (s.grpDone g x).latches = s.latches := by
  unfold State.grpDone
  simp only [State.latches_firedPage, State.latches_raise, State.latches_puts, State.latches_mk, State.latches_foldl,
    implies_true]

theorem State.latches_complete (s : State) : s.complete.latches = s.latches := by
  unfold State.complete
  simp only [State.latches_noteFreed, State.latches_dropArm, State.latches_firedPage, State.latches_grpDone,
    State.latches_ite, ite_self, State.latches_foldl, implies_true]

theorem State.latches_reachF (s : State) (a : Arm) : (s.reachF a).latches = s.latches := by
  unfold State.reachF
  simp only [State.latches_fireWords, State.latches_setArm, State.latches_ite, ite_self]

theorem State.latches_countArm (k : Tick) (s : State) (a : Arm) : (State.countArm k s a).latches = s.latches := by
  unfold State.countArm
  simp only [State.latches_lateRaise, State.latches_latePage, State.latches_setArm, State.latches_ite, ite_self]

theorem State.latches_countGrp (k : Tick) (s : State) (e : Nat × Grp) : (State.countGrp k s e).latches = s.latches := by
  unfold State.countGrp
  simp only [State.latches_lateRaise, State.latches_lateGroup, State.latches_setGrp, State.latches_ite, ite_self]

theorem State.latches_sweep (s : State) : s.sweep.latches = s.latches := (rfl)

theorem State.latches_entriesApplied (s old : State) (es : List Entry) (k : Tick) :
    (s.entriesApplied old es k).latches = s.latches := by
  unfold State.entriesApplied
  extract_lets applied xwp v placed
  have happlied : applied.latches = s.latches := by
    refine State.latches_foldl _ _ _ fun u e => ?_
    split
    · exact u.latches_xbpApplied _
    · rfl
  simp only [State.latches_ite, State.latches_audSwapped, placed, State.latches_placePaths, happlied, ite_self]

theorem State.latches_fireEntry (s : State) (e : Entry) : (s.fireEntry e).latches = s.latches := by
  unfold State.fireEntry
  split <;> simp only [State.latches_fireWords, State.latches_fireWord, State.latches_foldl, implies_true]

theorem State.latches_noteUndos (s old : State) (pages lone : List Page) (commits : Nat) :
    (s.noteUndos old pages lone commits).latches = s.latches := (rfl)

theorem State.latches_fireAt (s : State) (k : Tick) (arm? : Arm → Bool) (grp? : Nat → Bool) :
    (s.fireAt k arm? grp?).latches = s.latches := by
  unfold State.fireAt
  simp only [State.latches_countArm, State.latches_countGrp, State.latches_fireWords, State.latches_reachF,
    State.latches_setGrp, State.latches_commitEvent, State.latches_pageFired, State.latches_fireEntry, State.latches_mk,
    State.latches_complete, State.latches_sweep, State.latches_serIdles, State.latches_entriesApplied, State.latches_follow',
    State.latches_noteUndos, State.latches_poolSync, State.latches_ite, ite_self, State.latches_foldl, implies_true]

theorem State.latches_stcFire (s : State) (k : Nat) : (s.stcFire k).latches = s.latches := (rfl)

theorem State.latches_instant (fuel : Nat) (ks : List Tick) (s : State) : (State.instant fuel ks s).latches = s.latches := by
  induction fuel generalizing ks s with
  | zero => rfl
  | succ n ih =>
    cases ks with
    | nil => rfl
    | cons k r =>
      unfold State.instant
      dsimp only
      rw [ih, State.latches_fireAt]
      split
      · exact s.latches_stcFire _
      · rfl

theorem State.latches_tick (s : State) (k : Tick) : (s.tick k).latches = s.latches := by
  unfold State.tick
  simp only [State.latches_instant]

theorem State.latches_resetWord (s : State) (a : Nat) : (s.resetWord a).latches = s.latches := (rfl)

theorem State.latches_resetCfg (s : State) (p : Page) : (s.resetCfg p).latches = s.latches := by
  unfold State.resetCfg
  simp only [State.latches_resetWord, State.latches_foldl, implies_true]

theorem State.latches_pageInit (s : State) (p : Page) : (s.pageInit p).latches = s.latches := by
  cases p with
  | lane n =>
    show (if isBrace n then (s.laneInit n).linkUpdate else s.laneInit n).latches = _
    rw [State.latches_ite, State.latches_linkUpdate, State.latches_laneInit, ite_self]
  | xbp => exact s.latches_xbpInit
  | brc => exact s.latches_brcInit
  | xwpRoute => exact s.latches_routeInit
  | xwpMap => exact s.latches_mapStop
  | eth n => exact ((s.ethInit n).latches_macFromOtp n).trans (s.latches_ethInit n)
  | msec n => exact s.latches_msecInit n
  | rxSlot n => exact s.latches_rxAfresh n 0
  | txSlot n => exact s.latches_txStop n
  | time => exact s.latches_timeInit
  | aud => exact s.latches_audInit
  | flowaRx b => exact State.latches_foldl _ _ _ fun u n => u.latches_arxAfresh n 0
  | flowaTx b => exact State.latches_foldl _ _ _ fun u n => u.latches_atxStop n
  | tdm b => exact s.latches_tdmInit b
  | asrc => exact s.latches_asrcInit
  | eng e => exact s.latches_engInit e
  | hif => exact s.latches_hifInit
  | busm => exact s.latches_busmInit
  | key => exact s.latches_keyInit
  | upd => exact s.latches_updInit
  | evr => exact s.latches_evrInit
  | bbx => exact s.latches_bbxInit
  | _ => rfl

theorem State.latches_pageStop (s : State) (p : Page) : (s.pageStop p).latches = s.latches := by
  unfold State.pageStop
  split <;> simp only [State.latches_xbpStop, State.latches_mapStop, State.latches_timeStop, State.latches_ethInit,
    State.latches_pageInit]

theorem State.latches_undone (s : State) (u : Undo) : (s.undone u).latches = s.latches := by
  unfold State.undone
  simp only [State.latches_setLword, State.latches_puts, State.latches_mk, State.latches_put, State.latches_ite, ite_self,
    State.latches_foldl, implies_true]

theorem State.latches_suppress (s : State) (p : Page) : (s.suppress p).latches = s.latches := by
  unfold State.suppress
  simp only [State.latches_undone, State.latches_mk, State.latches_ite, ite_self, State.latches_foldl, implies_true]

theorem State.latches_leaveGroup (s : State) (p : Page) : (s.leaveGroup p).latches = s.latches := by
  unfold State.leaveGroup
  simp only [State.latches_mk, State.latches_complete]

theorem State.latches_funcInit (s : State) (p : Page) (m : Master) : (s.funcInit p m).latches = s.latches := by
  unfold State.funcInit
  simp only [State.latches_leaveGroup, State.latches_put, State.latches_dropArm, State.latches_suppress,
    State.latches_unusual, State.latches_offer, State.latches_mk, State.latches_follow', State.latches_poolSync,
    State.latches_pageStop, State.latches_ite, ite_self]

theorem State.latches_funcInitDone (s : State) (p : Page) : (s.funcInitDone p).latches = s.latches := by
  unfold State.funcInitDone
  repeat' split
  all_goals simp only [State.latches_resetCfg, State.latches_pageFired, State.latches_serIdles, State.latches_pageInit,
    State.latches_mk, State.latches_follow', State.latches_poolSync, State.latches_sweep, State.latches_put]

/-! ### Reads -/

theorem State.latches_laneRead (s : State) (n : LaneNo) (o : Nat) : (s.laneRead n o).latches = s.latches := by
  unfold State.laneRead
  split <;> simp only [State.latches_sdiErrors, State.latches_adapt, State.latches_put, State.latches_fresh,
    State.latches_chkCount]

theorem State.latches_countRead (s : State) (p : Page) (c : Fld) : (s.countRead p c).latches = s.latches := (rfl)

theorem State.latches_dite {c : Prop} [Decidable c] {f : c → State} {g : ¬c → State} {v : List Nat × Option Nat}
    (hf : ∀ h, (f h).latches = v) (hg : ∀ h, (g h).latches = v) : (dite c f g).latches = v := by
  by_cases h : c
  · rw [dif_pos h, hf]
  · rw [dif_neg h, hg]

-- With smart unfolding the match on the page and the offset stays closed while the offset is a variable.
set_option smartUnfolding false in
theorem State.latches_readEffect (s : State) (a : Nat) : (s.readEffect a).latches = s.latches := by
  unfold State.readEffect
  split
  · rfl
  generalize pageOf (a / 4096) = q
  generalize a % 4096 = o
  cases q with
  | none => rfl
  | some p =>
    have hcounted : (match counted p o with | some c => s.countRead p c | none => s).latches = s.latches := by
      split
      · exact s.latches_countRead ..
      · rfl
    cases p with
    | lane n =>
      have hlane : ∀ k, (s.laneRead n k).latches = s.latches := fun k => s.latches_laneRead n k
      refine State.latches_dite (c := o = 0x114) (by rintro rfl; exact s.latches_put ..) fun _ => ?_
      refine State.latches_dite (c := o = 0x060) (by rintro rfl; exact hlane _) fun _ => ?_
      refine State.latches_dite (c := o = 0x064) (by rintro rfl; exact hlane _) fun _ => ?_
      refine State.latches_dite (c := o = 0x0D4) (by rintro rfl; exact hlane _) fun _ => ?_
      refine State.latches_dite (c := o = 0x110) (by rintro rfl; exact hlane _) fun _ => ?_
      exact State.latches_dite (c := o = 0x18C) (by rintro rfl; exact s.latches_put ..) fun _ => hcounted
    | time =>
      refine State.latches_dite (c := o = 0x080) (by rintro rfl; exact s.latches_put ..) fun _ => ?_
      exact State.latches_dite (c := o = 0x20C) (by rintro rfl; exact s.latches_put ..) fun _ => hcounted
    | vtg v => exact State.latches_dite (c := o = 0x100) (by rintro rfl; exact s.latches_put ..) fun _ => hcounted
    | tdm b => exact State.latches_dite (c := o = 0x070) (by rintro rfl; exact s.latches_put ..) fun _ => hcounted
    | evr =>
      refine State.latches_dite (c := o = 0x060) (by rintro rfl; exact s.latches_evrLatch 0) fun _ => ?_
      refine State.latches_dite (c := o = 0x07C) (by rintro rfl; exact s.latches_evrStep 0) fun _ => ?_
      refine State.latches_dite (c := o = 0x0A0) (by rintro rfl; exact s.latches_evrLatch 1) fun _ => ?_
      exact State.latches_dite (c := o = 0x0BC) (by rintro rfl; exact s.latches_evrStep 1) fun _ => hcounted
    | _ => exact hcounted

theorem State.latches_readAt (s : State) (a : Nat) : (s.readAt a).2.latches = s.latches := by
  unfold State.readAt
  split <;> simp only [State.latches_readEffect]

/-! ### Accesses -/

theorem State.latches_store (s : State) (p : Page) (a : Nat) (v : Word) : (s.store p a v).latches = s.latches := by
  unfold State.store
  simp only [State.latches_setWord, State.latches_lockedWrite, State.latches_ite, ite_self]

theorem State.latches_diagClear (s : State) (p : Page) : (s.diagClear p).latches = s.latches := by
  unfold State.diagClear
  split <;> simp only [State.latches_setWord, State.latches_mk, State.latches_ingPeak, State.latches_put, State.latches_foldl,
    implies_true]

theorem State.latches_inject (s : State) (p : Page) (site cls : Nat) : (s.inject p site cls).latches = s.latches := by
  unfold State.inject
  split <;> simp only [State.latches_unusual, State.latches_offer, State.latches_add, State.latches_put]

theorem State.latches_hdrAction (s : State) (m : Master) (p : Page) (o v : Nat) :
    (s.hdrAction m p o v).latches = s.latches := by
  unfold State.hdrAction
  simp only [State.latches_funcInit, State.latches_unusual, State.latches_setWord, State.latches_commitWrite,
    State.latches_inject, State.latches_ite, ite_self]

theorem State.latches_logClear (s : State) (p : Page) (o v : Nat) : (s.logClear p o v).latches = s.latches := by
  unfold State.logClear
  simp only [State.latches_setWord, State.latches_ite, ite_self, State.latches_foldl, implies_true]

theorem State.latches_timeCap (s : State) : s.timeCap.latches = s.latches := by
  unfold State.timeCap
  simp only [State.latches_puts]

theorem State.latches_hifAction (s : State) (o v : Nat) (ok : Bool) : (s.hifAction o v ok).latches = s.latches := by
  unfold State.hifAction
  repeat' split
  all_goals simp only [State.latches_put, State.latches_mbxReject, State.latches_eoi, State.latches_mbxCtrl,
    State.latches_ite, ite_self]

theorem State.latches_keyAction (s : State) (o v : Nat) (w : Served) : (s.keyAction o v w).latches = s.latches := by
  unfold State.keyAction
  simp only [State.latches_keyGo, State.latches_put, State.latches_ite, ite_self]

theorem State.latches_updAction (s : State) (o v : Nat) (ok : Bool) : (s.updAction o v ok).latches = s.latches := by
  unfold State.updAction
  simp only [State.latches_updGo, State.latches_put, State.latches_ite, ite_self]

theorem State.latches_bbxAction (s : State) (o v : Nat) (ok : Bool) : (s.bbxAction o v ok).latches = s.latches := by
  unfold State.bbxAction
  simp only [State.latches_bbxGo, State.latches_put, State.latches_ite, ite_self]

theorem State.latches_laneAction (s old : State) (n : LaneNo) (o v : Nat) : (s.laneAction old n o v).latches = s.latches := by
  unfold State.laneAction
  simp only [State.latches_rxeqWritten, State.latches_genWritten, State.latches_chkWritten, State.latches_injectBit,
    State.latches_eyeStart, State.latches_follow', State.latches_linkUpdate, State.latches_ignRestart, State.latches_ite,
    ite_self]

theorem State.latches_ethAction (s old : State) (p : PortNo) (o v : Nat) : (s.ethAction old p o v).latches = s.latches := by
  unfold State.ethAction
  simp only [State.latches_ethAfresh, State.latches_cntSnap, State.latches_hqEnWritten, State.latches_ite, ite_self]

theorem State.latches_timeAction (s : State) (m : Master) (o v : Nat) : (s.timeAction m o v).latches = s.latches := by
  unfold State.timeAction
  simp only [State.latches_timeCap, State.latches_domAdj, State.latches_domStep, State.latches_ite, ite_self]

theorem State.latches_brcAction (s : State) (v : Nat) : (s.brcAction v).latches = s.latches := by
  unfold State.brcAction
  simp only [State.latches_linkUpdate, State.latches_follow', State.latches_linkRealign, State.latches_ite, ite_self]

theorem State.latches_msecAction (s : State) (p : PortNo) (o : Nat) : (s.msecAction p o).latches = s.latches := by
  unfold State.msecAction
  repeat' split
  all_goals simp only [State.latches_mk]

theorem State.latches_evrAction (s : State) (m : Master) (o v : Nat) : (s.evrAction m o v).latches = s.latches := by
  unfold State.evrAction
  split <;> simp only [State.latches_evrClr, State.latches_ite, ite_self]

theorem State.latches_pageAction (s old : State) (m : Master) (p : Page) (o v : Nat) (ok : Served) :
    (s.pageAction old m p o v ok).latches = s.latches := by
  cases p
  all_goals
    unfold State.pageAction
    simp only [State.latches_ite, State.latches_softReset, State.latches_cgrpWrite, State.latches_auditSnap,
      State.latches_hifAction, State.latches_timeAction, State.latches_laneAction, State.latches_pgenTaken,
      State.latches_brcAction, State.latches_ethAction, State.latches_msecAction, State.latches_mk, State.latches_tdmRestart,
      State.latches_keyAction, State.latches_updAction, State.latches_evrAction, State.latches_foldl,
      State.latches_disagreeSet, State.latches_bbxAction, implies_true, ite_self]

theorem State.latches_write (s : State) (m : Master) (a : Nat) (w : Word) (ok : Served) :
    (s.write m a w ok).latches = s.latches := by
  unfold State.write
  repeat' split
  all_goals simp only [State.latches_setWord, State.latches_store, State.latches_hdrAction, State.latches_diagClear,
    State.latches_pageAction, State.latches_logClear, State.latches_ite, ite_self]

theorem State.latches_giveError (s : State) (m : Master) (write : Bool) : (s.giveError m write).latches = s.latches := (rfl)

theorem State.latches_received (s : State) (m : Master) : (s.received m).latches = s.latches := by
  unfold State.received
  simp only [State.latches_add, State.latches_ite, ite_self]

theorem State.latches_busWrite (s : State) (m : Master) (a strobes : Nat) (v : Word) (ok : Served) :
    (s.busWrite m a strobes v ok).latches = s.latches := by
  unfold State.busWrite
  dsimp only
  split
  · rw [State.latches_giveError, State.latches_received]
  split
  · rw [State.latches_refuse, State.latches_received]
  · rw [State.latches_write, State.latches_received]

theorem State.latches_busRead (s : State) (m : Master) (a : Nat) : (s.busRead m a).latches = s.latches := by
  unfold State.busRead
  dsimp only
  split
  · rw [State.latches_giveError, State.latches_received]
  split
  · rw [State.latches_refuse, State.latches_received]
  · rw [State.latches_emit, State.latches_readAt, State.latches_received]

theorem State.latches_pageWrite (s : State) (m : Master) (p : Page) (o : Nat) (v : Word) (ok : Served) :
    (s.pageWrite m p o v ok).latches = s.latches := by
  unfold State.pageWrite
  simp only [State.latches_busWrite]

theorem State.latches_spiRead (s : State) (a count : Nat) : (s.spiRead a count).latches = s.latches := by
  unfold State.spiRead
  simp only [State.latches_busRead, State.latches_mk, State.latches_ite, ite_self, State.latches_foldl, implies_true]

theorem State.latches_spiStep (s : State) (ok : Served) : (s.spiStep ok).latches = s.latches := by
  unfold State.spiStep
  split <;> simp only [State.latches_mk, State.latches_busWrite]

theorem State.latches_spiQueue (s : State) (a v : Nat) : (s.spiQueue a v).latches = s.latches := by
  unfold State.spiQueue
  simp only [State.latches_mk, State.latches_ite, ite_self]

theorem State.latches_spiWrite (s : State) (a : Nat) (dwords : List (Word × Nat)) (ok : Served) :
    (s.spiWrite a dwords ok).latches = s.latches := by
  unfold State.spiWrite
  simp only [State.latches_mk, State.latches_spiStep, State.latches_spiQueue, State.latches_ite, ite_self,
    State.latches_foldl, implies_true]

theorem State.latches_spiStatus (s : State) : s.spiStatus.latches = s.latches := by
  unfold State.spiStatus
  simp only [State.latches_emit, State.latches_ite, ite_self]

theorem State.latches_spiRise (s : State) (flight : Option Nat) (ok : Served) :
    (s.spiRise flight ok).latches = s.latches := by
  unfold State.spiRise
  simp only [State.latches_mk, State.latches_masterReset, State.latches_spiStep, State.latches_ite, ite_self,
    State.latches_foldl, implies_true]

theorem State.latches_bar2Dword (s : State) (x : Nat) (write : Bool) (be : Nat) (v : Word) :
    (s.bar2Dword x write be v).latches = s.latches := by
  unfold State.bar2Dword
  dsimp only
  split
  · exact s.latches_giveError ..
  split
  · simp only [State.latches_ite, State.latches_refuse, State.latches_foldl, State.latches_gddrWrite, State.latches_emit,
      implies_true, ite_self]
  split
  · exact s.latches_refuse ..
  split
  · exact s.latches_refuse ..
  · simp only [State.latches_ite, State.latches_write, State.latches_emit, State.latches_readAt, ite_self]

theorem State.latches_bar2 (s : State) (x : Nat) (write : Bool) (dwords : List (Nat × Word)) :
    (s.bar2 x write dwords).latches = s.latches := by
  unfold State.bar2
  simp only [State.latches_bar2Dword, State.latches_received, State.latches_foldl, implies_true]

/-! ### Ticks -/

theorem State.latches_run {f : State → State} (hf : ∀ u : State, (f u).latches = u.latches) (s : State) (t : Nat) :
    (s.run t f).latches = s.latches := by
  unfold State.run
  simp only [State.latches_ite, State.latches_settle, hf, State.latches_begin, ite_self]

theorem State.latches_always {f : State → State} (hf : ∀ u : State, (f u).latches = u.latches) (s : State) (t : Nat) :
    (s.always t f).latches = s.latches := by
  unfold State.always
  rw [State.latches_settle, hf, State.latches_begin]

theorem latches_withSlots (acc : State × Tab Nat) (r : State × List (Nat × Nat)) :
    (withSlots acc r).1.latches = r.1.latches := (rfl)

theorem State.latches_sources (s : State) (g : Frac) : (s.sources g).1.latches = s.latches := by
  unfold State.sources
  extract_lets low first deembedded received sampled resampled
  have hdeembedded : deembedded.1.latches = s.latches := by
    simp only [deembedded, first, apply_ite Prod.fst, State.latches_ite, latches_withSlots, State.latches_deembSmp, ite_self]
  have hreceived : received.1.latches = s.latches := by
    refine (State.latches_foldl_fst (fun r n => ?_) _ _).trans hdeembedded
    simp only [apply_ite Prod.fst, State.latches_ite, latches_withSlots, State.latches_arxSmp, ite_self]
  have hsampled : sampled.1.latches = s.latches := by
    refine (State.latches_foldl_fst (fun r n => ?_) _ _).trans hreceived
    simp only [apply_ite Prod.fst, State.latches_ite, latches_withSlots, State.latches_tdmSmp, ite_self]
  simp only [resampled, apply_ite Prod.fst, State.latches_ite, latches_withSlots, State.latches_asrcFlowSmp, hsampled,
    ite_self]

theorem State.latches_flowsSample (s : State) (g : Frac) : (s.flowsSample g).latches = s.latches := by
  unfold State.flowsSample
  simp only [State.latches_atxSmp, State.latches_ite, ite_self, State.latches_foldl, implies_true]

theorem State.latches_tickSmp (s : State) : s.tickSmp.latches = s.latches := by
  unfold State.tickSmp
  simp only [State.latches_meterSnap, State.latches_add, State.latches_auditCheck, State.latches_timeSmp,
    State.latches_refCatch, State.latches_smpFell, State.latches_tick, State.latches_braceSmp, State.latches_makeFull,
    State.latches_mk, State.latches_flowsSample, State.latches_smpTime, State.latches_sources, State.latches_audCompute,
    State.latches_ptpEvent, State.latches_ite, ite_self]

theorem State.latches_tickFrm (s : State) (v : Fin 32) : (s.tickFrm v).latches = s.latches := by
  unfold State.tickFrm
  simp only [State.latches_mk, State.latches_tick, State.latches_braceFrm, State.latches_makeFrame, State.latches_engFrm,
    State.latches_xbpEvaluate, State.latches_ite, ite_self]

theorem State.latches_tickStc (s : State) (k : Fin 8) : (s.tickStc k).latches = s.latches := by
  unfold State.tickStc
  simp only [State.latches_tick, State.latches_ite, ite_self]

/-! ### Events -/

theorem State.latches_laneEvent {f : State → State} (hf : ∀ u : State, (f u).latches = u.latches) (s : State) (n : LaneNo) :
    (s.laneEvent n f).latches = s.latches := by
  unfold State.laneEvent
  simp only [State.latches_ite, hf, State.latches_linkUpdate, State.latches_follow', ite_self]

theorem State.latches_sigFound (s : State) (n : LaneNo) : (s.sigFound n).latches = s.latches := by
  unfold State.sigFound
  simp only [State.latches_raise, State.latches_put, State.latches_ite, ite_self]

theorem State.latches_sigLost (s : State) (n : LaneNo) : (s.sigLost n).latches = s.latches := by
  unfold State.sigLost
  simp only [State.latches_raise, State.latches_put, State.latches_ite, ite_self]

theorem State.latches_cdrGained (s : State) (n : LaneNo) : (s.cdrGained n).latches = s.latches := by
  unfold State.cdrGained
  simp only [State.latches_put, State.latches_ite, ite_self]

theorem State.latches_cdrLost (s : State) (n : LaneNo) : (s.cdrLost n).latches = s.latches := by
  unfold State.cdrLost
  simp only [State.latches_sdiLost, State.latches_put]

theorem State.latches_huntDwell (s : State) (n : LaneNo) : (s.huntDwell n).latches = s.latches := by
  unfold State.huntDwell
  simp only [State.latches_modLane, State.latches_put, State.latches_ite, ite_self]

theorem State.latches_sdiLocked (s : State) (n : LaneNo) (rate : Nat) (levelB : Bool) (video : Option (Nat × Nat)) :
    (s.sdiLocked n rate levelB video).latches = s.latches := by
  unfold State.sdiLocked
  simp only [State.latches_raise, State.latches_puts, State.latches_setWordLock, State.latches_modLane, State.latches_ite,
    ite_self]

theorem State.latches_elasticFault (s : State) (n : LaneNo) : (s.elasticFault n).latches = s.latches := by
  unfold State.elasticFault
  simp only [State.latches_modLane, State.latches_ite, ite_self, State.latches_fault_contained]

theorem State.latches_ignBackoffOver (s : State) (n : LaneNo) : (s.ignBackoffOver n).latches = s.latches := by
  unfold State.ignBackoffOver
  simp only [State.latches_detect, State.latches_ite, ite_self]

theorem State.latches_ignListenOver (s : State) (n : LaneNo) : (s.ignListenOver n).latches = s.latches := by
  unfold State.ignListenOver
  simp only [State.latches_detectAfresh, State.latches_ite, ite_self]

theorem State.latches_ignResyncOver (s : State) (n : LaneNo) : (s.ignResyncOver n).latches = s.latches := by
  unfold State.ignResyncOver
  simp only [State.latches_detect, State.latches_put, State.latches_ite, ite_self]

theorem State.latches_rxConverged (s : State) (n : LaneNo) : (s.rxConverged n).latches = s.latches := by
  unfold State.rxConverged
  simp only [State.latches_modLane, State.latches_ite, ite_self]

theorem State.latches_prbsLocked (s : State) (n : LaneNo) (line : List Bool) : (s.prbsLocked n line).latches = s.latches := by
  unfold State.prbsLocked
  simp only [State.latches_put, State.latches_ite, ite_self]

theorem State.latches_prbsLost (s : State) (n : LaneNo) (nbits errs : Nat) :
    (s.prbsLost n nbits errs).latches = s.latches := by
  unfold State.prbsLost
  simp only [State.latches_raise, State.latches_put, State.latches_chkCount, State.latches_ite, ite_self]

theorem State.latches_injectPeriodic (s : State) (n : LaneNo) : (s.injectPeriodic n).latches = s.latches := by
  unfold State.injectPeriodic
  simp only [State.latches_injectBit, State.latches_ite, ite_self]

theorem State.latches_eyeDone (s : State) (n : LaneNo) (errs : Nat) : (s.eyeDone n errs).latches = s.latches := by
  unfold State.eyeDone
  simp only [State.latches_raise, State.latches_puts, State.latches_ite, ite_self]

theorem State.latches_portEvent {f : State → State} (hf : ∀ u : State, (f u).latches = u.latches) (s : State) (p : PortNo) :
    (s.portEvent p f).latches = s.latches := by
  unfold State.portEvent
  simp only [State.latches_ite, hf, ite_self]

theorem State.latches_ethTrainOver (s : State) (p : PortNo) : (s.ethTrainOver p).latches = s.latches := by
  unfold State.ethTrainOver
  simp only [State.latches_ethFail, State.latches_ite, ite_self]

theorem State.latches_ethAlignOver (s : State) (p : PortNo) : (s.ethAlignOver p).latches = s.latches := by
  unfold State.ethAlignOver
  simp only [State.latches_ethFail, State.latches_ite, ite_self]

theorem State.latches_ethLinkLost (s : State) (p : PortNo) : (s.ethLinkLost p).latches = s.latches := by
  unfold State.ethLinkLost
  simp only [State.latches_setLink, State.latches_ite, ite_self]

theorem State.latches_ethBackoffOver (s : State) (p : PortNo) : (s.ethBackoffOver p).latches = s.latches := by
  unfold State.ethBackoffOver
  simp only [State.latches_setLink, State.latches_ite, ite_self]

theorem State.latches_servoHold (s : State) (d : Fin 2) : (s.servoHold d).latches = s.latches := by
  unfold State.servoHold
  simp only [State.latches_setServo, State.latches_steer, State.latches_ite, ite_self]

theorem State.latches_servoLock (s : State) (d : Fin 2) : (s.servoLock d).latches = s.latches := by
  unfold State.servoLock
  simp only [State.latches_setServo, State.latches_mk]

theorem State.latches_servoNext (s : State) (d : Fin 2) (near : Bool) : (s.servoNext d near).latches = s.latches := by
  unfold State.servoNext
  simp only [State.latches_mk, State.latches_setServo, State.latches_servoLock, State.latches_ite, ite_self]

theorem State.latches_servoMeasured (s : State) (d : Fin 2) (port : Nat) (offset delay : Word) (seq : Nat) :
    (s.servoMeasured d port offset delay seq).latches = s.latches := by
  unfold State.servoMeasured
  simp only [State.latches_mk, State.latches_add, State.latches_puts, State.latches_servoNext, State.latches_ite, ite_self]

theorem State.latches_servoSilent (s : State) (d : Fin 2) : (s.servoSilent d).latches = s.latches := by
  unfold State.servoSilent
  simp only [State.latches_servoHold, State.latches_ite, ite_self]

theorem State.latches_announceLost (s : State) (d : Fin 2) : (s.announceLost d).latches = s.latches := by
  unfold State.announceLost
  simp only [State.latches_addSat, State.latches_servoHold, State.latches_selectMaster, State.latches_mk, State.latches_ite,
    ite_self]

theorem State.latches_ppsRise (s : State) : s.ppsRise.latches = s.latches := by
  unfold State.ppsRise
  simp only [State.latches_mk, State.latches_ite, ite_self]

theorem State.latches_ppsFall (s : State) : s.ppsFall.latches = s.latches := by
  unfold State.ppsFall
  simp only [State.latches_ppsLow, State.latches_ite, ite_self]

theorem State.latches_ppsIn (s : State) (falling : Bool) : (s.ppsIn falling).latches = s.latches := by
  unfold State.ppsIn
  simp only [State.latches_addSat, State.latches_raise, State.latches_puts, State.latches_ite, ite_self]

theorem State.latches_holdMinOver (s : State) (k : Fin 4) : (s.holdMinOver k).latches = s.latches := by
  unfold State.holdMinOver
  simp only [State.latches_refSettle, State.latches_modDpll, State.latches_ite, ite_self]

theorem State.latches_dpllLocked (s : State) (k : Fin 4) : (s.dpllLocked k).latches = s.latches := by
  unfold State.dpllLocked
  simp only [State.latches_follow, State.latches_setDpll, State.latches_ite, ite_self]

theorem State.latches_dpllUnlocked (s : State) (k : Fin 4) : (s.dpllUnlocked k).latches = s.latches := by
  unfold State.dpllUnlocked
  simp only [State.latches_follow, State.latches_setDpll, State.latches_ite, ite_self]

theorem State.latches_disagreeOver (s : State) (k : Fin 4) : (s.disagreeOver k).latches = s.latches := by
  unfold State.disagreeOver
  simp only [State.latches_put, State.latches_ite, ite_self]

/-! ### Commands of the hosts and entries -/

theorem State.latches_commitFire (s : State) (p : Page) : (s.commitFire p).latches = s.latches := by
  unfold State.commitFire
  split <;> simp only [State.latches_fireAt, State.latches_ite, ite_self]

theorem State.latches_groupFire (s : State) (g : Nat) : (s.groupFire g).latches = s.latches := by
  unfold State.groupFire
  split <;> simp only [State.latches_fireAt, State.latches_ite, ite_self]

theorem State.latches_applyWaiting (s : State) (es : List Entry) : (s.applyWaiting es).latches = s.latches := by
  unfold State.applyWaiting
  simp only [State.latches_fireEntry, State.latches_mk, State.latches_follow', State.latches_poolSync, State.latches_complete,
    State.latches_sweep, State.latches_entriesApplied, State.latches_foldl, implies_true]

theorem State.latches_entryApply (s : State) (e : Entry) : (s.entryApply e).latches = s.latches := by
  unfold State.entryApply
  split <;> simp only [State.latches_applyWaiting]

theorem State.latches_audSwapDue (s : State) : s.audSwapDue.latches = s.latches := by
  unfold State.audSwapDue
  simp only [State.latches_applyWaiting, State.latches_ite, ite_self]

theorem State.latches_braceArrives (s : State) (k : Fin 8) (p : Nat) (kerfs : List Bool) :
    (s.braceArrives k p kerfs).latches = s.latches := by
  unfold State.braceArrives
  refine State.latches_laneEvent (fun u => ?_) s _
  simp only [State.latches_ite, State.latches_braceMessage, State.latches_block, ite_self]

theorem State.latches_pageWrites (s : State) (m : Master) (p : Page) (l : List (Nat × Word)) (w : Served) :
    (s.pageWrites m p l w).latches = s.latches := by
  unfold State.pageWrites
  simp only [State.latches_pageWrite, State.latches_foldl, implies_true]

theorem State.latches_mbxSend (s : State) (k : Fin 2) (cmd tag : Nat) (words : List Word) (w : Served) :
    (s.mbxSend k cmd tag words w).latches = s.latches := by
  unfold State.mbxSend
  simp only [State.latches_pageWrites]

theorem State.latches_keySend (s : State) (m : Master) (op : Nat) (a0 a1 a2 : Word) (w : Served) :
    (s.keySend m op a0 a1 a2 w).latches = s.latches := by
  unfold State.keySend
  simp only [State.latches_pageWrites]

theorem State.latches_updSend (s : State) (k : Fin 2) (op : Nat) (a0 a1 : Word) (w : Served) :
    (s.updSend k op a0 a1 w).latches = s.latches := by
  unfold State.updSend
  simp only [State.latches_pageWrites]

theorem State.latches_bbxSend (s : State) (k : Fin 2) (op : Nat) (a0 a1 : Word) (w : Served) :
    (s.bbxSend k op a0 a1 w).latches = s.latches := by
  unfold State.bbxSend
  simp only [State.latches_pageWrites]

end Sys2Proof.Machine
end

section
/-! The fatal latches of the commands (R429): O60. -/

namespace Sys2Proof.Machine

/-! ### What a fatal fault adds -/

/-- The pages `ps` have detected fatal faults, in this order: each latch is set, and the first page is named in FATAL_SRC
unless a page is named there already (R429). -/
def State.Latched (s u : State) : Prop :=
  ∃ ps : List Nat, u.fatal = ps.foldl insertNat s.fatal ∧ u.fatalSrc = s.fatalSrc.or ps.head?

theorem State.Latched.of_latches {s u : State} (h : u.latches = s.latches) : s.Latched u := by
  obtain ⟨hfatal, hsrc⟩ := Prod.mk.inj h
  exact ⟨[], hfatal, by rw [hsrc, List.head?_nil, Option.or_none]⟩

theorem State.Latched.trans {s u v : State} (h : s.Latched u) (k : u.Latched v) : s.Latched v := by
  obtain ⟨ps, hfatal, hsrc⟩ := h
  obtain ⟨qs, kfatal, ksrc⟩ := k
  exact ⟨ps ++ qs, by rw [List.foldl_append, kfatal, hfatal], by rw [ksrc, hsrc, Option.or_assoc, List.head?_append]⟩

theorem State.Latched.foldl {α : Type} {f : State → α → State} (h : ∀ (u : State) (a : α), u.Latched (f u a)) (l : List α)
    (s : State) :
    s.Latched (l.foldl f s) := by
  induction l generalizing s with
  | nil => exact .of_latches rfl
  | cons a r ih => exact (h s a).trans (ih _)

theorem State.Latched.ite {c : Prop} [Decidable c] {s u : State} (h : s.Latched u) : s.Latched (if c then u else s) := by
  split
  · exact h
  · exact .of_latches rfl

/-- A latch that is set stays set. -/
theorem State.Latched.mem_fatal {s u : State} (h : s.Latched u) {p : Nat} (hp : p ∈ s.fatal) : p ∈ u.fatal := by
  obtain ⟨ps, hfatal, -⟩ := h
  rw [hfatal]
  exact mem_foldl_insertNat_of (.inr hp)

/-- The page that FATAL_SRC names stays named. -/
theorem State.Latched.fatalSrc_eq {s u : State} (h : s.Latched u) {p : Nat} (hp : s.fatalSrc = some p) :
    u.fatalSrc = some p := by
  obtain ⟨ps, -, hsrc⟩ := h
  rw [hsrc, hp, Option.some_or]

/-- The first latch since power-good names its page. -/
theorem State.Latched.exists_fatalSrc {s u : State} (h : s.Latched u) (hnone : s.fatalSrc = none) (hne : u.fatal ≠ s.fatal) :
    ∃ p ∈ u.fatal, u.fatalSrc = some p := by
  obtain ⟨ps, hfatal, hsrc⟩ := h
  cases ps with
  | nil => exact absurd hfatal hne
  | cons p r =>
    refine ⟨p, ?_, by rw [hsrc, hnone, Option.none_or, List.head?_cons]⟩
    rw [hfatal]
    exact mem_foldl_insertNat_of (.inl List.mem_cons_self)

/-! ### The commands that can detect a fatal fault (R322, R460, R461, R466) -/

theorem State.latched_fault (s : State) (p : Page) (x y : Nat) : s.Latched (s.fault p .fatal x y) := by
  have h : (s.fault p .fatal x y).latches = (insertNat s.fatal p.num, s.fatalSrc.or (some p.num)) := by
    simp only [State.fault, State.latches_unusual, State.latches_offer]
    rfl
  exact ⟨[p.num], congrArg Prod.fst h, congrArg Prod.snd h⟩

theorem State.latched_fatalHold (s : State) (hold : Nat) : s.Latched (s.fatalHold hold) := by
  unfold State.fatalHold
  refine (s.latched_fault .glb 0 0).trans (.of_latches ?_)
  rw [State.latches_enterReset, State.latches_drain]

theorem State.latched_tooHot (s : State) (temp : Nat) : s.Latched (s.tooHot temp) := by
  unfold State.tooHot
  split
  · exact s.latched_fatalHold 5
  · exact .ite (.of_latches (s.latches_fault_contained ..))

/-- Each channel that fails its training is a fatal fault of the GMC page. -/
theorem State.latched_gmcTrained (s : State) (channels : Nat) : s.Latched (s.gmcTrained channels) := by
  unfold State.gmcTrained
  dsimp only
  refine .trans (.of_latches ?_) (.foldl (fun u c => ?_) _ _)
  · rw [State.latches_puts, State.latches_foldl _ _ _ State.latches_eyeWidths]
  · exact .trans (.of_latches (u.latches_raise ..)) (State.latched_fault ..)

/-! ### The frame of a command -/

theorem State.latched_run {f : State → State} (hf : ∀ u : State, u.Latched (f u)) (s : State) (t : Nat) :
    s.Latched (s.run t f) := by
  have hbegin : s.Latched (s.begin t) := .of_latches (s.latches_begin t)
  unfold State.run
  dsimp only
  split
  · exact hbegin.trans ((hf _).trans (.of_latches (State.latches_settle _)))
  · exact hbegin

theorem State.latched_always {f : State → State} (hf : ∀ u : State, u.Latched (f u)) (s : State) (t : Nat) :
    s.Latched (s.always t f) := by
  unfold State.always
  exact .trans (.of_latches (s.latches_begin t)) ((hf _).trans (.of_latches (State.latches_settle _)))

theorem State.Latched.of_run {f : State → State} {s u : State} {t : Nat} (h : (.next (s.run t f) : Res) = .next u)
    (hf : ∀ v : State, (f v).latches = v.latches) : s.Latched u :=
  Host.Outcome.next.inj h ▸ .of_latches (State.latches_run hf s t)

theorem State.Latched.of_always {f : State → State} {s u : State} {t : Nat} (h : (.next (s.always t f) : Res) = .next u)
    (hf : ∀ v : State, (f v).latches = v.latches) : s.Latched u :=
  Host.Outcome.next.inj h ▸ .of_latches (State.latches_always hf s t)

/-- Where a row acts under a condition alone. -/
theorem State.latches_ite_self {c : Prop} [Decidable c] {s u : State} (h : u.latches = s.latches) :
    (if c then u else s).latches = s.latches := by
  rw [State.latches_ite, h, ite_self]

/-- Every command but the power cycle sets latches alone, and names the first page in FATAL_SRC (R429). -/
theorem exec_latched {c : Instr} {s u : State} (hc : ∀ (t : Nat) (vbat : Bool), c ≠ .powerCycle t vbat)
    (h : exec c s = .next u) : s.Latched u := by
  cases c with
  | registerWrite => exact .of_run h fun v => v.latches_busWrite ..
  | diagClr =>
    refine .of_run h fun v => ?_
    split
    · exact v.latches_pageWrite ..
    · rfl
  | tickSmp => exact .of_run h fun v => State.latches_ite_self (v.latches_tickSmp)
  | tickFrm => exact .of_run h fun v => v.latches_tickFrm ..
  | stcTick => exact .of_run h fun v => v.latches_tickStc ..
  | commitArm | commitDisarm | groupMembershipWrite | cgrpArm | cgrpDisarm | funcInit | auditSnap | laneIgnRestart |
    lanePrbsGenWrite | lanePrbsChkWrite | errInjShot | eyeScanStart | xbpPgenWrite | brcRealign | ethRestart | hqEnable |
    hqDisable | cntSnap | domAdjWrite | domStepWrite | timeCap | meterSnapWrite | tdmRestart | hifEoi | mbxAbort |
    faultInjFire | softReset | evrClrArm | evrClrClear =>
    exact .of_run h fun v => v.latches_pageWrite ..
  | commitFire => exact .of_run h fun v => v.latches_commitFire ..
  | cgrpFire => exact .of_run h fun v => v.latches_groupFire ..
  | routeEntryApply => exact .of_run h fun v => by rw [State.latches_ite, State.latches_entryApply, ite_self]
  | funcInitComplete => exact .of_run h fun v => v.latches_funcInitDone ..
  | sigFound => exact .of_run h fun v => State.latches_laneEvent (fun w => w.latches_sigFound ..) ..
  | sigLost => exact .of_run h fun v => State.latches_laneEvent (fun w => w.latches_sigLost ..) ..
  | cdrLockGained => exact .of_run h fun v => State.latches_laneEvent (fun w => w.latches_cdrGained ..) ..
  | cdrLockLost => exact .of_run h fun v => State.latches_laneEvent (fun w => w.latches_cdrLost ..) ..
  | sdiHuntDwellExpiry => exact .of_run h fun v => State.latches_laneEvent (fun w => w.latches_huntDwell ..) ..
  | lockGained => exact .of_run h fun v => State.latches_laneEvent (fun w => w.latches_sdiLocked ..) ..
  | lockLost => exact .of_run h fun v => State.latches_laneEvent (fun w => w.latches_sdiLost ..) ..
  | elasticBufferFault => exact .of_run h fun v => State.latches_laneEvent (fun w => w.latches_elasticFault ..) ..
  | ignadaTenonBlock =>
    exact .of_run h fun v => (State.latches_carryOver _).trans (State.latches_laneEvent (fun w => w.latches_block ..) ..)
  | superframeHeader | sidebandBlock | trainingBlock | fillBlock =>
    exact .of_run h fun v => State.latches_laneEvent (fun w => w.latches_block ..) ..
  | superframeLockLost => exact .of_run h fun v => State.latches_laneEvent (fun w => w.latches_sfLost ..) ..
  | ignTrainComplete => exact .of_run h fun v => State.latches_laneEvent (fun w => w.latches_ignTrained ..) ..
  | ignEnergyPresent => exact .of_run h fun v => State.latches_laneEvent (fun w => w.latches_ignEnergy ..) ..
  | ignEnergyLost => exact .of_run h fun v => State.latches_laneEvent (fun w => w.latches_ignEnergyLost ..) ..
  | ignAttemptTimeout => exact .of_run h fun v => State.latches_laneEvent (fun w => w.latches_ignAttemptOver ..) ..
  | ignTrainingTimeout => exact .of_run h fun v => State.latches_laneEvent (fun w => w.latches_ignTrainOver ..) ..
  | ignBackoffExpiry => exact .of_run h fun v => State.latches_laneEvent (fun w => w.latches_ignBackoffOver ..) ..
  | ignListenExit => exact .of_run h fun v => State.latches_laneEvent (fun w => w.latches_ignListenOver ..) ..
  | ignResyncTimeout => exact .of_run h fun v => State.latches_laneEvent (fun w => w.latches_ignResyncOver ..) ..
  | adaptWindow => exact .of_run h fun v => State.latches_laneEvent (fun w => w.latches_density ..) ..
  | prbsLocked => exact .of_run h fun v => State.latches_laneEvent (fun w => w.latches_prbsLocked ..) ..
  | prbsLockLost => exact .of_run h fun v => State.latches_laneEvent (fun w => w.latches_prbsLost ..) ..
  | laneBitCntLoRead =>
    exact .of_run h fun v => (State.latches_busRead ..).trans (State.latches_ite_self (v.latches_chkCount ..))
  | tallyRxLoRead | stcLiveLoRead | mtOffLoRead | evrWinRead | evrWinLastRead => exact .of_run h fun v => v.latches_busRead ..
  | errInjPeriodic => exact .of_run h fun v => State.latches_laneEvent (fun w => w.latches_injectPeriodic ..) ..
  | eyeScanDone => exact .of_run h fun v => State.latches_laneEvent (fun w => w.latches_eyeDone ..) ..
  | xbpSuperframeSwitch =>
    exact .of_run h fun v => State.latches_ite_self ((State.latches_follow' _).trans (v.latches_xbpBoundary ..))
  | braceTickSend => exact .of_run h fun v => State.latches_ite_self (v.latches_sendTicks)
  | braceTickMessage | braceFrameRecord | braceFullRecord => exact .of_run h fun v => v.latches_braceArrives ..
  | braceRecordSend => exact .of_run h fun v => State.latches_ite_self (v.latches_sendRecord ..)
  | braceRecordTimeout => exact .of_run h fun v => State.latches_ite_self (v.latches_recordTimeout ..)
  | deembAudioPacket => exact .of_run h fun v => State.latches_ite_self (v.latches_deembPacket ..)
  | embedSample => exact .of_run h fun v => State.latches_ite_self (v.latches_embedSample ..)
  | anComplete => exact .of_run h fun v => State.latches_portEvent (fun w => w.latches_ethAn ..) ..
  | ethTrainComplete => exact .of_run h fun v => State.latches_portEvent (fun w => w.latches_ethTrained ..) ..
  | ethTrainTimeout => exact .of_run h fun v => State.latches_portEvent (fun w => w.latches_ethTrainOver ..) ..
  | ethEnergyLost => exact .of_run h fun v => State.latches_portEvent (fun w => w.latches_ethEnergyLost ..) ..
  | ethAlignLock => exact .of_run h fun v => State.latches_portEvent (fun w => w.latches_ethLocked ..) ..
  | ethAlignTimeout => exact .of_run h fun v => State.latches_portEvent (fun w => w.latches_ethAlignOver ..) ..
  | ethLinkLoss => exact .of_run h fun v => State.latches_portEvent (fun w => w.latches_ethLinkLost ..) ..
  | ethBackoffExpiry => exact .of_run h fun v => State.latches_portEvent (fun w => w.latches_ethBackoffOver ..) ..
  | remoteFault | remoteFaultCleared =>
    exact .of_run h fun v => State.latches_portEvent (fun w => w.latches_remoteFault ..) ..
  | ethFrameRx => exact .of_run h fun v => State.latches_portEvent (fun w => State.latches_ite_self (w.latches_ethRx ..)) ..
  | pauseExpiry => exact .of_run h fun v => State.latches_portEvent (fun w => w.latches_pauseOver ..) ..
  | ethFrameTx => exact .of_run h fun v => State.latches_portEvent (fun w => w.latches_txStart ..) ..
  | txUnderrun => exact .of_run h fun v => State.latches_portEvent (fun w => w.latches_underrun ..) ..
  | hqTxDescriptor => exact .of_run h fun v => State.latches_portEvent (fun w => w.latches_hqSend ..) ..
  | vtgFrameStart => exact .of_run h fun v => (State.latches_follow' _).trans (v.latches_frameStart ..)
  | rxLinePlay => exact .of_run h fun v => State.latches_ite_self (v.latches_rxLine ..)
  | videoPathTimeout => exact .of_run h fun v => State.latches_ite_self (v.latches_rxPathLost ..)
  | skewOverClear => exact .of_run h fun v => State.latches_ite_self (v.latches_rxSkewOk ..)
  | videoPacketTx => exact .of_run h fun v => State.latches_ite_self (v.latches_txVideo ..)
  | ancPacketTx => exact .of_run h fun v => State.latches_ite_self (v.latches_txAnc ..)
  | domStepApply => exact .of_run h fun v => State.latches_ite_self (v.latches_applyStep ..)
  | servoMeasurement =>
    exact .of_run h fun v => State.latches_ite_self ((State.latches_follow' _).trans (v.latches_servoMeasured ..))
  | servoSyncTimeout =>
    exact .of_run h fun v => State.latches_ite_self ((State.latches_follow' _).trans (v.latches_servoSilent ..))
  | mtSlewDone => exact .of_run h fun _ => rfl
  | ppsOutEdge => exact .of_run h fun v => v.latches_ppsRise
  | ppsInEdge => exact .of_run h fun v => v.latches_ppsIn ..
  | refpInEdge => exact .of_run h fun v => State.latches_ite_self ((State.latches_follow' _).trans (v.latches_refEdge ..))
  | refActivityTimeout =>
    exact .of_run h fun v => State.latches_ite_self ((State.latches_follow' _).trans (v.latches_refTimeout ..))
  | candFreqUpdate =>
    exact .of_run h fun v => State.latches_ite_self ((State.latches_follow' _).trans (v.latches_freqUpdate ..))
  | wtrExpiry => exact .of_run h fun v => State.latches_ite_self ((State.latches_follow' _).trans (v.latches_wtrOver ..))
  | holdMinExpiry =>
    exact .of_run h fun v => State.latches_ite_self ((State.latches_follow' _).trans (v.latches_holdMinOver ..))
  | dpllLockTimer =>
    exact .of_run h fun v => State.latches_ite_self ((State.latches_follow' _).trans (v.latches_dpllLocked ..))
  | dpllUnlockTimer =>
    exact .of_run h fun v => State.latches_ite_self ((State.latches_follow' _).trans (v.latches_dpllUnlocked ..))
  | disagreeClear =>
    exact .of_run h fun v => State.latches_ite_self ((State.latches_follow' _).trans (v.latches_disagreeOver ..))
  | refpOutPulse => exact .of_run h fun v => State.latches_ite_self (v.latches_refoRise ..)
  | refoFly => exact .of_run h fun v => State.latches_ite_self (v.latches_refFly ..)
  | audTableSwap => exact .of_run h fun v => v.latches_audSwapDue
  | meterSnap => exact .of_run h fun v => State.latches_ite_self (v.latches_meterSnap)
  | audioFlowTimeout => exact .of_run h fun v => State.latches_ite_self (v.latches_arxLost ..)
  | audioPathTimeout => exact .of_run h fun v => State.latches_ite_self (v.latches_arxPathLost ..)
  | foreignDetect => exact .of_run h fun v => State.latches_ite_self (v.latches_foreign ..)
  | audioPacketTx => exact .of_run h fun v => State.latches_ite_self (v.latches_atxSend ..)
  | tdmFrameStart => exact .of_run h fun v => State.latches_ite_self (v.latches_tdmFrameStart ..)
  | tdmFrameRx => exact .of_run h fun v => State.latches_ite_self (v.latches_tdmFrameRx ..)
  | tdmPreDone => exact .of_run h fun v => State.latches_ite_self (v.latches_tdmPreDone ..)
  | tdmPostDone => exact .of_run h fun v => State.latches_ite_self (v.latches_tdmPostDone ..)
  | tdmFifoFault => exact .of_run h fun v => State.latches_ite_self (v.latches_tdmFifoFault ..)
  | tdmClockStop => exact .of_run h fun v => State.latches_ite_self (v.latches_tdmStop ..)
  | tdmClockBack => exact .of_run h fun v => State.latches_ite_self (v.latches_tdmBack ..)
  | tdmRateMeasure => exact .of_run h fun v => State.latches_ite_self (v.latches_tdmRate ..)
  | asrcTrack => exact .of_run h fun v => State.latches_ite_self (v.latches_asrcTrack ..)
  | frameBufferComplete => exact .of_run h fun v => State.latches_ite_self (v.latches_frameWritten ..)
  | gddr6TrainingDone => exact Host.Outcome.next.inj h ▸ State.latched_run (fun v => .ite (v.latched_gmcTrained _)) ..
  | gddr6Retrain => exact .of_run h fun v => State.latches_ite_self (v.latches_gmcRetrain)
  | edcError => exact .of_run h fun v => State.latches_ite_self (v.latches_edcError ..)
  | pcieReset => exact .of_run h fun v => v.latches_pcieReset ..
  | pcieReady => exact .of_run h fun v => v.latches_pcieIsReady
  | pcieUp => exact .of_run h fun v => v.latches_pcieUp ..
  | pcieDown => exact .of_run h fun v => v.latches_pcieDown
  | bar2Access => exact .of_run h fun v => v.latches_bar2 ..
  | msixUnmask => exact .of_run h fun v => v.latches_msixSet ..
  | spiRead => exact .of_run h fun v => v.latches_spiRead ..
  | spiWrite => exact .of_run h fun v => v.latches_spiWrite ..
  | spiStatus => exact .of_run h fun v => v.latches_spiStatus
  | spiCsRise => exact .of_run h fun v => v.latches_spiRise ..
  | echo | getVersions | getHealth | cfgRead | cfgWrite | calRead | calWrite => exact .of_run h fun v => v.latches_mbxSend ..
  | mbxResponse => exact .of_run h fun v => v.latches_mbxRespond ..
  | fwHeartbeat => exact .of_run h fun v => v.latches_heartbeat
  | busGrant => exact .of_run h fun v => v.latches_grant ..
  | lockBreak => exact .of_run h fun v => v.latches_lockBreak ..
  | mreset => exact .of_run h fun v => (State.latches_mreset ..).trans (v.latches_unlockAll _)
  | coreWatchdog => exact .of_run h fun v => v.latches_coreDog ..
  | tamperTrip => exact .of_always h fun v => v.latches_tamper ..
  | nodeDefine | nodeInvalidate | nodeDelete | generate | exportKey | load | derive | importKey | unwrapKw | unload |
    getIdentity | attest | genIdentity | lcAdvance | custkeySet | revoke | tamperConfig | dbgChallenge | dbgUnlock =>
    exact .of_run h fun v => v.latches_keySend ..
  | keyCommandComplete => exact .of_run h fun v => v.latches_keyComplete
  | powerGood | overTemperatureClear => exact .of_always h fun v => State.latches_ite_self (v.latches_powerGood ..)
  | resetNAssert => exact .of_always h fun v => State.latches_ite_self (v.latches_enterReset ..)
  | resetNRelease => exact .of_always h fun v => State.latches_ite_self (v.latches_startUp ..)
  | bootPhaseEnd => exact .of_run h fun v => v.latches_bootPhaseEnd ..
  | readyRise => exact .of_run h fun v => v.latches_readyRise
  | bootWdExpiry => exact .of_run h fun v => v.latches_bootWdOver
  | openSession | close | stageBegin | stageData | stageEnd | activate | revertNext | manifestBegin | manifestActivate |
    confirm =>
    exact .of_run h fun v => v.latches_updSend ..
  | updCommandComplete => exact .of_run h fun v => v.latches_updComplete ..
  | updSessionTimeout => exact .of_run h fun v => v.latches_sessTimeout
  | softResetExecute => exact .of_run h fun v => v.latches_softExecute
  | eventRecordWrite => exact .of_run h fun v => v.latches_recordDue
  | evrArmLapse => exact .of_run h fun v => v.latches_evrLapse
  | bbxEntryWrite => exact .of_run h fun v => v.latches_bbxWrite ..
  | bbxHealth => exact .of_run h fun v => v.latches_healthDue
  | bbxRead | eraseChallenge | erase | snapshot => exact .of_run h fun v => v.latches_bbxSend ..
  | bbxCommandComplete => exact .of_run h fun v => v.latches_bbxComplete ..
  | powerCycle => exact absurd rfl (hc _ _)
  | railFault => exact Host.Outcome.next.inj h ▸ State.latched_always (fun v => .ite (v.latched_fatalHold 2)) ..
  | vddioLow => exact .of_always h fun v => by rw [State.latches_ite, State.latches_enterReset, ite_self]
  | sysclkStop => exact Host.Outcome.next.inj h ▸ State.latched_always (fun v => .ite (v.latched_fault .glb 0 0)) ..
  | overTemperature => exact Host.Outcome.next.inj h ▸ State.latched_run (fun v => v.latched_tooHot _) ..
  | rxReady => exact .of_run h fun v => State.latches_laneEvent (fun w => w.latches_rxConverged ..) ..
  | announceReceiptTimeout =>
    exact .of_run h fun v => State.latches_ite_self ((State.latches_follow' _).trans (v.latches_announceLost ..))
  | ppsOutPulseEnd => exact .of_run h fun v => v.latches_ppsFall
  | refpOutPulseEnd => exact .of_run h fun v => v.latches_refoFall ..
  | tapInstructionLoad => exact .of_always h fun v => v.latches_tapLoad ..

/-- The power cycle clears every latch and FATAL_SRC (R429, R459). -/
theorem State.powerCycle_latches (s : State) (vbatLost : Bool) : (s.powerCycle vbatLost).latches = ([], none) := by
  unfold State.powerCycle
  rw [State.latches_ite]
  exact ite_self _

/-- Settles O60: every command is its effect in the common frame; an effect leaves the latches and FATAL_SRC alone or
detects fatal faults, which set latches and name the first page (`exec_latched`). The power cycle alone clears them. -/
theorem fatalLatchOnlyClearsWithPower : Obligations.FatalLatchOnlyClearsWithPower := by
  refine ⟨fun c s u hc h => ?_, fun s t vbat => ?_⟩
  · have hl : s.Latched u := exec_latched hc h
    exact ⟨fun p hp => hl.mem_fatal hp, fun p hp => hl.fatalSrc_eq hp, hl.exists_fatalSrc⟩
  · have hlatches : (s.always t (fun v => v.powerCycle vbat)).latches = ([], none) :=
      (State.latches_settle _).trans (State.powerCycle_latches ..)
    obtain ⟨hfatal, hsrc⟩ := Prod.mk.inj hlatches
    exact ⟨_, rfl, hfatal, hsrc⟩

end Sys2Proof.Machine
end
